-- ==== Sys2Proof/Word.lean ====
section
/-! DEFINITION. The word types of the model. The part's internal buses carry 32-bit and 64-bit words, its memories hold
bytes (R5, R7). -/

namespace Sys2Proof

/-- One byte of a memory of the part (R5: multi-byte values are stored little-endian). -/
abbrev Byte := BitVec 8

/-- The widest value a register access carries (R7: registers are 32 or 64 bits wide). -/
abbrev Word := BitVec 64

end Sys2Proof
end

