-- ==== Sys2Proof/Syntax.lean ====
section
/-! DEFINITION. The commands of the part: one constructor for each row of the table of operations and events
(opcode_table.json), with the operands the row's rule speaks of. What a medium, an analog circuit, a partner device or a master
contributes (the symbols of a frame, a servo field's bits and burst amplitudes, a temperature, a measured time, the bytes of a
write) stands in the command as an operand. -/

namespace Sys2Proof

/-- A unit that can be lost (R27). -/
inductive LossUnit where
  /-- A head. -/
  | head (h : Nat)
  /-- An upstream lane. -/
  | upLane (x : Nat)
  /-- A downstream lane. -/
  | downLane (y : Nat)
  /-- A flume. -/
  | flume (f : Nat)
  /-- A whole actuator. -/
  | actuator (a : Nat)
  /-- A GDDR6 device. -/
  | gddr (d : Nat)
  /-- A lane of a host port. -/
  | hostLane (p : Nat)
  /-- A servo engine. -/
  | engine (e : Nat)
  deriving DecidableEq, Repr

/-- A flume request (R104). -/
structure FlumeReq where
  head : Nat
  band : Nat
  first : Nat
  count : Nat
  purpose : Nat
  writer : Nat
  urgent : Bool
  iter : Nat
  syncShift : Nat
  altTarget : Nat
  weightSel : Nat
  acc : Nat
  handover : Bool
  dest : Nat
  deriving DecidableEq, Repr

/-- A servo field as one reader sees it (R175 to R178): the DTIME at which its SAM comes, the 44 servo bits from the SAM to the parity,
the first of them most significant, the signed amplitudes of its two bursts, and whether a sample of it is erased. -/
structure ServoField where
  time : Nat
  code : Nat
  n1 : Int
  n2 : Int
  erased : Bool
  deriving DecidableEq, Repr

/-- What is seen of the two engines of a pair at a wedge end: whether their outputs differ, the failure or implausibility
code of each (R210 to R212; 0 none), and the set-point the active engine puts out where the outputs differ. -/
structure WedgeObs where
  differ : Bool
  codeA : Nat
  codeB : Nat
  setpoint : Int
  deriving DecidableEq, Repr

/-- A submission queue entry (R315): the dwords the spec gives a meaning. -/
structure NvmeCmd where
  opcode : Nat
  cid : Nat
  nsid : Nat
  slba : Nat
  cdw10 : Nat
  cdw11 : Nat
  cdw12 : Nat
  cdw13 : Nat
  cdw14 : Nat
  cdw15 : Nat
  deriving DecidableEq, Repr

/-- What a master does at a data memory. A core's load, store or fetch is a `read` or a `write`. `fill` serves the line that the core's
outstanding miss has requested, `drain` writes the oldest entry of its write buffer, and `fence` is its FENCE or FENCE.I (R418). -/
inductive MemOp where
  | read
  | write
  | fill
  | drain
  | fence (instr : Bool)
  deriving DecidableEq, Repr

/-- The commands of the part, one for each row of the table of operations and events. -/
inductive Instr where
  /-- REGISTER_WRITE (R6): A core writes a register field that has no behaviour of its own, and the field is updated by its type, or a bus error results for a bad width or alignment. -/
  | registerWrite (core : Nat) (isWrite : Bool) (addr : Nat) (width : Nat) (value : Nat)
  /-- ST_FIELD_WRITE (R55): A write to an ST field stores the staged copy and adds the register to the staged set, which invalidates any passed check. -/
  | stFieldWrite (core : Nat) (addr : Nat) (width : Nat) (value : Nat)
  /-- CHECK (R57): SC_CTRL.action 1 starts a consistency check of the staged set, or is refused with result 0xA while CHECKING or ARMED. -/
  | check
  /-- CHECK_DONE (R57): The consistency check ends within 20 µs, with CHECKED or FAILED and the first violated rule of R58. -/
  | checkDone
  /-- ARM_COMMIT (R60): SC_CTRL.action 2 arms a commit of the chosen instant kind, or is refused as not checked, already armed or a bad instant. -/
  | armCommit
  /-- CANCEL_ARMED_COMMIT (R60): SC_CTRL.action 3 cancels an armed commit with result 0x8 and returns the controller to CHECKED. -/
  | cancelArmedCommit
  /-- DISCARD (R56): SC_CTRL.action 4 copies the values in force into the staged copies, empties the staged set and returns to IDLE. -/
  | discard
  /-- COMMIT_STROBE (R60): At the armed instant the strobe is issued and every commit cell in every domain takes its staged value. -/
  | commitStrobe
  /-- COMMIT_MISSED (R62): An armed wedge or index commit reaches SC_DEADLINE without its strobe and is abandoned or applied as miss_action says. -/
  | commitMissed
  /-- UNIT_LOSS (R25): A unit is lost: the immediate hardware response is taken, an event record is written and an affected staged check is invalidated. -/
  | unitLoss (unit : LossUnit)
  /-- AUX_RAIL_POR (R365): The 3.3 V auxiliary rail rises through its threshold and the whole part, always-on domain included, takes a POR. -/
  | auxRailPor (straps : Nat)
  /-- SYS_RST_N_LOW (R466): SYS_RST_N is held low; a low of at least 10 µs is a POR and a low shorter than 2 µs is ignored. -/
  | sysRstNLow (ns : Nat)
  /-- PERST_ASSERT (R324): PERST# is asserted, giving a WRM reset in configuration 0, or a controller and port reset in configuration 1, or a WRM when both are asserted together. -/
  | perstAssert (port : Nat) (both : Bool)
  /-- PERST_DEASSERT (R368): PERST# deasserts, which sets the link-training start and, with wake_perst set, starts an exit from DEEP. -/
  | perstDeassert (port : Nat)
  /-- PWRGD_DEASSERT (R465): PWRGD deasserts while the core rails are up, and internal reset is asserted outside the always-on domain within 1 µs, ending any power-loss retract. -/
  | pwrgdDeassert
  /-- PWRGD_ASSERT (R465): PWRGD asserts with the auxiliary rail held, and the part takes a WRM reset with source 7. -/
  | pwrgdAssert
  /-- WARM_RESET (R365): A WRM reset resets everything outside the always-on domain, with motor control carrying any retract across it. -/
  | warmReset (src : Nat)
  /-- WATCHDOG_RESET (R365): A WDG reset acts as a WRM reset with a watchdog or activation-failure source. -/
  | watchdogReset (src : Nat)
  /-- BOOT_SEQUENCE (R367): Once XTAL is stable and the PLLs lock, the boot ROM starts on the security core and runs the boot sequence. -/
  | bootSequence
  /-- CACHE_INVALIDATE_DONE (R419): Cache invalidation ends 4,096 ACLK cycles after internal reset is released, and cacheable accesses proceed. -/
  | cacheInvalidateDone
  /-- ACT_RESET (R371): CR_RST_CTRL.action 3 starts an ACT reset of the named actuators: keepalive stops, the actuator retracts, its threads are abandoned and its ACT registers reset. -/
  | actReset (core : Nat) (mask : Nat)
  /-- ACT_RESET_END (R371): The ACT reset ends when the retract has ended, clearing in_reset and setting act_done. -/
  | actResetEnd (act : Nat)
  /-- MGT_RESET (R365): CR_RST_CTRL.action 2 or the management watchdog resets the management core and MP registers, while a park latch stands. -/
  | mgtReset
  /-- WRM_COMMAND (R365): CR_RST_CTRL.action 1 from the security core takes a WRM reset with source 6; from any other core it is ignored. -/
  | wrmCommand (core : Nat)
  /-- WDT_ENABLE (R369): Writing CR_WDT_CFG.enable sets and locks the application watchdog until the next POR, WRM or WDG. -/
  | wdtEnable (value : Nat)
  /-- WDT_KICK (R369): A write to CR_WDT_KICK restarts the watchdog with 0x0000_C0DE, or enters the first stage at once with any other value. -/
  | wdtKick (core : Nat) (value : Nat)
  /-- WDT_STAGE1 (R369): t1_ms passes without a kick, setting CR_INT.wdt_stage1 and writing an event record. -/
  | wdtStage1
  /-- WDT_STAGE2 (R369): t2_ms passes after the first stage without a kick, and a WDG reset with source 9 is taken. -/
  | wdtStage2
  /-- POWER_STATE_GO (R373): CR_PWR_CTRL.go starts a move to the target internal power state, or a DEEP target is ignored unless its conditions hold. -/
  | powerStateGo (core : Nat)
  /-- POWER_TRANSITION_STEP (R374): An entry or exit step completes and the next step of the sequence begins, or the transition is abandoned or blocked at the step boundary. -/
  | powerTransitionStep
  /-- IDLE_A_ENTRY (R373): With idle_a_en set and no media work for CR_IDLE.a_us, the part enters IDLE-A. -/
  | idleAEntry
  /-- DEEP_ENTRY (R376): From STANDBY, the part powers off PCIe and the Cistern, drains the event recorder and drives CORE_EN low. -/
  | deepEntry
  /-- DEEP_WAKE_TIMER (R376): CR_DEEP_CFG.timer_s expires with wake_timer set and the exit from DEEP starts. -/
  | deepWakeTimer
  /-- DEEP_EXIT (R376): The part raises CORE_EN and, once the rails are good, takes a WRM reset with source 8. -/
  | deepExit (periods : Nat)
  /-- KCLK_CHECK (R468): Once a second KCLK is checked against XTAL, and a deviation beyond 500 ppm writes an event record. -/
  | kclkCheck (ppm : Nat)
  /-- GROUP_BRING_UP (R85): HL_GROUP_CTRL.action 1 or HL_CTRL.enable asks a group to come up, requesting its lane-group grant if none is held. -/
  | groupBringUp (group : Nat)
  /-- GROUP_TO_OFF (R85): HL_GROUP_CTRL.action 3 or clearing HL_CTRL.enable returns the group to OFF, discarding held CT messages. -/
  | groupToOff (group : Nat)
  /-- HL_CTRL_WRITE (R85): A write to HL_CTRL sets attempts, auto_retrain, ka_period and enable, bringing every used group up or down. -/
  | hlCtrlWrite (value : Nat)
  /-- DETECT_ENTRY (R480): With the lane-group grant held, a group leaves OFF or FAILED for DETECT and sends PART_CAP with keepalives. -/
  | detectEntry (group : Nat)
  /-- DETECT_TIMEOUT (R85): 50 ms pass in DETECT without FE_CAP and the group becomes FAILED with cause 1. -/
  | detectTimeout (group : Nat)
  /-- FE_CAP (R83): An FE_CAP negotiation message arrives on an upstream lane; the first moves the group to CAPX and is judged for assist type and downstream rate. -/
  | feCap (lane : Nat) (payload : List Byte)
  /-- CAPX_TIMEOUT (R85): 1 ms passes in CAPX, silent lanes fail and the group moves to SETTLE and sends SET. -/
  | capxTimeout (group : Nat)
  /-- ACK_SET (R82): An ACK_SET message arrives from an upstream lane, accepting or refusing SET; when every remaining lane accepts the part sends GO. -/
  | ackSet (lane : Nat) (payload : List Byte)
  /-- SETTLE_TIMEOUT (R85): 1 ms passes in SETTLE without acceptance and the group becomes FAILED with cause 3. -/
  | settleTimeout (group : Nat)
  /-- TRAIN_ENTRY (R84): After the last GO frame both sides change to the settled rates and send TRAIN frames. -/
  | trainEntry (group : Nat)
  /-- LANE_ACTIVE (R84): An upstream lane's eye meets HL_EYE_MIN and the lane becomes ACTIVE, and the group becomes ACTIVE and sends RESUME once all lanes are settled. -/
  | laneActive (lane : Nat) (spacing : Nat) (eRms : Nat) (tRms : Nat)
  /-- TRAIN_TIMEOUT (R85): 5 ms pass in TRAIN; lanes not ACTIVE fail and the group becomes ACTIVE, or FAILED with cause 4. -/
  | trainTimeout (group : Nat)
  /-- ATTEMPT_COUNT_CLEAR (R85): After 1 s of continuous ACTIVE the group's attempt count clears. -/
  | attemptCountClear (group : Nat)
  /-- KEEPALIVE (R87): The keepalive interval expires and the part sends a downstream frame with ka set. -/
  | keepalive (group : Nat)
  /-- UPSTREAM_FRAME (R71): An upstream IDLE, DATA or TRAIN frame is received whole, checked and its samples and CT messages delivered. -/
  | upstreamFrame (lane : Nat) (levels : List Int)
  /-- LOCK_LOSS (R90): An upstream receiver's clock recovery loses lock, and the lane is declared lost with the writer gated and the head suspended. -/
  | lockLoss (lane : Nat)
  /-- RETRAIN_ATTEMPT_TIMEOUT (R86): A RECOVER attempt ends after 2 ms without success; another attempt starts or the lane becomes FAILED. -/
  | retrainAttemptTimeout (lane : Nat)
  /-- DOWNSTREAM_LANE_LOSS (R94): The downstream lane is declared lost: writers gated, heads suspended, ka stopped. -/
  | downstreamLaneLoss (group : Nat) (cause : Nat)
  /-- TRANSMITTER_PLL_UNLOCK (R94): The downstream transmitter PLL unlocks, declaring downstream loss with cause 5. -/
  | transmitterPllUnlock (group : Nat)
  /-- DOWNSTREAM_REBRING_UP (R94): 10 µs after a downstream loss, bring-up runs again from DETECT if allowed. -/
  | downstreamRebringUp (group : Nat)
  /-- ACK (R79): An ACK message arrives for an acknowledged downstream message, reporting done, refused or unsupported. -/
  | ack (lane : Nat) (slot : Nat) (op : Nat) (result : Nat)
  /-- TXEQ_ACK (R84): A TXEQ_ACK message reports the transmitter steps the front-end applied. -/
  | txeqAck (lane : Nat) (slot : Nat) (pre : Nat) (post : Nat)
  /-- STATUS (R79): A STATUS message reports front-end flags; a safe flag while keepalives are sent declares downstream loss. -/
  | status (lane : Nat) (slot : Nat) (flags : Nat) (cause : Nat)
  /-- TEMP (R79): A TEMP message delivers a head or assist temperature to the thermal block, judging the assist window. -/
  | temp (lane : Nat) (slot : Nat) (item : Nat) (temp : Nat)
  /-- REG_DATA (R79): A REG_DATA message enters the group's receive queue. -/
  | regData (lane : Nat) (slot : Nat) (regAddr : Nat) (data : Nat)
  /-- FAULT (R93): A FAULT message enters the receive queue and suspends the head with cause 5. -/
  | fault (lane : Nat) (slot : Nat) (code : Nat) (detail : Nat)
  /-- EYE_DS (R79): An EYE_DS message reports downstream eye figures and bad frames. -/
  | eyeDs (lane : Nat) (height : Nat) (width : Nat) (bad : Nat)
  /-- CT_ANSWER_TIMEOUT (R80): No answer arrives within 20 µs; the message is resent, or after the last attempt ct_fail is set and downstream loss is declared. -/
  | ctAnswerTimeout (group : Nat) (message : Nat)
  /-- CT_MESSAGE_QUEUE (R479): A write of HL_CT_TXHI queues a firmware CT message, or sets tx_drop when 32 are pending. -/
  | ctMessageQueue (group : Nat) (hi : Nat)
  /-- CT_RECEIVE_DEQUEUE (R79): A read of HL_CT_RXHI removes the head entry of the receive queue. -/
  | ctReceiveDequeue (group : Nat)
  /-- LANE_RETRAIN (R98): HL_ULANE_CTRL.action 1 retrains an upstream lane with at least one attempt. -/
  | laneRetrain (lane : Nat)
  /-- LANE_SLEEP (R99): HL_ULANE_CTRL.action 2 sends SLEEP for the lane's slot. -/
  | laneSleep (lane : Nat)
  /-- LANE_WAKE (R99): HL_ULANE_CTRL.action 3 sends WAKE and restores saved equaliser settings. -/
  | laneWake (lane : Nat)
  /-- CLEAR_LANE_ERR (R96): HL_ULANE_CTRL.action 4 clears HL_ULANE_ERR. -/
  | clearLaneErr (lane : Nat)
  /-- WAKE_ADAPT_DONE (R99): 20 µs of adaptation after a wake end; the lane is ACTIVE with valid calibration or retrains and goes stale. -/
  | wakeAdaptDone (lane : Nat) (spacing : Nat) (eRms : Nat) (tRms : Nat)
  /-- EYE_REFRESH (R97): Every 1 ms the eye figures of an ACTIVE lane are refreshed and a lane below HL_EYE_MIN is marked marginal. -/
  | eyeRefresh (lane : Nat) (spacing : Nat) (eRms : Nat) (tRms : Nat)
  /-- FLUME_REQUEST (R104): A sequencer's flume request enters arbitration, or is refused with a code of R106. -/
  | flumeRequest (seq : Nat) (thread : Nat) (req : FlumeReq)
  /-- FLUME_GRANT (R105): A flume and a waiting request both become available and the flume is granted within 50 ns, plus power-up if needed. -/
  | flumeGrant
  /-- HANDOVER (R107): A request with handover set is granted if the predicted gap meets min_gap, otherwise refused with LATE. -/
  | handover (seq : Nat) (thread : Nat) (req : FlumeReq) (gapNs : Nat)
  /-- HANDOVER_SWITCH (R108): The outgoing head's last sample enters and the front half points the crossbar at the incoming head and loads its record. -/
  | handoverSwitch (flume : Nat) (gapNs : Nat)
  /-- SYNC_SEARCH_END (R119): The sync window closes and the mark is chosen, bridged or missed with status 4. -/
  | syncSearchEnd (flume : Nat)
  /-- SECTOR_END (R116): A sector's last sample enters the flume; decoding starts and the adapted working copy is written back or reverted. -/
  | sectorEnd (flume : Nat)
  /-- DECODE_DONE (R122): Decoding of a code word ends, the tag is checked and the sector result is posted to the sequencer. -/
  | decodeDone (flume : Nat)
  /-- IDLE_RELEASE (R103): A flume idle for DP_CTRL.idle_release releases its grant and is power-gated. -/
  | idleRelease (flume : Nat)
  /-- FLUME_FAULT (R133): A parity error in a flume memory puts it in fault, ending its sectors with status 7. -/
  | flumeFault (flume : Nat)
  /-- CAL_COPY (R126): DP_CAL_COPY.go copies the named record into DP_CAL_BUF between write-backs and sets done. -/
  | calCopy
  /-- CAL_RECORD_WRITE (R126): A firmware write to a calibration record word takes effect and makes the head stale, or is ignored with cal_busy if the record is held. -/
  | calRecordWrite (core : Nat) (addr : Nat) (width : Nat) (value : Nat)
  /-- DETACH_NOW (R106): DP_FLUME_CTRL.action 1 detaches the flume, ending its sector with status 6 and its request with ABORT. -/
  | detachNow (flume : Nat)
  /-- CLEAR_ACCUMULATOR (R104): DP_FLUME_CTRL.action 2 clears the flume's soft-value accumulator. -/
  | clearAccumulator (flume : Nat)
  /-- MARK_STALE (R130): DP_HEAD_CTRL.action 1 makes the head stale. -/
  | markStale (head : Nat)
  /-- CLEAR_VALID (R126): DP_HEAD_CTRL.action 2 clears valid in every unheld record of the head. -/
  | clearValid (head : Nat)
  /-- CLEAR_QUALITY_COUNTERS (R132): DP_HEAD_CTRL.action 3 clears the head's quality counters. -/
  | clearQualityCounters (head : Nat)
  /-- KEY_LOAD (R139): WP_XTS_KEY_CTRL.action 1 from the security core loads a key slot, waiting while units use it. -/
  | keyLoad (core : Nat)
  /-- KEY_ZEROISE (R139): WP_XTS_KEY_CTRL.action 2 from the security core zeroises a key slot, waiting while units use it. -/
  | keyZeroise (core : Nat)
  /-- KEY_ACTION_COMPLETE (R139): No data unit uses the slot any longer and the waiting load or zeroise completes within 1 µs. -/
  | keyActionComplete
  /-- WRITE_GATE_ASSERT (R146): With the write run permitted and every condition of R146 holding, the part asserts write gate and assist with their timing. -/
  | writeGateAssert (head : Nat)
  /-- SHOCK_TRIP (R147): The shock input crosses WP_SHOCK.threshold and every writing head's gate is removed within 0.5 µs. -/
  | shockTrip
  /-- SHOCK_HOLDOFF_END (R146): WP_SHOCK.holdoff passes after a trip and the gate may assert again. -/
  | shockHoldoffEnd
  /-- VERIFY_RESULT (R152): A verify result is posted for a written position, which passes or becomes void. -/
  | verifyResult (head : Nat)
  /-- REWRITE (R153): A rewrite unit is written again at the next reachable position, or its command completes with Write Fault when attempts or positions are exhausted. -/
  | rewrite (unit : Nat)
  /-- SERVO_FIELD (R178): A head's servo field arrives and is demodulated into a position, or judged bad with a cause of R179. -/
  | servoField (head : Nat) (a b : ServoField)
  /-- SERVO_WEDGE_END (R180): At the actuator's wedge end the engines compute loops, seek reference, write-unsafe bits and the selector decision. -/
  | servoWedgeEnd (act : Nat) (obs : WedgeObs)
  /-- SERVO_DEADLINE_MISS (R182): An engine has not delivered a wedge's outputs by 1.8 µs, sets the deadline flag and counts as failed. -/
  | servoDeadlineMiss (eng : Nat)
  /-- ENGINE_SELF_CHECK (R210): An engine reports a parity error in its state, coefficient or trace memory and is failed with code 2. -/
  | engineSelfCheck (eng : Nat)
  /-- LEG_CHECK_FAIL (R215): A delivered word fails parity or wedge number at motor control or the head link, is discarded and the pair switches at the next wedge. -/
  | legCheckFail (act : Nat)
  /-- COMB_PLAN (R190): A comb request is planned into one or more sub-combs and the plan is delivered within 1 µs. -/
  | combPlan (act : Nat)
  /-- SEEK_REQUEST (R193): A write of SV_SEEK_REQ starts or retargets a seek of the arm, or is refused. -/
  | seekRequest (act : Nat) (value : Nat)
  /-- LOAD_AND_ACQUIRE (R202): SV_CTRL.action 1 loads the actuator from the ramp and searches for SAMs, or is refused. -/
  | loadAndAcquire (act : Nat)
  /-- ACQUISITION_FAIL (R202): Acquisition does not happen within 50 revolutions; the actuator parks and acq_fail is set. -/
  | acquisitionFail (act : Nat)
  /-- PARK (R202): SV_CTRL.action 2 parks the actuator by a seek to park_track and ramp unload, or an immediate retract. -/
  | park (act : Nat)
  /-- CLEAR_SV_COUNTERS (R182): SV_CTRL.action 3 clears the SV_STATUS counters. -/
  | clearSvCounters (act : Nat)
  /-- TRACE_ARM (R204): SV_TRACE_CTRL.action 1 arms the trace buffers and starts recording. -/
  | traceArm (act : Nat)
  /-- TRACE_TRIGGER_NOW (R204): SV_TRACE_CTRL.action 2 triggers the trace at once. -/
  | traceTriggerNow (act : Nat)
  /-- TRACE_STOP (R204): SV_TRACE_CTRL.action 3 stops the trace. -/
  | traceStop (act : Nat)
  /-- INJECTION_START (R205): SV_INJ_CTRL.action 1 clears the correlation sums and starts injecting the test signal. -/
  | injectionStart (act : Nat)
  /-- INJECTION_STOP (R205): SV_INJ_CTRL.action 2 stops the injection. -/
  | injectionStop (act : Nat)
  /-- INJECTION_END (R206): length wedges have passed, the injection ends and inj_done is set. -/
  | injectionEnd (act : Nat)
  /-- FORCED_SWAP (R220): SV_RED_CTRL.action 1 requests a forced swap, or is refused when the pair is single, at fault or parked. -/
  | forcedSwap (act : Nat)
  /-- CANCEL_SWAP (R220): SV_RED_CTRL.action 2 cancels a pending forced swap. -/
  | cancelSwap (act : Nat)
  /-- CURRENT_LOOP_TICK (R237): At each of four ticks per wedge a voice-coil channel samples current, computes modulation depth and realigns its PWM. -/
  | currentLoopTick (act : Nat) (adc : Nat) (vcoil : Int)
  /-- MC_CTRL_WRITE (R481): A write of MC_CTRL.enable permits gate switching, or clearing it stops the spindle into RUNDOWN and retracts loaded actuators. -/
  | mcCtrlWrite (value : Nat)
  /-- SPINDLE_START (R226): spin_action 1 starts the spindle in CATCH, or is refused with start_fail. -/
  | spindleStart
  /-- STOP_BY_COASTING (R225): spin_action 2 puts the spindle in RUNDOWN. -/
  | stopByCoasting
  /-- STOP_BY_BRAKING (R234): spin_action 3 parks loaded actuators and enters BRAKE. -/
  | stopByBraking
  /-- BACK_EMF_ZERO_CROSSING (R225): A back-EMF zero crossing is detected, advancing CATCH, RAMP, SIXSTEP commutation or COAST reacquisition. -/
  | backEmfZeroCrossing (consistent : Bool) (speed : Nat)
  /-- SPINDLE_GRANT (R226): The spindle's spin-up grant is made and it leaves CATCH by the rows of R225 as they then stand. -/
  | spindleGrant
  /-- CATCH_TIMEOUT (R225): catch_ms passes in CATCH without consistent crossings and the spindle enters ALIGN once granted. -/
  | catchTimeout
  /-- ALIGN_TIMEOUT (R225): align_ms passes in ALIGN and the spindle enters RAMP. -/
  | alignTimeout
  /-- RAMP_TIMEOUT (R226): ramp_ms passes in RAMP; the spindle enters RUNDOWN and retries or sets start_fail. -/
  | rampTimeout
  /-- RUNDOWN_TIMEOUT (R225): 10 s pass in RUNDOWN and the spindle enters STOPPED. -/
  | rundownTimeout
  /-- BRAKE_HOLD_END (R225): The 500 ms low-side hold after braking ends and the spindle enters STOPPED. -/
  | brakeHoldEnd
  /-- OBSERVER_UPDATE (R229): Once per spindle PWM period the observer updates angle and speed, judging lock, loss, at-speed and the index. -/
  | observerUpdate (theta : Nat) (speed : Nat) (residual : Nat)
  /-- SPEED_LOOP (R229): Every 100 µs the speed PI loop updates the drive amplitude. -/
  | speedLoop
  /-- REACQUIRE_TIMEOUT (R230): Speed stays unknown for reacq_ms in COAST and every loaded actuator is parked with fly_park set. -/
  | reacquireTimeout
  /-- IDLE_DEPTH_WRITE (R233): A write of MC_IDLE sets the commanded speed from MC_CURVE, stopping, starting or slewing the spindle. -/
  | idleDepthWrite (depth : Nat)
  /-- SP_FLT (R224): SP_FLT_N asserts and the spindle gates go low within 200 ns as it enters COAST. -/
  | spFlt
  /-- VCM_FLT (R224): VCMa_FLT_N asserts and channel a's gates go low, with a retract when the flag clears. -/
  | vcmFlt (act : Nat)
  /-- VCM_FAULT_PERSIST (R224): VCMa_FLT_N stays asserted for 1 ms and actuator a is lost. -/
  | vcmFaultPersist (act : Nat)
  /-- BRK_FLT (R235): BRK_FLT_N asserts; with BRK_EN set it is an over-voltage, otherwise the chopper is marked faulted. -/
  | brkFlt
  /-- OVER_VOLTAGE (R235): VM stays at or above ov_thr for 2 µs; spindle gates go low, BRK_EN clears and loaded actuators retract. -/
  | overVoltage
  /-- BRAKE_CHOPPER_SWITCH (R234): VM crosses brk_on or brk_off and BRK_EN is set or cleared. -/
  | brakeChopperSwitch (vm : Nat)
  /-- POWER_LOSS (R240): PF_N asserts or VM stays below uv_thr for 5 µs; spindle gates go low, draw falls and every loaded actuator retracts. -/
  | powerLoss
  /-- RETRACT_VELOCITY_END (R239): ret_ms of velocity-mode unload or retract ends and the channel holds latch_ma toward the ramp. -/
  | retractVelocityEnd (act : Nat)
  /-- LATCH_END (R239): latch_ms ends, the channel turns its bridge off and sets parked. -/
  | latchEnd (act : Nat)
  /-- NOP (R247): Microword NOP does nothing. -/
  | mwNop (seq : Nat) (thread : Nat)
  /-- LDI (R247): Microword LDI loads an immediate into rd. -/
  | mwLdi (seq : Nat) (thread : Nat)
  /-- ADD (R247): Microword ADD adds two registers and an immediate modulo 2⁶⁴. -/
  | mwAdd (seq : Nat) (thread : Nat)
  /-- SUB (R247): Microword SUB subtracts modulo 2⁶⁴. -/
  | mwSub (seq : Nat) (thread : Nat)
  /-- AND (R247): Microword AND ands ra with rb or imm. -/
  | mwAnd (seq : Nat) (thread : Nat)
  /-- OR (R247): Microword OR ors ra, rb and imm. -/
  | mwOr (seq : Nat) (thread : Nat)
  /-- XOR (R247): Microword XOR xors ra, rb and imm. -/
  | mwXor (seq : Nat) (thread : Nat)
  /-- EXT (R247): Microword EXT extracts a field of ra, zero- or sign-extended. -/
  | mwExt (seq : Nat) (thread : Nat)
  /-- INS (R247): Microword INS inserts the low bits of rb into a field of ra. -/
  | mwIns (seq : Nat) (thread : Nat)
  /-- BR (R247): Microword BR branches when its condition holds. -/
  | mwBr (seq : Nat) (thread : Nat)
  /-- CALL (R247): Microword CALL pushes the return address and branches, faulting on a fifth push. -/
  | mwCall (seq : Nat) (thread : Nat)
  /-- RET (R247): Microword RET pops the return address, faulting on an empty stack. -/
  | mwRet (seq : Nat) (thread : Nat)
  /-- JR (R256): Microword JR jumps to ra, and through g14 also unmasks events. -/
  | mwJr (seq : Nat) (thread : Nat)
  /-- WAIT (R247): Microword WAIT waits for its condition, or faults when untimed and unsafe. -/
  | mwWait (seq : Nat) (thread : Nat)
  /-- WAIT_WAKE (R244): A waiting thread's condition becomes true and the thread becomes ready within 4 SCLK cycles. -/
  | waitWake (seq : Nat) (thread : Nat)
  /-- WAIT_TIMEOUT (R246): A WAIT or FETCH timeout expires and the thread branches to target. -/
  | waitTimeout (seq : Nat) (thread : Nat)
  /-- FETCH (R254): Microword FETCH waits for an operation and loads its descriptor into g1–g4. -/
  | mwFetch (seq : Nat) (thread : Nat)
  /-- END (R259): Microword END ends the operation with a status, releases leftovers and returns to SQ_VEC entry 0. -/
  | mwEnd (seq : Nat) (thread : Nat)
  /-- POST (R254): Microword POST posts a progress, recovery-result or re-queue record to the media scheduler. -/
  | mwPost (seq : Nat) (thread : Nat)
  /-- SIG (R247): Microword SIG sets SQ_INT.ucode and records its code and thread. -/
  | mwSig (seq : Nat) (thread : Nat)
  /-- ARM_ACQ (R249): Microword ARM_ACQ requests the arm, raising PREEMPT for an urgent waiter. -/
  | mwArmAcq (seq : Nat) (thread : Nat)
  /-- ARM_REL (R247): Microword ARM_REL releases the arm with the thread's comb and read offsets. -/
  | mwArmRel (seq : Nat) (thread : Nat)
  /-- SEEK (R250): Microword SEEK seeks the reference head to an absolute position. -/
  | mwSeek (seq : Nat) (thread : Nat)
  /-- COMB (R250): Microword COMB requests a comb plan for a descriptor. -/
  | mwComb (seq : Nat) (thread : Nat)
  /-- SUBC (R247): Microword SUBC takes the next sub-comb's slot mask and moves the arm to it. -/
  | mwSubc (seq : Nat) (thread : Nat)
  /-- OFS (R164): Microword OFS sets a slot's read offset. -/
  | mwOfs (seq : Nat) (thread : Nat)
  /-- SPRED (R197): Microword SPRED returns a predicted seek time from the seek table. -/
  | mwSpred (seq : Nat) (thread : Nat)
  /-- CREL (R247): Microword CREL releases the comb and removes read offsets. -/
  | mwCrel (seq : Nat) (thread : Nat)
  /-- PWR_REQ (R252): Microword PWR_REQ requests a Headgate grant on a port, faulting on a ninth grant. -/
  | mwPwrReq (seq : Nat) (thread : Nat)
  /-- PWR_REL (R252): Microword PWR_REL releases one or every grant of the thread. -/
  | mwPwrRel (seq : Nat) (thread : Nat)
  /-- FLM_REQ (R251): Microword FLM_REQ issues a flume request with a Cistern address. -/
  | mwFlmReq (seq : Nat) (thread : Nat)
  /-- FLM_REL (R247): Microword FLM_REL releases one or every flume of the thread. -/
  | mwFlmRel (seq : Nat) (thread : Nat)
  /-- RES_GET (R247): Microword RES_GET takes the oldest sector result. -/
  | mwResGet (seq : Nat) (thread : Nat)
  /-- VRES_GET (R247): Microword VRES_GET takes the oldest verify result. -/
  | mwVresGet (seq : Nat) (thread : Nat)
  /-- WR_ARM (R253): Microword WR_ARM permits write gate for a slot's write run. -/
  | mwWrArm (seq : Nat) (thread : Nat)
  /-- WR_ABORT (R253): Microword WR_ABORT aborts a slot's write run, immediately or at sector end. -/
  | mwWrAbort (seq : Nat) (thread : Nat)
  /-- CS_PARITY (R261): A control-store parity error abandons every thread and puts the sequencer in FAULT. -/
  | csParity (seq : Nat) (word : Nat)
  /-- SEQUENCER_START (R259): SQ_CTRL.action 1 puts the sequencer in RUNNING. -/
  | sequencerStart (seq : Nat)
  /-- SEQUENCER_HALT (R259): SQ_CTRL.action 2 halts the sequencer, abandoning threads at their next safe point. -/
  | sequencerHalt (seq : Nat)
  /-- BEGIN_LOAD (R260): SQ_CTRL.action 4 from the security core enters LOADING, or is refused with denied. -/
  | beginLoad (core : Nat) (seq : Nat)
  /-- END_LOAD (R260): SQ_CTRL.action 5 sets SQ_VERSION and moves the sequencer to STOPPED. -/
  | endLoad (core : Nat) (seq : Nat)
  /-- THREAD_ENABLE_WRITE (R259): A write of SQ_CTRL.thread_en starts threads at SQ_VEC entry 0 or abandons them at their next safe point. -/
  | threadEnableWrite (seq : Nat) (mask : Nat)
  /-- CONTROL_STORE_WRITE (R260): A write of SQ_CS stores a microword half with parity in LOADING, or is refused. -/
  | controlStoreWrite (core : Nat) (seq : Nat) (word : Nat) (half : Nat) (value : Nat)
  /-- NS_ENABLE (R263): Setting ZX_NS.enable enables a namespace, or is refused with ns_conflict. -/
  | nsEnable (ns : Nat)
  /-- RECOVER (R273): ZX_CTRL.action 1 replays the journal to restore write pointers and zone states. -/
  | recover
  /-- RECOVERY_COMPLETE (R273): Journal recovery ends with recovered or jrn_fail set. -/
  | recoveryComplete (ok : Bool)
  /-- CHECKPOINT_NOW (R272): ZX_CTRL.action 2 writes a checkpoint of the zone table. -/
  | checkpointNow
  /-- JOURNAL_WRITE (R270): A journal position is written when 126 entries wait or batch_us passes. -/
  | journalWrite
  /-- DISPATCH (R280): When an actuator's arm is free the media scheduler dispatches the first allowed operation in the order of R280. -/
  | dispatch (act : Nat)
  /-- SCHEDULE_SLOT (R284): A schedule slot of piece_us begins, reserved or not, on an actuator. -/
  | scheduleSlot (act : Nat)
  /-- COMPRESSION_JOB_START (R292): A free engine takes the highest-ranked ready job, with a rank-1 job preempting when no engine is idle. -/
  | compressionJobStart
  /-- COMPRESSION_DONE (R298): A compression job ends, its extent stored as DEFLATE or raw after overflow or self-check failure. -/
  | compressionDone (eng : Nat) (selfCheckOk : Bool)
  /-- EXPANSION_DONE (R303): An expansion job ends and the extent is judged good or failed with a code of R303. -/
  | expansionDone (eng : Nat)
  /-- ENGINE_FAULT (R294): A parity error puts a compression engine in fault and its jobs restart on another engine. -/
  | engineFault (eng : Nat)
  /-- ENGINE_IDLE_GATE (R291): A compression engine idle for idle_us is power-gated. -/
  | engineIdleGate (eng : Nat)
  /-- PARTIAL_CHUNK_FORCE (R302): A partial chunk is compressed and written when hold_ms passes since its last write. -/
  | partialChunkForce (ns : Nat) (chunk : Nat)
  /-- INDEX_CHECKPOINT (R308): CX_CTRL.action 2, or dirty_pages dirty pages, writes dirty index pages, the page table and a root, then requests a ZX checkpoint. -/
  | indexCheckpoint
  /-- REBUILD_INDEX (R308): CX_CTRL.action 1 rebuilds the chunk index from the latest root and replayed placements. -/
  | rebuildIndex
  /-- REBUILD_COMPLETE (R308): The index rebuild ends with rebuilt or idx_fail set. -/
  | rebuildComplete (ok : Bool)
  /-- LINK_UP (R312): A PCIe port reaches DL_Up after training at its negotiated speed and width. -/
  | linkUp (port : Nat) (speed : Nat) (width : Nat)
  /-- LINK_TRAINING_START (R368): At the later of 20 ms after PERST# deasserts and 150 ms after the reset, with enable set, the port starts training. -/
  | linkTrainingStart (port : Nat)
  /-- DL_DOWN (R324): A port loses its data link, which is a controller reset of its controller. -/
  | dlDown (port : Nat)
  /-- HOT_RESET (R324): A hot reset on a port is a controller reset of its controller. -/
  | hotReset (port : Nat)
  /-- LANE_NARROWING (R312): A lane fails and the port retrains narrower, setting narrowed. -/
  | laneNarrowing (port : Nat) (width : Nat)
  /-- SUBMISSION_DOORBELL (R319): A host writes a submission queue tail doorbell, waking the drive from PS3 or PS4 for I/O queues. -/
  | submissionDoorbell (ctl : Nat) (qid : Nat) (tail : Nat)
  /-- COMMAND_FETCH (R319): A free command context lets QE fetch and classify the next command from a queue. -/
  | commandFetch (ctl : Nat) (qid : Nat) (cmd : NvmeCmd)
  /-- CONTROLLER_RESET (R323): CC.EN cleared, FLR or a port reset resets one controller, with commands treated as R323 states. -/
  | controllerReset (ctl : Nat)
  /-- CONTROLLER_ENABLE (R315): The host sets CC.EN and the controller becomes ready, or reports CSTS.CFS without application firmware. -/
  | controllerEnable (ctl : Nat) (ams : Nat)
  /-- SHUTDOWN_NOTIFICATION (R323): CC.SHN stops fetching, settles unsettled data and then reports shutdown complete. -/
  | shutdownNotification (ctl : Nat)
  /-- READ (R323): NVMe Read resolves logical blocks and is dispatched for media service. -/
  | nvmeRead (ctx : Nat)
  /-- WRITE (R155): NVMe Write stages data and completes per FUA and the write cache. -/
  | nvmeWrite (ctx : Nat) (data : List Byte)
  /-- FLUSH (R321): NVMe Flush forces partial chunks and completes when prior writes have settled. -/
  | nvmeFlush (ctx : Nat)
  /-- ZONE_APPEND (R322): NVMe Zone Append takes its position at assignment and completes with the first logical block written. -/
  | zoneAppend (ctx : Nat) (data : List Byte)
  /-- WRITE_ZEROES (R315): NVMe Write Zeroes in a conventional namespace drops index entries of whole chunks and rewrites partial ones. -/
  | writeZeroes (ctx : Nat)
  /-- DATASET_MANAGEMENT (R315): NVMe Dataset Management deallocate acts on chunks of a conventional namespace. -/
  | datasetManagement (ctx : Nat)
  /-- ZONE_OPEN (R315): Zone Management Send Open opens a zone with a durable state entry. -/
  | zoneOpen (ctx : Nat)
  /-- ZONE_CLOSE (R315): Zone Management Send Close closes a zone, forcing its partial chunks. -/
  | zoneClose (ctx : Nat)
  /-- ZONE_FINISH (R274): Zone Management Send Finish finishes a zone after its dispatched work ends. -/
  | zoneFinish (ctx : Nat)
  /-- ZONE_RESET (R274): Zone Management Send Reset empties a zone, clearing voids, rehome points and reservation. -/
  | zoneReset (ctx : Nat)
  /-- ZONE_OFFLINE (R315): Zone Management Send Offline sets a zone Offline. -/
  | zoneOffline (ctx : Nat)
  /-- REPORT_ZONES (R315): Zone Management Receive returns zone descriptors. -/
  | reportZones (ctx : Nat)
  /-- ABORT (R325): NVMe Abort resolves against its target command and completes with the aborted result. -/
  | nvmeAbort (ctx : Nat)
  /-- ASYNCHRONOUS_EVENT_REQUEST (R336): NVMe Asynchronous Event Request waits for an event to report. -/
  | asynchronousEventRequest (ctx : Nat)
  /-- COMPLETION_POST (R326): A command's completion claims its context and is posted, freeing the context. -/
  | completionPost (ctx : Nat) (status : Nat)
  /-- DEVICE_SELF_TEST (R330): NVMe Device Self-test starts a short or extended test, or aborts one with code 0xF. -/
  | deviceSelfTest (ctx : Nat)
  /-- SELF_TEST_RESUME (R330): QE_DST.idle_ms passes without a host I/O fetch and the self-test resumes media work. -/
  | selfTestResume
  /-- FIRMWARE_IMAGE_DOWNLOAD (R327): NVMe Firmware Image Download writes into the Cistern staging buffer. -/
  | firmwareImageDownload (ctx : Nat) (data : List Byte)
  /-- FIRMWARE_COMMIT (R327): NVMe Firmware Commit validates and writes an image and acts by commit action. -/
  | firmwareCommit (ctx : Nat)
  /-- ACTIVATION_TIMEOUT (R328): The new firmware has not signalled ready within 1,000 ms and a WDG reset with source 10 is taken. -/
  | activationTimeout
  /-- FORMAT_NVM (R329): NVMe Format NVM erases one namespace by crypto erase or zone reset. -/
  | formatNvm (ctx : Nat)
  /-- SANITIZE (R329): NVMe Sanitize runs crypto erase or overwrite across the subsystem. -/
  | sanitize (ctx : Nat)
  /-- NAMESPACE_MANAGEMENT (R317): Namespace Management creates a namespace over spare zones or deletes one. -/
  | namespaceManagement (ctx : Nat)
  /-- NAMESPACE_ATTACHMENT (R314): Namespace Attachment attaches or detaches a namespace. -/
  | namespaceAttachment (ctx : Nat)
  /-- RESERVATION_COMMAND (R315): An NVMe reservation command registers, acquires, releases or reports reservations. -/
  | reservationCommand (ctx : Nat)
  /-- CREATE_IO_QUEUE (R318): Create I/O Submission or Completion Queue takes a free ring, or fails with Invalid Queue Identifier. -/
  | createIoQueue (ctx : Nat)
  /-- DELETE_IO_SUBMISSION_QUEUE (R318): Delete I/O Submission Queue aborts fetched commands and frees the ring. -/
  | deleteIoSubmissionQueue (ctx : Nat)
  /-- DELETE_IO_COMPLETION_QUEUE (R318): Delete I/O Completion Queue frees the ring. -/
  | deleteIoCompletionQueue (ctx : Nat)
  /-- IDENTIFY (R316): NVMe Identify returns controller and namespace data with the limits of R316. -/
  | identify (ctx : Nat)
  /-- GET_LOG_PAGE (R334): NVMe Get Log Page returns a log page of R334. -/
  | getLogPage (ctx : Nat)
  /-- SET_FEATURES (R315): NVMe Set Features sets a supported feature. -/
  | setFeatures (ctx : Nat)
  /-- GET_FEATURES (R315): NVMe Get Features returns a feature value. -/
  | getFeatures (ctx : Nat)
  /-- POWER_STATE_CHANGE (R331): A Power Management feature change moves among PS0–PS2 by profile commit or enters PS3 or PS4. -/
  | powerStateChange (ctx : Nat)
  /-- UNSUPPORTED_COMMAND (R315): A command not supported completes with Invalid Opcode or Invalid Field and has no other effect. -/
  | unsupportedCommand (ctx : Nat)
  /-- GRANT (R341): A waiting power request that fits both pools is granted within 800 ns, with its group powered. -/
  | grant (port : Nat)
  /-- REBALANCE (R345): At every 10 µs of DTIME the Headgate recomputes its pools and sends withdrawal notices in the order of R346. -/
  | rebalance
  /-- UNITS_RETURN (R340): A withdrawn or released grant's units return to the pools once its consumer has stopped. -/
  | unitsReturn (port : Nat)
  /-- WITHDRAWAL_TIMEOUT (R340): 30 µs after a digitiser or lane-group withdrawal notice, the units return without acknowledgement. -/
  | withdrawalTimeout (port : Nat)
  /-- STAGGER_TIMEOUT (R343): stagger_ms passes before the spindle is full; the stagger ends and the spindle grant falls to its peak. -/
  | staggerTimeout
  /-- UNSANCTIONED_DRAW (R348): Activity on a port without a grant is recorded and, for kinds 3–7, stopped. -/
  | unsanctionedDraw (port : Nat)
  /-- CURRENT_TRIP (R349): A rail current crosses its HG_ILIM limit and every writing head is gated within 1 µs. -/
  | currentTrip (rail5 : Bool) (milliamps : Nat)
  /-- CURRENT_PERSIST (R349): Current stays above the limit for persist_us and grants are withdrawn one per rebalance. -/
  | currentPersist (rail5 : Bool)
  /-- GROUP_POWER_OFF (R351): A group with no grant and no force bit powers off after off_delay_us. -/
  | groupPowerOff (group : Nat)
  /-- SENSOR_SAMPLE (R356): A temperature sensor is sampled and thresholds, sensor failure and air window are judged. -/
  | sensorSample (sensor : Nat) (temp : Nat) (bad : Bool)
  /-- STEP_UP_TIMER (R358): up_ms passes with T_j at or above throttle and the step rises by 1. -/
  | stepUpTimer
  /-- STEP_DOWN_TIMER (R358): down_ms passes with T_j at or below throttle less hysteresis and the step falls by 1. -/
  | stepDownTimer
  /-- SHUTDOWN_CUTOFF (R359): T_j is still at or above shutdown 60 s after the spindle stops and every switched domain is switched off. -/
  | shutdownCutoff
  /-- RELEASE_SHUTDOWN (R360): TH_CTRL.action 1 releases the shutdown latch if T_j is low enough. -/
  | releaseShutdown
  /-- TELEMETRY_STALE (R356): No item-1 TEMP arrives within four periods; the head is marked stale and TELEM_REQ is resent. -/
  | telemetryStale (head : Nat)
  /-- CONFIRM (R390): SB_CTRL.action 1 makes on-trial items active and counts as activation ready. -/
  | confirm (core : Nat)
  /-- RAISE_FLOORS (R386): SB_CTRL.action 2 raises each kind's OTP floor to its booted item's security_version. -/
  | raiseFloors (core : Nat)
  /-- RELOAD_MICROCODE (R395): SB_CTRL.action 3 reloads a sequencer's microcode after checking signature and digest. -/
  | reloadMicrocode (core : Nat)
  /-- SEAL (R397): Owner op 1 seals the boot chapter with a seal record after erasing it. -/
  | seal (block : List Byte)
  /-- LIFECYCLE_TRANSITION (R385): Owner op 2 burns the lifecycle to a later state, effective at the next reset. -/
  | lifecycleTransition (block : List Byte)
  /-- REVOKE_SIGN_KEY (R396): Owner op 3 revokes a sign_key slot. -/
  | revokeSignKey (block : List Byte)
  /-- PROGRAM_SIGN_KEY (R396): Owner op 4 programs a sign_key slot in OPEN. -/
  | programSignKey (block : List Byte)
  /-- PROGRAM_OWNER_KEY (R396): Owner op 5 programs an owner_key slot in OPEN. -/
  | programOwnerKey (block : List Byte)
  /-- OWNER_COMMAND (R396): An owner command block arrives by admin opcode 0xC4 or the management port and is checked before its op runs. -/
  | ownerCommand (block : List Byte) (fromHost : Bool)
  /-- GET_VERSION (R454): SPDM GET_VERSION returns supported versions. -/
  | getVersion
  /-- GET_CAPABILITIES (R454): SPDM GET_CAPABILITIES returns capabilities. -/
  | getCapabilities
  /-- NEGOTIATE_ALGORITHMS (R454): SPDM NEGOTIATE_ALGORITHMS selects P-384 and SHA-384. -/
  | negotiateAlgorithms (asym : Nat) (hash : Nat)
  /-- GET_DIGESTS (R454): SPDM GET_DIGESTS returns certificate chain digests. -/
  | getDigests
  /-- GET_CERTIFICATE (R454): SPDM GET_CERTIFICATE returns the slot 0 chain. -/
  | getCertificate (slot : Nat) (offset : Nat) (length : Nat)
  /-- CHALLENGE (R454): SPDM CHALLENGE is signed by the DAK, or answered Busy or refused. -/
  | challenge (slot : Nat) (nonce : List Byte)
  /-- GET_MEASUREMENTS (R399): SPDM GET_MEASUREMENTS returns the measurement indices of R399. -/
  | getMeasurements (index : Nat) (signed : Bool) (nonce : List Byte)
  /-- BM_ENABLE (R401): Setting BM_CTRL.enable trains and zero-fills every configured GDDR6 device. -/
  | bmEnable
  /-- DEVICE_READY (R401): A device's training and zero-fill end and it is ready, or training fails and it is lost. -/
  | deviceReady (dev : Nat) (ok : Bool)
  /-- PERIODIC_RETRAIN (R401): Every retrain_ms a channel's WCK and read timing are retrained. -/
  | periodicRetrain (dev : Nat) (channel : Nat)
  /-- FULL_RETRAIN (R401): BM_CTRL.action 1 fully retrains every channel. -/
  | fullRetrain
  /-- CLEAR_BM_DEV_ERR (R401): BM_CTRL.action 2 clears BM_DEV_ERR. -/
  | clearBmDevErr
  /-- EDC_MISMATCH (R405): A GDDR6 burst fails its EDC CRC and is replayed, retrained or the device is lost. -/
  | edcMismatch (dev : Nat) (channel : Nat) (outcome : Nat)
  /-- CISTERN_ACCESS (R406): A Cistern access is served with the check-word test, correction, merge or poisoning. -/
  | cisternAccess (master : Nat) (op : MemOp) (addr : Nat) (data : List Byte) (len : Nat) (error : Nat)
  /-- SCRUB (R406): The patrol scrubber reads the next backed unit at lowest priority and corrects or poisons it. -/
  | scrub (dev : Nat) (unit : Nat) (error : Nat)
  /-- RESERVOIR_ACCESS (R411): A Reservoir access is served per byte, correcting single errors or faulting on uncorrectable bytes. -/
  | reservoirAccess (master : Nat) (op : MemOp) (addr : Nat) (data : List Byte) (len : Nat) (error : Nat)
  /-- RESERVOIR_FILL (R410): RV_CTRL.action 1 zero-fills a range, or is refused with fill_refused. -/
  | reservoirFill
  /-- FILL_DONE (R410): A Reservoir fill completes and fill_done is set. -/
  | fillDone
  /-- CORE_RUN (R414): Setting AP_CORE_CTRL.run starts a core at AP_RESET_VEC after its L1 caches invalidate. -/
  | coreRun (core : Nat) (target : Nat)
  /-- CORE_STOP (R414): Clearing run finishes outstanding accesses, cleans and invalidates L1 and stops the core. -/
  | coreStop (core : Nat) (target : Nat)
  /-- MACHINE_TIMER (R412): ⌊DTIME ÷ 40⌋ reaches a core's AP_MTIMECMP and its machine timer interrupt is raised. -/
  | machineTimer (core : Nat)
  /-- L2_LOCK_WRITE (R421): A write of AP_L2_LOCK locks ways, or is refused when it would lock all 16. -/
  | l2LockWrite (value : Nat)
  /-- CLEAN (R422): Cache operation 1 writes back dirty lines of the range. -/
  | clean
  /-- INVALIDATE (R422): Cache operation 2 drops lines of the range except in locked ways. -/
  | invalidate
  /-- CLEAN_AND_INVALIDATE (R422): Cache operation 3 cleans and invalidates the range, only cleaning locked lines. -/
  | cleanAndInvalidate
  /-- LOCK_FILL (R422): Cache operation 4 places the range's lines in a locked way, or is refused. -/
  | lockFill
  /-- INVALIDATE_INCLUDING_LOCKED (R422): Cache operation 5 cleans and invalidates the range including locked lines. -/
  | invalidateIncludingLocked
  /-- CLEAN_AND_INVALIDATE_ALL (R422): Cache operation 6 cleans and invalidates every line of every cache. -/
  | cleanAndInvalidateAll
  /-- CMO_DONE (R422): A maintenance operation reaches the end of its range and cmo_done is set. -/
  | cmoDone
  /-- CACHE_PROTECTION_ERROR (R425): A cache parity or SEC-DED error is corrected, refetched, dropped or faulted as R425 states. -/
  | cacheProtectionError (cache : Nat) (core : Nat) (kind : Nat) (addr : Nat)
  /-- SOURCE_ASSERT (R427): An interrupt source input asserts or an edge is latched, making the source pending and counting its arrival. -/
  | sourceAssert (src : Nat) (level : Bool)
  /-- SOFTWARE_SOURCE_RAISE (R426): A write of IC_SWSET raises an edge on a software source. -/
  | softwareSourceRaise (src : Nat)
  /-- OFFER_TIMEOUT (R429): An offer unclaimed for offer_ns moves to the next eligible target. -/
  | offerTimeout (src : Nat)
  /-- MODERATION_RELEASE (R430): time_us passes since the first held arrival and held offers are released. -/
  | moderationRelease (target : Nat)
  /-- CLAIM (R431): A read of IC_CLAIM places the highest eligible source in service and returns it with its count. -/
  | claim (core : Nat) (target : Nat)
  /-- COMPLETE (R431): A write of IC_COMPLETE takes a source out of service, or sets bad_complete. -/
  | complete (core : Nat) (target : Nat) (src : Nat)
  /-- EVENT_ACCEPT (R439): ER accepts an event, merging an identical one into the open record or queueing a new record, or loses it when the FIFO is full. -/
  | eventAccept (src : Nat) (code : Nat) (payload : List Byte)
  /-- FIRMWARE_RECORD_SUBMIT (R437): A write of ER_FW_CTRL submits a firmware record from ER_FW_DATA. -/
  | firmwareRecordSubmit (core : Nat) (code : Nat) (len16 : Nat)
  /-- RECORD_PROGRAMMED (R438): A record finishes programming and read-back, and the next queued record or a lost-events record starts. -/
  | recordProgrammed
  /-- RECORD_CLOSE (R439): close_ms passes without a repeat and the open record's repeat count is programmed. -/
  | recordClose
  /-- DRAIN (R447): ER_CTRL.action 1 closes the open record and programs every queued record. -/
  | drain
  /-- RESTART_CHAPTER (R443): ER_CTRL.action 2 erases the chapter and writes a restart record, or is refused while log_failed. -/
  | restartChapter
  /-- SECTOR_ERASE_DONE (R443): A chapter sector erase completes and erasing continues or ends. -/
  | sectorEraseDone
  /-- PROBE_FLASH (R446): ER_CTRL.action 3 erases and verifies the sector at the write point, clearing the failure latch if it passes. -/
  | probeFlash (ok : Bool)
  /-- FREE_KIND_1_SLOTS (R446): ER_CTRL.action 4 frees every last-gasp slot of kind 1. -/
  | freeKind1Slots
  /-- PROGRAM_TIMEOUT (R445): A flash program or erase exceeds prog_timeout_us and the log memory has failed. -/
  | programTimeout
  /-- LOG_MEMORY_FAILED (R445): The flash reports failure, mismatches or does not answer; ER moves its records to last-gasp slots. -/
  | logMemoryFailed (cause : Nat)
  /-- WRITE_POINT_SEARCH (R444): After reset ER finds the write point, voids torn records and copies deferred slots and pending records. -/
  | writePointSearch
  /-- XSPI_WRITE (R381): A core or block requests a flash write or erase and the xSPI controller performs it or refuses it by area. -/
  | xspiWrite (requester : Nat) (erase : Bool) (offset : Nat) (data : List Byte)
  /-- MCTP_PACKET (R452): An MCTP packet arrives on SMBus or I3C, is PEC-checked and reassembled into a message. -/
  | mctpPacket (bus : Nat) (pecOk : Bool) (dest : Nat) (som : Bool) (eom : Bool) (seqNo : Nat) (tag : Nat) (type_ : Nat) (data : List Byte)
  /-- ENTDAA (R451): I3C ENTDAA assigns a dynamic address. -/
  | entdaa (addr : Nat)
  /-- SETDASA (R451): I3C SETDASA assigns a dynamic address from the static address. -/
  | setdasa (static_ : Nat) (addr : Nat)
  /-- SET_ENDPOINT_ID (R452): MCTP Set Endpoint ID sets the endpoint ID. -/
  | setEndpointId (op : Nat) (eid : Nat)
  /-- GET_ENDPOINT_ID (R452): MCTP Get Endpoint ID returns the endpoint ID. -/
  | getEndpointId
  /-- GET_ENDPOINT_UUID (R452): MCTP Get Endpoint UUID returns the UUID. -/
  | getEndpointUuid
  /-- GET_MCTP_VERSION_SUPPORT (R452): MCTP Get MCTP Version Support returns versions. -/
  | getMctpVersionSupport (type_ : Nat)
  /-- GET_MESSAGE_TYPE_SUPPORT (R452): MCTP Get Message Type Support returns control, NVMe-MI and SPDM. -/
  | getMessageTypeSupport
  /-- READ_NVME_MI_DATA_STRUCTURE (R453): NVMe-MI Read NVMe-MI Data Structure returns a data structure. -/
  | readNvmeMiDataStructure (kind : Nat) (index : Nat)
  /-- SUBSYSTEM_HEALTH_STATUS_POLL (R453): NVMe-MI NVM Subsystem Health Status Poll returns subsystem health. -/
  | subsystemHealthStatusPoll (clear : Bool)
  /-- CONTROLLER_HEALTH_STATUS_POLL (R453): NVMe-MI Controller Health Status Poll returns controller health. -/
  | controllerHealthStatusPoll (ctl : Nat)
  /-- CONFIGURATION_GET (R453): NVMe-MI Configuration Get returns bus frequency or transmission unit. -/
  | configurationGet (ident : Nat)
  /-- CONFIGURATION_SET (R453): NVMe-MI Configuration Set accepts only the values of R451 and R452. -/
  | configurationSet (ident : Nat) (value : Nat)
  /-- TUNNELLED_ADMIN (R453): A tunnelled Identify, Get Log Page or Get Features is answered read-only. -/
  | tunnelledAdmin (ctl : Nat) (opcode : Nat) (nsid : Nat) (cdw10 : Nat) (cdw11 : Nat) (cdw12 : Nat) (cdw13 : Nat)
  /-- GET_HEALTH (R455): Vendor command 0xC0 returns 64 bytes of health. -/
  | getHealth
  /-- PARK_COMMAND (R455): Vendor command 0xC1 requests a park of every actuator. -/
  | parkCommand
  /-- PARK_AND_SPIN_DOWN_COMMAND (R455): Vendor command 0xC2 requests a park and spin-down. -/
  | parkAndSpinDownCommand
  /-- END_PARK_COMMAND (R455): Vendor command 0xC3 requests the park latch be cleared. -/
  | endParkCommand
  /-- POWER_DOWN_COMMAND (R455): Vendor command 0xC4 requests park, spin-down, STANDBY then DEEP. -/
  | powerDownCommand
  /-- WAKE (R455): Vendor command 0xC5 starts an exit from DEEP, STANDBY or IDLE-B. -/
  | wake
  /-- FULL_RESET (R455): Vendor command 0xC6 takes a WRM reset with source 5, or is refused for a non-zero Dword 1. -/
  | fullReset (dword1 : Nat)
  /-- STAGE_DATA (R455): Vendor command 0xC7 writes up to 4,096 bytes of an item into the staging buffer. -/
  | stageData (kind : Nat) (offset : Nat) (data : List Byte)
  /-- STAGE_COMMIT (R455): Vendor command 0xC8 checks the staged item and writes it to the non-active slot, marking it pending. -/
  | stageCommit (kind : Nat)
  /-- STAGING_TIMEOUT (R455): 60 s pass without Stage Data for a kind and the staged data is discarded. -/
  | stagingTimeout (kind : Nat)
  /-- RELEASE_SHUTDOWN_COMMAND (R455): Vendor command 0xCA is the management release of the thermal shutdown latch. -/
  | releaseShutdownCommand (dword1 : Nat)
  /-- MP_PARK (R456): MP_PARK.action 1 sets the park latch, removes gates and parks every actuator. -/
  | mpPark (core : Nat)
  /-- MP_PARK_AND_SPIN_DOWN (R456): MP_PARK.action 2 sets the park latch, parks every actuator and brakes the spindle to STOPPED. -/
  | mpParkAndSpinDown (core : Nat)
  /-- MP_END_PARK (R456): MP_PARK.action 3 clears the park latch, releasing held requests and a suspended Sanitize. -/
  | mpEndPark (core : Nat)
  /-- MP_POWER_DOWN (R456): MP_PARK.action 4 sets the park latch and runs park, spin-down, STANDBY and DEEP entry. -/
  | mpPowerDown (core : Nat)
  /-- PARK_COMPLETE (R456): Every actuator is parked, and the spindle stopped where required, and the park response is sent with park_done set. -/
  | parkComplete
  /-- MP_WDT_KICK (R459): A write of MP_WDT.kick restarts the management watchdog, or with any other value resets at once. -/
  | mpWdtKick (core : Nat) (value : Nat)
  /-- MP_WDT_ENABLE (R459): Setting MP_WDT.enable starts and locks the management watchdog until POR. -/
  | mpWdtEnable (core : Nat) (value : Nat)
  /-- MP_WDT_EXPIRY (R459): The management watchdog expires and an MGT reset is taken. -/
  | mpWdtExpiry
  /-- VCM_FLT_CLEAR (R224): VCMa_FLT_N deasserts within 1 ms of its assertion and channel a retracts under R239. -/
  | vcmFltClear (act : Nat)
  /-- REQUEST_STARVED (R341): A non-urgent power request waits longer than HG_CFG.starve_us, HG_INT.starve is set and no non-urgent request behind it is granted until it has been. -/
  | requestStarved (port : Nat)
  /-- AUXILIARY_RAIL_LOSS (R463): VDD_AUX33 falls below its 2.70 V falling threshold and the whole part, always-on domain included, loses power until the next auxiliary POR. -/
  | auxiliaryRailLoss
  /-- HLREF_STOP (R469): 10 µs after every group of actuator a is in OFF, the HLREFa output stops. -/
  | hlrefStop (act : Nat)
  /-- DRAIN_TIME_LIMIT (R447): 100 ms pass during the drain at DEEP entry; ER copies its registers to always-on SRAM and moves the records still queued to kind-2 last-gasp slots. -/
  | drainTimeLimit
  /-- WRITE_SECTOR_END (R147): The last bit of the sector being written reaches the media, and a removal pending until sector end takes effect, such as a non-immediate abort, an air-window removal or a flume detached by a commit. -/
  | writeSectorEnd (head : Nat)
  /-- ACTIVATION_FLASH_WRITE_END (R390): After an activation without reset, the flash write of the application image to the non-active slot ends, and the item is marked pending and on trial. -/
  | activationFlashWriteEnd (ok : Bool)
  deriving DecidableEq, Repr

end Sys2Proof
end

