-- ==== Sys2Proof/Config.lean ====
section
/-! DEFINITION. What one implementation fixes, and the free values: numbers the spec does not give. Each is opaque, so
nothing in a proof can see what it is. -/

namespace Sys2Proof

/-- The n-th free value a run takes where the spec states no value (see the assumption log). -/
opaque Config.free : Nat → Nat

/-- A SYS_RST_N low of at least 2 µs and less than 10 µs is taken as a POR: either may happen (R466). -/
opaque Config.shortResetTaken : Nat → Bool

/-- Whether the servo engine rounds a value times a sine up, where the product is no whole number: the rounding is not stated (R205, R206).
Applied to the value and the phase. -/
opaque Config.sineUp : Int → Nat → Bool

/-- The seek generator's acceleration as SV_FF.kff takes it: its unit is not stated (R185). Applied to the reference
acceleration in 1/256 PU per wedge². -/
opaque Config.refAccel : Int → Int

/-- The word address of the routine that the media scheduler names for an operation kind: not stated (R254). -/
opaque Config.routineEntry : Nat → Nat

/-- The noise value of an amplitude and the LFSR's state: the scaling of its bits to ±amplitude is not stated (R205). -/
opaque Config.noise : Nat → Nat → Int

/-- Steps of the noise LFSR in a wedge: not stated (R205). -/
opaque Config.noiseBits : Nat

/-- The version word of the boot ROM (SB_ROM_ID). -/
opaque Config.romVersion : Nat

/-- The public key that Kelorsin programs into sign_key 0 (R384). -/
opaque Config.factoryKey : List Byte

/-- The part's device_id (R384). -/
opaque Config.deviceId : Nat

/-- The SHA-384 of the boot ROM (R391). -/
opaque Config.romDigest : List Byte

/-- Byte of the boot ROM (R13). -/
opaque Config.romByte : Nat → Byte

/-- The part's unique secret, 256 bits of the OTP that nothing but the key derivation reads (R384, R386). -/
opaque Config.uds : Nat

/-- The per-message secret of a signature: lifecycle code and bytes signed. The spec names ECDSA and does not say how it is chosen (R386,
R391). -/
opaque Config.signSecret : Nat → List Byte → Nat

/-- Byte of a page that the host reads and whose contents there the spec does not state: the page's identifier and the offset (R316,
R334). -/
opaque Config.openByte : Nat → Nat → Byte

/-- The value of a feature that no Set Features has set, where the spec gives no default (R315). -/
opaque Config.featureDefault : Nat → Nat

/-- The equaliser values that an upstream receiver's training starts from where none are seeded (R96). -/
opaque Config.eqPreset : Nat

/-- The equaliser values that an upstream receiver has adapted to, from those it started with (R96): the n-th adaptation of a run. The
step of its sign-sign LMS and the signal at its slicer are not stated. -/
opaque Config.eqAdapted : Nat → Nat → Nat

/-! Stages of the signal chain whose arithmetic the spec does not give (R112 to R119, R128; log entry 107). -/

/-- The 8-tap interpolator of the reader alignment: 1/64 of a sample, eight samples (R112). -/
opaque Config.interpolate : Nat → List Int → Int

/-- The scaling of the combined stream, such that ideal input yields the target's levels (R113). -/
opaque Config.combineScale : Int → Int

/-- 2^((gain − 128) ÷ 32) times a value, as the gain loop forms it (R114). -/
opaque Config.gainTimes : Int → Int → Int

/-- Value n of the stream resampled by the timing loop: kp, ki, its integrator and the combined stream (R114). -/
opaque Config.retimed : Nat → Nat → Int → List Int → Nat → Int

/-- The timing integrator after value n (R114). -/
opaque Config.timingFreq : Nat → Nat → Int → List Int → Nat → Int

/-- The tentative decision of bit n: target, noise words, equaliser output (R115). -/
opaque Config.tentative : List Int → List Nat → List Int → Nat → Bool

/-- The log-likelihood ratio of bit n: target, noise words, equaliser output (R115). -/
opaque Config.soft : List Int → List Nat → List Int → Nat → Int

/-- The level that a bit has in the target's sum (R128). -/
opaque Config.bitLevel : Bool → Int

/-- A coefficient after one LMS step of 2^−k times a gradient, at the precision of the working copy (R128). -/
opaque Config.lmsStep : Nat → Int → Int → Int

/-- A DC offset after one step (R128). -/
opaque Config.dcStep : Int → Int → Int

/-- A word of predictor taps or variance codes after one step (R128). -/
opaque Config.noiseStep : Nat → Int → Nat

/-- Parity bit k of a code word's information bits: the matrix is fixed in the part (R110). -/
opaque Config.parityBit : List Bool → Nat → Bool

/-- Iterations of the decoder, the parity checks left unsatisfied, and information bit k, from soft values and the limit (R116). -/
opaque Config.ldpcIterations : List Int → Nat → Nat
opaque Config.ldpcUnsat : List Int → Nat → Nat
opaque Config.ldpcBit : List Int → Nat → Nat → Bool

/-! What R295 and R297 leave to the compression engine (log entry 108). -/

/-- The 15-bit hash of three bytes (R297). -/
opaque Config.hash15 : Nat → Nat → Nat → Nat

/-- Cycles that the search at a place of the input takes to a depth (R295). -/
opaque Config.searchCycles : Nat → List Nat → Nat → Nat

/-- Cycles that depth-1 search needs for a number of bytes (R295). -/
opaque Config.depthOneCycles : Nat → Nat

/-- Code lengths of at most a limit's bits for symbols by how often they occur: the Huffman code that the engine builds for a dynamic
block (R297). -/
opaque Config.huffLengths : Nat → List Nat → List Nat

/-- The code length symbols, each with the value of its extra bits, that the engine writes a list of code lengths as (R297; RFC 1951,
3.2.7). -/
opaque Config.lengthRuns : List Nat → List (Nat × Nat)

/-- The 10-bit extended Hamming code of a data unit of the Cistern: its matrix is not stated (R404). -/
opaque Config.hamming : List Byte → Nat

/-- Bit n of the verify detector: the equalised stream of reader V (R150). -/
opaque Config.verifyBit : List Int → Nat → Bool

end Sys2Proof
end

