-- ==== Sys2Proof/Machine/KV.lean ====
section
/-! DEFINITION. Sparse maps held as plain lists of key and value pairs in one canonical form: keys strictly rising.
Registers, engine fields and every memory of the part are kept this way, so equal contents are equal data. -/

namespace Sys2Proof.Machine

/-- The value listed for a key, if the key is listed. -/
def KV.get {κ β : Type} [DecidableEq κ] : List (κ × β) → κ → Option β
  | [], _ => none
  | (a, v) :: r, k => if a = k then some v else KV.get r k

/-- List `v` for `k`, in its place by the order `lt`, replacing what stood there. -/
def KV.put {κ β : Type} [DecidableEq κ] (lt : κ → κ → Bool) : List (κ × β) → κ → β → List (κ × β)
  | [], k, v => [(k, v)]
  | (a, w) :: r, k, v =>
    if a = k then (k, v) :: r
    else if lt k a then (k, v) :: (a, w) :: r
    else (a, w) :: KV.put lt r k v

/-- Take a key out of the list. -/
def KV.del {κ β : Type} [DecidableEq κ] : List (κ × β) → κ → List (κ × β)
  | [], _ => []
  | (a, w) :: r, k => if a = k then KV.del r k else (a, w) :: KV.del r k

/-- The canonical form: keys strictly rising by `lt`. -/
def KV.sorted {κ β : Type} (lt : κ → κ → Bool) : List (κ × β) → Bool
  | [] => true
  | (a, _) :: r => r.all (fun c => lt a c.1) && KV.sorted lt r

/-- The order of plain numeric keys. -/
def natLt (a b : Nat) : Bool := decide (a < b)

/-- The order of (field, instance) keys: by field, then by instance. -/
def pairLt (a b : Nat × Nat) : Bool := decide (a.1 < b.1) || (a.1 == b.1 && decide (a.2 < b.2))

/-- The value listed for a key, or `d` where none is listed. -/
def KV.getD {κ β : Type} [DecidableEq κ] (m : List (κ × β)) (k : κ) (d : β) : β := (KV.get m k).getD d

end Sys2Proof.Machine
end

