-- ==== Sys2Proof/Machine/Fields.lean ====
section
/-! DEFINITION. What a register and a register field are: the columns of the spec's register tables (00_scope.md,
"Registers"), and the bit arithmetic between a register's bits and its fields. -/

namespace Sys2Proof.Machine

/-- The field types of R6. -/
inductive FTy where
  /-- Read and write. -/
  | rw
  /-- Writes are ignored. -/
  | ro
  /-- Each 1 written clears its bit. -/
  | w1c
  /-- Reads as zero; the write performs an action. -/
  | wo
  /-- Staged: takes effect at the next sluice commit. -/
  | st
  /-- Set and locked by the first write after a reset. -/
  | rwl
  deriving DecidableEq, Repr

/-- How a field's description says a written value is stored, and which values are reserved encodings (R8). -/
inductive SRule where
  /-- Every value of the field's width is stored. -/
  | any
  /-- Values outside lo–hi are reserved encodings. -/
  | within (lo hi : Nat)
  /-- Values outside lo–hi store the nearer limit. -/
  | clamp (lo hi : Nat)
  /-- Values below lo store lo; values above hi are reserved encodings. -/
  | atLeast (lo hi : Nat)
  /-- 0 and lo–hi; other values are reserved encodings. -/
  | zeroOr (lo hi : Nat)
  /-- Eight signed bytes, each −32 to +31 (WP_WSET word 0). -/
  | bytes6
  /-- Four signed 6-bit entries at byte places, −32 a reserved encoding (MS_RL_SHIFT). -/
  | shifts
  /-- Four 4-bit entries, 0 a reserved encoding (MS_RL_WEIGHT). -/
  | weights
  /-- `n` node codes of the table of R204, one a byte (SV_TRACE_SEL, SV_INJ_CTRL). -/
  | nodes (n : Nat)
  deriving DecidableEq, Repr

/-- A register field: its identity, its place in its register, its type, how a value is stored, and its reset value
for each instance. The low four bits of `id` name the reset classes (see `Fld.cls`). -/
structure Fld where
  id    : Nat
  lo    : Nat
  width : Nat
  ty    : FTy
  rule  : SRule
  reset : Nat → Nat

/-- A register: its name, the address of its first instance, its replication (stride and count, outermost first),
its width in bits and its fields. -/
structure Reg where
  name  : String
  addr  : Nat
  dims  : List (Nat × Nat)
  width : Nat
  flds  : List Fld

/-- The reset classes of a field (00_scope.md, table of reset classes): 0 POR, WRM, WDG; 1 to 5 those and ACT, with
1, 4, 16, 64 and 32,768 instances per actuator; 6 POR; 7 POR, WRM; 8 POR, WRM, WDG, CTL; 9 POR, MGT; 10 as 0 and
cleared by a stay in DEEP; 11 none. -/
def Fld.cls (f : Fld) : Nat := f.id % 16

/-- The instances per actuator of the classes that name ACT. -/
def actDiv (cls : Nat) : Nat :=
  match cls with
  | 1 => 1 | 2 => 4 | 3 => 16 | 4 => 64 | 5 => 32768 | _ => 0

/-- How many instances a register has. -/
def Reg.count (r : Reg) : Nat := r.dims.foldl (fun n d => n * d.2) 1

/-- A node code of the table of R204. -/
def isNode (c : Nat) : Bool :=
  decide (c < 0x48) || (decide (0x50 ≤ c) && decide (c < 0x58)) || (decide (0x60 ≤ c) && decide (c < 0xB0))

/-- The reserved encodings of R8: true where the value may not be stored. -/
def SRule.reserved (r : SRule) (v : Nat) : Bool :=
  match r with
  | .any => false
  | .within lo hi => v < lo || hi < v
  | .clamp _ _ => false
  | .atLeast _ hi => hi < v
  | .zeroOr lo hi => v ≠ 0 && (v < lo || hi < v)
  | .bytes6 => (List.range 8).any (fun i => let b := v / 2 ^ (8 * i) % 256; 32 ≤ b && b < 224)
  | .shifts => (List.range 4).any (fun i => v / 2 ^ (8 * i) % 64 = 32)
  | .weights => (List.range 4).any (fun i => v / 2 ^ (4 * i) % 16 = 0)
  | .nodes n => (List.range n).any (fun i => !isNode (v / 2 ^ (8 * i) % 256))

/-- The value that is stored for a value that is no reserved encoding (R8). -/
def SRule.stored (r : SRule) (v : Nat) : Nat :=
  match r with
  | .clamp lo hi => if v < lo then lo else if hi < v then hi else v
  | .atLeast lo _ => if v < lo then lo else v
  | .shifts => (List.range 4).foldl (fun n i => n + v / 2 ^ (8 * i) % 64 * 2 ^ (8 * i)) 0
  | _ => v

/-- A field's bits of a register value. -/
def Fld.of (f : Fld) (v : Nat) : Nat := v / 2 ^ f.lo % 2 ^ f.width

/-- The two's complement reading of a `w`-bit number. -/
def signed (w v : Nat) : Int := if v % 2 ^ w < 2 ^ (w - 1) then (v % 2 ^ w : Nat) else (v % 2 ^ w : Nat) - (2 ^ w : Nat)

/-- The `w`-bit two's complement number of an integer. -/
def toBits (w : Nat) (x : Int) : Nat := (x % (2 ^ w : Nat)).toNat

/-- Bit `i` of a number. -/
def bit (v i : Nat) : Bool := v.testBit i

/-- A number with bit `i` set. -/
def setBit (v i : Nat) : Nat := v ||| 2 ^ i

/-- A number with bit `i` cleared. -/
def clearBit (v i : Nat) : Nat := if v.testBit i then v - 2 ^ i else v

/-- One bit as a number. -/
def b2n (b : Bool) : Nat := if b then 1 else 0

end Sys2Proof.Machine
end

