-- ==== Sys2Proof/Machine/Engine.lean ====
section
/-! DEFINITION. State that the spec gives the part outside its register tables and that is one number per instance:
timers, counts, latches and progress marks the rules speak of. Each is a field like a register's, held in the same
store with the same reset classes, and no bus address reaches it. -/

namespace Sys2Proof.Machine

/-! Clock, reset and power. -/
/-- The core rails are off: DEEP, or PWRGD low (R376, R465). -/
def X.core_off : Fld := ⟨32006, 0, 1, .ro, .any, fun _ => 0⟩
/-- The auxiliary rail has fallen below its threshold (R463). -/
def X.aux_off : Fld := ⟨32027, 0, 1, .ro, .any, fun _ => 0⟩
/-- PERST# of the port is asserted (R324). -/
def X.perst_pin : Fld := ⟨32043, 0, 1, .ro, .any, fun _ => 0⟩
/-! Event recorder. -/
/-- The write point has been found since the last reset (R444). -/
def X.er_found : Fld := ⟨32048, 0, 1, .ro, .any, fun _ => 0⟩
/-- DTIME of the first lost event not yet recorded (R440). -/
def X.er_lost_first : Fld := ⟨32064, 0, 64, .ro, .any, fun _ => 0⟩
/-- DTIME of the last lost event (R440). -/
def X.er_lost_last : Fld := ⟨32080, 0, 64, .ro, .any, fun _ => 0⟩
/-- Bit s: an event from src s was lost (R437, code 0x0001). -/
def X.er_lost_srcs : Fld := ⟨32096, 0, 64, .ro, .any, fun _ => 0⟩
/-- Next sector that a running restart erases, 0 to 512 (R443). -/
def X.er_erase_next : Fld := ⟨32112, 0, 10, .ro, .any, fun _ => 0⟩
/-- A drain is running (R447). -/
def X.er_draining : Fld := ⟨32128, 0, 1, .ro, .any, fun _ => 0⟩
/-- The drain of DEEP entry is running or has ended; later events go to kind-2 slots (R447). -/
def X.er_deep_drain : Fld := ⟨32144, 0, 1, .ro, .any, fun _ => 0⟩
/-! Loss and write gate. -/
/-- The head is lost and awaits depopulation: 1 for its own loss, 2 with its actuator (R25). -/
def X.head_lost : Fld := ⟨32160, 0, 2, .ro, .any, fun _ => 0⟩
/-- The actuator is lost (R25, R27). -/
def X.act_lost : Fld := ⟨32176, 0, 1, .ro, .any, fun _ => 0⟩
/-- The flume is lost (R27). -/
def X.flume_lost : Fld := ⟨32192, 0, 1, .ro, .any, fun _ => 0⟩
/-- Write gate was removed inside the current sector, which counts as a failed write (R147, R151). -/
def X.wp_ended : Fld := ⟨32240, 0, 1, .ro, .any, fun _ => 0⟩
/-- Gate removal waiting for the end of the sector being written: its cause (R147). -/
def X.wp_remove : Fld := ⟨32256, 0, 4, .ro, .any, fun _ => 0⟩
/-- The head link has marked the head's position feedback lost (R90). -/
def X.sv_fb_lost : Fld := ⟨32275, 0, 1, .ro, .any, fun _ => 0⟩
/-! Staging. -/
/-- DTIME by which an armed wedge or index commit must strobe (R62). -/
def X.sc_deadline : Fld := ⟨32288, 0, 64, .ro, .any, fun _ => 0⟩
/-- instant_kind, actuator, miss_action and SC_INSTANT of the armed commit, as they stood when it was armed (R60). -/
def X.sc_kind : Fld := ⟨35632, 0, 2, .ro, .any, fun _ => 0⟩
def X.sc_act : Fld := ⟨35648, 0, 2, .ro, .any, fun _ => 0⟩
def X.sc_miss : Fld := ⟨35664, 0, 1, .ro, .any, fun _ => 0⟩
def X.sc_value : Fld := ⟨35680, 0, 64, .ro, .any, fun _ => 0⟩
/-- The wedge in which the actuator stood when the commit was armed has not ended: it is no occurrence after arming (R60). -/
def X.sc_old : Fld := ⟨35696, 0, 1, .ro, .any, fun _ => 0⟩
/-! Headgate. -/
/-- Grants made so far; orders grants by age (R346). -/
def X.hg_order : Fld := ⟨32304, 0, 64, .ro, .any, fun _ => 0⟩
/-- The spin-up stagger is in force (R343). -/
def X.hg_stagger : Fld := ⟨32320, 0, 1, .ro, .any, fun _ => 0⟩
/-- A non-urgent request of the port has passed starve_us (R341). -/
def X.hg_starved : Fld := ⟨32336, 0, 1, .ro, .any, fun _ => 0⟩
/-- A rail current trip is in force on rail 0 (12 V) or 1 (5 V) (R349). -/
def X.hg_trip : Fld := ⟨32352, 0, 1, .ro, .any, fun _ => 0⟩
/-- The current of the rail has stayed above its limit for persist_us (R349). -/
def X.hg_persist : Fld := ⟨32368, 0, 1, .ro, .any, fun _ => 0⟩
/-! Head link. -/
/-- The HLREF output of the actuator runs (R469). -/
def X.hlref : Fld := ⟨32385, 0, 1, .ro, .any, fun _ => 0⟩
/-- The group has been asked to come up and waits for its lane-group grant (R480). -/
def X.hl_asked : Fld := ⟨32402, 0, 1, .ro, .any, fun _ => 0⟩
/-- Every remaining lane accepted SET and GO is being sent (R81). -/
def X.hl_go : Fld := ⟨32418, 0, 1, .ro, .any, fun _ => 0⟩
/-- The front-end acknowledged RESUME since the group became ACTIVE (R88). -/
def X.hl_resumed : Fld := ⟨32434, 0, 1, .ro, .any, fun _ => 0⟩
/-- STATUS reported the downstream receiver locked in this training (R84). -/
def X.hl_locked : Fld := ⟨32450, 0, 1, .ro, .any, fun _ => 0⟩
/-- The downstream lane is declared lost and re-bring-up waits 10 µs (R94). -/
def X.hl_down_lost : Fld := ⟨32466, 0, 1, .ro, .any, fun _ => 0⟩
/-- DTIME of the last keepalive (R87). -/
def X.hl_ka_last : Fld := ⟨32482, 0, 64, .ro, .any, fun _ => 0⟩
/-- The lane takes part in the current bring-up (R83). -/
def X.hl_lane_ok : Fld := ⟨32499, 0, 1, .ro, .any, fun _ => 0⟩
/-- The lane accepted SET (R82). -/
def X.hl_acked : Fld := ⟨32515, 0, 1, .ro, .any, fun _ => 0⟩
/-- Bad frames among the last 64, newest in bit 0 (R76). -/
def X.hl_badhist : Fld := ⟨32531, 0, 64, .ro, .any, fun _ => 0⟩
/-- Consecutive bad frames (R76). -/
def X.hl_consec : Fld := ⟨32547, 0, 8, .ro, .any, fun _ => 0⟩
/-- Consecutive good frames with dok 0 (R94). -/
def X.hl_dok0 : Fld := ⟨32563, 0, 8, .ro, .any, fun _ => 0⟩
/-- seq of the last good frame (R76). -/
def X.hl_seq : Fld := ⟨32579, 0, 3, .ro, .any, fun _ => 0⟩
/-- A good frame has been received since the lane became ACTIVE. -/
def X.hl_seq_known : Fld := ⟨32595, 0, 1, .ro, .any, fun _ => 0⟩
/-- The retrain in progress makes at least one attempt: 1 firmware asked for it, 2 it follows a wake (R86). -/
def X.hl_fw_retrain : Fld := ⟨32611, 0, 2, .ro, .any, fun _ => 0⟩
/-- WAKE was acknowledged and adaptation runs (R99). -/
def X.hl_waking : Fld := ⟨32627, 0, 1, .ro, .any, fun _ => 0⟩
/-! Frames of the head link. -/
/-- seq of the next frame on the downstream lane (R72). -/
def X.hl_tx_seq : Fld := ⟨35714, 0, 3, .ro, .any, fun _ => 0⟩
/-- The last 58 bits that the downstream lane's scrambler sent, newest in bit 0 (R69). -/
def X.hl_scr : Fld := ⟨35730, 0, 58, .ro, .any, fun _ => 0⟩
/-- State of the PRBS-31 of the downstream TRAIN frames (R73). -/
def X.hl_prbs : Fld := ⟨35746, 0, 31, .ro, .any, fun _ => 0⟩
/-- The last 58 bits that the upstream lane's receiver took, newest in bit 0 (R69). -/
def X.hl_descr : Fld := ⟨35763, 0, 58, .ro, .any, fun _ => 0⟩
/-- Consecutive frames with good CRC at the receiver's alignment while it hunts; 4 is frame lock (R76). -/
def X.hl_lock_n : Fld := ⟨35779, 0, 3, .ro, .any, fun _ => 0⟩
/-- Index, modulo 128, of the next sample time of the lane (R71). -/
def X.hl_sidx : Fld := ⟨35795, 0, 7, .ro, .any, fun _ => 0⟩
/-- Sample width in force for the head: that of the last CLK its front-end acknowledged, 0 before the first (R78). -/
def X.hl_width : Fld := ⟨35811, 0, 3, .ro, .any, fun _ => 0⟩
/-- Sample and write clock in force for the head, kHz (R78). -/
def X.hl_clk : Fld := ⟨35827, 0, 32, .ro, .any, fun _ => 0⟩
/-- The bring-up in progress was asked for by HL_GROUP_CTRL.action 1 (R93). -/
def X.hl_by_action : Fld := ⟨35842, 0, 1, .ro, .any, fun _ => 0⟩
/-- The lane retrains with a new layout once it is ACTIVE (R98). -/
def X.hl_redo : Fld := ⟨35859, 0, 1, .ro, .any, fun _ => 0⟩
/-- The lane has been ACTIVE since its last reset: a return to ACTIVE makes its head stale (R130). -/
def X.hl_was_up : Fld := ⟨35939, 0, 1, .ro, .any, fun _ => 0⟩
/-- Flags of the front-end's last STATUS for the head (R79). -/
def X.fe_flags : Fld := ⟨35875, 0, 8, .ro, .any, fun _ => 0⟩
/-- Cause of the last safe entry that STATUS reported for the head (R79). -/
def X.fe_cause : Fld := ⟨35891, 0, 8, .ro, .any, fun _ => 0⟩
/-- Downstream eye height of the last EYE_DS (R79). -/
def X.ds_eye_h : Fld := ⟨35906, 0, 8, .ro, .any, fun _ => 0⟩
/-- Downstream eye width of the last EYE_DS (R79). -/
def X.ds_eye_w : Fld := ⟨35922, 0, 8, .ro, .any, fun _ => 0⟩
/-! Write sets in flight. -/
/-- Write-set messages not yet acknowledged: bit 0 WRITE_SET, 1 HEAT, 2 ASSIST_PWR (R143). -/
def X.wp_set_wait : Fld := ⟨32643, 0, 3, .ro, .any, fun _ => 0⟩
/-- Band of the write set being sent (R143). -/
def X.wp_set_band : Fld := ⟨32659, 0, 6, .ro, .any, fun _ => 0⟩
/-- The last send of the write set failed (R143). -/
def X.wp_set_failed : Fld := ⟨32675, 0, 1, .ro, .any, fun _ => 0⟩
/-- The vstatus that the sector being written fails with: 3 reader V's samples erased, 5 write data lost; 0 none (R89, R91, R151). -/
def X.wp_vfail : Fld := ⟨32691, 0, 3, .ro, .any, fun _ => 0⟩
/-- Sample times of the head still to pass before its next sector, after a mark that was missed (R119, R120). -/
def X.dp_skip : Fld := ⟨36035, 0, 32, .ro, .any, fun _ => 0⟩
/-! Memories. -/
/-- A Reservoir fill runs (R410). -/
def X.rv_filling : Fld := ⟨32720, 0, 1, .ro, .any, fun _ => 0⟩
/-! Detector pipelines. -/
/-- Grant number of the flume; orders flumes by grant (R103). -/
def X.dp_order : Fld := ⟨32736, 0, 64, .ro, .any, fun _ => 0⟩
/-- Flume grants made so far. -/
def X.dp_grants : Fld := ⟨32752, 0, 64, .ro, .any, fun _ => 0⟩
/-- The flume left service or the pool and releases its grant once it serves nothing (R65, R103). -/
def X.dp_out : Fld := ⟨32768, 0, 1, .ro, .any, fun _ => 0⟩
/-- The flume leaves its request at the end of the sector it receives: the refusal code, or 15 for none (R65, R103, R340). -/
def X.dp_leave : Fld := ⟨32784, 0, 4, .ro, .any, fun _ => 0⟩
/-- A copy named by DP_CAL_COPY is in progress (R126). -/
def X.dp_copying : Fld := ⟨32800, 0, 1, .ro, .any, fun _ => 0⟩
/-- Sectors posted in the head's validation pass (R131). -/
def X.dp_val_posted : Fld := ⟨32816, 0, 12, .ro, .any, fun _ => 0⟩
/-- A sector of the head's validation pass failed (R131). -/
def X.dp_val_bad : Fld := ⟨32832, 0, 1, .ro, .any, fun _ => 0⟩
/-- Sum of sector MSE over the head's validation pass (R131). -/
def X.dp_val_mse : Fld := ⟨32848, 0, 32, .ro, .any, fun _ => 0⟩
/-! Sequencers. -/
/-- Slots whose flume request of the thread was refused (R248, FREF). -/
def X.sq_fref : Fld := ⟨32866, 0, 16, .ro, .any, fun _ => 0⟩
/-- Words issued since the thread's last safe point (R255). -/
def X.sq_sp : Fld := ⟨32882, 0, 8, .ro, .any, fun _ => 0⟩
/-- Entries in the thread's call stack (R243). -/
def X.sq_depth : Fld := ⟨32898, 0, 3, .ro, .any, fun _ => 0⟩
/-- Entry i of the call stack of thread k at 4k + i. -/
def X.sq_stk : Fld := ⟨32915, 0, 13, .ro, .any, fun _ => 0⟩
/-- Events are masked for the thread (R256). -/
def X.sq_masked : Fld := ⟨32930, 0, 1, .ro, .any, fun _ => 0⟩
/-- The thread is abandoned at its next safe point: 1 halt, 2 its thread_en bit was cleared (R259). -/
def X.sq_leave : Fld := ⟨32946, 0, 2, .ro, .any, fun _ => 0⟩
/-- Slots with a read offset of the thread (R258). -/
def X.sq_ofs : Fld := ⟨32962, 0, 16, .ro, .any, fun _ => 0⟩
/-- The thread waits for the arm (R249). -/
def X.sq_want : Fld := ⟨32978, 0, 1, .ro, .any, fun _ => 0⟩
/-! Write path. -/
/-- A shock trip is in force (R146). -/
def X.wp_hold_off : Fld := ⟨32992, 0, 1, .ro, .any, fun _ => 0⟩
/-- Words of WP_XTS_KEY_DATA as written. -/
def X.key_word : Fld := ⟨33008, 0, 64, .ro, .any, fun _ => 0⟩
/-- Key action waiting: 1 load, 2 zeroise (R139). -/
def X.key_act : Fld := ⟨33024, 0, 2, .ro, .any, fun _ => 0⟩
/-- Slot of the key action waiting. -/
def X.key_slot : Fld := ⟨33040, 0, 6, .ro, .any, fun _ => 0⟩
/-- Peak position error of the head since its write gate asserted, in 1/256 track pitch (R149). -/
def X.wp_peak : Fld := ⟨33056, 0, 16, .ro, .any, fun _ => 0⟩
/-- First sector written since the gate asserted (R149). -/
def X.wp_first_sector : Fld := ⟨33072, 0, 12, .ro, .any, fun _ => 0⟩
/-- The head's write gate is dropped for a wedge gap inside its run (R140). -/
def X.wp_gap : Fld := ⟨35955, 0, 1, .ro, .any, fun _ => 0⟩
/-- WR bits of the head's run sent so far (R141). -/
def X.wp_sent : Fld := ⟨35971, 0, 32, .ro, .any, fun _ => 0⟩
/-- Bits in the head's write FIFO at the front-end (R141). -/
def X.wp_queued : Fld := ⟨35987, 0, 16, .ro, .any, fun _ => 0⟩
/-- DTIME at which the first energised bit of the run reaches the media (R141, R144). -/
def X.wp_first_bit : Fld := ⟨36003, 0, 64, .ro, .any, fun _ => 0⟩
/-- DTIME at which the assist element of the head is on (R144). -/
def X.wp_assist_on : Fld := ⟨36019, 0, 64, .ro, .any, fun _ => 0⟩
/-! Zones and scheduling. -/
/-- Tags given out. -/
def X.ms_tags : Fld := ⟨33088, 0, 16, .ro, .any, fun _ => 0⟩
/-- Write numbers given out. -/
def X.ms_wids : Fld := ⟨33104, 0, 32, .ro, .any, fun _ => 0⟩
/-- Journal recovery runs (R273). -/
def X.zx_recovering : Fld := ⟨33120, 0, 1, .ro, .any, fun _ => 0⟩
/-- Writes have stopped because a checkpoint could not be completed (R272). -/
def X.zx_stopped : Fld := ⟨33136, 0, 1, .ro, .any, fun _ => 0⟩
/-- DTIME of the previous covered urgent doorbell touching the actuator pair; 0 for none (R286). -/
def X.ms_urg_last : Fld := ⟨33152, 0, 64, .ro, .any, fun _ => 0⟩
/-- 1 + the tag of the operation whose next piece goes before other non-urgent work; 0 for none (R280). -/
def X.ms_piece : Fld := ⟨33169, 0, 16, .ro, .any, fun _ => 0⟩
/-- An index rebuild runs (R308). -/
def X.cx_rebuild : Fld := ⟨33184, 0, 1, .ro, .any, fun _ => 0⟩
/-! Host interface. -/
/-- Sanitize in progress: 1 crypto erase, 2 overwrite; it resumes after a reset (R329). -/
def X.san_active : Fld := ⟨33211, 0, 2, .ro, .any, fun _ => 0⟩
/-- A sanitize has completed. -/
def X.san_done : Fld := ⟨33227, 0, 1, .ro, .any, fun _ => 0⟩
/-- The overwrite pattern. -/
def X.san_pattern : Fld := ⟨33243, 0, 32, .ro, .any, fun _ => 0⟩
/-- 1 + the context of the command that started it. -/
def X.san_ctx : Fld := ⟨33248, 0, 14, .ro, .any, fun _ => 0⟩
/-- Link training of the port has started (R368). -/
def X.link_train : Fld := ⟨33264, 0, 1, .ro, .any, fun _ => 0⟩
/-- A reset of the controller is under way: CSTS.RDY clears once nothing of it is left (R324). -/
def X.ctl_down : Fld := ⟨33280, 0, 1, .ro, .any, fun _ => 0⟩
/-- A shutdown notification of the controller is in force (R323). -/
def X.ctl_shn : Fld := ⟨33296, 0, 1, .ro, .any, fun _ => 0⟩
/-- CSTS.CFS of the controller (R388). -/
def X.ctl_cfs : Fld := ⟨33312, 0, 1, .ro, .any, fun _ => 0⟩
/-- Last operational power state of the controller (R332). -/
def X.last_op : Fld := ⟨33328, 0, 2, .ro, .any, fun _ => 0⟩
/-- 1 + the power state that the controller asked for during a park (R456). -/
def X.ps_held : Fld := ⟨33344, 0, 3, .ro, .any, fun _ => 0⟩
/-- The namespace is detached from the controller: instance 2 × namespace + controller (R315). -/
def X.ns_off : Fld := ⟨33371, 0, 1, .ro, .any, fun _ => 0⟩
/-- The controller's volatile write cache is disabled (R155). -/
def X.vwc_off : Fld := ⟨33376, 0, 1, .ro, .any, fun _ => 0⟩
/-- Device Self-test: 0 none, 1 short, 2 extended (R330). -/
def X.dst_run : Fld := ⟨33392, 0, 2, .ro, .any, fun _ => 0⟩
/-- Controller that started it. -/
def X.dst_ctl : Fld := ⟨33408, 0, 1, .ro, .any, fun _ => 0⟩
/-- 1 + its namespace; 0 for every namespace. -/
def X.dst_ns : Fld := ⟨33424, 0, 7, .ro, .any, fun _ => 0⟩
/-- It yields to host commands. -/
def X.dst_yield : Fld := ⟨33440, 0, 1, .ro, .any, fun _ => 0⟩
/-- Result of the last test. -/
def X.dst_result : Fld := ⟨33456, 0, 4, .ro, .any, fun _ => 0⟩
/-! Servo. -/
/-- The head's servo field of the wedge in progress has arrived. -/
def X.sv_seen : Fld := ⟨33475, 0, 1, .ro, .any, fun _ => 0⟩
/-- The head's wedge is bad (R179). -/
def X.sv_bad : Fld := ⟨33491, 0, 1, .ro, .any, fun _ => 0⟩
/-- Consecutive wedges, since the head's read offset last changed, with its position error below the write-unsafe threshold (R164). -/
def X.sv_near : Fld := ⟨36099, 0, 8, .ro, .any, fun _ => 0⟩
/-- Last n1, signed (R179, cause 7). -/
def X.sv_n1 : Fld := ⟨33507, 0, 32, .ro, .any, fun _ => 0⟩
/-- Last n2, signed. -/
def X.sv_n2 : Fld := ⟨33523, 0, 32, .ro, .any, fun _ => 0⟩
/-- Consecutive wedges with n1 and n2 unchanged. -/
def X.sv_frozen : Fld := ⟨33539, 0, 3, .ro, .any, fun _ => 0⟩
/-- Wedge number of the last field in acquisition. -/
def X.sv_wn : Fld := ⟨33555, 0, 10, .ro, .any, fun _ => 0⟩
/-- Consecutive good wedges with consecutive wedge numbers in acquisition (R202). -/
def X.sv_acqn : Fld := ⟨33571, 0, 8, .ro, .any, fun _ => 0⟩
/-- Consecutive good wedges of the head. -/
def X.sv_good : Fld := ⟨33587, 0, 16, .ro, .any, fun _ => 0⟩
/-- Bad wedges counted since the head's feedback was lost with its loop closed (R198). -/
def X.sv_lostcnt : Fld := ⟨33603, 0, 8, .ro, .any, fun _ => 0⟩
/-- The head's field timing is known (R478). -/
def X.sv_known : Fld := ⟨33619, 0, 1, .ro, .any, fun _ => 0⟩
/-- The last measured position of the head, in PU, from which the next is predicted (R178). -/
def X.sv_last : Fld := ⟨36067, 0, 32, .ro, .any, fun _ => 0⟩
/-- The head has a last position since acquisition began (R178). -/
def X.sv_has : Fld := ⟨36051, 0, 1, .ro, .any, fun _ => 0⟩
/-- The predicted DTIME of the head's next SAM, in ps (R177, R478). -/
def X.sv_next : Fld := ⟨36083, 0, 80, .ro, .any, fun _ => 0⟩
/-- Microactuator loop output, signed MA_CMD units (R187). -/
def X.sv_u : Fld := ⟨33635, 0, 32, .ro, .any, fun _ => 0⟩
/-- Feedforward displacement aimed at, signed MA_CMD units (R189). -/
def X.sv_disp : Fld := ⟨33651, 0, 32, .ro, .any, fun _ => 0⟩
/-- Feedforward displacement in force, signed MA_CMD units (R194). -/
def X.sv_dcur : Fld := ⟨33667, 0, 32, .ro, .any, fun _ => 0⟩
/-- Read offset of the slot, signed PU (R164). -/
def X.sv_rofs : Fld := ⟨33683, 0, 16, .ro, .any, fun _ => 0⟩
/-- Consecutive wedges with the write-unsafe bit clear (R146). -/
def X.sv_clean : Fld := ⟨33699, 0, 8, .ro, .any, fun _ => 0⟩
/-- Consecutive wedges with the command at the range limit (R192). -/
def X.sv_sat : Fld := ⟨33715, 0, 8, .ro, .any, fun _ => 0⟩
/-- Consecutive wedges with the position error within ready_thr (R196). -/
def X.sv_rdy : Fld := ⟨33731, 0, 8, .ro, .any, fun _ => 0⟩
/-- The head was removed and joins no comb until its feedback has been good for rejoin_wedges (R200). -/
def X.sv_barred : Fld := ⟨33747, 0, 1, .ro, .any, fun _ => 0⟩
/-- Microactuator stage state x[n-1] of slot k, stage s at 4k + s (R184). -/
def X.sv_mx1 : Fld := ⟨33764, 0, 32, .ro, .any, fun _ => 0⟩
/-- Stage state x[n-2]. -/
def X.sv_mx2 : Fld := ⟨33780, 0, 32, .ro, .any, fun _ => 0⟩
/-- Stage state y[n-1]. -/
def X.sv_my1 : Fld := ⟨33796, 0, 32, .ro, .any, fun _ => 0⟩
/-- Stage state y[n-2]. -/
def X.sv_my2 : Fld := ⟨33812, 0, 32, .ro, .any, fun _ => 0⟩
/-- Position stage state x[n-1] of stage s. -/
def X.sv_px1 : Fld := ⟨33828, 0, 32, .ro, .any, fun _ => 0⟩
/-- Stage state x[n-2]. -/
def X.sv_px2 : Fld := ⟨33844, 0, 32, .ro, .any, fun _ => 0⟩
/-- Stage state y[n-1]. -/
def X.sv_py1 : Fld := ⟨33860, 0, 32, .ro, .any, fun _ => 0⟩
/-- Stage state y[n-2]. -/
def X.sv_py2 : Fld := ⟨33876, 0, 32, .ro, .any, fun _ => 0⟩
/-- Seek reference position, 1/256 PU (R193). -/
def X.sv_pos : Fld := ⟨33889, 0, 48, .ro, .any, fun _ => 0⟩
/-- Seek reference velocity, signed 1/256 PU per wedge. -/
def X.sv_vel : Fld := ⟨33905, 0, 40, .ro, .any, fun _ => 0⟩
/-- Seek reference acceleration, signed 1/256 PU per wedge². -/
def X.sv_acc : Fld := ⟨33921, 0, 32, .ro, .any, fun _ => 0⟩
/-- Seek target, PU. -/
def X.sv_target : Fld := ⟨33937, 0, 32, .ro, .any, fun _ => 0⟩
/-- The seek runs at 100 % limits (R21). -/
def X.sv_urgent : Fld := ⟨33953, 0, 1, .ro, .any, fun _ => 0⟩
/-- A seek target stands (R248, SEEKD). -/
def X.sv_seeking : Fld := ⟨33969, 0, 1, .ro, .any, fun _ => 0⟩
/-- DTIME at the start of the seek (R197). -/
def X.sv_t0 : Fld := ⟨33985, 0, 64, .ro, .any, fun _ => 0⟩
/-- Predicted time of the seek, µs (R197). -/
def X.sv_pred : Fld := ⟨34001, 0, 16, .ro, .any, fun _ => 0⟩
/-- Seek-table entry used, 32 for none (R197). -/
def X.sv_entry : Fld := ⟨34017, 0, 6, .ro, .any, fun _ => 0⟩
/-- Arm error, signed PU (R185). -/
def X.sv_arm_err : Fld := ⟨34033, 0, 32, .ro, .any, fun _ => 0⟩
/-- Set-point delivered, signed (R185, R213). -/
def X.sv_setpoint : Fld := ⟨34049, 0, 16, .ro, .any, fun _ => 0⟩
/-- Consecutive wedges with the arm error within ready_thr (R196). -/
def X.sv_rdy_arm : Fld := ⟨34065, 0, 8, .ro, .any, fun _ => 0⟩
/-- Set-point delivered at the wedge before, signed (R209, R215). -/
def X.sv_sp_prev : Fld := ⟨34081, 0, 16, .ro, .any, fun _ => 0⟩
/-- Wedge ends since the forced swap was requested (R220). -/
def X.sv_swap_n : Fld := ⟨34097, 0, 16, .ro, .any, fun _ => 0⟩
/-- Wedges since every head lost feedback (R199). -/
def X.sv_lost_all : Fld := ⟨34113, 0, 8, .ro, .any, fun _ => 0⟩
/-- A park's seek to park_track runs (R202). -/
def X.sv_park_seek : Fld := ⟨34129, 0, 1, .ro, .any, fun _ => 0⟩
/-- The actuator parks after a hold: pair fault or feedback loss. -/
def X.sv_park_after : Fld := ⟨34145, 0, 1, .ro, .any, fun _ => 0⟩
/-- A comb plan has been requested (R190). -/
def X.sv_plan_req : Fld := ⟨34161, 0, 1, .ro, .any, fun _ => 0⟩
/-- The comb descriptor of the request (R250). -/
def X.sv_plan_desc : Fld := ⟨34177, 0, 64, .ro, .any, fun _ => 0⟩
/-- A plan has been delivered (R248, PLAN). -/
def X.sv_plan_ok : Fld := ⟨34193, 0, 1, .ro, .any, fun _ => 0⟩
/-- Slots of the current sub-comb. -/
def X.sv_sub : Fld := ⟨34209, 0, 16, .ro, .any, fun _ => 0⟩
/-- Centre of the current sub-comb, signed PU (R189). -/
def X.sv_centre : Fld := ⟨34225, 0, 32, .ro, .any, fun _ => 0⟩
/-- Reference arm position of the comb, PU (R189). -/
def X.sv_ref : Fld := ⟨34241, 0, 32, .ro, .any, fun _ => 0⟩
/-- A member of the current comb was removed (R248, REM). -/
def X.sv_rem : Fld := ⟨34257, 0, 1, .ro, .any, fun _ => 0⟩
/-- The actuator's write-unsafe bit (R201). -/
def X.sv_unsafe_act : Fld := ⟨34273, 0, 1, .ro, .any, fun _ => 0⟩
/-- Every head is write-unsafe for this wedge (R213, R214). -/
def X.sv_force_unsafe : Fld := ⟨34289, 0, 1, .ro, .any, fun _ => 0⟩
/-- Consecutive wedges of implausibility of the remaining engine (R216). -/
def X.sv_single_imp : Fld := ⟨34305, 0, 2, .ro, .any, fun _ => 0⟩
/-- Consecutive unresolved wedges (R213). -/
def X.sv_unres : Fld := ⟨34321, 0, 8, .ro, .any, fun _ => 0⟩
/-- Wedges left in which a swapped engine's failure returns the pair (R220). -/
def X.sv_swap_check : Fld := ⟨34337, 0, 2, .ro, .any, fun _ => 0⟩
/-- The active engine's leg failed its check; the pair switches over at the next wedge (R215). -/
def X.sv_leg_fail : Fld := ⟨34353, 0, 1, .ro, .any, fun _ => 0⟩
/-- Engine 2a reported a self-check error (R210). -/
def X.sv_self0 : Fld := ⟨34369, 0, 1, .ro, .any, fun _ => 0⟩
/-- Engine 2a + 1 reported a self-check error. -/
def X.sv_self1 : Fld := ⟨34385, 0, 1, .ro, .any, fun _ => 0⟩
/-- Engine 2a missed its deadline in the wedge (R182). -/
def X.sv_miss0 : Fld := ⟨34401, 0, 1, .ro, .any, fun _ => 0⟩
/-- Engine 2a + 1 missed its deadline in the wedge. -/
def X.sv_miss1 : Fld := ⟨34417, 0, 1, .ro, .any, fun _ => 0⟩
/-- Wedges left before a pair fault parks the actuator (R217). -/
def X.sv_fault_hold : Fld := ⟨34433, 0, 8, .ro, .any, fun _ => 0⟩
/-- Injection runs (R205). -/
def X.sv_inj : Fld := ⟨34449, 0, 1, .ro, .any, fun _ => 0⟩
/-- Wedges of injection so far. -/
def X.sv_inj_n : Fld := ⟨34465, 0, 16, .ro, .any, fun _ => 0⟩
/-- Injection phase, 2⁻³² cycle. -/
def X.sv_inj_phase : Fld := ⟨34481, 0, 32, .ro, .any, fun _ => 0⟩
/-- Injection signal of the wedge, signed. -/
def X.sv_inj_val : Fld := ⟨34497, 0, 32, .ro, .any, fun _ => 0⟩
/-- Samples written since recording began, modulo the buffer. -/
def X.sv_tr_n : Fld := ⟨34513, 0, 16, .ro, .any, fun _ => 0⟩
/-- Samples written since the trigger. -/
def X.sv_tr_post : Fld := ⟨34529, 0, 16, .ro, .any, fun _ => 0⟩
/-- Wedges since the last recorded one. -/
def X.sv_tr_dec : Fld := ⟨34545, 0, 8, .ro, .any, fun _ => 0⟩
/-- The duties at which the spindle's phases A, B and C are driven, in 1/65,534; 0 while they are not driven in SINE (R228). -/
def X.spin_duty : Fld := ⟨36112, 0, 17, .ro, .any, fun _ => 0⟩
/-- The wedge period in progress is the first after a spindle index (R248, INDEX). -/
def X.sv_index : Fld := ⟨34561, 0, 1, .ro, .any, fun _ => 0⟩
/-! Motors. -/
/-- 0 none; 1 load; 2 velocity phase of an unload or retract; 3 latch (R239). -/
def X.vcm_phase : Fld := ⟨34577, 0, 2, .ro, .any, fun _ => 0⟩
/-- The retract in progress follows a power loss (R240). -/
def X.vcm_pl : Fld := ⟨34593, 0, 1, .ro, .any, fun _ => 0⟩
/-- The power-loss retract has held VM so far. -/
def X.vcm_ok : Fld := ⟨34609, 0, 1, .ro, .any, fun _ => 0⟩
/-- VCMa_FLT_N is asserted (R224). -/
def X.vcm_flt : Fld := ⟨34624, 0, 1, .ro, .any, fun _ => 0⟩
/-- Integral of the channel's current loop, signed (R237). -/
def X.vcm_int : Fld := ⟨34641, 0, 32, .ro, .any, fun _ => 0⟩
/-- A retract is carried across a reset; MC registers are reset when it ends (R242). -/
def X.mc_carry : Fld := ⟨34667, 0, 1, .ro, .any, fun _ => 0⟩
/-- DTIME of the actuator's last wedge end (R230). -/
def X.sv_wend : Fld := ⟨34673, 0, 64, .ro, .any, fun _ => 0⟩
/-- Consecutive consistent back-EMF zero crossings (R225). -/
def X.spin_cross : Fld := ⟨34688, 0, 8, .ro, .any, fun _ => 0⟩
/-- catch_ms has passed since the start command (R226). -/
def X.spin_catch_out : Fld := ⟨34704, 0, 1, .ro, .any, fun _ => 0⟩
/-- Retries made since the start command (R226). -/
def X.spin_tries : Fld := ⟨34720, 0, 4, .ro, .any, fun _ => 0⟩
/-- A retry follows the RUNDOWN in progress (R226). -/
def X.spin_retry : Fld := ⟨34736, 0, 1, .ro, .any, fun _ => 0⟩
/-- Target of the speed loop, 10⁻⁴ rpm (R229, R232). -/
def X.spin_tgt : Fld := ⟨34752, 0, 32, .ro, .any, fun _ => 0⟩
/-- Output of the speed loop, signed, 10 mA units (R229). -/
def X.spin_out : Fld := ⟨34768, 0, 16, .ro, .any, fun _ => 0⟩
/-- Integral of the speed loop, signed (R229). -/
def X.spin_int : Fld := ⟨34784, 0, 32, .ro, .any, fun _ => 0⟩
/-- Consecutive observer updates below lock_thr (R229). -/
def X.spin_lock_n : Fld := ⟨34800, 0, 6, .ro, .any, fun _ => 0⟩
/-- Consecutive observer updates above loss_thr (R229). -/
def X.spin_loss_n : Fld := ⟨34816, 0, 8, .ro, .any, fun _ => 0⟩
/-- Electrical angle of the last observer update (R229). -/
def X.spin_theta : Fld := ⟨34832, 0, 16, .ro, .any, fun _ => 0⟩
/-- Mechanical angle, 1/65,536 electrical cycle (R231). -/
def X.spin_mech : Fld := ⟨34848, 0, 24, .ro, .any, fun _ => 0⟩
/-- Mechanical angle turned within the at-speed tolerance, 1/65,536 electrical cycle (R229). -/
def X.spin_tol : Fld := ⟨34864, 0, 32, .ro, .any, fun _ => 0⟩
/-- 100 µs steps of the amplitude ramp after reacquisition, 10 for ended (R230). -/
def X.spin_soft : Fld := ⟨34880, 0, 4, .ro, .any, fun _ => 0⟩
/-- The speed is known in COAST (R230). -/
def X.spin_known : Fld := ⟨34896, 0, 1, .ro, .any, fun _ => 0⟩
/-- The spindle was stopped by the curve (R233). -/
def X.spin_curve : Fld := ⟨34912, 0, 1, .ro, .any, fun _ => 0⟩
/-- A stop or start command overrides the curve (R233). -/
def X.spin_over : Fld := ⟨34928, 0, 1, .ro, .any, fun _ => 0⟩
/-- The spindle brakes when every actuator is parked (R233, R234). -/
def X.spin_wait : Fld := ⟨34944, 0, 1, .ro, .any, fun _ => 0⟩
/-- The low-side hold after braking runs (R225). -/
def X.spin_hold : Fld := ⟨34960, 0, 1, .ro, .any, fun _ => 0⟩
/-- The brake chopper is marked faulted (R235). -/
def X.chop_fault : Fld := ⟨34976, 0, 1, .ro, .any, fun _ => 0⟩
/-- The BRK_EN output (R221, R234). -/
def X.brk_en : Fld := ⟨34992, 0, 1, .ro, .any, fun _ => 0⟩
/-- VM was last seen at or above ov_thr (R235). -/
def X.bus_ov : Fld := ⟨35008, 0, 1, .ro, .any, fun _ => 0⟩
/-- Effective part ceiling C at the last rebalance (R337). -/
def X.hg_c : Fld := ⟨35024, 0, 14, .ro, .any, fun _ => 0⟩
/-- The sensor has given a sample since the last reset (R355). -/
def X.th_seen : Fld := ⟨35040, 0, 1, .ro, .any, fun _ => 0⟩
/-- The sensor's last sample was at or above the shutdown threshold (R359). -/
def X.th_shut : Fld := ⟨35056, 0, 1, .ro, .any, fun _ => 0⟩
/-- The throttle threshold is reached and not cleared (R357). -/
def X.th_throttle : Fld := ⟨35072, 0, 1, .ro, .any, fun _ => 0⟩
/-- Bit 3 of the front-end's last STATUS for the head (R145). -/
def X.fe_window : Fld := ⟨35091, 0, 1, .ro, .any, fun _ => 0⟩
/-! Power states and resets. -/
/-- Entry steps of R374 in force: 0 in ACTIVE and IDLE-A, 5 in IDLE-B, 7 in STANDBY. -/
def X.pwr_level : Fld := ⟨35104, 0, 3, .ro, .any, fun _ => 7⟩
/-- 1 + the target written during a transition; 0 for none (R375). -/
def X.pwr_new : Fld := ⟨35120, 0, 3, .ro, .any, fun _ => 0⟩
/-- An I/O doorbell came during an entry (R375). -/
def X.pwr_wake : Fld := ⟨35136, 0, 1, .ro, .any, fun _ => 0⟩
/-- DEEP has been asked for, and is entered from STANDBY (R376). -/
def X.pwr_deep : Fld := ⟨35158, 0, 1, .ro, .any, fun _ => 0⟩
/-- The head's lane sleeps because of IDLE-A (R99, R372). -/
def X.pwr_slept : Fld := ⟨35168, 0, 1, .ro, .any, fun _ => 0⟩
/-- The part is in DEEP (R376). -/
def X.deep_in : Fld := ⟨35190, 0, 1, .ro, .any, fun _ => 0⟩
/-- An exit from DEEP has been asked for (R376). -/
def X.deep_wake : Fld := ⟨35206, 0, 1, .ro, .any, fun _ => 0⟩
/-- The CORE_EN output (R376, R464). -/
def X.core_en : Fld := ⟨35222, 0, 1, .ro, .any, fun _ => 1⟩
/-- The spindle is commanded to the target speed, not the curve's, since the part left IDLE-B (R372, R374). -/
def X.spin_full : Fld := ⟨35232, 0, 1, .ro, .any, fun _ => 0⟩
/-! Processors and interrupts. -/
/-- Caches invalidate from the release of internal reset (R419). -/
def X.cache_inval : Fld := ⟨35248, 0, 1, .ro, .any, fun _ => 1⟩
/-- Address at which the core last started (R414). -/
def X.ap_start : Fld := ⟨35264, 0, 40, .ro, .any, fun _ => 0⟩
/-- The core's machine timer interrupt is raised (R412). -/
def X.ap_mtip : Fld := ⟨35280, 0, 1, .ro, .any, fun _ => 0⟩
/-- The maintenance operation running (R422). -/
def X.cmo_op : Fld := ⟨35296, 0, 3, .ro, .any, fun _ => 0⟩
/-- The result with which it ends. -/
def X.cmo_end : Fld := ⟨35312, 0, 3, .ro, .any, fun _ => 0⟩
/-- The address it reaches. -/
def X.cmo_addr : Fld := ⟨35328, 0, 40, .ro, .any, fun _ => 0⟩
/-- The maintenance operation waits at a line whose fill is under way (R424). -/
def X.cmo_held : Fld := ⟨36128, 0, 1, .ro, .any, fun _ => 0⟩
/-- The line at which it waits. -/
def X.cmo_at : Fld := ⟨36144, 0, 40, .ro, .any, fun _ => 0⟩
/-- The level input of the source, as the IC sees it (R427). -/
def X.ic_in : Fld := ⟨35344, 0, 1, .ro, .any, fun _ => 0⟩
/-- The edge latch of the source holds an edge (R427). -/
def X.ic_latch : Fld := ⟨35360, 0, 1, .ro, .any, fun _ => 0⟩
/-- The target the source is offered to (R429). -/
def X.ic_to : Fld := ⟨35376, 0, 4, .ro, .any, fun _ => 0⟩
/-- 1 + the target the source is in service for; 0 for none (R431). -/
def X.ic_serv : Fld := ⟨35392, 0, 4, .ro, .any, fun _ => 0⟩
/-- Moderation has released the source's offer (R430). -/
def X.ic_rel : Fld := ⟨35408, 0, 10, .ro, .any, fun _ => 0⟩
/-- The management core runs (R387). -/
def X.mgt_run : Fld := ⟨35430, 0, 1, .ro, .any, fun _ => 0⟩
/-! Boot and firmware. -/
/-- The boot sequence has not run since the reset (R367). -/
def X.boot_wait : Fld := ⟨35440, 0, 1, .ro, .any, fun _ => 1⟩
/-- The straps: bit 0 PCIE_MODE, 1 MP_SEL, 2 MP_ADDR0 (R451). -/
def X.straps : Fld := ⟨35467, 0, 3, .ro, .any, fun _ => 0⟩
/-- An activation without reset waits for the new firmware's ready signal (R328). -/
def X.fw_act : Fld := ⟨35472, 0, 1, .ro, .any, fun _ => 0⟩
/-- 1 + the context of its Firmware Commit. -/
def X.fw_ctx : Fld := ⟨35488, 0, 14, .ro, .any, fun _ => 0⟩
/-- Its flash write runs (R390). -/
def X.fw_flash : Fld := ⟨35504, 0, 1, .ro, .any, fun _ => 0⟩
/-- The slot it writes. -/
def X.fw_slot : Fld := ⟨35520, 0, 1, .ro, .any, fun _ => 0⟩
/-- The new firmware has confirmed before its flash write ended (R390). -/
def X.fw_ready : Fld := ⟨35536, 0, 1, .ro, .any, fun _ => 0⟩
/-- Application firmware committed for the next controller reset waits in the staging buffer (R327). -/
def X.app_late : Fld := ⟨35552, 0, 1, .ro, .any, fun _ => 0⟩
/-- The park in progress includes a spin-down (R456). -/
def X.mp_stop : Fld := ⟨35574, 0, 1, .ro, .any, fun _ => 0⟩
/-- End Park has come during a park in progress, and clears the latch once that is answered (R458). -/
def X.mp_ending : Fld := ⟨35590, 0, 1, .ro, .any, fun _ => 0⟩
/-- The bus frequency that Configuration Set chose: 1 100 kHz, 2 400 kHz, 3 1 MHz (R451, R453). -/
def X.mp_freq : Fld := ⟨35609, 0, 2, .ro, .any, fun _ => 1⟩
/-- The management watchdog has expired and its event record waits for the recorder (R459). -/
def X.mp_wdt_ev : Fld := ⟨35622, 0, 1, .ro, .any, fun _ => 0⟩
/-- The 31-bit LFSR of the noise injection (R205). -/
def X.sv_lfsr : Fld := ⟨36161, 0, 31, .ro, .any, fun _ => 0⟩
/-- The arm velocity that a channel estimates, in mrad/s (R239). -/
def X.vcm_vel : Fld := ⟨36177, 0, 32, .ro, .any, fun _ => 0⟩
/-- How long the P and N half-bridges of a channel are high in each PWM period of the tick but the last, in 1/65,534 of the period (R236). -/
def X.vcm_hi_p : Fld := ⟨36193, 0, 16, .ro, .any, fun _ => 0⟩
def X.vcm_hi_n : Fld := ⟨36209, 0, 16, .ro, .any, fun _ => 0⟩
/-- The same of the last period of the tick, whose depth is limited (R238). -/
def X.vcm_end_p : Fld := ⟨36225, 0, 16, .ro, .any, fun _ => 0⟩
def X.vcm_end_n : Fld := ⟨36241, 0, 16, .ro, .any, fun _ => 0⟩
/-- A checkpoint of the zone table is being written to the pair that is not active (R272). -/
def X.zx_ckpt : Fld := ⟨36256, 0, 1, .ro, .any, fun _ => 0⟩
/-- Journal positions used in that pair. -/
def X.zx_ck_used : Fld := ⟨36272, 0, 24, .ro, .any, fun _ => 0⟩
/-- What the journal on the media shows a recovery: the active pair and the last durable sequence number (R273). -/
def X.zx_med_active : Fld := ⟨36299, 0, 1, .ro, .any, fun _ => 0⟩
def X.zx_med_seq : Fld := ⟨36315, 0, 32, .ro, .any, fun _ => 0⟩
/-- The queue that a controller's class was last fetched from, and the commands in a row taken from it; index controller × 4 + class
(R320). -/
def X.arb_qid : Fld := ⟨36320, 0, 16, .ro, .any, fun _ => 0⟩
def X.arb_run : Fld := ⟨36336, 0, 16, .ro, .any, fun _ => 0⟩
/-- The class of a controller's weighted rounds, and the commands that it has taken of its weight (R320). -/
def X.arb_cls : Fld := ⟨36352, 0, 2, .ro, .any, fun _ => 0⟩
def X.arb_cnt : Fld := ⟨36368, 0, 16, .ro, .any, fun _ => 0⟩
/-- An ACT reset began during the transition that runs: the actuator's steps are skipped (R375). -/
def X.pwr_skip : Fld := ⟨36432, 0, 1, .ro, .any, fun _ => 0⟩
/-- A temperature threshold that a controller set has been reached; index 16 × controller + 2 × selector + (1 for under) (R364). -/
def X.temp_hit : Fld := ⟨36416, 0, 1, .ro, .any, fun _ => 0⟩
/-- DTIME at which the self-test yielded, and the time that it has yielded before that, in ns (R330). -/
def X.dst_at : Fld := ⟨36384, 0, 64, .ro, .any, fun _ => 0⟩
def X.dst_yielded : Fld := ⟨36400, 0, 64, .ro, .any, fun _ => 0⟩

end Sys2Proof.Machine
end

