-- ==== Sys2Proof/Machine/Regs.lean ====
section
/-! DEFINITION. The register map of the part, field by field: every register of the register tables of the spec's
chapters, with its address (R12), replication strides (R9), width, field positions, field types (R6), the storage
rule its description states (R8) and its reset value. A reset value that the table gives as "Image", "Strap", "ROM"
or "OTP" stands here as 0 and is written when the boot sequence loads it (log entry 4). -/

namespace Sys2Proof.Machine

/-- One quarter wave of the reset contents of MC_SIN_TAB, round(32,767 × sin(2πi ÷ 1,024)) for i = 0–256. -/
def sinQuarter : List Nat :=
  [0, 201, 402, 603, 804, 1005, 1206, 1407, 1608, 1809, 2009, 2210, 2410, 2611, 2811, 3012, 3212, 3412, 3612, 3811, 4011, 4210, 4410, 4609, 4808, 5007, 5205, 5404, 5602, 5800, 5998, 6195] ++
  [6393, 6590, 6786, 6983, 7179, 7375, 7571, 7767, 7962, 8157, 8351, 8545, 8739, 8933, 9126, 9319, 9512, 9704, 9896, 10087, 10278, 10469, 10659, 10849, 11039, 11228, 11417, 11605, 11793, 11980, 12167, 12353] ++
  [12539, 12725, 12910, 13094, 13279, 13462, 13645, 13828, 14010, 14191, 14372, 14553, 14732, 14912, 15090, 15269, 15446, 15623, 15800, 15976, 16151, 16325, 16499, 16673, 16846, 17018, 17189, 17360, 17530, 17700, 17869, 18037] ++
  [18204, 18371, 18537, 18703, 18868, 19032, 19195, 19357, 19519, 19680, 19841, 20000, 20159, 20317, 20475, 20631, 20787, 20942, 21096, 21250, 21403, 21554, 21705, 21856, 22005, 22154, 22301, 22448, 22594, 22739, 22884, 23027] ++
  [23170, 23311, 23452, 23592, 23731, 23870, 24007, 24143, 24279, 24413, 24547, 24680, 24811, 24942, 25072, 25201, 25329, 25456, 25582, 25708, 25832, 25955, 26077, 26198, 26319, 26438, 26556, 26674, 26790, 26905, 27019, 27133] ++
  [27245, 27356, 27466, 27575, 27683, 27790, 27896, 28001, 28105, 28208, 28310, 28411, 28510, 28609, 28706, 28803, 28898, 28992, 29085, 29177, 29268, 29358, 29447, 29534, 29621, 29706, 29791, 29874, 29956, 30037, 30117, 30195] ++
  [30273, 30349, 30424, 30498, 30571, 30643, 30714, 30783, 30852, 30919, 30985, 31050, 31113, 31176, 31237, 31297, 31356, 31414, 31470, 31526, 31580, 31633, 31685, 31736, 31785, 31833, 31880, 31926, 31971, 32014, 32057, 32098] ++
  [32137, 32176, 32213, 32250, 32285, 32318, 32351, 32382, 32412, 32441, 32469, 32495, 32521, 32545, 32567, 32589, 32609, 32628, 32646, 32663, 32678, 32692, 32705, 32717, 32728, 32737, 32745, 32752, 32757, 32761, 32765, 32766] ++
  [32767]

/-- Reset value of MC_SIN_TAB entry i, as a 16-bit two's complement number. -/
def sinTabReset (i : Nat) : Nat :=
  let j := i % 1024
  if j ≤ 256 then sinQuarter.getD j 0
  else if j ≤ 512 then sinQuarter.getD (512 - j) 0
  else if j ≤ 768 then (65536 - sinQuarter.getD (j - 512) 0) % 65536
  else (65536 - sinQuarter.getD (1024 - j) 0) % 65536

def SC_CTRL.miss_action : Fld := ⟨0, 12, 1, .rw, .any, fun _ => 0⟩
def SC_CTRL.actuator : Fld := ⟨16, 8, 2, .rw, .any, fun _ => 0⟩
def SC_CTRL.instant_kind : Fld := ⟨32, 4, 2, .rw, .any, fun _ => 0⟩
def SC_CTRL.action : Fld := ⟨48, 0, 3, .wo, .any, fun _ => 0⟩
/-- SC_CTRL (03_staged_commit.md): 32 bits; reset by POR, WRM, WDG. -/
def SC_CTRL : Reg := ⟨"SC_CTRL", 0x21500000, [], 32,
  [SC_CTRL.miss_action, SC_CTRL.actuator, SC_CTRL.instant_kind, SC_CTRL.action]⟩

def SC_INSTANT.value : Fld := ⟨64, 0, 64, .rw, .any, fun _ => 0⟩
/-- SC_INSTANT (03_staged_commit.md): 64 bits; reset by POR, WRM, WDG. -/
def SC_INSTANT : Reg := ⟨"SC_INSTANT", 0x21500008, [], 64,
  [SC_INSTANT.value]⟩

def SC_DEADLINE.dtime : Fld := ⟨80, 0, 64, .rw, .any, fun _ => 0⟩
/-- SC_DEADLINE (03_staged_commit.md): 64 bits; reset by POR, WRM, WDG. -/
def SC_DEADLINE : Reg := ⟨"SC_DEADLINE", 0x21500010, [], 64,
  [SC_DEADLINE.dtime]⟩

def SC_STATUS.reg_addr : Fld := ⟨96, 16, 40, .ro, .any, fun _ => 0⟩
def SC_STATUS.rule : Fld := ⟨112, 8, 8, .ro, .any, fun _ => 0⟩
def SC_STATUS.result : Fld := ⟨128, 4, 4, .ro, .any, fun _ => 0⟩
def SC_STATUS.state : Fld := ⟨144, 0, 3, .ro, .any, fun _ => 0⟩
/-- SC_STATUS (03_staged_commit.md): 64 bits; reset by POR, WRM, WDG. -/
def SC_STATUS : Reg := ⟨"SC_STATUS", 0x21500018, [], 64,
  [SC_STATUS.reg_addr, SC_STATUS.rule, SC_STATUS.result, SC_STATUS.state]⟩

def SC_LAST.dtime : Fld := ⟨160, 0, 64, .ro, .any, fun _ => 0⟩
/-- SC_LAST (03_staged_commit.md): 64 bits; reset by POR, WRM, WDG. -/
def SC_LAST : Reg := ⟨"SC_LAST", 0x21500020, [], 64,
  [SC_LAST.dtime]⟩

def SC_EPOCH.count : Fld := ⟨176, 0, 32, .ro, .any, fun _ => 0⟩
/-- SC_EPOCH (03_staged_commit.md): 32 bits; reset by POR, WRM, WDG. -/
def SC_EPOCH : Reg := ⟨"SC_EPOCH", 0x21500028, [], 32,
  [SC_EPOCH.count]⟩

def SC_PEEK_ADDR.addr : Fld := ⟨192, 0, 40, .rw, .any, fun _ => 0⟩
/-- SC_PEEK_ADDR (03_staged_commit.md): 64 bits; reset by POR, WRM, WDG. -/
def SC_PEEK_ADDR : Reg := ⟨"SC_PEEK_ADDR", 0x21500030, [], 64,
  [SC_PEEK_ADDR.addr]⟩

def SC_PEEK_DATA.value : Fld := ⟨208, 0, 64, .ro, .any, fun _ => 0⟩
/-- SC_PEEK_DATA (03_staged_commit.md): 64 bits; reset by POR, WRM, WDG. -/
def SC_PEEK_DATA : Reg := ⟨"SC_PEEK_DATA", 0x21500038, [], 64,
  [SC_PEEK_DATA.value]⟩

def SC_INT.not_applied : Fld := ⟨224, 2, 1, .w1c, .any, fun _ => 0⟩
def SC_INT.check_done : Fld := ⟨240, 1, 1, .w1c, .any, fun _ => 0⟩
def SC_INT.applied : Fld := ⟨256, 0, 1, .w1c, .any, fun _ => 0⟩
/-- SC_INT (03_staged_commit.md): 32 bits; reset by POR, WRM, WDG. -/
def SC_INT : Reg := ⟨"SC_INT", 0x21500040, [], 32,
  [SC_INT.not_applied, SC_INT.check_done, SC_INT.applied]⟩

def HL_CTRL.attempts : Fld := ⟨272, 7, 2, .rw, .any, fun _ => 3⟩
def HL_CTRL.auto_retrain : Fld := ⟨288, 6, 1, .rw, .any, fun _ => 1⟩
def HL_CTRL.ka_period : Fld := ⟨304, 1, 5, .rw, .clamp 5 20, fun _ => 10⟩
def HL_CTRL.enable : Fld := ⟨320, 0, 1, .rw, .any, fun _ => 0⟩
/-- HL_CTRL (04_head_link.md): 32 bits; reset by POR, WRM, WDG. -/
def HL_CTRL : Reg := ⟨"HL_CTRL", 0x20A00000, [], 32,
  [HL_CTRL.attempts, HL_CTRL.auto_retrain, HL_CTRL.ka_period, HL_CTRL.enable]⟩

def HL_INT.tx_drop : Fld := ⟨336, 7, 1, .w1c, .any, fun _ => 0⟩
def HL_INT.fe_fault : Fld := ⟨352, 6, 1, .w1c, .any, fun _ => 0⟩
def HL_INT.ct_fail : Fld := ⟨368, 5, 1, .w1c, .any, fun _ => 0⟩
def HL_INT.ct_rx : Fld := ⟨384, 4, 1, .w1c, .any, fun _ => 0⟩
def HL_INT.mismatch : Fld := ⟨400, 3, 1, .w1c, .any, fun _ => 0⟩
def HL_INT.marginal : Fld := ⟨416, 2, 1, .w1c, .any, fun _ => 0⟩
def HL_INT.lane_recovered : Fld := ⟨432, 1, 1, .w1c, .any, fun _ => 0⟩
def HL_INT.lane_lost : Fld := ⟨448, 0, 1, .w1c, .any, fun _ => 0⟩
/-- HL_INT (04_head_link.md): 32 bits; reset by POR, WRM, WDG. -/
def HL_INT : Reg := ⟨"HL_INT", 0x20A00008, [], 32,
  [HL_INT.tx_drop, HL_INT.fe_fault, HL_INT.ct_fail, HL_INT.ct_rx, HL_INT.mismatch, HL_INT.marginal, HL_INT.lane_recovered, HL_INT.lane_lost]⟩

def HL_EYE_MIN.w_min : Fld := ⟨464, 8, 8, .rw, .any, fun _ => 32⟩
def HL_EYE_MIN.h_min : Fld := ⟨480, 0, 8, .rw, .any, fun _ => 16⟩
/-- HL_EYE_MIN (04_head_link.md): 32 bits; reset by POR, WRM, WDG. -/
def HL_EYE_MIN : Reg := ⟨"HL_EYE_MIN", 0x20A00010, [], 32,
  [HL_EYE_MIN.w_min, HL_EYE_MIN.h_min]⟩

def HL_GROUP_CTRL.down_rate_limit : Fld := ⟨498, 4, 2, .rw, .within 2 3, fun _ => 3⟩
def HL_GROUP_CTRL.ka_stop : Fld := ⟨514, 3, 1, .rw, .any, fun _ => 0⟩
def HL_GROUP_CTRL.action : Fld := ⟨530, 0, 3, .wo, .any, fun _ => 0⟩
/-- HL_GROUP_CTRL (04_head_link.md): 32 bits; reset by POR, WRM, WDG, ACT. -/
def HL_GROUP_CTRL : Reg := ⟨"HL_GROUP_CTRL", 0x20A01000, [(256, 16)], 32,
  [HL_GROUP_CTRL.down_rate_limit, HL_GROUP_CTRL.ka_stop, HL_GROUP_CTRL.action]⟩

def HL_GROUP_STATUS.dcrc : Fld := ⟨546, 48, 16, .ro, .any, fun _ => 0⟩
def HL_GROUP_STATUS.assist : Fld := ⟨562, 40, 3, .ro, .any, fun _ => 0⟩
def HL_GROUP_STATUS.fe_rev : Fld := ⟨578, 32, 8, .ro, .any, fun _ => 0⟩
def HL_GROUP_STATUS.fe_id : Fld := ⟨594, 16, 16, .ro, .any, fun _ => 0⟩
def HL_GROUP_STATUS.attempts_used : Fld := ⟨610, 12, 4, .ro, .any, fun _ => 0⟩
def HL_GROUP_STATUS.ka_active : Fld := ⟨626, 11, 1, .ro, .any, fun _ => 0⟩
def HL_GROUP_STATUS.fe_safe : Fld := ⟨642, 10, 1, .ro, .any, fun _ => 0⟩
def HL_GROUP_STATUS.down_rate : Fld := ⟨658, 8, 2, .ro, .any, fun _ => 0⟩
def HL_GROUP_STATUS.cause : Fld := ⟨674, 4, 4, .ro, .any, fun _ => 0⟩
def HL_GROUP_STATUS.state : Fld := ⟨690, 0, 4, .ro, .any, fun _ => 0⟩
/-- HL_GROUP_STATUS (04_head_link.md): 64 bits; reset by POR, WRM, WDG, ACT. -/
def HL_GROUP_STATUS : Reg := ⟨"HL_GROUP_STATUS", 0x20A01008, [(256, 16)], 64,
  [HL_GROUP_STATUS.dcrc, HL_GROUP_STATUS.assist, HL_GROUP_STATUS.fe_rev, HL_GROUP_STATUS.fe_id, HL_GROUP_STATUS.attempts_used, HL_GROUP_STATUS.ka_active, HL_GROUP_STATUS.fe_safe, HL_GROUP_STATUS.down_rate, HL_GROUP_STATUS.cause, HL_GROUP_STATUS.state]⟩

def HL_CT_TXLO.bytes : Fld := ⟨706, 0, 64, .rw, .any, fun _ => 0⟩
/-- HL_CT_TXLO (04_head_link.md): 64 bits; reset by POR, WRM, WDG, ACT. -/
def HL_CT_TXLO : Reg := ⟨"HL_CT_TXLO", 0x20A01020, [(256, 16)], 64,
  [HL_CT_TXLO.bytes]⟩

def HL_CT_TXHI.bytes : Fld := ⟨722, 0, 64, .wo, .any, fun _ => 0⟩
/-- HL_CT_TXHI (04_head_link.md): 64 bits; reset by POR, WRM, WDG, ACT. -/
def HL_CT_TXHI : Reg := ⟨"HL_CT_TXHI", 0x20A01028, [(256, 16)], 64,
  [HL_CT_TXHI.bytes]⟩

def HL_CT_RXLO.bytes : Fld := ⟨738, 0, 64, .ro, .any, fun _ => 0⟩
/-- HL_CT_RXLO (04_head_link.md): 64 bits; reset by POR, WRM, WDG, ACT. -/
def HL_CT_RXLO : Reg := ⟨"HL_CT_RXLO", 0x20A01030, [(256, 16)], 64,
  [HL_CT_RXLO.bytes]⟩

def HL_CT_RXHI.bytes : Fld := ⟨754, 0, 64, .ro, .any, fun _ => 0⟩
/-- HL_CT_RXHI (04_head_link.md): 64 bits; reset by POR, WRM, WDG, ACT. -/
def HL_CT_RXHI : Reg := ⟨"HL_CT_RXHI", 0x20A01038, [(256, 16)], 64,
  [HL_CT_RXHI.bytes]⟩

def HL_CT_QSTAT.rx_count : Fld := ⟨770, 8, 6, .ro, .any, fun _ => 0⟩
def HL_CT_QSTAT.tx_free : Fld := ⟨786, 0, 6, .ro, .any, fun _ => 32⟩
/-- HL_CT_QSTAT (04_head_link.md): 32 bits; reset by POR, WRM, WDG, ACT. -/
def HL_CT_QSTAT : Reg := ⟨"HL_CT_QSTAT", 0x20A01040, [(256, 16)], 32,
  [HL_CT_QSTAT.rx_count, HL_CT_QSTAT.tx_free]⟩

def HL_ULANE_CTRL.action : Fld := ⟨803, 4, 4, .wo, .any, fun _ => 0⟩
def HL_ULANE_CTRL.seed_eq : Fld := ⟨819, 2, 1, .rw, .any, fun _ => 0⟩
def HL_ULANE_CTRL.rate_limit : Fld := ⟨835, 0, 2, .rw, .any, fun _ => 3⟩
/-- HL_ULANE_CTRL (04_head_link.md): 32 bits; reset by POR, WRM, WDG, ACT. -/
def HL_ULANE_CTRL : Reg := ⟨"HL_ULANE_CTRL", 0x20A02000, [(256, 64)], 32,
  [HL_ULANE_CTRL.action, HL_ULANE_CTRL.seed_eq, HL_ULANE_CTRL.rate_limit]⟩

def HL_ULANE_STATUS.slot : Fld := ⟨851, 16, 8, .ro, .any, fun _ => 0⟩
def HL_ULANE_STATUS.attempts_used : Fld := ⟨867, 12, 4, .ro, .any, fun _ => 0⟩
def HL_ULANE_STATUS.layout : Fld := ⟨883, 8, 2, .ro, .any, fun _ => 0⟩
def HL_ULANE_STATUS.widths : Fld := ⟨899, 6, 2, .ro, .any, fun _ => 0⟩
def HL_ULANE_STATUS.rate : Fld := ⟨915, 4, 2, .ro, .any, fun _ => 0⟩
def HL_ULANE_STATUS.state : Fld := ⟨931, 0, 3, .ro, .any, fun _ => 0⟩
/-- HL_ULANE_STATUS (04_head_link.md): 32 bits; reset by POR, WRM, WDG, ACT. -/
def HL_ULANE_STATUS : Reg := ⟨"HL_ULANE_STATUS", 0x20A02008, [(256, 64)], 32,
  [HL_ULANE_STATUS.slot, HL_ULANE_STATUS.attempts_used, HL_ULANE_STATUS.layout, HL_ULANE_STATUS.widths, HL_ULANE_STATUS.rate, HL_ULANE_STATUS.state]⟩

def HL_ULANE_EYE.valid : Fld := ⟨947, 25, 1, .ro, .any, fun _ => 0⟩
def HL_ULANE_EYE.marginal : Fld := ⟨963, 24, 1, .ro, .any, fun _ => 0⟩
def HL_ULANE_EYE.e_rms : Fld := ⟨979, 16, 8, .ro, .any, fun _ => 0⟩
def HL_ULANE_EYE.eye_w : Fld := ⟨995, 8, 8, .ro, .any, fun _ => 0⟩
def HL_ULANE_EYE.eye_h : Fld := ⟨1011, 0, 8, .ro, .any, fun _ => 0⟩
/-- HL_ULANE_EYE (04_head_link.md): 32 bits; reset by POR, WRM, WDG, ACT. -/
def HL_ULANE_EYE : Reg := ⟨"HL_ULANE_EYE", 0x20A02010, [(256, 64)], 32,
  [HL_ULANE_EYE.valid, HL_ULANE_EYE.marginal, HL_ULANE_EYE.e_rms, HL_ULANE_EYE.eye_w, HL_ULANE_EYE.eye_h]⟩

def HL_ULANE_ERR.lock_loss : Fld := ⟨1027, 48, 16, .ro, .any, fun _ => 0⟩
def HL_ULANE_ERR.seq_gap : Fld := ⟨1043, 32, 16, .ro, .any, fun _ => 0⟩
def HL_ULANE_ERR.crc_err : Fld := ⟨1059, 0, 32, .ro, .any, fun _ => 0⟩
/-- HL_ULANE_ERR (04_head_link.md): 64 bits; reset by POR, WRM, WDG, ACT. -/
def HL_ULANE_ERR : Reg := ⟨"HL_ULANE_ERR", 0x20A02018, [(256, 64)], 64,
  [HL_ULANE_ERR.lock_loss, HL_ULANE_ERR.seq_gap, HL_ULANE_ERR.crc_err]⟩

def HL_ULANE_EQ.tx_post : Fld := ⟨1075, 59, 4, .rw, .any, fun _ => 0⟩
def HL_ULANE_EQ.tx_pre : Fld := ⟨1091, 56, 3, .rw, .any, fun _ => 0⟩
def HL_ULANE_EQ.dfe : Fld := ⟨1107, 8, 48, .rw, .any, fun _ => 0⟩
def HL_ULANE_EQ.vga : Fld := ⟨1123, 4, 4, .rw, .any, fun _ => 0⟩
def HL_ULANE_EQ.ctle : Fld := ⟨1139, 0, 4, .rw, .any, fun _ => 0⟩
/-- HL_ULANE_EQ (04_head_link.md): 64 bits; reset by POR, WRM, WDG, ACT. -/
def HL_ULANE_EQ : Reg := ⟨"HL_ULANE_EQ", 0x20A02020, [(256, 64)], 64,
  [HL_ULANE_EQ.tx_post, HL_ULANE_EQ.tx_pre, HL_ULANE_EQ.dfe, HL_ULANE_EQ.vga, HL_ULANE_EQ.ctle]⟩

def HL_HEAD_CFG.susp_cause : Fld := ⟨1155, 9, 3, .ro, .any, fun _ => 0⟩
def HL_HEAD_CFG.suspended : Fld := ⟨1171, 8, 1, .ro, .any, fun _ => 0⟩
def HL_HEAD_CFG.readers : Fld := ⟨1187, 0, 2, .st, .within 1 2, fun _ => 0⟩
/-- HL_HEAD_CFG (04_head_link.md): 32 bits; reset by POR, WRM, WDG, ACT. -/
def HL_HEAD_CFG : Reg := ⟨"HL_HEAD_CFG", 0x20A06000, [(16, 64)], 32,
  [HL_HEAD_CFG.susp_cause, HL_HEAD_CFG.suspended, HL_HEAD_CFG.readers]⟩

def DP_CTRL.idle_release : Fld := ⟨1200, 12, 10, .rw, .any, fun _ => 100⟩
def DP_CTRL.min_gap : Fld := ⟨1216, 1, 11, .rw, .atLeast 128 2047, fun _ => 128⟩
def DP_CTRL.enable : Fld := ⟨1232, 0, 1, .rw, .any, fun _ => 0⟩
/-- DP_CTRL (05_detection.md): 32 bits; reset by POR, WRM, WDG. -/
def DP_CTRL : Reg := ⟨"DP_CTRL", 0x20B00000, [], 32,
  [DP_CTRL.idle_release, DP_CTRL.min_gap, DP_CTRL.enable]⟩

def DP_INT.copy_done : Fld := ⟨1248, 6, 1, .w1c, .any, fun _ => 0⟩
def DP_INT.band_unfit : Fld := ⟨1264, 5, 1, .w1c, .any, fun _ => 0⟩
def DP_INT.flume_fault : Fld := ⟨1280, 4, 1, .w1c, .any, fun _ => 0⟩
def DP_INT.val_fail : Fld := ⟨1296, 3, 1, .w1c, .any, fun _ => 0⟩
def DP_INT.val_pass : Fld := ⟨1312, 2, 1, .w1c, .any, fun _ => 0⟩
def DP_INT.cal_busy : Fld := ⟨1328, 1, 1, .w1c, .any, fun _ => 0⟩
def DP_INT.refusal : Fld := ⟨1344, 0, 1, .w1c, .any, fun _ => 0⟩
/-- DP_INT (05_detection.md): 32 bits; reset by POR, WRM, WDG. -/
def DP_INT : Reg := ⟨"DP_INT", 0x20B00008, [], 32,
  [DP_INT.copy_done, DP_INT.band_unfit, DP_INT.flume_fault, DP_INT.val_fail, DP_INT.val_pass, DP_INT.cal_busy, DP_INT.refusal]⟩

def DP_SYNC.bridge : Fld := ⟨1360, 11, 1, .rw, .any, fun _ => 1⟩
def DP_SYNC.window : Fld := ⟨1376, 5, 6, .rw, .clamp 0 31, fun _ => 16⟩
def DP_SYNC.threshold : Fld := ⟨1392, 0, 4, .rw, .any, fun _ => 4⟩
/-- DP_SYNC (05_detection.md): 32 bits; reset by POR, WRM, WDG. -/
def DP_SYNC : Reg := ⟨"DP_SYNC", 0x20B00010, [], 32,
  [DP_SYNC.bridge, DP_SYNC.window, DP_SYNC.threshold]⟩

def DP_SYNC_PATTERN.pattern : Fld := ⟨1408, 0, 40, .rwl, .any, fun _ => 681913751405⟩
/-- DP_SYNC_PATTERN (05_detection.md): 64 bits; reset by POR, WRM, WDG. -/
def DP_SYNC_PATTERN : Reg := ⟨"DP_SYNC_PATTERN", 0x20B00018, [], 64,
  [DP_SYNC_PATTERN.pattern]⟩

def DP_ADAPT.mse_guard : Fld := ⟨1424, 32, 16, .rw, .any, fun _ => 6554⟩
def DP_ADAPT.ki : Fld := ⟨1440, 28, 4, .rw, .any, fun _ => 12⟩
def DP_ADAPT.kp : Fld := ⟨1456, 24, 4, .rw, .any, fun _ => 5⟩
def DP_ADAPT.mu_tap : Fld := ⟨1472, 20, 4, .rw, .any, fun _ => 6⟩
def DP_ADAPT.mu_weight : Fld := ⟨1488, 16, 4, .rw, .any, fun _ => 8⟩
def DP_ADAPT.mu_gain : Fld := ⟨1504, 12, 4, .rw, .any, fun _ => 4⟩
def DP_ADAPT.enable : Fld := ⟨1520, 0, 1, .rw, .any, fun _ => 1⟩
/-- DP_ADAPT (05_detection.md): 64 bits; reset by POR, WRM, WDG. -/
def DP_ADAPT : Reg := ⟨"DP_ADAPT", 0x20B00020, [], 64,
  [DP_ADAPT.mse_guard, DP_ADAPT.ki, DP_ADAPT.kp, DP_ADAPT.mu_tap, DP_ADAPT.mu_weight, DP_ADAPT.mu_gain, DP_ADAPT.enable]⟩

def DP_QUAL_THR.mse_max : Fld := ⟨1536, 16, 16, .rw, .any, fun _ => 2621⟩
def DP_QUAL_THR.val_sectors : Fld := ⟨1552, 0, 8, .rw, .atLeast 1 255, fun _ => 16⟩
/-- DP_QUAL_THR (05_detection.md): 32 bits; reset by POR, WRM, WDG. -/
def DP_QUAL_THR : Reg := ⟨"DP_QUAL_THR", 0x20B00028, [], 32,
  [DP_QUAL_THR.mse_max, DP_QUAL_THR.val_sectors]⟩

def DP_ITER.recovery_max : Fld := ⟨1568, 8, 6, .rw, .clamp 1 60, fun _ => 60⟩
def DP_ITER.inline_max : Fld := ⟨1584, 0, 5, .rw, .clamp 1 20, fun _ => 20⟩
/-- DP_ITER (05_detection.md): 32 bits; reset by POR, WRM, WDG. -/
def DP_ITER : Reg := ⟨"DP_ITER", 0x20B00030, [], 32,
  [DP_ITER.recovery_max, DP_ITER.inline_max]⟩

def DP_FLUME_SVC.mask : Fld := ⟨1600, 0, 32, .st, .any, fun _ => 0⟩
/-- DP_FLUME_SVC (05_detection.md): 32 bits; reset by POR, WRM, WDG. -/
def DP_FLUME_SVC : Reg := ⟨"DP_FLUME_SVC", 0x20B00038, [], 32,
  [DP_FLUME_SVC.mask]⟩

def DP_POOL.count : Fld := ⟨1616, 0, 6, .st, .within 1 32, fun _ => 0⟩
/-- DP_POOL (05_detection.md): 32 bits; reset by POR, WRM, WDG. -/
def DP_POOL : Reg := ⟨"DP_POOL", 0x20B00040, [], 32,
  [DP_POOL.count]⟩

def DP_CAL_COPY.done : Fld := ⟨1632, 31, 1, .ro, .any, fun _ => 0⟩
def DP_CAL_COPY.go : Fld := ⟨1648, 16, 1, .wo, .any, fun _ => 0⟩
def DP_CAL_COPY.index : Fld := ⟨1664, 0, 13, .rw, .any, fun _ => 0⟩
/-- DP_CAL_COPY (05_detection.md): 32 bits; reset by POR, WRM, WDG. -/
def DP_CAL_COPY : Reg := ⟨"DP_CAL_COPY", 0x20B00048, [], 32,
  [DP_CAL_COPY.done, DP_CAL_COPY.go, DP_CAL_COPY.index]⟩

def DP_CAL_BUF.word : Fld := ⟨1680, 0, 64, .ro, .any, fun _ => 0⟩
/-- DP_CAL_BUF (05_detection.md): 64 bits; reset by POR, WRM, WDG. -/
def DP_CAL_BUF : Reg := ⟨"DP_CAL_BUF", 0x20B00080, [(8, 16)], 64,
  [DP_CAL_BUF.word]⟩

def DP_ALT_TARGET.len : Fld := ⟨1696, 40, 2, .rw, .within 0 2, fun _ => 0⟩
def DP_ALT_TARGET.target : Fld := ⟨1712, 0, 40, .rw, .any, fun _ => 0⟩
/-- DP_ALT_TARGET (05_detection.md): 64 bits; reset by POR, WRM, WDG. -/
def DP_ALT_TARGET : Reg := ⟨"DP_ALT_TARGET", 0x20B00100, [(8, 8)], 64,
  [DP_ALT_TARGET.len, DP_ALT_TARGET.target]⟩

def DP_SURF_SET.setSel : Fld := ⟨1728, 0, 1, .st, .any, fun _ => 0⟩
/-- DP_SURF_SET (05_detection.md): 32 bits; reset by POR, WRM, WDG. -/
def DP_SURF_SET : Reg := ⟨"DP_SURF_SET", 0x20B00800, [(8, 32)], 32,
  [DP_SURF_SET.setSel]⟩

def DP_FLUME_ASSIGN.mode : Fld := ⟨1744, 8, 2, .st, .within 0 2, fun _ => 0⟩
def DP_FLUME_ASSIGN.head : Fld := ⟨1760, 0, 6, .st, .any, fun _ => 0⟩
/-- DP_FLUME_ASSIGN (05_detection.md): 32 bits; reset by POR, WRM, WDG. -/
def DP_FLUME_ASSIGN : Reg := ⟨"DP_FLUME_ASSIGN", 0x20B01000, [(256, 32)], 32,
  [DP_FLUME_ASSIGN.mode, DP_FLUME_ASSIGN.head]⟩

def DP_FLUME_STATUS.state : Fld := ⟨1776, 60, 4, .ro, .any, fun _ => 0⟩
def DP_FLUME_STATUS.head : Fld := ⟨1792, 54, 6, .ro, .any, fun _ => 0⟩
def DP_FLUME_STATUS.band : Fld := ⟨1808, 48, 6, .ro, .any, fun _ => 0⟩
def DP_FLUME_STATUS.writer : Fld := ⟨1824, 47, 1, .ro, .any, fun _ => 0⟩
def DP_FLUME_STATUS.purpose : Fld := ⟨1840, 45, 2, .ro, .any, fun _ => 0⟩
def DP_FLUME_STATUS.power : Fld := ⟨1856, 44, 1, .ro, .any, fun _ => 0⟩
def DP_FLUME_STATUS.last_refusal : Fld := ⟨1872, 40, 4, .ro, .any, fun _ => 0⟩
def DP_FLUME_STATUS.sectors : Fld := ⟨1888, 0, 32, .ro, .any, fun _ => 0⟩
/-- DP_FLUME_STATUS (05_detection.md): 64 bits; reset by POR, WRM, WDG. -/
def DP_FLUME_STATUS : Reg := ⟨"DP_FLUME_STATUS", 0x20B01008, [(256, 32)], 64,
  [DP_FLUME_STATUS.state, DP_FLUME_STATUS.head, DP_FLUME_STATUS.band, DP_FLUME_STATUS.writer, DP_FLUME_STATUS.purpose, DP_FLUME_STATUS.power, DP_FLUME_STATUS.last_refusal, DP_FLUME_STATUS.sectors]⟩

def DP_FLUME_CTRL.action : Fld := ⟨1904, 0, 4, .wo, .any, fun _ => 0⟩
/-- DP_FLUME_CTRL (05_detection.md): 32 bits; reset by POR, WRM, WDG. -/
def DP_FLUME_CTRL : Reg := ⟨"DP_FLUME_CTRL", 0x20B01010, [(256, 32)], 32,
  [DP_FLUME_CTRL.action]⟩

def DP_HEAD_STATE.stale : Fld := ⟨1920, 63, 1, .ro, .any, fun _ => 1⟩
def DP_HEAD_STATE.attached : Fld := ⟨1936, 62, 1, .ro, .any, fun _ => 0⟩
def DP_HEAD_STATE.flume : Fld := ⟨1952, 51, 5, .ro, .any, fun _ => 0⟩
def DP_HEAD_STATE.last_refusal : Fld := ⟨1968, 44, 4, .ro, .any, fun _ => 0⟩
def DP_HEAD_STATE.stale_cause : Fld := ⟨1984, 40, 4, .ro, .any, fun _ => 6⟩
def DP_HEAD_STATE.val_fail : Fld := ⟨2000, 32, 8, .ro, .any, fun _ => 0⟩
def DP_HEAD_STATE.validated : Fld := ⟨2016, 0, 32, .ro, .any, fun _ => 0⟩
/-- DP_HEAD_STATE (05_detection.md): 64 bits; reset by POR, WRM, WDG. -/
def DP_HEAD_STATE : Reg := ⟨"DP_HEAD_STATE", 0x20B03000, [(64, 64)], 64,
  [DP_HEAD_STATE.stale, DP_HEAD_STATE.attached, DP_HEAD_STATE.flume, DP_HEAD_STATE.last_refusal, DP_HEAD_STATE.stale_cause, DP_HEAD_STATE.val_fail, DP_HEAD_STATE.validated]⟩

def DP_HEAD_CTRL.action : Fld := ⟨2032, 0, 3, .wo, .any, fun _ => 0⟩
/-- DP_HEAD_CTRL (05_detection.md): 32 bits; reset by POR, WRM, WDG. -/
def DP_HEAD_CTRL : Reg := ⟨"DP_HEAD_CTRL", 0x20B03008, [(64, 64)], 32,
  [DP_HEAD_CTRL.action]⟩

def DP_BAND_LAYOUT.unfit : Fld := ⟨2048, 63, 1, .ro, .any, fun _ => 0⟩
def DP_BAND_LAYOUT.span_wedges : Fld := ⟨2064, 52, 11, .ro, .any, fun _ => 0⟩
def DP_BAND_LAYOUT.span_sectors : Fld := ⟨2080, 40, 12, .ro, .any, fun _ => 0⟩
def DP_BAND_LAYOUT.preamble : Fld := ⟨2096, 31, 9, .ro, .any, fun _ => 0⟩
def DP_BAND_LAYOUT.span_pad : Fld := ⟨2112, 20, 11, .ro, .any, fun _ => 0⟩
def DP_BAND_LAYOUT.slot : Fld := ⟨2128, 0, 20, .ro, .any, fun _ => 0⟩
/-- DP_BAND_LAYOUT (05_detection.md): 64 bits; reset by POR, WRM, WDG. -/
def DP_BAND_LAYOUT : Reg := ⟨"DP_BAND_LAYOUT", 0x20B04000, [(8, 1536)], 64,
  [DP_BAND_LAYOUT.unfit, DP_BAND_LAYOUT.span_wedges, DP_BAND_LAYOUT.span_sectors, DP_BAND_LAYOUT.preamble, DP_BAND_LAYOUT.span_pad, DP_BAND_LAYOUT.slot]⟩

def DP_QUAL_A.sectors : Fld := ⟨2144, 32, 32, .ro, .any, fun _ => 0⟩
def DP_QUAL_A.inline_fail : Fld := ⟨2160, 0, 32, .ro, .any, fun _ => 0⟩
/-- DP_QUAL_A (05_detection.md): 64 bits; reset by POR, WRM, WDG. -/
def DP_QUAL_A : Reg := ⟨"DP_QUAL_A", 0x20B10000, [(16, 3072)], 64,
  [DP_QUAL_A.sectors, DP_QUAL_A.inline_fail]⟩

def DP_QUAL_B.mse_avg : Fld := ⟨2176, 48, 16, .ro, .any, fun _ => 0⟩
def DP_QUAL_B.bridged : Fld := ⟨2192, 32, 16, .ro, .any, fun _ => 0⟩
def DP_QUAL_B.sync_miss : Fld := ⟨2208, 16, 16, .ro, .any, fun _ => 0⟩
def DP_QUAL_B.tag_fail : Fld := ⟨2224, 8, 8, .ro, .any, fun _ => 0⟩
def DP_QUAL_B.iter_avg : Fld := ⟨2240, 0, 8, .ro, .any, fun _ => 0⟩
/-- DP_QUAL_B (05_detection.md): 64 bits; reset by POR, WRM, WDG. -/
def DP_QUAL_B : Reg := ⟨"DP_QUAL_B", 0x20B10008, [(16, 3072)], 64,
  [DP_QUAL_B.mse_avg, DP_QUAL_B.bridged, DP_QUAL_B.sync_miss, DP_QUAL_B.tag_fail, DP_QUAL_B.iter_avg]⟩

def DP_CAL.word : Fld := ⟨2266, 0, 64, .rw, .any, fun _ => 0⟩
/-- DP_CAL (05_detection.md): 64 bits; reset by POR, WRM, WDG; also cleared by a stay in DEEP. -/
def DP_CAL : Reg := ⟨"DP_CAL", 0x20B40000, [(128, 6144), (8, 16)], 64,
  [DP_CAL.word]⟩

def WP_CTRL.enable : Fld := ⟨2272, 0, 1, .rw, .any, fun _ => 0⟩
/-- WP_CTRL (06_write_path.md): 32 bits; reset by POR, WRM, WDG. -/
def WP_CTRL : Reg := ⟨"WP_CTRL", 0x20C00000, [], 32,
  [WP_CTRL.enable]⟩

def WP_INT.key_denied : Fld := ⟨2288, 8, 1, .w1c, .any, fun _ => 0⟩
def WP_INT.set_fail : Fld := ⟨2304, 7, 1, .w1c, .any, fun _ => 0⟩
def WP_INT.adj_check : Fld := ⟨2320, 6, 1, .w1c, .any, fun _ => 0⟩
def WP_INT.rewrite_fail : Fld := ⟨2336, 5, 1, .w1c, .any, fun _ => 0⟩
def WP_INT.verify_fail : Fld := ⟨2352, 4, 1, .w1c, .any, fun _ => 0⟩
def WP_INT.window : Fld := ⟨2368, 3, 1, .w1c, .any, fun _ => 0⟩
def WP_INT.curlim : Fld := ⟨2384, 2, 1, .w1c, .any, fun _ => 0⟩
def WP_INT.shock : Fld := ⟨2400, 1, 1, .w1c, .any, fun _ => 0⟩
def WP_INT.wu : Fld := ⟨2416, 0, 1, .w1c, .any, fun _ => 0⟩
/-- WP_INT (06_write_path.md): 32 bits; reset by POR, WRM, WDG. -/
def WP_INT : Reg := ⟨"WP_INT", 0x20C00008, [], 32,
  [WP_INT.key_denied, WP_INT.set_fail, WP_INT.adj_check, WP_INT.rewrite_fail, WP_INT.verify_fail, WP_INT.window, WP_INT.curlim, WP_INT.shock, WP_INT.wu]⟩

def WP_WU.adj_threshold : Fld := ⟨2432, 8, 8, .rw, .any, fun _ => 90⟩
def WP_WU.settle_wedges : Fld := ⟨2448, 0, 3, .rw, .atLeast 1 7, fun _ => 2⟩
/-- WP_WU (06_write_path.md): 32 bits; reset by POR, WRM, WDG. -/
def WP_WU : Reg := ⟨"WP_WU", 0x20C00010, [], 32,
  [WP_WU.adj_threshold, WP_WU.settle_wedges]⟩

def WP_SHOCK.holdoff : Fld := ⟨2464, 20, 12, .rw, .any, fun _ => 500⟩
def WP_SHOCK.enable : Fld := ⟨2480, 8, 1, .rw, .any, fun _ => 1⟩
def WP_SHOCK.threshold : Fld := ⟨2496, 0, 8, .rw, .any, fun _ => 64⟩
/-- WP_SHOCK (06_write_path.md): 32 bits; reset by POR, WRM, WDG. -/
def WP_SHOCK : Reg := ⟨"WP_SHOCK", 0x20C00018, [], 32,
  [WP_SHOCK.holdoff, WP_SHOCK.enable, WP_SHOCK.threshold]⟩

def WP_ASSIST.lead_ns : Fld := ⟨2512, 0, 11, .rw, .clamp 0 2000, fun _ => 200⟩
/-- WP_ASSIST (06_write_path.md): 32 bits; reset by POR, WRM, WDG. -/
def WP_ASSIST : Reg := ⟨"WP_ASSIST", 0x20C00020, [], 32,
  [WP_ASSIST.lead_ns]⟩

def WP_VERIFY.window : Fld := ⟨2528, 26, 6, .rw, .any, fun _ => 16⟩
def WP_VERIFY.max_err : Fld := ⟨2544, 13, 13, .rw, .any, fun _ => 368⟩
def WP_VERIFY.warn_err : Fld := ⟨2560, 0, 13, .rw, .any, fun _ => 92⟩
/-- WP_VERIFY (06_write_path.md): 32 bits; reset by POR, WRM, WDG. -/
def WP_VERIFY : Reg := ⟨"WP_VERIFY", 0x20C00028, [], 32,
  [WP_VERIFY.window, WP_VERIFY.max_err, WP_VERIFY.warn_err]⟩

def WP_REWRITE.max : Fld := ⟨2576, 0, 3, .rw, .atLeast 1 7, fun _ => 3⟩
/-- WP_REWRITE (06_write_path.md): 32 bits; reset by POR, WRM, WDG. -/
def WP_REWRITE : Reg := ⟨"WP_REWRITE", 0x20C00030, [], 32,
  [WP_REWRITE.max]⟩

def WP_WU_THR.threshold : Fld := ⟨2593, 0, 8, .st, .within 8 128, fun _ => 0⟩
/-- WP_WU_THR (06_write_path.md): 32 bits; reset by POR, WRM, WDG, ACT. -/
def WP_WU_THR : Reg := ⟨"WP_WU_THR", 0x20C00100, [(8, 4)], 32,
  [WP_WU_THR.threshold]⟩

def WP_XTS_KEY_DATA.word : Fld := ⟨2608, 0, 64, .wo, .any, fun _ => 0⟩
/-- WP_XTS_KEY_DATA (06_write_path.md): 64 bits; reset by POR, WRM, WDG. -/
def WP_XTS_KEY_DATA : Reg := ⟨"WP_XTS_KEY_DATA", 0x20C00200, [(8, 8)], 64,
  [WP_XTS_KEY_DATA.word]⟩

def WP_XTS_KEY_CTRL.done : Fld := ⟨2624, 31, 1, .ro, .any, fun _ => 0⟩
def WP_XTS_KEY_CTRL.busy : Fld := ⟨2640, 30, 1, .ro, .any, fun _ => 0⟩
def WP_XTS_KEY_CTRL.action : Fld := ⟨2656, 8, 2, .wo, .any, fun _ => 0⟩
def WP_XTS_KEY_CTRL.slot : Fld := ⟨2672, 0, 6, .rw, .any, fun _ => 0⟩
/-- WP_XTS_KEY_CTRL (06_write_path.md): 32 bits; reset by POR, WRM, WDG. -/
def WP_XTS_KEY_CTRL : Reg := ⟨"WP_XTS_KEY_CTRL", 0x20C00240, [], 32,
  [WP_XTS_KEY_CTRL.done, WP_XTS_KEY_CTRL.busy, WP_XTS_KEY_CTRL.action, WP_XTS_KEY_CTRL.slot]⟩

def WP_XTS_SLOTS.loaded : Fld := ⟨2698, 0, 64, .ro, .any, fun _ => 0⟩
/-- WP_XTS_SLOTS (06_write_path.md): 64 bits; reset by POR, WRM, WDG; also cleared by a stay in DEEP. -/
def WP_XTS_SLOTS : Reg := ⟨"WP_XTS_SLOTS", 0x20C00248, [], 64,
  [WP_XTS_SLOTS.loaded]⟩

def WP_NS_CRYPT.enable : Fld := ⟨2704, 8, 1, .rw, .any, fun _ => 0⟩
def WP_NS_CRYPT.slot : Fld := ⟨2720, 0, 6, .rw, .any, fun _ => 0⟩
/-- WP_NS_CRYPT (06_write_path.md): 32 bits; reset by POR, WRM, WDG. -/
def WP_NS_CRYPT : Reg := ⟨"WP_NS_CRYPT", 0x20C00400, [(8, 64)], 32,
  [WP_NS_CRYPT.enable, WP_NS_CRYPT.slot]⟩

def WP_HEAD_STATE.gate : Fld := ⟨2739, 63, 1, .ro, .any, fun _ => 0⟩
def WP_HEAD_STATE.ae : Fld := ⟨2755, 62, 1, .ro, .any, fun _ => 0⟩
def WP_HEAD_STATE.unsent : Fld := ⟨2771, 61, 1, .ro, .any, fun _ => 1⟩
def WP_HEAD_STATE.out_of_window : Fld := ⟨2787, 60, 1, .ro, .any, fun _ => 0⟩
def WP_HEAD_STATE.sent_band : Fld := ⟨2803, 54, 6, .ro, .any, fun _ => 0⟩
def WP_HEAD_STATE.last_removal : Fld := ⟨2819, 50, 4, .ro, .any, fun _ => 0⟩
def WP_HEAD_STATE.wfail : Fld := ⟨2835, 32, 8, .ro, .any, fun _ => 0⟩
def WP_HEAD_STATE.void : Fld := ⟨2851, 0, 32, .ro, .any, fun _ => 0⟩
/-- WP_HEAD_STATE (06_write_path.md): 64 bits; reset by POR, WRM, WDG, ACT. -/
def WP_HEAD_STATE : Reg := ⟨"WP_HEAD_STATE", 0x20C03000, [(64, 64)], 64,
  [WP_HEAD_STATE.gate, WP_HEAD_STATE.ae, WP_HEAD_STATE.unsent, WP_HEAD_STATE.out_of_window, WP_HEAD_STATE.sent_band, WP_HEAD_STATE.last_removal, WP_HEAD_STATE.wfail, WP_HEAD_STATE.void]⟩

def WP_HEAD_VCNT.verified : Fld := ⟨2864, 32, 32, .ro, .any, fun _ => 0⟩
def WP_HEAD_VCNT.warned : Fld := ⟨2880, 0, 32, .ro, .any, fun _ => 0⟩
/-- WP_HEAD_VCNT (06_write_path.md): 64 bits; reset by POR, WRM, WDG. -/
def WP_HEAD_VCNT : Reg := ⟨"WP_HEAD_VCNT", 0x20C03008, [(64, 64)], 64,
  [WP_HEAD_VCNT.verified, WP_HEAD_VCNT.warned]⟩

def WP_WSET0.precomp : Fld := ⟨2906, 0, 64, .rw, .bytes6, fun _ => 0⟩
/-- WP_WSET0 (06_write_path.md): 64 bits; reset by POR, WRM, WDG; also cleared by a stay in DEEP. -/
def WP_WSET0 : Reg := ⟨"WP_WSET0", 0x20C10000, [(32, 3072)], 64,
  [WP_WSET0.precomp]⟩

def WP_WSET1.write_heat : Fld := ⟨2922, 52, 10, .rw, .any, fun _ => 0⟩
def WP_WSET1.assist_on : Fld := ⟨2938, 40, 12, .rw, .any, fun _ => 0⟩
def WP_WSET1.assist_idle : Fld := ⟨2954, 28, 12, .rw, .any, fun _ => 0⟩
def WP_WSET1.os_dur : Fld := ⟨2970, 20, 8, .rw, .any, fun _ => 0⟩
def WP_WSET1.os_amp : Fld := ⟨2986, 12, 8, .rw, .any, fun _ => 0⟩
def WP_WSET1.writer_cur : Fld := ⟨3002, 0, 12, .rw, .any, fun _ => 0⟩
/-- WP_WSET1 (06_write_path.md): 64 bits; reset by POR, WRM, WDG; also cleared by a stay in DEEP. -/
def WP_WSET1 : Reg := ⟨"WP_WSET1", 0x20C10008, [(32, 3072)], 64,
  [WP_WSET1.write_heat, WP_WSET1.assist_on, WP_WSET1.assist_idle, WP_WSET1.os_dur, WP_WSET1.os_amp, WP_WSET1.writer_cur]⟩

def WP_WSET2.valid : Fld := ⟨3018, 63, 1, .rw, .any, fun _ => 0⟩
def WP_WSET2.read_heat : Fld := ⟨3034, 32, 10, .rw, .any, fun _ => 0⟩
def WP_WSET2.vdelay : Fld := ⟨3050, 0, 16, .rw, .any, fun _ => 0⟩
/-- WP_WSET2 (06_write_path.md): 64 bits; reset by POR, WRM, WDG; also cleared by a stay in DEEP. -/
def WP_WSET2 : Reg := ⟨"WP_WSET2", 0x20C10010, [(32, 3072)], 64,
  [WP_WSET2.valid, WP_WSET2.read_heat, WP_WSET2.vdelay]⟩

def MS_RL_CTRL.log_rung : Fld := ⟨3056, 1, 3, .rw, .within 1 7, fun _ => 3⟩
def MS_RL_CTRL.enable : Fld := ⟨3072, 0, 1, .rw, .any, fun _ => 1⟩
/-- MS_RL_CTRL (07_read_recovery.md): 32 bits; reset by POR, WRM, WDG. -/
def MS_RL_CTRL : Reg := ⟨"MS_RL_CTRL", 0x202E0000, [], 32,
  [MS_RL_CTRL.log_rung, MS_RL_CTRL.enable]⟩

def MS_RL_INT.urgent_stop : Fld := ⟨3088, 2, 1, .w1c, .any, fun _ => 0⟩
def MS_RL_INT.unrecovered : Fld := ⟨3104, 1, 1, .w1c, .any, fun _ => 0⟩
def MS_RL_INT.recovered : Fld := ⟨3120, 0, 1, .w1c, .any, fun _ => 0⟩
/-- MS_RL_INT (07_read_recovery.md): 32 bits; reset by POR, WRM, WDG. -/
def MS_RL_INT : Reg := ⟨"MS_RL_INT", 0x202E0008, [], 32,
  [MS_RL_INT.urgent_stop, MS_RL_INT.unrecovered, MS_RL_INT.recovered]⟩

def MS_RL_SHIFT.shifts : Fld := ⟨3136, 0, 32, .rw, .shifts, fun _ => 806369288⟩
/-- MS_RL_SHIFT (07_read_recovery.md): 32 bits; reset by POR, WRM, WDG. -/
def MS_RL_SHIFT : Reg := ⟨"MS_RL_SHIFT", 0x202E0040, [], 32,
  [MS_RL_SHIFT.shifts]⟩

def MS_RL_OFFSET.offsets : Fld := ⟨3152, 0, 32, .rw, .any, fun _ => 3760254992⟩
/-- MS_RL_OFFSET (07_read_recovery.md): 32 bits; reset by POR, WRM, WDG. -/
def MS_RL_OFFSET : Reg := ⟨"MS_RL_OFFSET", 0x202E0048, [], 32,
  [MS_RL_OFFSET.offsets]⟩

def MS_RL_WEIGHT.weights : Fld := ⟨3168, 0, 16, .rw, .weights, fun _ => 60002⟩
/-- MS_RL_WEIGHT (07_read_recovery.md): 32 bits; reset by POR, WRM, WDG. -/
def MS_RL_WEIGHT : Reg := ⟨"MS_RL_WEIGHT", 0x202E0050, [], 32,
  [MS_RL_WEIGHT.weights]⟩

def MS_RL_URG.margin_us : Fld := ⟨3184, 0, 16, .rw, .any, fun _ => 1000⟩
/-- MS_RL_URG (07_read_recovery.md): 32 bits; reset by POR, WRM, WDG. -/
def MS_RL_URG : Reg := ⟨"MS_RL_URG", 0x202E0058, [], 32,
  [MS_RL_URG.margin_us]⟩

def MS_RL_CLASS.time_limit_ms : Fld := ⟨3200, 48, 16, .rw, .any, fun _ => 0⟩
def MS_RL_CLASS.n_combine : Fld := ⟨3216, 27, 4, .rw, .zeroOr 2 8, fun c => if c = 0 then 0 else 8⟩
def MS_RL_CLASS.n_weights : Fld := ⟨3232, 24, 3, .rw, .within 0 4, fun c => if c = 0 then 0 else 4⟩
def MS_RL_CLASS.n_targets : Fld := ⟨3248, 20, 4, .rw, .within 0 8, fun c => if c = 0 then 0 else 8⟩
def MS_RL_CLASS.n_offsets : Fld := ⟨3264, 17, 3, .rw, .within 0 4, fun c => if c = 0 then 0 else 4⟩
def MS_RL_CLASS.r1_shifts : Fld := ⟨3280, 14, 3, .rw, .within 0 4, fun c => if c = 0 then 0 else 2⟩
def MS_RL_CLASS.runner_up : Fld := ⟨3296, 13, 1, .rw, .any, fun _ => 1⟩
def MS_RL_CLASS.r1_tries : Fld := ⟨3312, 10, 3, .rw, .any, fun _ => 1⟩
def MS_RL_CLASS.lr_rung : Fld := ⟨3328, 4, 3, .rw, .within 0 6, fun _ => 2⟩
def MS_RL_CLASS.max_rung : Fld := ⟨3344, 0, 3, .rw, .within 0 6, fun c => if c = 0 then 2 else 6⟩
/-- MS_RL_CLASS (07_read_recovery.md): 64 bits; reset by POR, WRM, WDG. -/
def MS_RL_CLASS : Reg := ⟨"MS_RL_CLASS", 0x202E0100, [(8, 5)], 64,
  [MS_RL_CLASS.time_limit_ms, MS_RL_CLASS.n_combine, MS_RL_CLASS.n_weights, MS_RL_CLASS.n_targets, MS_RL_CLASS.n_offsets, MS_RL_CLASS.r1_shifts, MS_RL_CLASS.runner_up, MS_RL_CLASS.r1_tries, MS_RL_CLASS.lr_rung, MS_RL_CLASS.max_rung]⟩

def MS_RL_HEAD_CNT0.rung2 : Fld := ⟨3360, 32, 32, .ro, .any, fun _ => 0⟩
def MS_RL_HEAD_CNT0.rung1 : Fld := ⟨3376, 0, 32, .ro, .any, fun _ => 0⟩
/-- MS_RL_HEAD_CNT0 (07_read_recovery.md): 64 bits; reset by POR, WRM, WDG. -/
def MS_RL_HEAD_CNT0 : Reg := ⟨"MS_RL_HEAD_CNT0", 0x202E1000, [(32, 64)], 64,
  [MS_RL_HEAD_CNT0.rung2, MS_RL_HEAD_CNT0.rung1]⟩

def MS_RL_HEAD_CNT1.rung6 : Fld := ⟨3392, 48, 16, .ro, .any, fun _ => 0⟩
def MS_RL_HEAD_CNT1.rung5 : Fld := ⟨3408, 32, 16, .ro, .any, fun _ => 0⟩
def MS_RL_HEAD_CNT1.rung4 : Fld := ⟨3424, 16, 16, .ro, .any, fun _ => 0⟩
def MS_RL_HEAD_CNT1.rung3 : Fld := ⟨3440, 0, 16, .ro, .any, fun _ => 0⟩
/-- MS_RL_HEAD_CNT1 (07_read_recovery.md): 64 bits; reset by POR, WRM, WDG. -/
def MS_RL_HEAD_CNT1 : Reg := ⟨"MS_RL_HEAD_CNT1", 0x202E1008, [(32, 64)], 64,
  [MS_RL_HEAD_CNT1.rung6, MS_RL_HEAD_CNT1.rung5, MS_RL_HEAD_CNT1.rung4, MS_RL_HEAD_CNT1.rung3]⟩

def MS_RL_HEAD_CNT2.urgent_stops : Fld := ⟨3456, 32, 32, .ro, .any, fun _ => 0⟩
def MS_RL_HEAD_CNT2.unrecovered : Fld := ⟨3472, 0, 32, .ro, .any, fun _ => 0⟩
/-- MS_RL_HEAD_CNT2 (07_read_recovery.md): 64 bits; reset by POR, WRM, WDG. -/
def MS_RL_HEAD_CNT2 : Reg := ⟨"MS_RL_HEAD_CNT2", 0x202E1010, [(32, 64)], 64,
  [MS_RL_HEAD_CNT2.urgent_stops, MS_RL_HEAD_CNT2.unrecovered]⟩

def SV_CTRL.action : Fld := ⟨3489, 0, 3, .wo, .any, fun _ => 0⟩
/-- SV_CTRL (08_servo.md): 32 bits; reset by POR, WRM, WDG, ACT. -/
def SV_CTRL : Reg := ⟨"SV_CTRL", 0x20D10000, [(65536, 4)], 32,
  [SV_CTRL.action]⟩

def SV_STATUS.splits : Fld := ⟨3505, 48, 16, .ro, .any, fun _ => 0⟩
def SV_STATUS.deadline_miss : Fld := ⟨3521, 40, 8, .ro, .any, fun _ => 0⟩
def SV_STATUS.sat_count : Fld := ⟨3537, 32, 8, .ro, .any, fun _ => 0⟩
def SV_STATUS.wedge : Fld := ⟨3553, 22, 10, .ro, .any, fun _ => 0⟩
def SV_STATUS.active_engine : Fld := ⟨3569, 16, 1, .ro, .any, fun _ => 0⟩
def SV_STATUS.state : Fld := ⟨3585, 0, 4, .ro, .any, fun _ => 0⟩
/-- SV_STATUS (08_servo.md): 64 bits; reset by POR, WRM, WDG, ACT. -/
def SV_STATUS : Reg := ⟨"SV_STATUS", 0x20D10008, [(65536, 4)], 64,
  [SV_STATUS.splits, SV_STATUS.deadline_miss, SV_STATUS.sat_count, SV_STATUS.wedge, SV_STATUS.active_engine, SV_STATUS.state]⟩

def SV_INT.refused : Fld := ⟨3601, 11, 1, .w1c, .any, fun _ => 0⟩
def SV_INT.inj_done : Fld := ⟨3617, 10, 1, .w1c, .any, fun _ => 0⟩
def SV_INT.trace_done : Fld := ⟨3633, 9, 1, .w1c, .any, fun _ => 0⟩
def SV_INT.acq_fail : Fld := ⟨3649, 8, 1, .w1c, .any, fun _ => 0⟩
def SV_INT.park : Fld := ⟨3665, 7, 1, .w1c, .any, fun _ => 0⟩
def SV_INT.ma_sat : Fld := ⟨3681, 6, 1, .w1c, .any, fun _ => 0⟩
def SV_INT.comb_split : Fld := ⟨3697, 5, 1, .w1c, .any, fun _ => 0⟩
def SV_INT.head_opened : Fld := ⟨3713, 4, 1, .w1c, .any, fun _ => 0⟩
def SV_INT.fb_lost : Fld := ⟨3729, 3, 1, .w1c, .any, fun _ => 0⟩
def SV_INT.deadline : Fld := ⟨3745, 2, 1, .w1c, .any, fun _ => 0⟩
def SV_INT.sat : Fld := ⟨3761, 1, 1, .w1c, .any, fun _ => 0⟩
def SV_INT.seek_done : Fld := ⟨3777, 0, 1, .w1c, .any, fun _ => 0⟩
/-- SV_INT (08_servo.md): 32 bits; reset by POR, WRM, WDG, ACT. -/
def SV_INT : Reg := ⟨"SV_INT", 0x20D10010, [(65536, 4)], 32,
  [SV_INT.refused, SV_INT.inj_done, SV_INT.trace_done, SV_INT.acq_fail, SV_INT.park, SV_INT.ma_sat, SV_INT.comb_split, SV_INT.head_opened, SV_INT.fb_lost, SV_INT.deadline, SV_INT.sat, SV_INT.seek_done]⟩

def SV_GEOM.pitch_pm : Fld := ⟨3792, 0, 17, .st, .zeroOr 5000 100000, fun _ => 0⟩
/-- SV_GEOM (08_servo.md): 32 bits; reset by POR, WRM, WDG. -/
def SV_GEOM : Reg := ⟨"SV_GEOM", 0x20D10018, [(65536, 4)], 32,
  [SV_GEOM.pitch_pm]⟩

def SV_LOOP.hold_wedges : Fld := ⟨3809, 32, 2, .ro, .any, fun _ => 0⟩
def SV_LOOP.vcm_ref : Fld := ⟨3825, 16, 16, .st, .any, fun _ => 0⟩
def SV_LOOP.ma_closed : Fld := ⟨3841, 0, 16, .st, .any, fun _ => 0⟩
/-- SV_LOOP (08_servo.md): 64 bits; reset by POR, WRM, WDG, ACT. -/
def SV_LOOP : Reg := ⟨"SV_LOOP", 0x20D10020, [(65536, 4)], 64,
  [SV_LOOP.hold_wedges, SV_LOOP.vcm_ref, SV_LOOP.ma_closed]⟩

def SV_DEMOD.jump_max : Fld := ⟨3857, 48, 16, .rw, .any, fun _ => 2048⟩
def SV_DEMOD.rejoin_wedges : Fld := ⟨3873, 40, 8, .rw, .atLeast 1 255, fun _ => 16⟩
def SV_DEMOD.freeze_wedges : Fld := ⟨3889, 32, 3, .rw, .atLeast 2 7, fun _ => 3⟩
def SV_DEMOD.amp_min : Fld := ⟨3905, 24, 8, .rw, .any, fun _ => 64⟩
def SV_DEMOD.reader : Fld := ⟨3921, 16, 2, .rw, .within 0 1, fun _ => 0⟩
def SV_DEMOD.sam_window : Fld := ⟨3937, 0, 16, .rw, .within 10 2000, fun _ => 100⟩
/-- SV_DEMOD (08_servo.md): 64 bits; reset by POR, WRM, WDG, ACT. -/
def SV_DEMOD : Reg := ⟨"SV_DEMOD", 0x20D10028, [(65536, 4)], 64,
  [SV_DEMOD.jump_max, SV_DEMOD.rejoin_wedges, SV_DEMOD.freeze_wedges, SV_DEMOD.amp_min, SV_DEMOD.reader, SV_DEMOD.sam_window]⟩

def SV_READY.ready_wedges : Fld := ⟨3953, 16, 3, .rw, .atLeast 1 7, fun _ => 3⟩
def SV_READY.ready_thr : Fld := ⟨3969, 0, 16, .rw, .any, fun _ => 16⟩
/-- SV_READY (08_servo.md): 32 bits; reset by POR, WRM, WDG, ACT. -/
def SV_READY : Reg := ⟨"SV_READY", 0x20D10030, [(65536, 4)], 32,
  [SV_READY.ready_wedges, SV_READY.ready_thr]⟩

def SV_SEEK_LIM.j_max : Fld := ⟨3984, 44, 20, .st, .any, fun _ => 0⟩
def SV_SEEK_LIM.a_max : Fld := ⟨4000, 24, 20, .st, .any, fun _ => 0⟩
def SV_SEEK_LIM.v_max : Fld := ⟨4016, 0, 24, .st, .any, fun _ => 0⟩
/-- SV_SEEK_LIM (08_servo.md): 64 bits; reset by POR, WRM, WDG. -/
def SV_SEEK_LIM : Reg := ⟨"SV_SEEK_LIM", 0x20D10038, [(65536, 4)], 64,
  [SV_SEEK_LIM.j_max, SV_SEEK_LIM.a_max, SV_SEEK_LIM.v_max]⟩

def SV_SETTLE.vel : Fld := ⟨4033, 16, 16, .rw, .any, fun _ => 64⟩
def SV_SETTLE.window : Fld := ⟨4049, 0, 16, .rw, .any, fun _ => 256⟩
/-- SV_SETTLE (08_servo.md): 32 bits; reset by POR, WRM, WDG, ACT. -/
def SV_SETTLE : Reg := ⟨"SV_SETTLE", 0x20D10040, [(65536, 4)], 32,
  [SV_SETTLE.vel, SV_SETTLE.window]⟩

def SV_COMB.sat_wedges : Fld := ⟨4065, 16, 3, .rw, .atLeast 1 7, fun _ => 2⟩
def SV_COMB.margin_nm : Fld := ⟨4081, 0, 10, .rw, .clamp 0 500, fun _ => 50⟩
/-- SV_COMB (08_servo.md): 32 bits; reset by POR, WRM, WDG, ACT. -/
def SV_COMB : Reg := ⟨"SV_COMB", 0x20D10048, [(65536, 4)], 32,
  [SV_COMB.sat_wedges, SV_COMB.margin_nm]⟩

def SV_MA_LIM.slew_nm : Fld := ⟨4097, 16, 10, .rw, .atLeast 1 1000, fun _ => 20⟩
def SV_MA_LIM.range_nm : Fld := ⟨4113, 0, 10, .rw, .clamp 100 1000, fun _ => 1000⟩
/-- SV_MA_LIM (08_servo.md): 32 bits; reset by POR, WRM, WDG, ACT. -/
def SV_MA_LIM : Reg := ⟨"SV_MA_LIM", 0x20D10050, [(65536, 4)], 32,
  [SV_MA_LIM.slew_nm, SV_MA_LIM.range_nm]⟩

def SV_FF.shift : Fld := ⟨4128, 32, 5, .st, .any, fun _ => 0⟩
def SV_FF.kff : Fld := ⟨4144, 0, 32, .st, .any, fun _ => 0⟩
/-- SV_FF (08_servo.md): 64 bits; reset by POR, WRM, WDG. -/
def SV_FF : Reg := ⟨"SV_FF", 0x20D10058, [(65536, 4)], 64,
  [SV_FF.shift, SV_FF.kff]⟩

def SV_PARK.park_track : Fld := ⟨4161, 0, 23, .rw, .any, fun _ => 0⟩
/-- SV_PARK (08_servo.md): 32 bits; reset by POR, WRM, WDG, ACT. -/
def SV_PARK : Reg := ⟨"SV_PARK", 0x20D10060, [(65536, 4)], 32,
  [SV_PARK.park_track]⟩

def SV_SEEK_REQ.urgent : Fld := ⟨4177, 32, 1, .wo, .any, fun _ => 0⟩
def SV_SEEK_REQ.target : Fld := ⟨4193, 0, 32, .wo, .any, fun _ => 0⟩
/-- SV_SEEK_REQ (08_servo.md): 64 bits; reset by POR, WRM, WDG, ACT. -/
def SV_SEEK_REQ : Reg := ⟨"SV_SEEK_REQ", 0x20D10068, [(65536, 4)], 64,
  [SV_SEEK_REQ.urgent, SV_SEEK_REQ.target]⟩

def SV_TRACE_CTRL.post : Fld := ⟨4209, 50, 14, .rw, .any, fun _ => 0⟩
def SV_TRACE_CTRL.decim : Fld := ⟨4225, 42, 8, .rw, .atLeast 1 255, fun _ => 1⟩
def SV_TRACE_CTRL.nodes : Fld := ⟨4241, 40, 2, .rw, .any, fun _ => 0⟩
def SV_TRACE_CTRL.trigger : Fld := ⟨4257, 36, 4, .rw, .within 0 6, fun _ => 0⟩
def SV_TRACE_CTRL.action : Fld := ⟨4273, 0, 3, .wo, .any, fun _ => 0⟩
/-- SV_TRACE_CTRL (08_servo.md): 64 bits; reset by POR, WRM, WDG, ACT. -/
def SV_TRACE_CTRL : Reg := ⟨"SV_TRACE_CTRL", 0x20D10100, [(65536, 4)], 64,
  [SV_TRACE_CTRL.post, SV_TRACE_CTRL.decim, SV_TRACE_CTRL.nodes, SV_TRACE_CTRL.trigger, SV_TRACE_CTRL.action]⟩

def SV_TRACE_SEL.node : Fld := ⟨4289, 0, 64, .rw, .nodes 8, fun _ => 0⟩
/-- SV_TRACE_SEL (08_servo.md): 64 bits; reset by POR, WRM, WDG, ACT. -/
def SV_TRACE_SEL : Reg := ⟨"SV_TRACE_SEL", 0x20D10108, [(65536, 4)], 64,
  [SV_TRACE_SEL.node]⟩

def SV_TRACE_STATUS.state : Fld := ⟨4305, 30, 2, .ro, .any, fun _ => 0⟩
def SV_TRACE_STATUS.wrapped : Fld := ⟨4321, 29, 1, .ro, .any, fun _ => 0⟩
def SV_TRACE_STATUS.trig_index : Fld := ⟨4337, 14, 15, .ro, .any, fun _ => 0⟩
/-- SV_TRACE_STATUS (08_servo.md): 32 bits; reset by POR, WRM, WDG, ACT. -/
def SV_TRACE_STATUS : Reg := ⟨"SV_TRACE_STATUS", 0x20D10110, [(65536, 4)], 32,
  [SV_TRACE_STATUS.state, SV_TRACE_STATUS.wrapped, SV_TRACE_STATUS.trig_index]⟩

def SV_INJ_CTRL.length : Fld := ⟨4353, 48, 16, .rw, .any, fun _ => 0⟩
def SV_INJ_CTRL.settle : Fld := ⟨4369, 40, 8, .rw, .any, fun _ => 0⟩
def SV_INJ_CTRL.cap1 : Fld := ⟨4385, 32, 8, .rw, .nodes 1, fun _ => 0⟩
def SV_INJ_CTRL.cap0 : Fld := ⟨4401, 24, 8, .rw, .nodes 1, fun _ => 0⟩
def SV_INJ_CTRL.node : Fld := ⟨4417, 16, 8, .rw, .any, fun _ => 0⟩
def SV_INJ_CTRL.amplitude : Fld := ⟨4433, 4, 12, .rw, .any, fun _ => 0⟩
def SV_INJ_CTRL.kind : Fld := ⟨4449, 2, 2, .rw, .any, fun _ => 0⟩
def SV_INJ_CTRL.action : Fld := ⟨4465, 0, 2, .wo, .any, fun _ => 0⟩
/-- SV_INJ_CTRL (08_servo.md): 64 bits; reset by POR, WRM, WDG, ACT. -/
def SV_INJ_CTRL : Reg := ⟨"SV_INJ_CTRL", 0x20D10140, [(65536, 4)], 64,
  [SV_INJ_CTRL.length, SV_INJ_CTRL.settle, SV_INJ_CTRL.cap1, SV_INJ_CTRL.cap0, SV_INJ_CTRL.node, SV_INJ_CTRL.amplitude, SV_INJ_CTRL.kind, SV_INJ_CTRL.action]⟩

def SV_INJ_FREQ.step : Fld := ⟨4481, 0, 32, .rw, .any, fun _ => 0⟩
/-- SV_INJ_FREQ (08_servo.md): 32 bits; reset by POR, WRM, WDG, ACT. -/
def SV_INJ_FREQ : Reg := ⟨"SV_INJ_FREQ", 0x20D10148, [(65536, 4)], 32,
  [SV_INJ_FREQ.step]⟩

def SV_INJ_CORR.sum : Fld := ⟨4498, 0, 64, .ro, .any, fun _ => 0⟩
/-- SV_INJ_CORR (08_servo.md): 64 bits; reset by POR, WRM, WDG, ACT. -/
def SV_INJ_CORR : Reg := ⟨"SV_INJ_CORR", 0x20D10150, [(65536, 4), (8, 4)], 64,
  [SV_INJ_CORR.sum]⟩

def SV_SEEK_TAB.dist : Fld := ⟨4512, 32, 24, .rw, .any, fun _ => 16777215⟩
def SV_SEEK_TAB.time_us : Fld := ⟨4528, 0, 16, .rw, .any, fun _ => 65535⟩
/-- SV_SEEK_TAB (08_servo.md): 64 bits; reset by POR, WRM, WDG. -/
def SV_SEEK_TAB : Reg := ⟨"SV_SEEK_TAB", 0x20D10200, [(65536, 4), (8, 32)], 64,
  [SV_SEEK_TAB.dist, SV_SEEK_TAB.time_us]⟩

def SV_SEEK_OVR.count : Fld := ⟨4544, 32, 32, .ro, .any, fun _ => 0⟩
def SV_SEEK_OVR.max_us : Fld := ⟨4560, 0, 16, .ro, .any, fun _ => 0⟩
/-- SV_SEEK_OVR (08_servo.md): 64 bits; reset by POR, WRM, WDG. -/
def SV_SEEK_OVR : Reg := ⟨"SV_SEEK_OVR", 0x20D10300, [(65536, 4), (8, 32)], 64,
  [SV_SEEK_OVR.count, SV_SEEK_OVR.max_us]⟩

def SV_PCOEF.shift : Fld := ⟨4576, 32, 5, .st, .any, fun _ => 0⟩
def SV_PCOEF.coef : Fld := ⟨4592, 0, 32, .st, .any, fun _ => 0⟩
/-- SV_PCOEF (08_servo.md): 64 bits; reset by POR, WRM, WDG. -/
def SV_PCOEF : Reg := ⟨"SV_PCOEF", 0x20D11000, [(65536, 4), (64, 8), (8, 5)], 64,
  [SV_PCOEF.shift, SV_PCOEF.coef]⟩

def SV_SLOT_STATE.feedback : Fld := ⟨4611, 63, 1, .ro, .any, fun _ => 0⟩
def SV_SLOT_STATE.member : Fld := ⟨4627, 62, 1, .ro, .any, fun _ => 0⟩
def SV_SLOT_STATE.closed : Fld := ⟨4643, 61, 1, .ro, .any, fun _ => 0⟩
def SV_SLOT_STATE.ready : Fld := ⟨4659, 60, 1, .ro, .any, fun _ => 0⟩
def SV_SLOT_STATE.unsafeBit : Fld := ⟨4675, 59, 1, .ro, .any, fun _ => 0⟩
def SV_SLOT_STATE.measured : Fld := ⟨4691, 58, 1, .ro, .any, fun _ => 0⟩
def SV_SLOT_STATE.bad_cause : Fld := ⟨4707, 48, 4, .ro, .any, fun _ => 0⟩
def SV_SLOT_STATE.command : Fld := ⟨4723, 32, 16, .ro, .any, fun _ => 0⟩
def SV_SLOT_STATE.bad_wedges : Fld := ⟨4739, 0, 32, .ro, .any, fun _ => 0⟩
/-- SV_SLOT_STATE (08_servo.md): 64 bits; reset by POR, WRM, WDG, ACT. -/
def SV_SLOT_STATE : Reg := ⟨"SV_SLOT_STATE", 0x20D14000, [(65536, 4), (256, 16)], 64,
  [SV_SLOT_STATE.feedback, SV_SLOT_STATE.member, SV_SLOT_STATE.closed, SV_SLOT_STATE.ready, SV_SLOT_STATE.unsafeBit, SV_SLOT_STATE.measured, SV_SLOT_STATE.bad_cause, SV_SLOT_STATE.command, SV_SLOT_STATE.bad_wedges]⟩

def SV_SLOT_POS.position : Fld := ⟨4755, 32, 32, .ro, .any, fun _ => 0⟩
def SV_SLOT_POS.pe : Fld := ⟨4771, 0, 32, .ro, .any, fun _ => 0⟩
/-- SV_SLOT_POS (08_servo.md): 64 bits; reset by POR, WRM, WDG, ACT. -/
def SV_SLOT_POS : Reg := ⟨"SV_SLOT_POS", 0x20D14008, [(65536, 4), (256, 16)], 64,
  [SV_SLOT_POS.position, SV_SLOT_POS.pe]⟩

def SV_SLOT_OFS.disp_nm : Fld := ⟨4787, 32, 16, .ro, .any, fun _ => 0⟩
def SV_SLOT_OFS.offset : Fld := ⟨4803, 0, 32, .ro, .any, fun _ => 0⟩
/-- SV_SLOT_OFS (08_servo.md): 64 bits; reset by POR, WRM, WDG, ACT. -/
def SV_SLOT_OFS : Reg := ⟨"SV_SLOT_OFS", 0x20D14010, [(65536, 4), (256, 16)], 64,
  [SV_SLOT_OFS.disp_nm, SV_SLOT_OFS.offset]⟩

def SV_SLOT_CFG.ma_gain : Fld := ⟨4816, 0, 16, .st, .within 1 65535, fun _ => 32768⟩
/-- SV_SLOT_CFG (08_servo.md): 32 bits; reset by POR, WRM, WDG. -/
def SV_SLOT_CFG : Reg := ⟨"SV_SLOT_CFG", 0x20D14018, [(65536, 4), (256, 16)], 32,
  [SV_SLOT_CFG.ma_gain]⟩

def SV_MCOEF.shift : Fld := ⟨4832, 32, 5, .st, .any, fun _ => 0⟩
def SV_MCOEF.coef : Fld := ⟨4848, 0, 32, .st, .any, fun _ => 0⟩
/-- SV_MCOEF (08_servo.md): 64 bits; reset by POR, WRM, WDG. -/
def SV_MCOEF : Reg := ⟨"SV_MCOEF", 0x20D18000, [(65536, 4), (256, 16), (64, 4), (8, 5)], 64,
  [SV_MCOEF.shift, SV_MCOEF.coef]⟩

def SV_TRACE_BUF.value : Fld := ⟨4869, 0, 32, .ro, .any, fun _ => 0⟩
/-- SV_TRACE_BUF (08_servo.md): 32 bits; reset by POR, WRM, WDG, ACT. -/
def SV_TRACE_BUF : Reg := ⟨"SV_TRACE_BUF", 0x20D80000, [(65536, 8), (4, 16384)], 32,
  [SV_TRACE_BUF.value]⟩

def SV_RED_CFG.dis_limit : Fld := ⟨4881, 8, 4, .rw, .atLeast 1 15, fun _ => 2⟩
def SV_RED_CFG.mode : Fld := ⟨4897, 0, 1, .ro, .any, fun _ => 0⟩
/-- SV_RED_CFG (09_servo_pairs.md): 32 bits; reset by POR, WRM, WDG, ACT. -/
def SV_RED_CFG : Reg := ⟨"SV_RED_CFG", 0x20D10800, [(65536, 4)], 32,
  [SV_RED_CFG.dis_limit, SV_RED_CFG.mode]⟩

def SV_RED_CTRL.action : Fld := ⟨4913, 0, 2, .wo, .any, fun _ => 0⟩
/-- SV_RED_CTRL (09_servo_pairs.md): 32 bits; reset by POR, WRM, WDG, ACT. -/
def SV_RED_CTRL : Reg := ⟨"SV_RED_CTRL", 0x20D10808, [(65536, 4)], 32,
  [SV_RED_CTRL.action]⟩

def SV_RED_STATUS.switchovers : Fld := ⟨4929, 48, 16, .ro, .any, fun _ => 0⟩
def SV_RED_STATUS.unresolved : Fld := ⟨4945, 32, 16, .ro, .any, fun _ => 0⟩
def SV_RED_STATUS.swap_result : Fld := ⟨4961, 16, 2, .ro, .any, fun _ => 0⟩
def SV_RED_STATUS.cause1 : Fld := ⟨4977, 12, 4, .ro, .any, fun _ => 0⟩
def SV_RED_STATUS.cause0 : Fld := ⟨4993, 8, 4, .ro, .any, fun _ => 0⟩
def SV_RED_STATUS.failed : Fld := ⟨5009, 6, 2, .ro, .any, fun _ => 0⟩
def SV_RED_STATUS.state : Fld := ⟨5025, 2, 2, .ro, .any, fun _ => 0⟩
def SV_RED_STATUS.swap_pending : Fld := ⟨5041, 1, 1, .ro, .any, fun _ => 0⟩
def SV_RED_STATUS.active : Fld := ⟨5057, 0, 1, .ro, .any, fun _ => 0⟩
/-- SV_RED_STATUS (09_servo_pairs.md): 64 bits; reset by POR, WRM, WDG, ACT. -/
def SV_RED_STATUS : Reg := ⟨"SV_RED_STATUS", 0x20D10810, [(65536, 4)], 64,
  [SV_RED_STATUS.switchovers, SV_RED_STATUS.unresolved, SV_RED_STATUS.swap_result, SV_RED_STATUS.cause1, SV_RED_STATUS.cause0, SV_RED_STATUS.failed, SV_RED_STATUS.state, SV_RED_STATUS.swap_pending, SV_RED_STATUS.active]⟩

def SV_RED_INT.implausible : Fld := ⟨5073, 5, 1, .w1c, .any, fun _ => 0⟩
def SV_RED_INT.swap_done : Fld := ⟨5089, 4, 1, .w1c, .any, fun _ => 0⟩
def SV_RED_INT.pair_fault : Fld := ⟨5105, 3, 1, .w1c, .any, fun _ => 0⟩
def SV_RED_INT.unresolved : Fld := ⟨5121, 2, 1, .w1c, .any, fun _ => 0⟩
def SV_RED_INT.engine_failed : Fld := ⟨5137, 1, 1, .w1c, .any, fun _ => 0⟩
def SV_RED_INT.switchover : Fld := ⟨5153, 0, 1, .w1c, .any, fun _ => 0⟩
/-- SV_RED_INT (09_servo_pairs.md): 32 bits; reset by POR, WRM, WDG, ACT. -/
def SV_RED_INT : Reg := ⟨"SV_RED_INT", 0x20D10818, [(65536, 4)], 32,
  [SV_RED_INT.implausible, SV_RED_INT.swap_done, SV_RED_INT.pair_fault, SV_RED_INT.unresolved, SV_RED_INT.engine_failed, SV_RED_INT.switchover]⟩

def SV_RED_REF.dma_max : Fld := ⟨5169, 16, 16, .rw, .any, fun _ => 8192⟩
def SV_RED_REF.dsp_max : Fld := ⟨5185, 0, 16, .rw, .any, fun _ => 4096⟩
/-- SV_RED_REF (09_servo_pairs.md): 64 bits; reset by POR, WRM, WDG, ACT. -/
def SV_RED_REF : Reg := ⟨"SV_RED_REF", 0x20D10820, [(65536, 4)], 64,
  [SV_RED_REF.dma_max, SV_RED_REF.dsp_max]⟩

def SV_RED_SVC.mask : Fld := ⟨5200, 0, 2, .st, .any, fun _ => 0⟩
/-- SV_RED_SVC (09_servo_pairs.md): 32 bits; reset by POR, WRM, WDG. -/
def SV_RED_SVC : Reg := ⟨"SV_RED_SVC", 0x20D10828, [(65536, 4)], 32,
  [SV_RED_SVC.mask]⟩

def MC_CTRL.spin_action : Fld := ⟨5216, 1, 3, .wo, .any, fun _ => 0⟩
def MC_CTRL.enable : Fld := ⟨5232, 0, 1, .rw, .any, fun _ => 0⟩
/-- MC_CTRL (10_motors.md): 32 bits; reset by POR, WRM, WDG. -/
def MC_CTRL : Reg := ⟨"MC_CTRL", 0x20E00000, [], 32,
  [MC_CTRL.spin_action, MC_CTRL.enable]⟩

def MC_INT.power_loss : Fld := ⟨5248, 8, 1, .w1c, .any, fun _ => 0⟩
def MC_INT.vcm_fault : Fld := ⟨5264, 7, 1, .w1c, .any, fun _ => 0⟩
def MC_INT.sp_fault : Fld := ⟨5280, 6, 1, .w1c, .any, fun _ => 0⟩
def MC_INT.brk_fault : Fld := ⟨5296, 5, 1, .w1c, .any, fun _ => 0⟩
def MC_INT.overvolt : Fld := ⟨5312, 4, 1, .w1c, .any, fun _ => 0⟩
def MC_INT.fly_park : Fld := ⟨5328, 3, 1, .w1c, .any, fun _ => 0⟩
def MC_INT.reacquired : Fld := ⟨5344, 2, 1, .w1c, .any, fun _ => 0⟩
def MC_INT.obs_lost : Fld := ⟨5360, 1, 1, .w1c, .any, fun _ => 0⟩
def MC_INT.start_fail : Fld := ⟨5376, 0, 1, .w1c, .any, fun _ => 0⟩
/-- MC_INT (10_motors.md): 32 bits; reset by POR, WRM, WDG. -/
def MC_INT : Reg := ⟨"MC_INT", 0x20E00008, [], 32,
  [MC_INT.power_loss, MC_INT.vcm_fault, MC_INT.sp_fault, MC_INT.brk_fault, MC_INT.overvolt, MC_INT.fly_park, MC_INT.reacquired, MC_INT.obs_lost, MC_INT.start_fail]⟩

def MC_SPIN_CFG.fly_rpm : Fld := ⟨5392, 48, 16, .rw, .any, fun _ => 4500⟩
def MC_SPIN_CFG.handover_up : Fld := ⟨5408, 32, 16, .rw, .any, fun _ => 1200⟩
def MC_SPIN_CFG.handover_dn : Fld := ⟨5424, 16, 16, .rw, .any, fun _ => 1000⟩
def MC_SPIN_CFG.catch_min_rpm : Fld := ⟨5440, 8, 8, .rw, .any, fun _ => 10⟩
def MC_SPIN_CFG.pole_pairs : Fld := ⟨5456, 0, 4, .rw, .within 1 12, fun _ => 4⟩
/-- MC_SPIN_CFG (10_motors.md): 64 bits; reset by POR, WRM, WDG. -/
def MC_SPIN_CFG : Reg := ⟨"MC_SPIN_CFG", 0x20E00010, [], 64,
  [MC_SPIN_CFG.fly_rpm, MC_SPIN_CFG.handover_up, MC_SPIN_CFG.handover_dn, MC_SPIN_CFG.catch_min_rpm, MC_SPIN_CFG.pole_pairs]⟩

def MC_SPIN_START.ramp_ms : Fld := ⟨5472, 48, 16, .rw, .any, fun _ => 1500⟩
def MC_SPIN_START.align_ms : Fld := ⟨5488, 32, 16, .rw, .any, fun _ => 300⟩
def MC_SPIN_START.edge_us : Fld := ⟨5504, 24, 8, .rw, .any, fun _ => 40⟩
def MC_SPIN_START.catch_ms : Fld := ⟨5520, 16, 8, .rw, .any, fun _ => 2⟩
def MC_SPIN_START.start_tries : Fld := ⟨5536, 12, 4, .rw, .any, fun _ => 3⟩
def MC_SPIN_START.start_ma : Fld := ⟨5552, 0, 12, .rw, .any, fun _ => 150⟩
/-- MC_SPIN_START (10_motors.md): 64 bits; reset by POR, WRM, WDG. -/
def MC_SPIN_START : Reg := ⟨"MC_SPIN_START", 0x20E00018, [], 64,
  [MC_SPIN_START.ramp_ms, MC_SPIN_START.align_ms, MC_SPIN_START.edge_us, MC_SPIN_START.catch_ms, MC_SPIN_START.start_tries, MC_SPIN_START.start_ma]⟩

def MC_SPIN_RUN.slew_rpm_s : Fld := ⟨5568, 48, 16, .rw, .any, fun _ => 600⟩
def MC_SPIN_RUN.ramp_rpm_s : Fld := ⟨5584, 32, 16, .rw, .any, fun _ => 200⟩
def MC_SPIN_RUN.run_ma : Fld := ⟨5600, 20, 12, .rw, .any, fun _ => 200⟩
def MC_SPIN_RUN.brake_ma : Fld := ⟨5616, 8, 12, .rw, .any, fun _ => 100⟩
def MC_SPIN_RUN.adv : Fld := ⟨5632, 0, 8, .rw, .any, fun _ => 0⟩
/-- MC_SPIN_RUN (10_motors.md): 64 bits; reset by POR, WRM, WDG. -/
def MC_SPIN_RUN : Reg := ⟨"MC_SPIN_RUN", 0x20E00020, [], 64,
  [MC_SPIN_RUN.slew_rpm_s, MC_SPIN_RUN.ramp_rpm_s, MC_SPIN_RUN.run_ma, MC_SPIN_RUN.brake_ma, MC_SPIN_RUN.adv]⟩

def MC_SPIN_LOOP.shift : Fld := ⟨5648, 48, 5, .rw, .any, fun _ => 0⟩
def MC_SPIN_LOOP.ki : Fld := ⟨5664, 32, 16, .rw, .any, fun _ => 0⟩
def MC_SPIN_LOOP.kp : Fld := ⟨5680, 16, 16, .rw, .any, fun _ => 0⟩
/-- MC_SPIN_LOOP (10_motors.md): 64 bits; reset by POR, WRM, WDG. -/
def MC_SPIN_LOOP : Reg := ⟨"MC_SPIN_LOOP", 0x20E00028, [], 64,
  [MC_SPIN_LOOP.shift, MC_SPIN_LOOP.ki, MC_SPIN_LOOP.kp]⟩

def MC_OBS_CFG.loss_thr : Fld := ⟨5696, 48, 16, .rw, .any, fun _ => 2048⟩
def MC_OBS_CFG.lock_thr : Fld := ⟨5712, 32, 16, .rw, .any, fun _ => 512⟩
def MC_OBS_CFG.loss_n : Fld := ⟨5728, 24, 8, .rw, .atLeast 1 255, fun _ => 8⟩
def MC_OBS_CFG.reacq_ms : Fld := ⟨5744, 16, 8, .rw, .any, fun _ => 50⟩
def MC_OBS_CFG.at_speed_ppm : Fld := ⟨5760, 0, 16, .rw, .any, fun _ => 100⟩
/-- MC_OBS_CFG (10_motors.md): 64 bits; reset by POR, WRM, WDG. -/
def MC_OBS_CFG : Reg := ⟨"MC_OBS_CFG", 0x20E00030, [], 64,
  [MC_OBS_CFG.loss_thr, MC_OBS_CFG.lock_thr, MC_OBS_CFG.loss_n, MC_OBS_CFG.reacq_ms, MC_OBS_CFG.at_speed_ppm]⟩

def MC_OBS_MODEL.rs_mohm : Fld := ⟨5776, 48, 16, .rw, .any, fun _ => 0⟩
def MC_OBS_MODEL.ls_uh : Fld := ⟨5792, 32, 16, .rw, .any, fun _ => 0⟩
def MC_OBS_MODEL.ke : Fld := ⟨5808, 16, 16, .rw, .any, fun _ => 0⟩
/-- MC_OBS_MODEL (10_motors.md): 64 bits; reset by POR, WRM, WDG. -/
def MC_OBS_MODEL : Reg := ⟨"MC_OBS_MODEL", 0x20E00038, [], 64,
  [MC_OBS_MODEL.rs_mohm, MC_OBS_MODEL.ls_uh, MC_OBS_MODEL.ke]⟩

def MC_CURVE_CFG.restart_rpm : Fld := ⟨5824, 16, 16, .rw, .any, fun _ => 2000⟩
def MC_CURVE_CFG.stop_rpm : Fld := ⟨5840, 0, 16, .rw, .any, fun _ => 1500⟩
/-- MC_CURVE_CFG (10_motors.md): 32 bits; reset by POR, WRM, WDG. -/
def MC_CURVE_CFG : Reg := ⟨"MC_CURVE_CFG", 0x20E00040, [], 32,
  [MC_CURVE_CFG.restart_rpm, MC_CURVE_CFG.stop_rpm]⟩

def MC_IDLE.depth : Fld := ⟨5856, 0, 8, .rw, .any, fun _ => 0⟩
/-- MC_IDLE (10_motors.md): 32 bits; reset by POR, WRM, WDG. -/
def MC_IDLE : Reg := ⟨"MC_IDLE", 0x20E00048, [], 32,
  [MC_IDLE.depth]⟩

def MC_BUS.ov_thr : Fld := ⟨5872, 48, 16, .rw, .any, fun _ => 14400⟩
def MC_BUS.brk_on : Fld := ⟨5888, 32, 16, .rw, .any, fun _ => 13200⟩
def MC_BUS.brk_off : Fld := ⟨5904, 16, 16, .rw, .any, fun _ => 12800⟩
def MC_BUS.uv_thr : Fld := ⟨5920, 0, 16, .rw, .any, fun _ => 9000⟩
/-- MC_BUS (10_motors.md): 64 bits; reset by POR, WRM, WDG. -/
def MC_BUS : Reg := ⟨"MC_BUS", 0x20E00050, [], 64,
  [MC_BUS.ov_thr, MC_BUS.brk_on, MC_BUS.brk_off, MC_BUS.uv_thr]⟩

def MC_PWM.sp_pwm_ns : Fld := ⟨5936, 16, 16, .rw, .within 10000 50000, fun _ => 25000⟩
def MC_PWM.dead_ns : Fld := ⟨5952, 8, 8, .rw, .atLeast 20 255, fun _ => 100⟩
def MC_PWM.blank_ns : Fld := ⟨5968, 0, 8, .rw, .any, fun _ => 100⟩
/-- MC_PWM (10_motors.md): 32 bits; reset by POR, WRM, WDG. -/
def MC_PWM : Reg := ⟨"MC_PWM", 0x20E00058, [], 32,
  [MC_PWM.sp_pwm_ns, MC_PWM.dead_ns, MC_PWM.blank_ns]⟩

def MC_SPIN_STATUS.state : Fld := ⟨5984, 60, 4, .ro, .any, fun _ => 0⟩
def MC_SPIN_STATUS.locked : Fld := ⟨6000, 59, 1, .ro, .any, fun _ => 0⟩
def MC_SPIN_STATUS.at_speed : Fld := ⟨6016, 58, 1, .ro, .any, fun _ => 0⟩
def MC_SPIN_STATUS.full : Fld := ⟨6032, 57, 1, .ro, .any, fun _ => 0⟩
def MC_SPIN_STATUS.aligned : Fld := ⟨6048, 56, 1, .ro, .any, fun _ => 0⟩
def MC_SPIN_STATUS.attempts : Fld := ⟨6064, 32, 8, .ro, .any, fun _ => 0⟩
def MC_SPIN_STATUS.speed : Fld := ⟨6080, 0, 32, .ro, .any, fun _ => 0⟩
/-- MC_SPIN_STATUS (10_motors.md): 64 bits; reset by POR, WRM, WDG. -/
def MC_SPIN_STATUS : Reg := ⟨"MC_SPIN_STATUS", 0x20E00060, [], 64,
  [MC_SPIN_STATUS.state, MC_SPIN_STATUS.locked, MC_SPIN_STATUS.at_speed, MC_SPIN_STATUS.full, MC_SPIN_STATUS.aligned, MC_SPIN_STATUS.attempts, MC_SPIN_STATUS.speed]⟩

def MC_PL_STATUS.valid : Fld := ⟨6102, 8, 1, .w1c, .any, fun _ => 0⟩
def MC_PL_STATUS.cut : Fld := ⟨6118, 4, 4, .ro, .any, fun _ => 0⟩
def MC_PL_STATUS.done : Fld := ⟨6134, 0, 4, .ro, .any, fun _ => 0⟩
/-- MC_PL_STATUS (10_motors.md): 32 bits; reset by POR. -/
def MC_PL_STATUS : Reg := ⟨"MC_PL_STATUS", 0x20E00068, [], 32,
  [MC_PL_STATUS.valid, MC_PL_STATUS.cut, MC_PL_STATUS.done]⟩

def MC_VCM_CFG.fs_ma : Fld := ⟨6144, 48, 16, .st, .zeroOr 100 4000, fun _ => 0⟩
def MC_VCM_CFG.kp : Fld := ⟨6160, 32, 16, .st, .any, fun _ => 0⟩
def MC_VCM_CFG.ki : Fld := ⟨6176, 16, 16, .st, .any, fun _ => 0⟩
def MC_VCM_CFG.shift : Fld := ⟨6192, 11, 5, .st, .any, fun _ => 0⟩
def MC_VCM_CFG.pwm_div : Fld := ⟨6208, 9, 2, .st, .any, fun _ => 1⟩
/-- MC_VCM_CFG (10_motors.md): 64 bits; reset by POR, WRM, WDG. -/
def MC_VCM_CFG : Reg := ⟨"MC_VCM_CFG", 0x20E00200, [(64, 4)], 64,
  [MC_VCM_CFG.fs_ma, MC_VCM_CFG.kp, MC_VCM_CFG.ki, MC_VCM_CFG.shift, MC_VCM_CFG.pwm_div]⟩

def MC_VCM_CAL.is_gain : Fld := ⟨6224, 48, 16, .rw, .any, fun _ => 0⟩
def MC_VCM_CAL.is_zero : Fld := ⟨6240, 32, 16, .rw, .any, fun _ => 2048⟩
def MC_VCM_CAL.rcoil_mohm : Fld := ⟨6256, 16, 16, .rw, .any, fun _ => 0⟩
def MC_VCM_CAL.kb : Fld := ⟨6272, 0, 16, .rw, .any, fun _ => 0⟩
/-- MC_VCM_CAL (10_motors.md): 64 bits; reset by POR, WRM, WDG. -/
def MC_VCM_CAL : Reg := ⟨"MC_VCM_CAL", 0x20E00208, [(64, 4)], 64,
  [MC_VCM_CAL.is_gain, MC_VCM_CAL.is_zero, MC_VCM_CAL.rcoil_mohm, MC_VCM_CAL.kb]⟩

def MC_VCM_RET.dir : Fld := ⟨6288, 63, 1, .rw, .any, fun _ => 0⟩
def MC_VCM_RET.ret_vel : Fld := ⟨6304, 48, 15, .rw, .any, fun _ => 0⟩
def MC_VCM_RET.load_vel : Fld := ⟨6320, 32, 16, .rw, .any, fun _ => 0⟩
def MC_VCM_RET.ret_ms : Fld := ⟨6336, 24, 8, .rw, .any, fun _ => 150⟩
def MC_VCM_RET.latch_ms : Fld := ⟨6352, 16, 8, .rw, .any, fun _ => 50⟩
def MC_VCM_RET.ret_ma : Fld := ⟨6368, 8, 8, .rw, .any, fun _ => 30⟩
def MC_VCM_RET.latch_ma : Fld := ⟨6384, 0, 8, .rw, .any, fun _ => 10⟩
/-- MC_VCM_RET (10_motors.md): 64 bits; reset by POR, WRM, WDG. -/
def MC_VCM_RET : Reg := ⟨"MC_VCM_RET", 0x20E00210, [(64, 4)], 64,
  [MC_VCM_RET.dir, MC_VCM_RET.ret_vel, MC_VCM_RET.load_vel, MC_VCM_RET.ret_ms, MC_VCM_RET.latch_ms, MC_VCM_RET.ret_ma, MC_VCM_RET.latch_ma]⟩

def MC_VCM_STATUS.mode : Fld := ⟨6401, 61, 3, .ro, .any, fun _ => 0⟩
def MC_VCM_STATUS.parked : Fld := ⟨6417, 60, 1, .ro, .any, fun _ => 0⟩
def MC_VCM_STATUS.loaded : Fld := ⟨6433, 59, 1, .ro, .any, fun _ => 0⟩
def MC_VCM_STATUS.lim_ticks : Fld := ⟨6449, 32, 16, .ro, .any, fun _ => 0⟩
def MC_VCM_STATUS.depth : Fld := ⟨6465, 16, 16, .ro, .any, fun _ => 0⟩
def MC_VCM_STATUS.current : Fld := ⟨6481, 0, 16, .ro, .any, fun _ => 0⟩
/-- MC_VCM_STATUS (10_motors.md): 64 bits; reset by POR, WRM, WDG, ACT. -/
def MC_VCM_STATUS : Reg := ⟨"MC_VCM_STATUS", 0x20E00218, [(64, 4)], 64,
  [MC_VCM_STATUS.mode, MC_VCM_STATUS.parked, MC_VCM_STATUS.loaded, MC_VCM_STATUS.lim_ticks, MC_VCM_STATUS.depth, MC_VCM_STATUS.current]⟩

def MC_CURVE.rpm : Fld := ⟨6496, 0, 16, .rw, .any, fun _ => 0⟩
/-- MC_CURVE (10_motors.md): 32 bits; reset by POR, WRM, WDG. -/
def MC_CURVE : Reg := ⟨"MC_CURVE", 0x20E00400, [(4, 256)], 32,
  [MC_CURVE.rpm]⟩

def MC_SIN_TAB.value : Fld := ⟨6512, 0, 16, .rw, .any, sinTabReset⟩
/-- MC_SIN_TAB (10_motors.md): 32 bits; reset by POR, WRM, WDG. -/
def MC_SIN_TAB : Reg := ⟨"MC_SIN_TAB", 0x20E01000, [(4, 1024)], 32,
  [MC_SIN_TAB.value]⟩

def SQ_CTRL.thread_en : Fld := ⟨6529, 4, 4, .rw, .any, fun _ => 0⟩
def SQ_CTRL.action : Fld := ⟨6545, 0, 3, .wo, .any, fun _ => 0⟩
/-- SQ_CTRL (11_media_sequencers.md): 32 bits; reset by POR, WRM, WDG, ACT. -/
def SQ_CTRL : Reg := ⟨"SQ_CTRL", 0x20900000, [(262144, 4)], 32,
  [SQ_CTRL.thread_en, SQ_CTRL.action]⟩

def SQ_STATUS.state : Fld := ⟨6561, 61, 3, .ro, .any, fun _ => 0⟩
def SQ_STATUS.arm_held : Fld := ⟨6577, 60, 1, .ro, .any, fun _ => 0⟩
def SQ_STATUS.arm_owner : Fld := ⟨6593, 58, 2, .ro, .any, fun _ => 0⟩
def SQ_STATUS.thr_fault : Fld := ⟨6609, 52, 4, .ro, .any, fun _ => 0⟩
def SQ_STATUS.thr_busy : Fld := ⟨6625, 48, 4, .ro, .any, fun _ => 0⟩
def SQ_STATUS.issued : Fld := ⟨6641, 0, 32, .ro, .any, fun _ => 0⟩
/-- SQ_STATUS (11_media_sequencers.md): 64 bits; reset by POR, WRM, WDG, ACT. -/
def SQ_STATUS : Reg := ⟨"SQ_STATUS", 0x20900008, [(262144, 4)], 64,
  [SQ_STATUS.state, SQ_STATUS.arm_held, SQ_STATUS.arm_owner, SQ_STATUS.thr_fault, SQ_STATUS.thr_busy, SQ_STATUS.issued]⟩

def SQ_INT.ucode : Fld := ⟨6657, 5, 1, .w1c, .any, fun _ => 0⟩
def SQ_INT.leftover : Fld := ⟨6673, 4, 1, .w1c, .any, fun _ => 0⟩
def SQ_INT.abandoned : Fld := ⟨6689, 3, 1, .w1c, .any, fun _ => 0⟩
def SQ_INT.denied : Fld := ⟨6705, 2, 1, .w1c, .any, fun _ => 0⟩
def SQ_INT.cs_parity : Fld := ⟨6721, 1, 1, .w1c, .any, fun _ => 0⟩
def SQ_INT.fault : Fld := ⟨6737, 0, 1, .w1c, .any, fun _ => 0⟩
/-- SQ_INT (11_media_sequencers.md): 32 bits; reset by POR, WRM, WDG, ACT. -/
def SQ_INT : Reg := ⟨"SQ_INT", 0x20900010, [(262144, 4)], 32,
  [SQ_INT.ucode, SQ_INT.leftover, SQ_INT.abandoned, SQ_INT.denied, SQ_INT.cs_parity, SQ_INT.fault]⟩

def SQ_VERSION.loaded : Fld := ⟨6752, 63, 1, .ro, .any, fun _ => 0⟩
def SQ_VERSION.words : Fld := ⟨6768, 32, 14, .ro, .any, fun _ => 0⟩
def SQ_VERSION.version : Fld := ⟨6784, 0, 32, .ro, .any, fun _ => 0⟩
/-- SQ_VERSION (11_media_sequencers.md): 64 bits; reset by POR, WRM, WDG. -/
def SQ_VERSION : Reg := ⟨"SQ_VERSION", 0x20900018, [(262144, 4)], 64,
  [SQ_VERSION.loaded, SQ_VERSION.words, SQ_VERSION.version]⟩

def SQ_FAULT.code : Fld := ⟨6801, 60, 4, .ro, .any, fun _ => 0⟩
def SQ_FAULT.thread : Fld := ⟨6817, 58, 2, .ro, .any, fun _ => 0⟩
def SQ_FAULT.pc : Fld := ⟨6833, 45, 13, .ro, .any, fun _ => 0⟩
/-- SQ_FAULT (11_media_sequencers.md): 64 bits; reset by POR, WRM, WDG, ACT. -/
def SQ_FAULT : Reg := ⟨"SQ_FAULT", 0x20900020, [(262144, 4)], 64,
  [SQ_FAULT.code, SQ_FAULT.thread, SQ_FAULT.pc]⟩

def SQ_SIG.thread : Fld := ⟨6849, 8, 2, .ro, .any, fun _ => 0⟩
def SQ_SIG.code : Fld := ⟨6865, 0, 8, .ro, .any, fun _ => 0⟩
/-- SQ_SIG (11_media_sequencers.md): 32 bits; reset by POR, WRM, WDG, ACT. -/
def SQ_SIG : Reg := ⟨"SQ_SIG", 0x20900028, [(262144, 4)], 32,
  [SQ_SIG.thread, SQ_SIG.code]⟩

def SQ_VEC.addr : Fld := ⟨6880, 0, 13, .rw, .any, fun _ => 0⟩
/-- SQ_VEC (11_media_sequencers.md): 32 bits; reset by POR, WRM, WDG. -/
def SQ_VEC : Reg := ⟨"SQ_VEC", 0x20900040, [(262144, 4), (8, 5)], 32,
  [SQ_VEC.addr]⟩

def SQ_THR_STATE.state : Fld := ⟨6898, 61, 3, .ro, .any, fun _ => 0⟩
def SQ_THR_STATE.cond : Fld := ⟨6914, 55, 6, .ro, .any, fun _ => 0⟩
def SQ_THR_STATE.pc : Fld := ⟨6930, 42, 13, .ro, .any, fun _ => 0⟩
def SQ_THR_STATE.pending : Fld := ⟨6946, 38, 4, .ro, .any, fun _ => 0⟩
def SQ_THR_STATE.arm : Fld := ⟨6962, 37, 1, .ro, .any, fun _ => 0⟩
def SQ_THR_STATE.write_run : Fld := ⟨6978, 36, 1, .ro, .any, fun _ => 0⟩
def SQ_THR_STATE.grants : Fld := ⟨6994, 32, 4, .ro, .any, fun _ => 0⟩
def SQ_THR_STATE.last_refusal : Fld := ⟨7010, 28, 4, .ro, .any, fun _ => 0⟩
def SQ_THR_STATE.dropped : Fld := ⟨7026, 20, 8, .ro, .any, fun _ => 0⟩
def SQ_THR_STATE.flumes : Fld := ⟨7042, 16, 4, .ro, .any, fun _ => 0⟩
def SQ_THR_STATE.tag : Fld := ⟨7058, 0, 16, .ro, .any, fun _ => 0⟩
/-- SQ_THR_STATE (11_media_sequencers.md): 64 bits; reset by POR, WRM, WDG, ACT. -/
def SQ_THR_STATE : Reg := ⟨"SQ_THR_STATE", 0x20900100, [(262144, 4), (64, 4)], 64,
  [SQ_THR_STATE.state, SQ_THR_STATE.cond, SQ_THR_STATE.pc, SQ_THR_STATE.pending, SQ_THR_STATE.arm, SQ_THR_STATE.write_run, SQ_THR_STATE.grants, SQ_THR_STATE.last_refusal, SQ_THR_STATE.dropped, SQ_THR_STATE.flumes, SQ_THR_STATE.tag]⟩

def SQ_THR_REG.value : Fld := ⟨7076, 0, 64, .ro, .any, fun _ => 0⟩
/-- SQ_THR_REG (11_media_sequencers.md): 64 bits; reset by POR, WRM, WDG, ACT. -/
def SQ_THR_REG : Reg := ⟨"SQ_THR_REG", 0x20900200, [(262144, 4), (128, 4), (8, 16)], 64,
  [SQ_THR_REG.value]⟩

def SQ_CS.bits : Fld := ⟨7088, 0, 64, .rw, .any, fun _ => 0⟩
/-- SQ_CS (11_media_sequencers.md): 64 bits; reset by POR, WRM, WDG. -/
def SQ_CS : Reg := ⟨"SQ_CS", 0x20920000, [(262144, 4), (16, 8192), (8, 2)], 64,
  [SQ_CS.bits]⟩

def ZX_CTRL.action : Fld := ⟨7104, 1, 2, .wo, .any, fun _ => 0⟩
def ZX_CTRL.enable : Fld := ⟨7120, 0, 1, .rw, .any, fun _ => 0⟩
/-- ZX_CTRL (12_zones_scheduling.md): 32 bits; reset by POR, WRM, WDG. -/
def ZX_CTRL : Reg := ⟨"ZX_CTRL", 0x20300000, [], 32,
  [ZX_CTRL.action, ZX_CTRL.enable]⟩

def ZX_INT.rehome_limit : Fld := ⟨7136, 4, 1, .w1c, .any, fun _ => 0⟩
def ZX_INT.spare_full : Fld := ⟨7152, 3, 1, .w1c, .any, fun _ => 0⟩
def ZX_INT.recovered : Fld := ⟨7168, 2, 1, .w1c, .any, fun _ => 0⟩
def ZX_INT.jrn_fail : Fld := ⟨7184, 1, 1, .w1c, .any, fun _ => 0⟩
def ZX_INT.ns_conflict : Fld := ⟨7200, 0, 1, .w1c, .any, fun _ => 0⟩
/-- ZX_INT (12_zones_scheduling.md): 32 bits; reset by POR, WRM, WDG. -/
def ZX_INT : Reg := ⟨"ZX_INT", 0x20300008, [], 32,
  [ZX_INT.rehome_limit, ZX_INT.spare_full, ZX_INT.recovered, ZX_INT.jrn_fail, ZX_INT.ns_conflict]⟩

def ZX_ZT_BASE.addr : Fld := ⟨7216, 0, 40, .rw, .any, fun _ => 0⟩
/-- ZX_ZT_BASE (12_zones_scheduling.md): 64 bits; reset by POR, WRM, WDG. -/
def ZX_ZT_BASE : Reg := ⟨"ZX_ZT_BASE", 0x20300010, [], 64,
  [ZX_ZT_BASE.addr]⟩

def ZX_VT_BASE.addr : Fld := ⟨7232, 0, 40, .rw, .any, fun _ => 0⟩
/-- ZX_VT_BASE (12_zones_scheduling.md): 64 bits; reset by POR, WRM, WDG. -/
def ZX_VT_BASE : Reg := ⟨"ZX_VT_BASE", 0x20300018, [], 64,
  [ZX_VT_BASE.addr]⟩

def ZX_JRN_CFG.reserve_rows : Fld := ⟨7248, 16, 16, .rw, .atLeast 16 65535, fun _ => 256⟩
def ZX_JRN_CFG.batch_us : Fld := ⟨7264, 0, 16, .rw, .within 10 10000, fun _ => 200⟩
/-- ZX_JRN_CFG (12_zones_scheduling.md): 32 bits; reset by POR, WRM, WDG. -/
def ZX_JRN_CFG : Reg := ⟨"ZX_JRN_CFG", 0x20300020, [], 32,
  [ZX_JRN_CFG.reserve_rows, ZX_JRN_CFG.batch_us]⟩

def ZX_JRN_ZONE.zone_b : Fld := ⟨7280, 32, 24, .rw, .any, fun _ => 0⟩
def ZX_JRN_ZONE.zone_a : Fld := ⟨7296, 0, 24, .rw, .any, fun _ => 0⟩
/-- ZX_JRN_ZONE (12_zones_scheduling.md): 64 bits; reset by POR, WRM, WDG. -/
def ZX_JRN_ZONE : Reg := ⟨"ZX_JRN_ZONE", 0x20300028, [(8, 2)], 64,
  [ZX_JRN_ZONE.zone_b, ZX_JRN_ZONE.zone_a]⟩

def ZX_JRN_STATUS.active : Fld := ⟨7312, 63, 1, .ro, .any, fun _ => 0⟩
def ZX_JRN_STATUS.used : Fld := ⟨7328, 32, 24, .ro, .any, fun _ => 0⟩
def ZX_JRN_STATUS.seq : Fld := ⟨7344, 0, 32, .ro, .any, fun _ => 0⟩
/-- ZX_JRN_STATUS (12_zones_scheduling.md): 64 bits; reset by POR, WRM, WDG. -/
def ZX_JRN_STATUS : Reg := ⟨"ZX_JRN_STATUS", 0x20300038, [], 64,
  [ZX_JRN_STATUS.active, ZX_JRN_STATUS.used, ZX_JRN_STATUS.seq]⟩

def ZX_NS.enable : Fld := ⟨7360, 63, 1, .rw, .any, fun _ => 0⟩
def ZX_NS.zoned : Fld := ⟨7376, 62, 1, .rw, .any, fun _ => 0⟩
def ZX_NS.compressed : Fld := ⟨7392, 61, 1, .rw, .any, fun _ => 0⟩
def ZX_NS.class_ordered : Fld := ⟨7408, 60, 1, .rw, .any, fun _ => 0⟩
def ZX_NS.pin : Fld := ⟨7424, 59, 1, .rw, .any, fun _ => 0⟩
def ZX_NS.zone_count : Fld := ⟨7440, 32, 24, .rw, .any, fun _ => 0⟩
def ZX_NS.first_zone : Fld := ⟨7456, 0, 24, .rw, .any, fun _ => 0⟩
/-- ZX_NS (12_zones_scheduling.md): 64 bits; reset by POR, WRM, WDG. -/
def ZX_NS : Reg := ⟨"ZX_NS", 0x20300400, [(16, 64)], 64,
  [ZX_NS.enable, ZX_NS.zoned, ZX_NS.compressed, ZX_NS.class_ordered, ZX_NS.pin, ZX_NS.zone_count, ZX_NS.first_zone]⟩

def ZX_ZG_HOME.home : Fld := ⟨7472, 0, 2, .st, .any, fun _ => 0⟩
/-- ZX_ZG_HOME (12_zones_scheduling.md): 32 bits; reset by POR, WRM, WDG. -/
def ZX_ZG_HOME : Reg := ⟨"ZX_ZG_HOME", 0x20301000, [(8, 4096)], 32,
  [ZX_ZG_HOME.home]⟩

def MS_CTRL.enable : Fld := ⟨7488, 0, 1, .rw, .any, fun _ => 0⟩
/-- MS_CTRL (12_zones_scheduling.md): 32 bits; reset by POR, WRM, WDG. -/
def MS_CTRL : Reg := ⟨"MS_CTRL", 0x20200000, [], 32,
  [MS_CTRL.enable]⟩

def MS_INT.requeue : Fld := ⟨7504, 3, 1, .w1c, .any, fun _ => 0⟩
def MS_INT.aged : Fld := ⟨7520, 2, 1, .w1c, .any, fun _ => 0⟩
def MS_INT.reserve_short : Fld := ⟨7536, 1, 1, .w1c, .any, fun _ => 0⟩
def MS_INT.uncovered : Fld := ⟨7552, 0, 1, .w1c, .any, fun _ => 0⟩
/-- MS_INT (12_zones_scheduling.md): 32 bits; reset by POR, WRM, WDG. -/
def MS_INT : Reg := ⟨"MS_INT", 0x20200008, [], 32,
  [MS_INT.requeue, MS_INT.aged, MS_INT.reserve_short, MS_INT.uncovered]⟩

def MS_SCHED.urg_tags : Fld := ⟨7568, 32, 3, .rw, .atLeast 1 7, fun _ => 2⟩
def MS_SCHED.age_ms : Fld := ⟨7584, 16, 16, .rw, .within 10 65535, fun _ => 500⟩
def MS_SCHED.piece_us : Fld := ⟨7600, 0, 16, .rw, .clamp 100 400, fun _ => 400⟩
/-- MS_SCHED (12_zones_scheduling.md): 64 bits; reset by POR, WRM, WDG. -/
def MS_SCHED : Reg := ⟨"MS_SCHED", 0x20200010, [], 64,
  [MS_SCHED.urg_tags, MS_SCHED.age_ms, MS_SCHED.piece_us]⟩

def MS_URG_CFG.rate : Fld := ⟨7616, 16, 9, .ro, .any, fun _ => 0⟩
def MS_URG_CFG.slot_div : Fld := ⟨7632, 0, 5, .st, .within 2 16, fun _ => 0⟩
/-- MS_URG_CFG (12_zones_scheduling.md): 32 bits; reset by POR, WRM, WDG. -/
def MS_URG_CFG : Reg := ⟨"MS_URG_CFG", 0x20200018, [], 32,
  [MS_URG_CFG.rate, MS_URG_CFG.slot_div]⟩

def MS_URG_STATUS.covered : Fld := ⟨7648, 32, 32, .ro, .any, fun _ => 0⟩
def MS_URG_STATUS.reserve_short : Fld := ⟨7664, 7, 1, .ro, .any, fun _ => 0⟩
def MS_URG_STATUS.claim : Fld := ⟨7680, 0, 6, .ro, .any, fun _ => 0⟩
/-- MS_URG_STATUS (12_zones_scheduling.md): 64 bits; reset by POR, WRM, WDG. -/
def MS_URG_STATUS : Reg := ⟨"MS_URG_STATUS", 0x20200020, [], 64,
  [MS_URG_STATUS.covered, MS_URG_STATUS.reserve_short, MS_URG_STATUS.claim]⟩

def MS_URG_UNCOV.spacing : Fld := ⟨7696, 48, 16, .ro, .any, fun _ => 0⟩
def MS_URG_UNCOV.passes : Fld := ⟨7712, 32, 16, .ro, .any, fun _ => 0⟩
def MS_URG_UNCOV.resource : Fld := ⟨7728, 16, 16, .ro, .any, fun _ => 0⟩
def MS_URG_UNCOV.state : Fld := ⟨7744, 0, 16, .ro, .any, fun _ => 0⟩
/-- MS_URG_UNCOV (12_zones_scheduling.md): 64 bits; reset by POR, WRM, WDG. -/
def MS_URG_UNCOV : Reg := ⟨"MS_URG_UNCOV", 0x20200028, [], 64,
  [MS_URG_UNCOV.spacing, MS_URG_UNCOV.passes, MS_URG_UNCOV.resource, MS_URG_UNCOV.state]⟩

def MS_PROFILE.max_comp_level : Fld := ⟨7760, 16, 4, .st, .within 1 9, fun _ => 0⟩
def MS_PROFILE.seek_pct : Fld := ⟨7776, 8, 7, .st, .within 20 100, fun _ => 0⟩
def MS_PROFILE.comb_width : Fld := ⟨7792, 0, 5, .st, .within 1 16, fun _ => 0⟩
/-- MS_PROFILE (12_zones_scheduling.md): 32 bits; reset by POR, WRM, WDG. -/
def MS_PROFILE : Reg := ⟨"MS_PROFILE", 0x20200030, [], 32,
  [MS_PROFILE.max_comp_level, MS_PROFILE.seek_pct, MS_PROFILE.comb_width]⟩

def MS_ACT_STATE.slot_phase : Fld := ⟨7809, 4, 4, .ro, .any, fun _ => 0⟩
def MS_ACT_STATE.urgent : Fld := ⟨7825, 2, 2, .ro, .any, fun _ => 0⟩
def MS_ACT_STATE.single_served : Fld := ⟨7841, 1, 1, .ro, .any, fun _ => 0⟩
def MS_ACT_STATE.arm_urgent : Fld := ⟨7857, 0, 1, .ro, .any, fun _ => 0⟩
/-- MS_ACT_STATE (12_zones_scheduling.md): 32 bits; reset by POR, WRM, WDG, ACT. -/
def MS_ACT_STATE : Reg := ⟨"MS_ACT_STATE", 0x20200100, [(8, 4)], 32,
  [MS_ACT_STATE.slot_phase, MS_ACT_STATE.urgent, MS_ACT_STATE.single_served, MS_ACT_STATE.arm_urgent]⟩

def MS_HQ_STATE.oldest_ms : Fld := ⟨7875, 48, 16, .ro, .any, fun _ => 0⟩
def MS_HQ_STATE.urgent : Fld := ⟨7891, 8, 6, .ro, .any, fun _ => 0⟩
def MS_HQ_STATE.used : Fld := ⟨7907, 0, 6, .ro, .any, fun _ => 0⟩
/-- MS_HQ_STATE (12_zones_scheduling.md): 64 bits; reset by POR, WRM, WDG, ACT. -/
def MS_HQ_STATE : Reg := ⟨"MS_HQ_STATE", 0x20201000, [(16, 64)], 64,
  [MS_HQ_STATE.oldest_ms, MS_HQ_STATE.urgent, MS_HQ_STATE.used]⟩

def MS_HEAD_SVC.in_service : Fld := ⟨7920, 0, 1, .st, .any, fun _ => 0⟩
/-- MS_HEAD_SVC (12_zones_scheduling.md): 32 bits; reset by POR, WRM, WDG. -/
def MS_HEAD_SVC : Reg := ⟨"MS_HEAD_SVC", 0x20201008, [(16, 64)], 32,
  [MS_HEAD_SVC.in_service]⟩

def CX_CTRL.action : Fld := ⟨7936, 1, 2, .wo, .any, fun _ => 0⟩
def CX_CTRL.enable : Fld := ⟨7952, 0, 1, .rw, .any, fun _ => 0⟩
/-- CX_CTRL (13_compression.md): 32 bits; reset by POR, WRM, WDG. -/
def CX_CTRL : Reg := ⟨"CX_CTRL", 0x20400000, [], 32,
  [CX_CTRL.action, CX_CTRL.enable]⟩

def CX_INT.idx_fail : Fld := ⟨7968, 6, 1, .w1c, .any, fun _ => 0⟩
def CX_INT.rebuilt : Fld := ⟨7984, 5, 1, .w1c, .any, fun _ => 0⟩
def CX_INT.dest_full : Fld := ⟨8000, 4, 1, .w1c, .any, fun _ => 0⟩
def CX_INT.idx_zone : Fld := ⟨8016, 3, 1, .w1c, .any, fun _ => 0⟩
def CX_INT.engine_fault : Fld := ⟨8032, 2, 1, .w1c, .any, fun _ => 0⟩
def CX_INT.check_fail : Fld := ⟨8048, 1, 1, .w1c, .any, fun _ => 0⟩
def CX_INT.selfcheck : Fld := ⟨8064, 0, 1, .w1c, .any, fun _ => 0⟩
/-- CX_INT (13_compression.md): 32 bits; reset by POR, WRM, WDG. -/
def CX_INT : Reg := ⟨"CX_INT", 0x20400008, [], 32,
  [CX_INT.idx_fail, CX_INT.rebuilt, CX_INT.dest_full, CX_INT.idx_zone, CX_INT.engine_fault, CX_INT.check_fail, CX_INT.selfcheck]⟩

def CX_CFG.dirty_pages : Fld := ⟨8080, 48, 16, .rw, .atLeast 1 65535, fun _ => 4096⟩
def CX_CFG.idle_us : Fld := ⟨8096, 40, 8, .rw, .any, fun _ => 50⟩
def CX_CFG.age_us : Fld := ⟨8112, 24, 16, .rw, .any, fun _ => 2000⟩
def CX_CFG.raw_limit : Fld := ⟨8128, 0, 17, .rw, .clamp 4096 65536, fun _ => 61440⟩
/-- CX_CFG (13_compression.md): 64 bits; reset by POR, WRM, WDG. -/
def CX_CFG : Reg := ⟨"CX_CFG", 0x20400010, [], 64,
  [CX_CFG.dirty_pages, CX_CFG.idle_us, CX_CFG.age_us, CX_CFG.raw_limit]⟩

def CX_SVC.mask : Fld := ⟨8144, 0, 8, .st, .any, fun _ => 255⟩
/-- CX_SVC (13_compression.md): 32 bits; reset by POR, WRM, WDG. -/
def CX_SVC : Reg := ⟨"CX_SVC", 0x20400018, [], 32,
  [CX_SVC.mask]⟩

def CX_IDX_CFG.base : Fld := ⟨8160, 0, 40, .rw, .any, fun _ => 0⟩
/-- CX_IDX_CFG (13_compression.md): 64 bits; reset by POR, WRM, WDG. -/
def CX_IDX_CFG : Reg := ⟨"CX_IDX_CFG", 0x20400020, [], 64,
  [CX_IDX_CFG.base]⟩

def CX_IDXC_CFG.pages : Fld := ⟨8176, 40, 24, .rw, .any, fun _ => 0⟩
def CX_IDXC_CFG.base : Fld := ⟨8192, 0, 40, .rw, .any, fun _ => 0⟩
/-- CX_IDXC_CFG (13_compression.md): 64 bits; reset by POR, WRM, WDG. -/
def CX_IDXC_CFG : Reg := ⟨"CX_IDXC_CFG", 0x20400028, [], 64,
  [CX_IDXC_CFG.pages, CX_IDXC_CFG.base]⟩

def CX_IDX_ZONE.active : Fld := ⟨8208, 63, 1, .ro, .any, fun _ => 0⟩
def CX_IDX_ZONE.zone_b : Fld := ⟨8224, 32, 24, .rw, .any, fun _ => 0⟩
def CX_IDX_ZONE.zone_a : Fld := ⟨8240, 0, 24, .rw, .any, fun _ => 0⟩
/-- CX_IDX_ZONE (13_compression.md): 64 bits; reset by POR, WRM, WDG. -/
def CX_IDX_ZONE : Reg := ⟨"CX_IDX_ZONE", 0x20400030, [], 64,
  [CX_IDX_ZONE.active, CX_IDX_ZONE.zone_b, CX_IDX_ZONE.zone_a]⟩

def CX_ZONE_CFG.fzr_chunks : Fld := ⟨8256, 24, 8, .rw, .any, fun _ => 16⟩
def CX_ZONE_CFG.reserve_pos : Fld := ⟨8272, 0, 16, .rw, .any, fun _ => 64⟩
/-- CX_ZONE_CFG (13_compression.md): 32 bits; reset by POR, WRM, WDG. -/
def CX_ZONE_CFG : Reg := ⟨"CX_ZONE_CFG", 0x20400038, [], 32,
  [CX_ZONE_CFG.fzr_chunks, CX_ZONE_CFG.reserve_pos]⟩

def CX_STAT.raw : Fld := ⟨8288, 32, 32, .ro, .any, fun _ => 0⟩
def CX_STAT.fail : Fld := ⟨8304, 16, 16, .ro, .any, fun _ => 0⟩
def CX_STAT.last_code : Fld := ⟨8320, 12, 4, .ro, .any, fun _ => 0⟩
/-- CX_STAT (13_compression.md): 64 bits; reset by POR, WRM, WDG. -/
def CX_STAT : Reg := ⟨"CX_STAT", 0x20400040, [], 64,
  [CX_STAT.raw, CX_STAT.fail, CX_STAT.last_code]⟩

def CX_NS.level : Fld := ⟨8336, 60, 4, .rw, .within 1 9, fun _ => 3⟩
def CX_NS.hold_ms : Fld := ⟨8352, 48, 12, .rw, .any, fun _ => 100⟩
def CX_NS.dest_zone : Fld := ⟨8368, 24, 24, .rw, .any, fun _ => 0⟩
def CX_NS.pt_first : Fld := ⟨8384, 0, 24, .rw, .any, fun _ => 0⟩
/-- CX_NS (13_compression.md): 64 bits; reset by POR, WRM, WDG. -/
def CX_NS : Reg := ⟨"CX_NS", 0x20400400, [(16, 64)], 64,
  [CX_NS.level, CX_NS.hold_ms, CX_NS.dest_zone, CX_NS.pt_first]⟩

def CX_NS_STATUS.cached : Fld := ⟨8400, 8, 24, .ro, .any, fun _ => 0⟩
def CX_NS_STATUS.resident : Fld := ⟨8416, 0, 1, .ro, .any, fun _ => 0⟩
/-- CX_NS_STATUS (13_compression.md): 32 bits; reset by POR, WRM, WDG. -/
def CX_NS_STATUS : Reg := ⟨"CX_NS_STATUS", 0x20400408, [(16, 64)], 32,
  [CX_NS_STATUS.cached, CX_NS_STATUS.resident]⟩

def CX_ENG_STATUS.state : Fld := ⟨8432, 61, 3, .ro, .any, fun _ => 0⟩
def CX_ENG_STATUS.suspended : Fld := ⟨8448, 60, 1, .ro, .any, fun _ => 0⟩
def CX_ENG_STATUS.level : Fld := ⟨8464, 56, 4, .ro, .any, fun _ => 0⟩
def CX_ENG_STATUS.chunks : Fld := ⟨8480, 0, 32, .ro, .any, fun _ => 0⟩
/-- CX_ENG_STATUS (13_compression.md): 64 bits; reset by POR, WRM, WDG. -/
def CX_ENG_STATUS : Reg := ⟨"CX_ENG_STATUS", 0x20401000, [(256, 8)], 64,
  [CX_ENG_STATUS.state, CX_ENG_STATUS.suspended, CX_ENG_STATUS.level, CX_ENG_STATUS.chunks]⟩

def HIF_PORT_CFG.enable : Fld := ⟨8496, 1, 1, .rw, .any, fun _ => 0⟩
def HIF_PORT_CFG.mode : Fld := ⟨8512, 0, 1, .ro, .any, fun _ => 0⟩
/-- HIF_PORT_CFG (14_host_interface.md): 32 bits; reset by POR, WRM, WDG. -/
def HIF_PORT_CFG : Reg := ⟨"HIF_PORT_CFG", 0x20000000, [], 32,
  [HIF_PORT_CFG.enable, HIF_PORT_CFG.mode]⟩

def HIF_INT.fwact_fail : Fld := ⟨8528, 4, 1, .w1c, .any, fun _ => 0⟩
def HIF_INT.ctl_reset : Fld := ⟨8544, 3, 1, .w1c, .any, fun _ => 0⟩
def HIF_INT.narrowed : Fld := ⟨8560, 2, 1, .w1c, .any, fun _ => 0⟩
def HIF_INT.link_down : Fld := ⟨8576, 1, 1, .w1c, .any, fun _ => 0⟩
def HIF_INT.link_up : Fld := ⟨8592, 0, 1, .w1c, .any, fun _ => 0⟩
/-- HIF_INT (14_host_interface.md): 32 bits; reset by POR, WRM, WDG. -/
def HIF_INT : Reg := ⟨"HIF_INT", 0x20000008, [], 32,
  [HIF_INT.fwact_fail, HIF_INT.ctl_reset, HIF_INT.narrowed, HIF_INT.link_down, HIF_INT.link_up]⟩

def HIF_PS_MAP.ps2 : Fld := ⟨8608, 6, 3, .st, .any, fun _ => 0⟩
def HIF_PS_MAP.ps1 : Fld := ⟨8624, 3, 3, .st, .any, fun _ => 0⟩
def HIF_PS_MAP.ps0 : Fld := ⟨8640, 0, 3, .st, .any, fun _ => 0⟩
/-- HIF_PS_MAP (14_host_interface.md): 32 bits; reset by POR, WRM, WDG. -/
def HIF_PS_MAP : Reg := ⟨"HIF_PS_MAP", 0x20000010, [], 32,
  [HIF_PS_MAP.ps2, HIF_PS_MAP.ps1, HIF_PS_MAP.ps0]⟩

def HIF_PORT_STATUS.perst : Fld := ⟨8656, 13, 1, .ro, .any, fun _ => 0⟩
def HIF_PORT_STATUS.flit : Fld := ⟨8672, 12, 1, .ro, .any, fun _ => 0⟩
def HIF_PORT_STATUS.dl_up : Fld := ⟨8688, 11, 1, .ro, .any, fun _ => 0⟩
def HIF_PORT_STATUS.width : Fld := ⟨8704, 8, 3, .ro, .any, fun _ => 0⟩
def HIF_PORT_STATUS.speed : Fld := ⟨8720, 5, 3, .ro, .any, fun _ => 0⟩
def HIF_PORT_STATUS.ltssm : Fld := ⟨8736, 0, 5, .ro, .any, fun _ => 0⟩
/-- HIF_PORT_STATUS (14_host_interface.md): 32 bits; reset by POR, WRM, WDG. -/
def HIF_PORT_STATUS : Reg := ⟨"HIF_PORT_STATUS", 0x20000100, [(256, 2)], 32,
  [HIF_PORT_STATUS.perst, HIF_PORT_STATUS.flit, HIF_PORT_STATUS.dl_up, HIF_PORT_STATUS.width, HIF_PORT_STATUS.speed, HIF_PORT_STATUS.ltssm]⟩

def HIF_CTL_STATUS.ps : Fld := ⟨8760, 9, 3, .ro, .any, fun _ => 0⟩
def HIF_CTL_STATUS.ams : Fld := ⟨8776, 6, 3, .ro, .any, fun _ => 0⟩
def HIF_CTL_STATUS.shst : Fld := ⟨8792, 4, 2, .ro, .any, fun _ => 0⟩
def HIF_CTL_STATUS.fetch_paused : Fld := ⟨8808, 3, 1, .ro, .any, fun _ => 0⟩
def HIF_CTL_STATUS.draining : Fld := ⟨8824, 2, 1, .ro, .any, fun _ => 0⟩
def HIF_CTL_STATUS.rdy : Fld := ⟨8840, 1, 1, .ro, .any, fun _ => 0⟩
def HIF_CTL_STATUS.en : Fld := ⟨8856, 0, 1, .ro, .any, fun _ => 0⟩
/-- HIF_CTL_STATUS (14_host_interface.md): 32 bits; reset by POR, WRM, WDG, CTL. -/
def HIF_CTL_STATUS : Reg := ⟨"HIF_CTL_STATUS", 0x20000400, [(256, 2)], 32,
  [HIF_CTL_STATUS.ps, HIF_CTL_STATUS.ams, HIF_CTL_STATUS.shst, HIF_CTL_STATUS.fetch_paused, HIF_CTL_STATUS.draining, HIF_CTL_STATUS.rdy, HIF_CTL_STATUS.en]⟩

def QE_CTRL.enable : Fld := ⟨8864, 0, 1, .rw, .any, fun _ => 0⟩
/-- QE_CTRL (14_host_interface.md): 32 bits; reset by POR, WRM, WDG. -/
def QE_CTRL : Reg := ⟨"QE_CTRL", 0x20100000, [], 32,
  [QE_CTRL.enable]⟩

def QE_INT.abort_lost : Fld := ⟨8880, 2, 1, .w1c, .any, fun _ => 0⟩
def QE_INT.ring_exhausted : Fld := ⟨8896, 1, 1, .w1c, .any, fun _ => 0⟩
def QE_INT.ctx_exhausted : Fld := ⟨8912, 0, 1, .w1c, .any, fun _ => 0⟩
/-- QE_INT (14_host_interface.md): 32 bits; reset by POR, WRM, WDG. -/
def QE_INT : Reg := ⟨"QE_INT", 0x20100008, [], 32,
  [QE_INT.abort_lost, QE_INT.ring_exhausted, QE_INT.ctx_exhausted]⟩

def QE_CTX_CFG.urg_ctx : Fld := ⟨8928, 16, 12, .rw, .clamp 0 1024, fun _ => 64⟩
def QE_CTX_CFG.floor : Fld := ⟨8944, 0, 12, .rw, .clamp 0 4000, fun _ => 1024⟩
/-- QE_CTX_CFG (14_host_interface.md): 32 bits; reset by POR, WRM, WDG. -/
def QE_CTX_CFG : Reg := ⟨"QE_CTX_CFG", 0x20100010, [], 32,
  [QE_CTX_CFG.urg_ctx, QE_CTX_CFG.floor]⟩

def QE_CTX_STATUS.urgent : Fld := ⟨8960, 32, 14, .ro, .any, fun _ => 0⟩
def QE_CTX_STATUS.ctl1 : Fld := ⟨8976, 16, 14, .ro, .any, fun _ => 0⟩
def QE_CTX_STATUS.ctl0 : Fld := ⟨8992, 0, 14, .ro, .any, fun _ => 0⟩
/-- QE_CTX_STATUS (14_host_interface.md): 64 bits; reset by POR, WRM, WDG. -/
def QE_CTX_STATUS : Reg := ⟨"QE_CTX_STATUS", 0x20100018, [], 64,
  [QE_CTX_STATUS.urgent, QE_CTX_STATUS.ctl1, QE_CTX_STATUS.ctl0]⟩

def QE_DST.idle_ms : Fld := ⟨9008, 0, 16, .rw, .atLeast 1 65535, fun _ => 100⟩
/-- QE_DST (14_host_interface.md): 32 bits; reset by POR, WRM, WDG. -/
def QE_DST : Reg := ⟨"QE_DST", 0x20100020, [], 32,
  [QE_DST.idle_ms]⟩

def QE_RING_SEL.ring : Fld := ⟨9024, 0, 16, .rw, .any, fun _ => 0⟩
/-- QE_RING_SEL (14_host_interface.md): 32 bits; reset by POR, WRM, WDG. -/
def QE_RING_SEL : Reg := ⟨"QE_RING_SEL", 0x20100030, [], 32,
  [QE_RING_SEL.ring]⟩

def QE_RING_INFO.active : Fld := ⟨9040, 63, 1, .ro, .any, fun _ => 0⟩
def QE_RING_INFO.phase : Fld := ⟨9056, 62, 1, .ro, .any, fun _ => 0⟩
def QE_RING_INFO.owner : Fld := ⟨9072, 59, 3, .ro, .any, fun _ => 0⟩
def QE_RING_INFO.purpose : Fld := ⟨9088, 56, 3, .ro, .any, fun _ => 0⟩
def QE_RING_INFO.entry_log2 : Fld := ⟨9104, 53, 3, .ro, .any, fun _ => 0⟩
def QE_RING_INFO.size_m1 : Fld := ⟨9120, 28, 14, .ro, .any, fun _ => 0⟩
def QE_RING_INFO.tail : Fld := ⟨9136, 14, 14, .ro, .any, fun _ => 0⟩
def QE_RING_INFO.head : Fld := ⟨9152, 0, 14, .ro, .any, fun _ => 0⟩
/-- QE_RING_INFO (14_host_interface.md): 64 bits; reset by POR, WRM, WDG. -/
def QE_RING_INFO : Reg := ⟨"QE_RING_INFO", 0x20100038, [], 64,
  [QE_RING_INFO.active, QE_RING_INFO.phase, QE_RING_INFO.owner, QE_RING_INFO.purpose, QE_RING_INFO.entry_log2, QE_RING_INFO.size_m1, QE_RING_INFO.tail, QE_RING_INFO.head]⟩

def QE_RING_BASE.addr : Fld := ⟨9168, 0, 64, .ro, .any, fun _ => 0⟩
/-- QE_RING_BASE (14_host_interface.md): 64 bits; reset by POR, WRM, WDG. -/
def QE_RING_BASE : Reg := ⟨"QE_RING_BASE", 0x20100040, [], 64,
  [QE_RING_BASE.addr]⟩

def QE_ABORT_STATUS.pending : Fld := ⟨9192, 32, 7, .ro, .any, fun _ => 0⟩
def QE_ABORT_STATUS.not_aborted : Fld := ⟨9208, 16, 16, .ro, .any, fun _ => 0⟩
def QE_ABORT_STATUS.aborted : Fld := ⟨9224, 0, 16, .ro, .any, fun _ => 0⟩
/-- QE_ABORT_STATUS (14_host_interface.md): 64 bits; reset by POR, WRM, WDG, CTL. -/
def QE_ABORT_STATUS : Reg := ⟨"QE_ABORT_STATUS", 0x20100100, [(8, 2)], 64,
  [QE_ABORT_STATUS.pending, QE_ABORT_STATUS.not_aborted, QE_ABORT_STATUS.aborted]⟩

def HG_CTRL.enable : Fld := ⟨9232, 0, 1, .rw, .any, fun _ => 0⟩
/-- HG_CTRL (15_headgate.md): 32 bits; reset by POR, WRM, WDG. -/
def HG_CTRL : Reg := ⟨"HG_CTRL", 0x20F00000, [], 32,
  [HG_CTRL.enable]⟩

def HG_INT.starve : Fld := ⟨9248, 7, 1, .w1c, .any, fun _ => 0⟩
def HG_INT.stagger : Fld := ⟨9264, 6, 1, .w1c, .any, fun _ => 0⟩
def HG_INT.oversize : Fld := ⟨9280, 5, 1, .w1c, .any, fun _ => 0⟩
def HG_INT.floor : Fld := ⟨9296, 4, 1, .w1c, .any, fun _ => 0⟩
def HG_INT.withdraw : Fld := ⟨9312, 3, 1, .w1c, .any, fun _ => 0⟩
def HG_INT.curlim5 : Fld := ⟨9328, 2, 1, .w1c, .any, fun _ => 0⟩
def HG_INT.curlim12 : Fld := ⟨9344, 1, 1, .w1c, .any, fun _ => 0⟩
def HG_INT.unsanctioned : Fld := ⟨9360, 0, 1, .w1c, .any, fun _ => 0⟩
/-- HG_INT (15_headgate.md): 32 bits; reset by POR, WRM, WDG. -/
def HG_INT : Reg := ⟨"HG_INT", 0x20F00008, [], 32,
  [HG_INT.starve, HG_INT.stagger, HG_INT.oversize, HG_INT.floor, HG_INT.withdraw, HG_INT.curlim5, HG_INT.curlim12, HG_INT.unsanctioned]⟩

def HG_BUDGET_DRIVE.units : Fld := ⟨9376, 0, 14, .st, .any, fun _ => 0⟩
/-- HG_BUDGET_DRIVE (15_headgate.md): 32 bits; reset by POR, WRM, WDG. -/
def HG_BUDGET_DRIVE : Reg := ⟨"HG_BUDGET_DRIVE", 0x20F00010, [], 32,
  [HG_BUDGET_DRIVE.units]⟩

def HG_BUDGET_PART.units : Fld := ⟨9392, 0, 12, .st, .any, fun _ => 0⟩
/-- HG_BUDGET_PART (15_headgate.md): 32 bits; reset by POR, WRM, WDG. -/
def HG_BUDGET_PART : Reg := ⟨"HG_BUDGET_PART", 0x20F00018, [], 32,
  [HG_BUDGET_PART.units]⟩

def HG_URGENT.pct : Fld := ⟨9408, 0, 6, .st, .within 0 50, fun _ => 0⟩
/-- HG_URGENT (15_headgate.md): 32 bits; reset by POR, WRM, WDG. -/
def HG_URGENT : Reg := ⟨"HG_URGENT", 0x20F00020, [], 32,
  [HG_URGENT.pct]⟩

def HG_ILIM.persist_us : Fld := ⟨9424, 48, 16, .rw, .atLeast 1 65535, fun _ => 50⟩
def HG_ILIM.i5_ma : Fld := ⟨9440, 16, 16, .st, .any, fun _ => 0⟩
def HG_ILIM.i12_ma : Fld := ⟨9456, 0, 16, .st, .any, fun _ => 0⟩
/-- HG_ILIM (15_headgate.md): 64 bits; reset by POR, WRM, WDG. -/
def HG_ILIM : Reg := ⟨"HG_ILIM", 0x20F00028, [], 64,
  [HG_ILIM.persist_us, HG_ILIM.i5_ma, HG_ILIM.i12_ma]⟩

def HG_POOL.step : Fld := ⟨9472, 60, 4, .ro, .any, fun _ => 0⟩
def HG_POOL.b : Fld := ⟨9488, 46, 14, .ro, .any, fun _ => 0⟩
def HG_POOL.u : Fld := ⟨9504, 32, 14, .ro, .any, fun _ => 0⟩
def HG_POOL.held_g : Fld := ⟨9520, 14, 14, .ro, .any, fun _ => 0⟩
def HG_POOL.x : Fld := ⟨9536, 0, 14, .ro, .any, fun _ => 0⟩
/-- HG_POOL (15_headgate.md): 64 bits; reset by POR, WRM, WDG. -/
def HG_POOL : Reg := ⟨"HG_POOL", 0x20F00030, [], 64,
  [HG_POOL.step, HG_POOL.b, HG_POOL.u, HG_POOL.held_g, HG_POOL.x]⟩

def HG_RAIL.i5_ma : Fld := ⟨9552, 16, 16, .ro, .any, fun _ => 0⟩
def HG_RAIL.i12_ma : Fld := ⟨9568, 0, 16, .ro, .any, fun _ => 0⟩
/-- HG_RAIL (15_headgate.md): 32 bits; reset by POR, WRM, WDG. -/
def HG_RAIL : Reg := ⟨"HG_RAIL", 0x20F00038, [], 32,
  [HG_RAIL.i5_ma, HG_RAIL.i12_ma]⟩

def HG_SPIN.stagger_ms : Fld := ⟨9584, 16, 16, .rw, .any, fun _ => 30000⟩
def HG_SPIN.spinup_units : Fld := ⟨9600, 0, 14, .rw, .any, fun _ => 1500⟩
/-- HG_SPIN (15_headgate.md): 32 bits; reset by POR, WRM, WDG. -/
def HG_SPIN : Reg := ⟨"HG_SPIN", 0x20F00040, [], 32,
  [HG_SPIN.stagger_ms, HG_SPIN.spinup_units]⟩

def HG_CFG.starve_us : Fld := ⟨9616, 16, 16, .rw, .atLeast 10 65535, fun _ => 2000⟩
def HG_CFG.off_delay_us : Fld := ⟨9632, 0, 10, .rw, .any, fun _ => 20⟩
/-- HG_CFG (15_headgate.md): 32 bits; reset by POR, WRM, WDG. -/
def HG_CFG : Reg := ⟨"HG_CFG", 0x20F00048, [], 32,
  [HG_CFG.starve_us, HG_CFG.off_delay_us]⟩

def HG_GROUP_ON.force : Fld := ⟨9648, 1, 31, .st, .any, fun _ => 0⟩
/-- HG_GROUP_ON (15_headgate.md): 32 bits; reset by POR, WRM, WDG. -/
def HG_GROUP_ON : Reg := ⟨"HG_GROUP_ON", 0x20F00050, [], 32,
  [HG_GROUP_ON.force]⟩

def HG_GROUP_STATUS.on : Fld := ⟨9664, 0, 32, .ro, .any, fun _ => 0⟩
/-- HG_GROUP_STATUS (15_headgate.md): 32 bits; reset by POR, WRM, WDG. -/
def HG_GROUP_STATUS : Reg := ⟨"HG_GROUP_STATUS", 0x20F00058, [], 32,
  [HG_GROUP_STATUS.on]⟩

def HG_DOMAIN_STATUS.on : Fld := ⟨9680, 0, 64, .ro, .any, fun _ => 0⟩
/-- HG_DOMAIN_STATUS (15_headgate.md): 64 bits; reset by POR, WRM, WDG. -/
def HG_DOMAIN_STATUS : Reg := ⟨"HG_DOMAIN_STATUS", 0x20F00060, [(8, 3)], 64,
  [HG_DOMAIN_STATUS.on]⟩

def HG_PORT_CFG.kind : Fld := ⟨9696, 60, 4, .ro, .any, fun _ => 0⟩
def HG_PORT_CFG.first : Fld := ⟨9712, 54, 6, .ro, .any, fun _ => 0⟩
def HG_PORT_CFG.count : Fld := ⟨9728, 49, 5, .ro, .any, fun _ => 0⟩
def HG_PORT_CFG.group : Fld := ⟨9744, 44, 5, .ro, .any, fun _ => 0⟩
def HG_PORT_CFG.flags : Fld := ⟨9760, 42, 2, .ro, .any, fun _ => 0⟩
def HG_PORT_CFG.part_units : Fld := ⟨9776, 28, 14, .st, .any, fun _ => 0⟩
def HG_PORT_CFG.peak : Fld := ⟨9792, 0, 14, .st, .any, fun _ => 0⟩
/-- HG_PORT_CFG (15_headgate.md): 64 bits; reset by POR, WRM, WDG. -/
def HG_PORT_CFG : Reg := ⟨"HG_PORT_CFG", 0x20F01000, [(32, 128)], 64,
  [HG_PORT_CFG.kind, HG_PORT_CFG.first, HG_PORT_CFG.count, HG_PORT_CFG.group, HG_PORT_CFG.flags, HG_PORT_CFG.part_units, HG_PORT_CFG.peak]⟩

def HG_PORT_STATUS.state : Fld := ⟨9808, 61, 3, .ro, .any, fun _ => 0⟩
def HG_PORT_STATUS.on_reserve : Fld := ⟨9824, 60, 1, .ro, .any, fun _ => 0⟩
def HG_PORT_STATUS.oversize : Fld := ⟨9840, 59, 1, .ro, .any, fun _ => 0⟩
def HG_PORT_STATUS.unsanctioned : Fld := ⟨9856, 58, 1, .ro, .any, fun _ => 0⟩
def HG_PORT_STATUS.holders : Fld := ⟨9872, 54, 4, .ro, .any, fun _ => 0⟩
def HG_PORT_STATUS.units : Fld := ⟨9888, 40, 14, .ro, .any, fun _ => 0⟩
def HG_PORT_STATUS.withdrawals : Fld := ⟨9904, 16, 16, .ro, .any, fun _ => 0⟩
def HG_PORT_STATUS.unsanctioned_count : Fld := ⟨9920, 0, 16, .ro, .any, fun _ => 0⟩
/-- HG_PORT_STATUS (15_headgate.md): 64 bits; reset by POR, WRM, WDG. -/
def HG_PORT_STATUS : Reg := ⟨"HG_PORT_STATUS", 0x20F01008, [(32, 128)], 64,
  [HG_PORT_STATUS.state, HG_PORT_STATUS.on_reserve, HG_PORT_STATUS.oversize, HG_PORT_STATUS.unsanctioned, HG_PORT_STATUS.holders, HG_PORT_STATUS.units, HG_PORT_STATUS.withdrawals, HG_PORT_STATUS.unsanctioned_count]⟩

def TH_CTRL.action : Fld := ⟨9936, 0, 2, .wo, .any, fun _ => 0⟩
/-- TH_CTRL (16_thermal.md): 32 bits; reset by POR, WRM, WDG. -/
def TH_CTRL : Reg := ⟨"TH_CTRL", 0x21000000, [], 32,
  [TH_CTRL.action]⟩

def TH_INT.telem_stale : Fld := ⟨9952, 5, 1, .w1c, .any, fun _ => 0⟩
def TH_INT.sensor_fail : Fld := ⟨9968, 4, 1, .w1c, .any, fun _ => 0⟩
def TH_INT.air : Fld := ⟨9984, 3, 1, .w1c, .any, fun _ => 0⟩
def TH_INT.shutdown : Fld := ⟨10000, 2, 1, .w1c, .any, fun _ => 0⟩
def TH_INT.step : Fld := ⟨10016, 1, 1, .w1c, .any, fun _ => 0⟩
def TH_INT.warning : Fld := ⟨10032, 0, 1, .w1c, .any, fun _ => 0⟩
/-- TH_INT (16_thermal.md): 32 bits; reset by POR, WRM, WDG. -/
def TH_INT : Reg := ⟨"TH_INT", 0x21000008, [], 32,
  [TH_INT.telem_stale, TH_INT.sensor_fail, TH_INT.air, TH_INT.shutdown, TH_INT.step, TH_INT.warning]⟩

def TH_STATUS.step : Fld := ⟨10048, 60, 4, .ro, .any, fun _ => 0⟩
def TH_STATUS.shutdown : Fld := ⟨10070, 59, 1, .ro, .any, fun _ => 0⟩
def TH_STATUS.cutoff : Fld := ⟨10080, 58, 1, .ro, .any, fun _ => 0⟩
def TH_STATUS.warning : Fld := ⟨10096, 57, 1, .ro, .any, fun _ => 0⟩
def TH_STATUS.air_out : Fld := ⟨10112, 56, 1, .ro, .any, fun _ => 0⟩
def TH_STATUS.hottest : Fld := ⟨10128, 32, 5, .ro, .any, fun _ => 0⟩
def TH_STATUS.tj : Fld := ⟨10144, 0, 16, .ro, .any, fun _ => 0⟩
/-- TH_STATUS (16_thermal.md): 64 bits; reset by POR. -/
def TH_STATUS : Reg := ⟨"TH_STATUS", 0x21000010, [], 64,
  [TH_STATUS.step, TH_STATUS.shutdown, TH_STATUS.cutoff, TH_STATUS.warning, TH_STATUS.air_out, TH_STATUS.hottest, TH_STATUS.tj]⟩

def TH_THR.hysteresis : Fld := ⟨10160, 48, 16, .st, .any, fun _ => 0⟩
def TH_THR.shutdown : Fld := ⟨10176, 32, 16, .st, .any, fun _ => 0⟩
def TH_THR.throttle : Fld := ⟨10192, 16, 16, .st, .any, fun _ => 0⟩
def TH_THR.warning : Fld := ⟨10208, 0, 16, .st, .any, fun _ => 0⟩
/-- TH_THR (16_thermal.md): 64 bits; reset by POR, WRM, WDG. -/
def TH_THR : Reg := ⟨"TH_THR", 0x21000018, [], 64,
  [TH_THR.hysteresis, TH_THR.shutdown, TH_THR.throttle, TH_THR.warning]⟩

def TH_WIN.assist_max : Fld := ⟨10224, 48, 16, .st, .any, fun _ => 0⟩
def TH_WIN.assist_min : Fld := ⟨10240, 32, 16, .st, .any, fun _ => 0⟩
def TH_WIN.air_max : Fld := ⟨10256, 16, 16, .st, .any, fun _ => 0⟩
def TH_WIN.air_min : Fld := ⟨10272, 0, 16, .st, .any, fun _ => 0⟩
/-- TH_WIN (16_thermal.md): 64 bits; reset by POR, WRM, WDG. -/
def TH_WIN : Reg := ⟨"TH_WIN", 0x21000020, [], 64,
  [TH_WIN.assist_max, TH_WIN.assist_min, TH_WIN.air_max, TH_WIN.air_min]⟩

def TH_RATE.rate_near : Fld := ⟨10288, 48, 16, .rw, .within 100 20000, fun _ => 0⟩
def TH_RATE.rate_normal : Fld := ⟨10304, 32, 16, .rw, .within 100 1000, fun _ => 0⟩
def TH_RATE.near_margin : Fld := ⟨10320, 16, 16, .rw, .any, fun _ => 0⟩
/-- TH_RATE (16_thermal.md): 64 bits; reset by POR, WRM, WDG. -/
def TH_RATE : Reg := ⟨"TH_RATE", 0x21000028, [], 64,
  [TH_RATE.rate_normal, TH_RATE.near_margin, TH_RATE.rate_near]⟩

def TH_STEP.down_ms : Fld := ⟨10336, 20, 12, .rw, .atLeast 10 4095, fun _ => 1000⟩
def TH_STEP.up_ms : Fld := ⟨10352, 8, 12, .rw, .atLeast 10 4095, fun _ => 100⟩
def TH_STEP.min_step : Fld := ⟨10368, 0, 4, .rw, .within 0 8, fun _ => 0⟩
/-- TH_STEP (16_thermal.md): 32 bits; reset by POR, WRM, WDG. -/
def TH_STEP : Reg := ⟨"TH_STEP", 0x21000030, [], 32,
  [TH_STEP.down_ms, TH_STEP.up_ms, TH_STEP.min_step]⟩

def TH_SENSOR.failed : Fld := ⟨10384, 31, 1, .ro, .any, fun _ => 0⟩
def TH_SENSOR.near : Fld := ⟨10400, 30, 1, .ro, .any, fun _ => 0⟩
def TH_SENSOR.temp : Fld := ⟨10416, 0, 16, .ro, .any, fun _ => 0⟩
/-- TH_SENSOR (16_thermal.md): 32 bits; reset by POR, WRM, WDG. -/
def TH_SENSOR : Reg := ⟨"TH_SENSOR", 0x21000100, [(8, 18)], 32,
  [TH_SENSOR.failed, TH_SENSOR.near, TH_SENSOR.temp]⟩

def TH_HEAD.stale : Fld := ⟨10435, 63, 1, .ro, .any, fun _ => 0⟩
def TH_HEAD.near : Fld := ⟨10451, 62, 1, .ro, .any, fun _ => 0⟩
def TH_HEAD.assist : Fld := ⟨10467, 16, 16, .ro, .any, fun _ => 0⟩
def TH_HEAD.head : Fld := ⟨10483, 0, 16, .ro, .any, fun _ => 0⟩
/-- TH_HEAD (16_thermal.md): 64 bits; reset by POR, WRM, WDG, ACT. -/
def TH_HEAD : Reg := ⟨"TH_HEAD", 0x21000200, [(8, 64)], 64,
  [TH_HEAD.stale, TH_HEAD.near, TH_HEAD.assist, TH_HEAD.head]⟩

def CR_RST_CAUSE.count : Fld := ⟨10502, 32, 16, .ro, .any, fun _ => 0⟩
def CR_RST_CAUSE.src : Fld := ⟨10518, 8, 8, .ro, .any, fun _ => 1⟩
def CR_RST_CAUSE.cls : Fld := ⟨10534, 0, 8, .ro, .any, fun _ => 1⟩
/-- CR_RST_CAUSE (17_resets_power_states.md): 64 bits; reset by POR. -/
def CR_RST_CAUSE : Reg := ⟨"CR_RST_CAUSE", 0x21400000, [], 64,
  [CR_RST_CAUSE.count, CR_RST_CAUSE.src, CR_RST_CAUSE.cls]⟩

def CR_RST_CTRL.act_mask : Fld := ⟨10544, 8, 4, .rw, .any, fun _ => 0⟩
def CR_RST_CTRL.action : Fld := ⟨10560, 0, 3, .wo, .any, fun _ => 0⟩
/-- CR_RST_CTRL (17_resets_power_states.md): 32 bits; reset by POR, WRM, WDG. -/
def CR_RST_CTRL : Reg := ⟨"CR_RST_CTRL", 0x21400008, [], 32,
  [CR_RST_CTRL.act_mask, CR_RST_CTRL.action]⟩

def CR_ACT_STATUS.in_reset : Fld := ⟨10576, 0, 4, .ro, .any, fun _ => 0⟩
/-- CR_ACT_STATUS (17_resets_power_states.md): 32 bits; reset by POR, WRM, WDG. -/
def CR_ACT_STATUS : Reg := ⟨"CR_ACT_STATUS", 0x21400010, [], 32,
  [CR_ACT_STATUS.in_reset]⟩

def CR_WDT_CFG.enable : Fld := ⟨10592, 31, 1, .rwl, .any, fun _ => 0⟩
def CR_WDT_CFG.t2_ms : Fld := ⟨10608, 16, 15, .rw, .atLeast 10 32767, fun _ => 1000⟩
def CR_WDT_CFG.t1_ms : Fld := ⟨10624, 0, 16, .rw, .atLeast 10 65535, fun _ => 5000⟩
/-- CR_WDT_CFG (17_resets_power_states.md): 32 bits; reset by POR, WRM, WDG. -/
def CR_WDT_CFG : Reg := ⟨"CR_WDT_CFG", 0x21400020, [], 32,
  [CR_WDT_CFG.enable, CR_WDT_CFG.t2_ms, CR_WDT_CFG.t1_ms]⟩

def CR_WDT_KICK.value : Fld := ⟨10640, 0, 32, .wo, .any, fun _ => 0⟩
/-- CR_WDT_KICK (17_resets_power_states.md): 32 bits; reset by POR, WRM, WDG. -/
def CR_WDT_KICK : Reg := ⟨"CR_WDT_KICK", 0x21400028, [], 32,
  [CR_WDT_KICK.value]⟩

def CR_WDT_STATUS.stage : Fld := ⟨10663, 62, 2, .ro, .any, fun _ => 0⟩
def CR_WDT_STATUS.fired : Fld := ⟨10679, 61, 1, .ro, .any, fun _ => 0⟩
def CR_WDT_STATUS.bad_kick : Fld := ⟨10695, 60, 1, .ro, .any, fun _ => 0⟩
def CR_WDT_STATUS.last_kick : Fld := ⟨10711, 0, 32, .ro, .any, fun _ => 0⟩
/-- CR_WDT_STATUS (17_resets_power_states.md): 64 bits; reset by POR, WRM. -/
def CR_WDT_STATUS : Reg := ⟨"CR_WDT_STATUS", 0x21400030, [], 64,
  [CR_WDT_STATUS.stage, CR_WDT_STATUS.fired, CR_WDT_STATUS.bad_kick, CR_WDT_STATUS.last_kick]⟩

def CR_INT.pwr_blocked : Fld := ⟨10720, 4, 1, .w1c, .any, fun _ => 0⟩
def CR_INT.pwr_abandoned : Fld := ⟨10736, 3, 1, .w1c, .any, fun _ => 0⟩
def CR_INT.pwr_done : Fld := ⟨10752, 2, 1, .w1c, .any, fun _ => 0⟩
def CR_INT.act_done : Fld := ⟨10768, 1, 1, .w1c, .any, fun _ => 0⟩
def CR_INT.wdt_stage1 : Fld := ⟨10784, 0, 1, .w1c, .any, fun _ => 0⟩
/-- CR_INT (17_resets_power_states.md): 32 bits; reset by POR, WRM, WDG. -/
def CR_INT : Reg := ⟨"CR_INT", 0x21400038, [], 32,
  [CR_INT.pwr_blocked, CR_INT.pwr_abandoned, CR_INT.pwr_done, CR_INT.act_done, CR_INT.wdt_stage1]⟩

def CR_PWR_CTRL.idle_a_en : Fld := ⟨10800, 8, 1, .rw, .any, fun _ => 1⟩
def CR_PWR_CTRL.target : Fld := ⟨10816, 4, 3, .rw, .zeroOr 2 4, fun _ => 3⟩
def CR_PWR_CTRL.go : Fld := ⟨10832, 0, 1, .wo, .any, fun _ => 0⟩
/-- CR_PWR_CTRL (17_resets_power_states.md): 32 bits; reset by POR, WRM, WDG. -/
def CR_PWR_CTRL : Reg := ⟨"CR_PWR_CTRL", 0x21400040, [], 32,
  [CR_PWR_CTRL.idle_a_en, CR_PWR_CTRL.target, CR_PWR_CTRL.go]⟩

def CR_PWR_STATUS.entered : Fld := ⟨10848, 32, 32, .ro, .any, fun _ => 0⟩
def CR_PWR_STATUS.last_exit_src : Fld := ⟨10864, 8, 8, .ro, .any, fun _ => 0⟩
def CR_PWR_STATUS.blocked : Fld := ⟨10880, 7, 1, .ro, .any, fun _ => 0⟩
def CR_PWR_STATUS.target : Fld := ⟨10896, 4, 3, .ro, .any, fun _ => 3⟩
def CR_PWR_STATUS.in_transition : Fld := ⟨10912, 3, 1, .ro, .any, fun _ => 0⟩
def CR_PWR_STATUS.state : Fld := ⟨10928, 0, 3, .ro, .any, fun _ => 3⟩
/-- CR_PWR_STATUS (17_resets_power_states.md): 64 bits; reset by POR, WRM, WDG. -/
def CR_PWR_STATUS : Reg := ⟨"CR_PWR_STATUS", 0x21400048, [], 64,
  [CR_PWR_STATUS.entered, CR_PWR_STATUS.last_exit_src, CR_PWR_STATUS.blocked, CR_PWR_STATUS.target, CR_PWR_STATUS.in_transition, CR_PWR_STATUS.state]⟩

def CR_IDLE.a_us : Fld := ⟨10944, 0, 16, .rw, .atLeast 100 65535, fun _ => 1000⟩
/-- CR_IDLE (17_resets_power_states.md): 32 bits; reset by POR, WRM, WDG. -/
def CR_IDLE : Reg := ⟨"CR_IDLE", 0x21400050, [], 32,
  [CR_IDLE.a_us]⟩

def CR_DEEP_CFG.timer_s : Fld := ⟨10966, 16, 16, .rw, .any, fun _ => 0⟩
def CR_DEEP_CFG.wake_timer : Fld := ⟨10982, 2, 1, .rw, .any, fun _ => 0⟩
def CR_DEEP_CFG.wake_perst : Fld := ⟨10998, 1, 1, .rw, .any, fun _ => 1⟩
def CR_DEEP_CFG.wake_mgmt : Fld := ⟨11014, 0, 1, .ro, .any, fun _ => 1⟩
/-- CR_DEEP_CFG (17_resets_power_states.md): 32 bits; reset by POR. -/
def CR_DEEP_CFG : Reg := ⟨"CR_DEEP_CFG", 0x21400058, [], 32,
  [CR_DEEP_CFG.timer_s, CR_DEEP_CFG.wake_timer, CR_DEEP_CFG.wake_perst, CR_DEEP_CFG.wake_mgmt]⟩

def CR_DTIME.ns : Fld := ⟨11030, 0, 64, .ro, .any, fun _ => 0⟩
/-- CR_DTIME (17_resets_power_states.md): 64 bits; reset by POR. -/
def CR_DTIME : Reg := ⟨"CR_DTIME", 0x21400060, [], 64,
  [CR_DTIME.ns]⟩

def SB_CTRL.seq : Fld := ⟨11040, 8, 2, .rw, .any, fun _ => 0⟩
def SB_CTRL.action : Fld := ⟨11056, 0, 3, .wo, .any, fun _ => 0⟩
/-- SB_CTRL (18_boot_record.md): 32 bits; reset by POR, WRM, WDG. -/
def SB_CTRL : Reg := ⟨"SB_CTRL", 0x21200000, [], 32,
  [SB_CTRL.seq, SB_CTRL.action]⟩

def SB_STATUS.state : Fld := ⟨11072, 60, 4, .ro, .any, fun _ => 0⟩
def SB_STATUS.lifecycle : Fld := ⟨11088, 58, 2, .ro, .any, fun _ => 0⟩
def SB_STATUS.chapter_full : Fld := ⟨11104, 57, 1, .ro, .any, fun _ => 0⟩
def SB_STATUS.damaged : Fld := ⟨11120, 56, 1, .ro, .any, fun _ => 0⟩
def SB_STATUS.sealing : Fld := ⟨11136, 55, 1, .ro, .any, fun _ => 0⟩
def SB_STATUS.epoch_exhausted : Fld := ⟨11152, 54, 1, .ro, .any, fun _ => 0⟩
def SB_STATUS.otp_fail : Fld := ⟨11168, 53, 1, .ro, .any, fun _ => 0⟩
def SB_STATUS.mgmt_absent : Fld := ⟨11184, 52, 1, .ro, .any, fun _ => 0⟩
def SB_STATUS.app_absent : Fld := ⟨11200, 51, 1, .ro, .any, fun _ => 0⟩
def SB_STATUS.cal_absent : Fld := ⟨11216, 50, 1, .ro, .any, fun _ => 0⟩
def SB_STATUS.trial : Fld := ⟨11232, 45, 5, .ro, .any, fun _ => 0⟩
def SB_STATUS.slot : Fld := ⟨11248, 40, 5, .ro, .any, fun _ => 0⟩
def SB_STATUS.seq_loaded : Fld := ⟨11264, 36, 4, .ro, .any, fun _ => 0⟩
/-- SB_STATUS (18_boot_record.md): 64 bits; reset by POR, WRM, WDG. -/
def SB_STATUS : Reg := ⟨"SB_STATUS", 0x21200008, [], 64,
  [SB_STATUS.state, SB_STATUS.lifecycle, SB_STATUS.chapter_full, SB_STATUS.damaged, SB_STATUS.sealing, SB_STATUS.epoch_exhausted, SB_STATUS.otp_fail, SB_STATUS.mgmt_absent, SB_STATUS.app_absent, SB_STATUS.cal_absent, SB_STATUS.trial, SB_STATUS.slot, SB_STATUS.seq_loaded]⟩

def SB_INT.floor_raised : Fld := ⟨11280, 8, 1, .w1c, .any, fun _ => 0⟩
def SB_INT.trial_failed : Fld := ⟨11296, 7, 1, .w1c, .any, fun _ => 0⟩
def SB_INT.otp_fail : Fld := ⟨11312, 6, 1, .w1c, .any, fun _ => 0⟩
def SB_INT.reload_fail : Fld := ⟨11328, 5, 1, .w1c, .any, fun _ => 0⟩
def SB_INT.reload_done : Fld := ⟨11344, 4, 1, .w1c, .any, fun _ => 0⟩
def SB_INT.cmd_rejected : Fld := ⟨11360, 3, 1, .w1c, .any, fun _ => 0⟩
def SB_INT.seal_done : Fld := ⟨11376, 2, 1, .w1c, .any, fun _ => 0⟩
def SB_INT.chapter_full : Fld := ⟨11392, 1, 1, .w1c, .any, fun _ => 0⟩
def SB_INT.record_written : Fld := ⟨11408, 0, 1, .w1c, .any, fun _ => 0⟩
/-- SB_INT (18_boot_record.md): 32 bits; reset by POR, WRM, WDG. -/
def SB_INT : Reg := ⟨"SB_INT", 0x21200010, [], 32,
  [SB_INT.floor_raised, SB_INT.trial_failed, SB_INT.otp_fail, SB_INT.reload_fail, SB_INT.reload_done, SB_INT.cmd_rejected, SB_INT.seal_done, SB_INT.chapter_full, SB_INT.record_written]⟩

def SB_IMAGE_STATUS.code_b : Fld := ⟨11424, 56, 8, .ro, .any, fun _ => 0⟩
def SB_IMAGE_STATUS.code_a : Fld := ⟨11440, 48, 8, .ro, .any, fun _ => 0⟩
def SB_IMAGE_STATUS.booted : Fld := ⟨11456, 46, 2, .ro, .any, fun _ => 3⟩
def SB_IMAGE_STATUS.code : Fld := ⟨11472, 32, 8, .ro, .any, fun _ => 0⟩
def SB_IMAGE_STATUS.offset : Fld := ⟨11488, 0, 32, .ro, .any, fun _ => 0⟩
/-- SB_IMAGE_STATUS (18_boot_record.md): 64 bits; reset by POR, WRM, WDG. -/
def SB_IMAGE_STATUS : Reg := ⟨"SB_IMAGE_STATUS", 0x21200018, [], 64,
  [SB_IMAGE_STATUS.code_b, SB_IMAGE_STATUS.code_a, SB_IMAGE_STATUS.booted, SB_IMAGE_STATUS.code, SB_IMAGE_STATUS.offset]⟩

def SB_ITEM_STATUS.loaded : Fld := ⟨11504, 31, 1, .ro, .any, fun _ => 0⟩
def SB_ITEM_STATUS.code_b : Fld := ⟨11520, 8, 8, .ro, .any, fun _ => 0⟩
def SB_ITEM_STATUS.code_a : Fld := ⟨11536, 0, 8, .ro, .any, fun _ => 0⟩
/-- SB_ITEM_STATUS (18_boot_record.md): 32 bits; reset by POR, WRM, WDG. -/
def SB_ITEM_STATUS : Reg := ⟨"SB_ITEM_STATUS", 0x21200020, [(8, 4)], 32,
  [SB_ITEM_STATUS.loaded, SB_ITEM_STATUS.code_b, SB_ITEM_STATUS.code_a]⟩

def SB_BOOT_COUNT.epochs : Fld := ⟨11552, 32, 9, .ro, .any, fun _ => 0⟩
def SB_BOOT_COUNT.counter : Fld := ⟨11568, 0, 32, .ro, .any, fun _ => 0⟩
/-- SB_BOOT_COUNT (18_boot_record.md): 64 bits; reset by POR, WRM, WDG. -/
def SB_BOOT_COUNT : Reg := ⟨"SB_BOOT_COUNT", 0x21200040, [], 64,
  [SB_BOOT_COUNT.epochs, SB_BOOT_COUNT.counter]⟩

def SB_CHAPTER.voids : Fld := ⟨11584, 16, 16, .ro, .any, fun _ => 0⟩
def SB_CHAPTER.next : Fld := ⟨11600, 0, 16, .ro, .any, fun _ => 0⟩
/-- SB_CHAPTER (18_boot_record.md): 32 bits; reset by POR, WRM, WDG. -/
def SB_CHAPTER : Reg := ⟨"SB_CHAPTER", 0x21200048, [], 32,
  [SB_CHAPTER.voids, SB_CHAPTER.next]⟩

def SB_FLOOR.floor : Fld := ⟨11616, 0, 40, .ro, .any, fun _ => 0⟩
/-- SB_FLOOR (18_boot_record.md): 64 bits; reset by POR, WRM, WDG. -/
def SB_FLOOR : Reg := ⟨"SB_FLOOR", 0x21200050, [], 64,
  [SB_FLOOR.floor]⟩

def SB_ROM_ID.version : Fld := ⟨11632, 0, 32, .ro, .any, fun _ => 0⟩
/-- SB_ROM_ID (18_boot_record.md): 32 bits; reset by POR, WRM, WDG. -/
def SB_ROM_ID : Reg := ⟨"SB_ROM_ID", 0x21200058, [], 32,
  [SB_ROM_ID.version]⟩

def SB_POLICY.policy : Fld := ⟨11648, 0, 8, .ro, .any, fun _ => 0⟩
/-- SB_POLICY (18_boot_record.md): 32 bits; reset by POR, WRM, WDG. -/
def SB_POLICY : Reg := ⟨"SB_POLICY", 0x21200060, [], 32,
  [SB_POLICY.policy]⟩

def SB_CMD_STATUS.op : Fld := ⟨11664, 8, 8, .ro, .any, fun _ => 0⟩
def SB_CMD_STATUS.result : Fld := ⟨11680, 0, 8, .ro, .any, fun _ => 0⟩
/-- SB_CMD_STATUS (18_boot_record.md): 32 bits; reset by POR, WRM, WDG. -/
def SB_CMD_STATUS : Reg := ⟨"SB_CMD_STATUS", 0x21200068, [], 32,
  [SB_CMD_STATUS.op, SB_CMD_STATUS.result]⟩

def SB_RECORD.word : Fld := ⟨11696, 0, 64, .ro, .any, fun _ => 0⟩
/-- SB_RECORD (18_boot_record.md): 64 bits; reset by POR, WRM, WDG. -/
def SB_RECORD : Reg := ⟨"SB_RECORD", 0x21200200, [(8, 64)], 64,
  [SB_RECORD.word]⟩

def BM_CTRL.action : Fld := ⟨11712, 2, 2, .wo, .any, fun _ => 0⟩
def BM_CTRL.scrub_en : Fld := ⟨11728, 1, 1, .rw, .any, fun _ => 1⟩
def BM_CTRL.enable : Fld := ⟨11744, 0, 1, .rw, .any, fun _ => 0⟩
/-- BM_CTRL (19_memories.md): 32 bits; reset by POR, WRM, WDG. -/
def BM_CTRL : Reg := ⟨"BM_CTRL", 0x20500000, [], 32,
  [BM_CTRL.action, BM_CTRL.scrub_en, BM_CTRL.enable]⟩

def BM_INT.scrub_pass : Fld := ⟨11760, 7, 1, .w1c, .any, fun _ => 0⟩
def BM_INT.train_fail : Fld := ⟨11776, 6, 1, .w1c, .any, fun _ => 0⟩
def BM_INT.dev_lost : Fld := ⟨11792, 5, 1, .w1c, .any, fun _ => 0⟩
def BM_INT.retrain : Fld := ⟨11808, 4, 1, .w1c, .any, fun _ => 0⟩
def BM_INT.replay : Fld := ⟨11824, 3, 1, .w1c, .any, fun _ => 0⟩
def BM_INT.poison : Fld := ⟨11840, 2, 1, .w1c, .any, fun _ => 0⟩
def BM_INT.ue : Fld := ⟨11856, 1, 1, .w1c, .any, fun _ => 0⟩
def BM_INT.ce : Fld := ⟨11872, 0, 1, .w1c, .any, fun _ => 0⟩
/-- BM_INT (19_memories.md): 32 bits; reset by POR, WRM, WDG. -/
def BM_INT : Reg := ⟨"BM_INT", 0x20500008, [], 32,
  [BM_INT.scrub_pass, BM_INT.train_fail, BM_INT.dev_lost, BM_INT.retrain, BM_INT.replay, BM_INT.poison, BM_INT.ue, BM_INT.ce]⟩

def BM_CFG.retrain_ms : Fld := ⟨11888, 48, 16, .rw, .atLeast 10 65535, fun _ => 100⟩
def BM_CFG.ue_limit : Fld := ⟨11904, 40, 8, .rw, .atLeast 1 255, fun _ => 16⟩
def BM_CFG.replay_max : Fld := ⟨11920, 36, 4, .rw, .atLeast 1 15, fun _ => 4⟩
def BM_CFG.rate : Fld := ⟨11936, 0, 5, .rw, .clamp 12 20, fun _ => 20⟩
/-- BM_CFG (19_memories.md): 64 bits; reset by POR, WRM, WDG. -/
def BM_CFG : Reg := ⟨"BM_CFG", 0x20500010, [], 64,
  [BM_CFG.retrain_ms, BM_CFG.ue_limit, BM_CFG.replay_max, BM_CFG.rate]⟩

def BM_MAP.devices : Fld := ⟨11952, 0, 2, .st, .within 1 3, fun _ => 0⟩
/-- BM_MAP (19_memories.md): 32 bits; reset by POR, WRM, WDG. -/
def BM_MAP : Reg := ⟨"BM_MAP", 0x20500018, [], 32,
  [BM_MAP.devices]⟩

def BM_STATUS.backed_mib : Fld := ⟨11968, 32, 16, .ro, .any, fun _ => 0⟩
def BM_STATUS.dev1 : Fld := ⟨11984, 4, 4, .ro, .any, fun _ => 0⟩
def BM_STATUS.dev0 : Fld := ⟨12000, 0, 4, .ro, .any, fun _ => 0⟩
/-- BM_STATUS (19_memories.md): 64 bits; reset by POR, WRM, WDG. -/
def BM_STATUS : Reg := ⟨"BM_STATUS", 0x20500020, [], 64,
  [BM_STATUS.backed_mib, BM_STATUS.dev1, BM_STATUS.dev0]⟩

def BM_UE_ADDR.subsystem : Fld := ⟨12016, 59, 5, .ro, .any, fun _ => 0⟩
def BM_UE_ADDR.inst : Fld := ⟨12032, 51, 8, .ro, .any, fun _ => 0⟩
def BM_UE_ADDR.kind : Fld := ⟨12048, 48, 3, .ro, .any, fun _ => 0⟩
def BM_UE_ADDR.addr : Fld := ⟨12064, 0, 40, .ro, .any, fun _ => 0⟩
/-- BM_UE_ADDR (19_memories.md): 64 bits; reset by POR, WRM, WDG. -/
def BM_UE_ADDR : Reg := ⟨"BM_UE_ADDR", 0x20500028, [], 64,
  [BM_UE_ADDR.subsystem, BM_UE_ADDR.inst, BM_UE_ADDR.kind, BM_UE_ADDR.addr]⟩

def BM_SCRUB.period_h : Fld := ⟨12080, 16, 16, .rw, .atLeast 1 65535, fun _ => 24⟩
def BM_SCRUB.progress : Fld := ⟨12096, 0, 16, .ro, .any, fun _ => 0⟩
/-- BM_SCRUB (19_memories.md): 32 bits; reset by POR, WRM, WDG. -/
def BM_SCRUB : Reg := ⟨"BM_SCRUB", 0x20500030, [], 32,
  [BM_SCRUB.period_h, BM_SCRUB.progress]⟩

def BM_DEV_ERR.retrains : Fld := ⟨12112, 48, 16, .ro, .any, fun _ => 0⟩
def BM_DEV_ERR.replays : Fld := ⟨12128, 32, 16, .ro, .any, fun _ => 0⟩
def BM_DEV_ERR.ue : Fld := ⟨12144, 16, 16, .ro, .any, fun _ => 0⟩
def BM_DEV_ERR.ce : Fld := ⟨12160, 0, 16, .ro, .any, fun _ => 0⟩
/-- BM_DEV_ERR (19_memories.md): 64 bits; reset by POR, WRM, WDG. -/
def BM_DEV_ERR : Reg := ⟨"BM_DEV_ERR", 0x20500100, [(64, 2)], 64,
  [BM_DEV_ERR.retrains, BM_DEV_ERR.replays, BM_DEV_ERR.ue, BM_DEV_ERR.ce]⟩

def RV_CTRL.action : Fld := ⟨12176, 0, 2, .wo, .any, fun _ => 0⟩
/-- RV_CTRL (19_memories.md): 32 bits; reset by POR, WRM, WDG. -/
def RV_CTRL : Reg := ⟨"RV_CTRL", 0x20600000, [], 32,
  [RV_CTRL.action]⟩

def RV_INT.fill_refused : Fld := ⟨12192, 3, 1, .w1c, .any, fun _ => 0⟩
def RV_INT.fill_done : Fld := ⟨12208, 2, 1, .w1c, .any, fun _ => 0⟩
def RV_INT.ue : Fld := ⟨12224, 1, 1, .w1c, .any, fun _ => 0⟩
def RV_INT.ce : Fld := ⟨12240, 0, 1, .w1c, .any, fun _ => 0⟩
/-- RV_INT (19_memories.md): 32 bits; reset by POR, WRM, WDG. -/
def RV_INT : Reg := ⟨"RV_INT", 0x20600008, [], 32,
  [RV_INT.fill_refused, RV_INT.fill_done, RV_INT.ue, RV_INT.ce]⟩

def RV_FILL.len : Fld := ⟨12256, 20, 20, .rw, .any, fun _ => 0⟩
def RV_FILL.start : Fld := ⟨12272, 0, 20, .rw, .any, fun _ => 0⟩
/-- RV_FILL (19_memories.md): 64 bits; reset by POR, WRM, WDG. -/
def RV_FILL : Reg := ⟨"RV_FILL", 0x20600010, [], 64,
  [RV_FILL.len, RV_FILL.start]⟩

def RV_ERR_CNT.ce : Fld := ⟨12288, 32, 32, .ro, .any, fun _ => 0⟩
def RV_ERR_CNT.ue : Fld := ⟨12304, 0, 32, .ro, .any, fun _ => 0⟩
/-- RV_ERR_CNT (19_memories.md): 64 bits; reset by POR, WRM, WDG. -/
def RV_ERR_CNT : Reg := ⟨"RV_ERR_CNT", 0x20600018, [], 64,
  [RV_ERR_CNT.ce, RV_ERR_CNT.ue]⟩

def RV_UE_ADDR.subsystem : Fld := ⟨12320, 59, 5, .ro, .any, fun _ => 0⟩
def RV_UE_ADDR.inst : Fld := ⟨12336, 51, 8, .ro, .any, fun _ => 0⟩
def RV_UE_ADDR.kind : Fld := ⟨12352, 48, 3, .ro, .any, fun _ => 0⟩
def RV_UE_ADDR.addr : Fld := ⟨12368, 0, 40, .ro, .any, fun _ => 0⟩
/-- RV_UE_ADDR (19_memories.md): 64 bits; reset by POR, WRM, WDG. -/
def RV_UE_ADDR : Reg := ⟨"RV_UE_ADDR", 0x20600020, [], 64,
  [RV_UE_ADDR.subsystem, RV_UE_ADDR.inst, RV_UE_ADDR.kind, RV_UE_ADDR.addr]⟩

def RV_CE_ADDR.addr : Fld := ⟨12384, 0, 40, .ro, .any, fun _ => 0⟩
/-- RV_CE_ADDR (19_memories.md): 64 bits; reset by POR, WRM, WDG. -/
def RV_CE_ADDR : Reg := ⟨"RV_CE_ADDR", 0x20600028, [], 64,
  [RV_CE_ADDR.addr]⟩

def AP_CORE_CTRL.run : Fld := ⟨12400, 0, 1, .rw, .any, fun _ => 0⟩
/-- AP_CORE_CTRL (20_processors_interrupts.md): 32 bits; reset by POR, WRM, WDG. -/
def AP_CORE_CTRL : Reg := ⟨"AP_CORE_CTRL", 0x20700000, [(64, 8)], 32,
  [AP_CORE_CTRL.run]⟩

def AP_CORE_STATUS.state : Fld := ⟨12416, 0, 3, .ro, .any, fun _ => 0⟩
/-- AP_CORE_STATUS (20_processors_interrupts.md): 32 bits; reset by POR, WRM, WDG. -/
def AP_CORE_STATUS : Reg := ⟨"AP_CORE_STATUS", 0x20700008, [(64, 8)], 32,
  [AP_CORE_STATUS.state]⟩

def AP_MTIMECMP.value : Fld := ⟨12432, 0, 64, .rw, .any, fun _ => 18446744073709551615⟩
/-- AP_MTIMECMP (20_processors_interrupts.md): 64 bits; reset by POR, WRM, WDG. -/
def AP_MTIMECMP : Reg := ⟨"AP_MTIMECMP", 0x20700010, [(64, 8)], 64,
  [AP_MTIMECMP.value]⟩

def AP_RESET_VEC.addr : Fld := ⟨12448, 0, 40, .rw, .any, fun _ => 0⟩
/-- AP_RESET_VEC (20_processors_interrupts.md): 64 bits; reset by POR, WRM, WDG. -/
def AP_RESET_VEC : Reg := ⟨"AP_RESET_VEC", 0x20700018, [(64, 8)], 64,
  [AP_RESET_VEC.addr]⟩

def AP_MSIP.pending : Fld := ⟨12464, 0, 8, .rw, .any, fun _ => 0⟩
/-- AP_MSIP (20_processors_interrupts.md): 32 bits; reset by POR, WRM, WDG. -/
def AP_MSIP : Reg := ⟨"AP_MSIP", 0x20700400, [], 32,
  [AP_MSIP.pending]⟩

def AP_INT.cmo_done : Fld := ⟨12480, 5, 1, .w1c, .any, fun _ => 0⟩
def AP_INT.lock_refused : Fld := ⟨12496, 4, 1, .w1c, .any, fun _ => 0⟩
def AP_INT.locked_hit : Fld := ⟨12512, 3, 1, .w1c, .any, fun _ => 0⟩
def AP_INT.tag_lost : Fld := ⟨12528, 2, 1, .w1c, .any, fun _ => 0⟩
def AP_INT.ue : Fld := ⟨12544, 1, 1, .w1c, .any, fun _ => 0⟩
def AP_INT.ce : Fld := ⟨12560, 0, 1, .w1c, .any, fun _ => 0⟩
/-- AP_INT (20_processors_interrupts.md): 32 bits; reset by POR, WRM, WDG. -/
def AP_INT : Reg := ⟨"AP_INT", 0x20700408, [], 32,
  [AP_INT.cmo_done, AP_INT.lock_refused, AP_INT.locked_hit, AP_INT.tag_lost, AP_INT.ue, AP_INT.ce]⟩

def AP_REGION_BASE.addr : Fld := ⟨12576, 0, 40, .rw, .any, fun _ => 0⟩
/-- AP_REGION_BASE (20_processors_interrupts.md): 64 bits; reset by POR, WRM, WDG. -/
def AP_REGION_BASE : Reg := ⟨"AP_REGION_BASE", 0x20700800, [(16, 16)], 64,
  [AP_REGION_BASE.addr]⟩

def AP_REGION_CFG.enable : Fld := ⟨12592, 31, 1, .rw, .any, fun _ => 0⟩
def AP_REGION_CFG.size_log2 : Fld := ⟨12608, 2, 6, .rw, .within 12 32, fun _ => 12⟩
def AP_REGION_CFG.attr : Fld := ⟨12624, 0, 2, .rw, .any, fun _ => 0⟩
/-- AP_REGION_CFG (20_processors_interrupts.md): 32 bits; reset by POR, WRM, WDG. -/
def AP_REGION_CFG : Reg := ⟨"AP_REGION_CFG", 0x20700808, [(16, 16)], 32,
  [AP_REGION_CFG.enable, AP_REGION_CFG.size_log2, AP_REGION_CFG.attr]⟩

def AP_L2_LOCK.ways : Fld := ⟨12640, 0, 16, .rw, .any, fun _ => 0⟩
/-- AP_L2_LOCK (20_processors_interrupts.md): 32 bits; reset by POR, WRM, WDG. -/
def AP_L2_LOCK : Reg := ⟨"AP_L2_LOCK", 0x20700A00, [], 32,
  [AP_L2_LOCK.ways]⟩

def AP_CMO_CTRL.way : Fld := ⟨12656, 8, 4, .rw, .any, fun _ => 0⟩
def AP_CMO_CTRL.op : Fld := ⟨12672, 0, 3, .wo, .any, fun _ => 0⟩
/-- AP_CMO_CTRL (20_processors_interrupts.md): 32 bits; reset by POR, WRM, WDG. -/
def AP_CMO_CTRL : Reg := ⟨"AP_CMO_CTRL", 0x20700A08, [], 32,
  [AP_CMO_CTRL.way, AP_CMO_CTRL.op]⟩

def AP_CMO_START.addr : Fld := ⟨12688, 0, 40, .rw, .any, fun _ => 0⟩
/-- AP_CMO_START (20_processors_interrupts.md): 64 bits; reset by POR, WRM, WDG. -/
def AP_CMO_START : Reg := ⟨"AP_CMO_START", 0x20700A10, [], 64,
  [AP_CMO_START.addr]⟩

def AP_CMO_END.addr : Fld := ⟨12704, 0, 40, .rw, .any, fun _ => 0⟩
/-- AP_CMO_END (20_processors_interrupts.md): 64 bits; reset by POR, WRM, WDG. -/
def AP_CMO_END : Reg := ⟨"AP_CMO_END", 0x20700A18, [], 64,
  [AP_CMO_END.addr]⟩

def AP_CMO_STATUS.busy : Fld := ⟨12720, 63, 1, .ro, .any, fun _ => 0⟩
def AP_CMO_STATUS.result : Fld := ⟨12736, 60, 3, .ro, .any, fun _ => 0⟩
def AP_CMO_STATUS.locked_skipped : Fld := ⟨12752, 40, 16, .ro, .any, fun _ => 0⟩
def AP_CMO_STATUS.addr : Fld := ⟨12768, 0, 40, .ro, .any, fun _ => 0⟩
/-- AP_CMO_STATUS (20_processors_interrupts.md): 64 bits; reset by POR, WRM, WDG. -/
def AP_CMO_STATUS : Reg := ⟨"AP_CMO_STATUS", 0x20700A20, [], 64,
  [AP_CMO_STATUS.busy, AP_CMO_STATUS.result, AP_CMO_STATUS.locked_skipped, AP_CMO_STATUS.addr]⟩

def AP_ERR_CNT.ce : Fld := ⟨12784, 32, 32, .ro, .any, fun _ => 0⟩
def AP_ERR_CNT.ue : Fld := ⟨12800, 0, 32, .ro, .any, fun _ => 0⟩
/-- AP_ERR_CNT (20_processors_interrupts.md): 64 bits; reset by POR, WRM, WDG. -/
def AP_ERR_CNT : Reg := ⟨"AP_ERR_CNT", 0x20700A28, [], 64,
  [AP_ERR_CNT.ce, AP_ERR_CNT.ue]⟩

def AP_ERR_ADDR.cache : Fld := ⟨12816, 61, 3, .ro, .any, fun _ => 0⟩
def AP_ERR_ADDR.core : Fld := ⟨12832, 58, 3, .ro, .any, fun _ => 0⟩
def AP_ERR_ADDR.addr : Fld := ⟨12848, 0, 40, .ro, .any, fun _ => 0⟩
/-- AP_ERR_ADDR (20_processors_interrupts.md): 64 bits; reset by POR, WRM, WDG. -/
def AP_ERR_ADDR : Reg := ⟨"AP_ERR_ADDR", 0x20700A30, [], 64,
  [AP_ERR_ADDR.cache, AP_ERR_ADDR.core, AP_ERR_ADDR.addr]⟩

def AP_XWIN.base : Fld := ⟨12864, 0, 12, .rw, .any, fun _ => 0⟩
/-- AP_XWIN (20_processors_interrupts.md): 32 bits; reset by POR, WRM, WDG. -/
def AP_XWIN : Reg := ⟨"AP_XWIN", 0x20700A40, [(8, 2)], 32,
  [AP_XWIN.base]⟩

def IC_CFG.offer_ns : Fld := ⟨12880, 0, 16, .rw, .atLeast 100 65535, fun _ => 2000⟩
/-- IC_CFG (20_processors_interrupts.md): 32 bits; reset by POR, WRM, WDG. -/
def IC_CFG : Reg := ⟨"IC_CFG", 0x20800000, [], 32,
  [IC_CFG.offer_ns]⟩

def IC_INT.bad_complete : Fld := ⟨12896, 0, 1, .w1c, .any, fun _ => 0⟩
/-- IC_INT (20_processors_interrupts.md): 32 bits; reset by POR, WRM, WDG. -/
def IC_INT : Reg := ⟨"IC_INT", 0x20800008, [], 32,
  [IC_INT.bad_complete]⟩

def IC_SWSET.source : Fld := ⟨12912, 0, 10, .wo, .any, fun _ => 0⟩
/-- IC_SWSET (20_processors_interrupts.md): 32 bits; reset by POR, WRM, WDG. -/
def IC_SWSET : Reg := ⟨"IC_SWSET", 0x20800010, [], 32,
  [IC_SWSET.source]⟩

def IC_TGT_CTRL.enable : Fld := ⟨12928, 4, 1, .rw, .any, fun _ => 1⟩
def IC_TGT_CTRL.threshold : Fld := ⟨12944, 0, 4, .rw, .any, fun _ => 0⟩
/-- IC_TGT_CTRL (20_processors_interrupts.md): 32 bits; reset by POR, WRM, WDG. -/
def IC_TGT_CTRL : Reg := ⟨"IC_TGT_CTRL", 0x20802000, [(256, 10)], 32,
  [IC_TGT_CTRL.enable, IC_TGT_CTRL.threshold]⟩

def IC_CLAIM.count : Fld := ⟨12960, 10, 6, .ro, .any, fun _ => 0⟩
def IC_CLAIM.source : Fld := ⟨12976, 0, 10, .ro, .any, fun _ => 0⟩
/-- IC_CLAIM (20_processors_interrupts.md): 32 bits; reset by POR, WRM, WDG. -/
def IC_CLAIM : Reg := ⟨"IC_CLAIM", 0x20802008, [(256, 10)], 32,
  [IC_CLAIM.count, IC_CLAIM.source]⟩

def IC_COMPLETE.source : Fld := ⟨12992, 0, 10, .wo, .any, fun _ => 0⟩
/-- IC_COMPLETE (20_processors_interrupts.md): 32 bits; reset by POR, WRM, WDG. -/
def IC_COMPLETE : Reg := ⟨"IC_COMPLETE", 0x20802010, [(256, 10)], 32,
  [IC_COMPLETE.source]⟩

def IC_TGT_STATUS.spurious : Fld := ⟨13008, 16, 16, .ro, .any, fun _ => 0⟩
def IC_TGT_STATUS.depth : Fld := ⟨13024, 8, 4, .ro, .any, fun _ => 0⟩
def IC_TGT_STATUS.line : Fld := ⟨13040, 7, 1, .ro, .any, fun _ => 0⟩
def IC_TGT_STATUS.idle : Fld := ⟨13056, 6, 1, .ro, .any, fun _ => 0⟩
def IC_TGT_STATUS.running : Fld := ⟨13072, 0, 4, .ro, .any, fun _ => 0⟩
/-- IC_TGT_STATUS (20_processors_interrupts.md): 32 bits; reset by POR, WRM, WDG. -/
def IC_TGT_STATUS : Reg := ⟨"IC_TGT_STATUS", 0x20802018, [(256, 10)], 32,
  [IC_TGT_STATUS.spurious, IC_TGT_STATUS.depth, IC_TGT_STATUS.line, IC_TGT_STATUS.idle, IC_TGT_STATUS.running]⟩

def IC_MOD.bypass_prio : Fld := ⟨13088, 28, 4, .rw, .any, fun _ => 8⟩
def IC_MOD.count : Fld := ⟨13104, 22, 6, .rw, .any, fun _ => 0⟩
def IC_MOD.time_us : Fld := ⟨13120, 0, 10, .rw, .atLeast 1 1023, fun _ => 50⟩
/-- IC_MOD (20_processors_interrupts.md): 32 bits; reset by POR, WRM, WDG. -/
def IC_MOD : Reg := ⟨"IC_MOD", 0x20802020, [(256, 10)], 32,
  [IC_MOD.bypass_prio, IC_MOD.count, IC_MOD.time_us]⟩

def IC_SRC.targets : Fld := ⟨13136, 44, 10, .ro, .any, fun _ => 0⟩
def IC_SRC.last_target : Fld := ⟨13152, 40, 4, .ro, .any, fun _ => 0⟩
def IC_SRC.count : Fld := ⟨13168, 20, 6, .ro, .any, fun _ => 0⟩
def IC_SRC.offered : Fld := ⟨13184, 19, 1, .ro, .any, fun _ => 0⟩
def IC_SRC.in_service : Fld := ⟨13200, 18, 1, .ro, .any, fun _ => 0⟩
def IC_SRC.pending : Fld := ⟨13216, 17, 1, .ro, .any, fun _ => 0⟩
def IC_SRC.edge : Fld := ⟨13232, 16, 1, .ro, .any, fun i => if 960 ≤ i then 1 else 0⟩
def IC_SRC.enable : Fld := ⟨13248, 8, 1, .rw, .any, fun _ => 0⟩
def IC_SRC.priority : Fld := ⟨13264, 0, 4, .rw, .any, fun _ => 0⟩
/-- IC_SRC (20_processors_interrupts.md): 64 bits; reset by POR, WRM, WDG. -/
def IC_SRC : Reg := ⟨"IC_SRC", 0x20810000, [(8, 1024)], 64,
  [IC_SRC.targets, IC_SRC.last_target, IC_SRC.count, IC_SRC.offered, IC_SRC.in_service, IC_SRC.pending, IC_SRC.edge, IC_SRC.enable, IC_SRC.priority]⟩

def ER_CTRL.action : Fld := ⟨13280, 0, 3, .wo, .any, fun _ => 0⟩
/-- ER_CTRL (21_event_recorder.md): 32 bits; reset by POR, WRM, WDG. -/
def ER_CTRL : Reg := ⟨"ER_CTRL", 0x21100000, [], 32,
  [ER_CTRL.action]⟩

def ER_INT.refused : Fld := ⟨13296, 4, 1, .w1c, .any, fun _ => 0⟩
def ER_INT.drained : Fld := ⟨13312, 3, 1, .w1c, .any, fun _ => 0⟩
def ER_INT.log_failed : Fld := ⟨13328, 2, 1, .w1c, .any, fun _ => 0⟩
def ER_INT.full : Fld := ⟨13344, 1, 1, .w1c, .any, fun _ => 0⟩
def ER_INT.lost : Fld := ⟨13360, 0, 1, .w1c, .any, fun _ => 0⟩
/-- ER_INT (21_event_recorder.md): 32 bits; reset by POR, WRM, WDG. -/
def ER_INT : Reg := ⟨"ER_INT", 0x21100008, [], 32,
  [ER_INT.refused, ER_INT.drained, ER_INT.log_failed, ER_INT.full, ER_INT.lost]⟩

def ER_CFG.prog_timeout_us : Fld := ⟨13376, 16, 16, .rw, .atLeast 100 65535, fun _ => 3000⟩
def ER_CFG.close_ms : Fld := ⟨13392, 0, 16, .rw, .atLeast 1 65535, fun _ => 1000⟩
/-- ER_CFG (21_event_recorder.md): 32 bits; reset by POR, WRM, WDG. -/
def ER_CFG : Reg := ⟨"ER_CFG", 0x21100010, [], 32,
  [ER_CFG.prog_timeout_us, ER_CFG.close_ms]⟩

def ER_STATUS.full : Fld := ⟨13408, 63, 1, .ro, .any, fun _ => 0⟩
def ER_STATUS.erasing : Fld := ⟨13424, 62, 1, .ro, .any, fun _ => 0⟩
def ER_STATUS.log_failed : Fld := ⟨13446, 61, 1, .ro, .any, fun _ => 0⟩
def ER_STATUS.cause : Fld := ⟨13456, 58, 3, .ro, .any, fun _ => 0⟩
def ER_STATUS.fifo : Fld := ⟨13472, 51, 7, .ro, .any, fun _ => 0⟩
def ER_STATUS.refused : Fld := ⟨13488, 0, 32, .ro, .any, fun _ => 0⟩
/-- ER_STATUS (21_event_recorder.md): 64 bits; reset by POR, WRM, WDG. -/
def ER_STATUS : Reg := ⟨"ER_STATUS", 0x21100018, [], 64,
  [ER_STATUS.full, ER_STATUS.erasing, ER_STATUS.log_failed, ER_STATUS.cause, ER_STATUS.fifo, ER_STATUS.refused]⟩

def ER_POS.records : Fld := ⟨13504, 32, 32, .ro, .any, fun _ => 0⟩
def ER_POS.write_point : Fld := ⟨13520, 0, 25, .ro, .any, fun _ => 0⟩
/-- ER_POS (21_event_recorder.md): 64 bits; reset by POR, WRM, WDG. -/
def ER_POS : Reg := ⟨"ER_POS", 0x21100020, [], 64,
  [ER_POS.records, ER_POS.write_point]⟩

def ER_LOST.srcs : Fld := ⟨13536, 32, 32, .ro, .any, fun _ => 0⟩
def ER_LOST.count : Fld := ⟨13552, 0, 32, .ro, .any, fun _ => 0⟩
/-- ER_LOST (21_event_recorder.md): 64 bits; reset by POR, WRM, WDG. -/
def ER_LOST : Reg := ⟨"ER_LOST", 0x21100028, [], 64,
  [ER_LOST.srcs, ER_LOST.count]⟩

def ER_LAST.repeat : Fld := ⟨13568, 48, 16, .ro, .any, fun _ => 0⟩
def ER_LAST.last_us : Fld := ⟨13584, 0, 48, .ro, .any, fun _ => 0⟩
/-- ER_LAST (21_event_recorder.md): 64 bits; reset by POR, WRM, WDG. -/
def ER_LAST : Reg := ⟨"ER_LAST", 0x21100030, [], 64,
  [ER_LAST.repeat, ER_LAST.last_us]⟩

def ER_FW_CTRL.len16 : Fld := ⟨13600, 16, 5, .rw, .within 1 16, fun _ => 1⟩
def ER_FW_CTRL.code : Fld := ⟨13616, 0, 16, .wo, .any, fun _ => 0⟩
/-- ER_FW_CTRL (21_event_recorder.md): 32 bits; reset by POR, WRM, WDG. -/
def ER_FW_CTRL : Reg := ⟨"ER_FW_CTRL", 0x21100040, [], 32,
  [ER_FW_CTRL.len16, ER_FW_CTRL.code]⟩

def ER_FW_DATA.word : Fld := ⟨13632, 0, 64, .rw, .any, fun _ => 0⟩
/-- ER_FW_DATA (21_event_recorder.md): 64 bits; reset by POR, WRM, WDG. -/
def ER_FW_DATA : Reg := ⟨"ER_FW_DATA", 0x21100100, [(8, 30)], 64,
  [ER_FW_DATA.word]⟩

def ER_GASP.cause : Fld := ⟨13654, 17, 3, .ro, .any, fun _ => 0⟩
def ER_GASP.log_failed : Fld := ⟨13670, 16, 1, .ro, .any, fun _ => 0⟩
def ER_GASP.deferred : Fld := ⟨13686, 8, 8, .ro, .any, fun _ => 0⟩
def ER_GASP.used : Fld := ⟨13702, 0, 8, .ro, .any, fun _ => 0⟩
/-- ER_GASP (21_event_recorder.md): 32 bits; reset by POR. -/
def ER_GASP : Reg := ⟨"ER_GASP", 0x21100080, [], 32,
  [ER_GASP.cause, ER_GASP.log_failed, ER_GASP.deferred, ER_GASP.used]⟩

def ER_GASP_SLOT.word : Fld := ⟨13718, 0, 64, .ro, .any, fun _ => 0⟩
/-- ER_GASP_SLOT (21_event_recorder.md): 64 bits; reset by POR. -/
def ER_GASP_SLOT : Reg := ⟨"ER_GASP_SLOT", 0x21101000, [(256, 8), (8, 32)], 64,
  [ER_GASP_SLOT.word]⟩

def MP_CTRL.enable : Fld := ⟨13737, 0, 1, .rw, .any, fun _ => 0⟩
/-- MP_CTRL (22_management_port.md): 32 bits; reset by POR, MGT. -/
def MP_CTRL : Reg := ⟨"MP_CTRL", 0x21300000, [], 32,
  [MP_CTRL.enable]⟩

def MP_INT.wdt : Fld := ⟨13753, 3, 1, .w1c, .any, fun _ => 0⟩
def MP_INT.park_done : Fld := ⟨13769, 2, 1, .w1c, .any, fun _ => 0⟩
def MP_INT.overrun : Fld := ⟨13785, 1, 1, .w1c, .any, fun _ => 0⟩
def MP_INT.rx : Fld := ⟨13801, 0, 1, .w1c, .any, fun _ => 0⟩
/-- MP_INT (22_management_port.md): 32 bits; reset by POR, MGT. -/
def MP_INT : Reg := ⟨"MP_INT", 0x21300008, [], 32,
  [MP_INT.wdt, MP_INT.park_done, MP_INT.overrun, MP_INT.rx]⟩

def MP_STATUS.bad_pec : Fld := ⟨13817, 48, 16, .ro, .any, fun _ => 0⟩
def MP_STATUS.dyn_addr : Fld := ⟨13833, 40, 8, .ro, .any, fun _ => 0⟩
def MP_STATUS.eid : Fld := ⟨13849, 32, 8, .ro, .any, fun _ => 0⟩
def MP_STATUS.rails_off : Fld := ⟨13865, 8, 1, .ro, .any, fun _ => 0⟩
def MP_STATUS.addr : Fld := ⟨13881, 1, 7, .ro, .any, fun _ => 0x1D⟩
def MP_STATUS.bus : Fld := ⟨13897, 0, 1, .ro, .any, fun _ => 0⟩
/-- MP_STATUS (22_management_port.md): 64 bits; reset by POR, MGT. -/
def MP_STATUS : Reg := ⟨"MP_STATUS", 0x21300010, [], 64,
  [MP_STATUS.bad_pec, MP_STATUS.dyn_addr, MP_STATUS.eid, MP_STATUS.rails_off, MP_STATUS.addr, MP_STATUS.bus]⟩

def MP_PARK.action : Fld := ⟨13913, 0, 3, .wo, .any, fun _ => 0⟩
/-- MP_PARK (22_management_port.md): 32 bits; reset by POR, MGT. -/
def MP_PARK : Reg := ⟨"MP_PARK", 0x21300018, [], 32,
  [MP_PARK.action]⟩

def MP_PARK_STATUS.kind : Fld := ⟨13926, 16, 8, .ro, .any, fun _ => 0⟩
def MP_PARK_STATUS.latch : Fld := ⟨13942, 0, 4, .ro, .any, fun _ => 0⟩
/-- MP_PARK_STATUS (22_management_port.md): 32 bits; reset by POR. -/
def MP_PARK_STATUS : Reg := ⟨"MP_PARK_STATUS", 0x21300020, [], 32,
  [MP_PARK_STATUS.kind, MP_PARK_STATUS.latch]⟩

def MP_WDT.enable : Fld := ⟨13958, 63, 1, .rwl, .any, fun _ => 0⟩
def MP_WDT.period_ms : Fld := ⟨13974, 32, 16, .rw, .atLeast 10 65535, fun _ => 2000⟩
def MP_WDT.kick : Fld := ⟨13990, 0, 32, .wo, .any, fun _ => 0⟩
/-- MP_WDT (22_management_port.md): 64 bits; reset by POR. -/
def MP_WDT : Reg := ⟨"MP_WDT", 0x21300028, [], 64,
  [MP_WDT.enable, MP_WDT.period_ms, MP_WDT.kick]⟩

/-- The registers of the SC window. -/
def regsSC : List Reg :=
  [SC_CTRL, SC_INSTANT, SC_DEADLINE, SC_STATUS, SC_LAST, SC_EPOCH, SC_PEEK_ADDR, SC_PEEK_DATA, SC_INT]

/-- The registers of the HL window. -/
def regsHL : List Reg :=
  [HL_CTRL, HL_INT, HL_EYE_MIN, HL_GROUP_CTRL, HL_GROUP_STATUS, HL_CT_TXLO, HL_CT_TXHI, HL_CT_RXLO, HL_CT_RXHI, HL_CT_QSTAT, HL_ULANE_CTRL, HL_ULANE_STATUS, HL_ULANE_EYE, HL_ULANE_ERR, HL_ULANE_EQ, HL_HEAD_CFG]

/-- The registers of the DP window. -/
def regsDP : List Reg :=
  [DP_CTRL, DP_INT, DP_SYNC, DP_SYNC_PATTERN, DP_ADAPT, DP_QUAL_THR, DP_ITER, DP_FLUME_SVC, DP_POOL, DP_CAL_COPY, DP_CAL_BUF, DP_ALT_TARGET, DP_SURF_SET, DP_FLUME_ASSIGN, DP_FLUME_STATUS, DP_FLUME_CTRL, DP_HEAD_STATE, DP_HEAD_CTRL, DP_BAND_LAYOUT, DP_QUAL_A, DP_QUAL_B, DP_CAL]

/-- The registers of the WP window. -/
def regsWP : List Reg :=
  [WP_CTRL, WP_INT, WP_WU, WP_SHOCK, WP_ASSIST, WP_VERIFY, WP_REWRITE, WP_WU_THR, WP_XTS_KEY_DATA, WP_XTS_KEY_CTRL, WP_XTS_SLOTS, WP_NS_CRYPT, WP_HEAD_STATE, WP_HEAD_VCNT, WP_WSET0, WP_WSET1, WP_WSET2]

/-- The registers of the MS window. -/
def regsMS : List Reg :=
  [MS_RL_CTRL, MS_RL_INT, MS_RL_SHIFT, MS_RL_OFFSET, MS_RL_WEIGHT, MS_RL_URG, MS_RL_CLASS, MS_RL_HEAD_CNT0, MS_RL_HEAD_CNT1, MS_RL_HEAD_CNT2, MS_CTRL, MS_INT, MS_SCHED, MS_URG_CFG, MS_URG_STATUS, MS_URG_UNCOV, MS_PROFILE, MS_ACT_STATE, MS_HQ_STATE, MS_HEAD_SVC]

/-- The registers of the SV window. -/
def regsSV : List Reg :=
  [SV_CTRL, SV_STATUS, SV_INT, SV_GEOM, SV_LOOP, SV_DEMOD, SV_READY, SV_SEEK_LIM, SV_SETTLE, SV_COMB, SV_MA_LIM, SV_FF, SV_PARK, SV_SEEK_REQ, SV_TRACE_CTRL, SV_TRACE_SEL, SV_TRACE_STATUS, SV_INJ_CTRL, SV_INJ_FREQ, SV_INJ_CORR, SV_SEEK_TAB, SV_SEEK_OVR, SV_PCOEF, SV_SLOT_STATE, SV_SLOT_POS, SV_SLOT_OFS, SV_SLOT_CFG, SV_MCOEF, SV_TRACE_BUF, SV_RED_CFG, SV_RED_CTRL, SV_RED_STATUS, SV_RED_INT, SV_RED_REF, SV_RED_SVC]

/-- The registers of the MC window. -/
def regsMC : List Reg :=
  [MC_CTRL, MC_INT, MC_SPIN_CFG, MC_SPIN_START, MC_SPIN_RUN, MC_SPIN_LOOP, MC_OBS_CFG, MC_OBS_MODEL, MC_CURVE_CFG, MC_IDLE, MC_BUS, MC_PWM, MC_SPIN_STATUS, MC_PL_STATUS, MC_VCM_CFG, MC_VCM_CAL, MC_VCM_RET, MC_VCM_STATUS, MC_CURVE, MC_SIN_TAB]

/-- The registers of the SQ window. -/
def regsSQ : List Reg :=
  [SQ_CTRL, SQ_STATUS, SQ_INT, SQ_VERSION, SQ_FAULT, SQ_SIG, SQ_VEC, SQ_THR_STATE, SQ_THR_REG, SQ_CS]

/-- The registers of the ZX window. -/
def regsZX : List Reg :=
  [ZX_CTRL, ZX_INT, ZX_ZT_BASE, ZX_VT_BASE, ZX_JRN_CFG, ZX_JRN_ZONE, ZX_JRN_STATUS, ZX_NS, ZX_ZG_HOME]

/-- The registers of the CX window. -/
def regsCX : List Reg :=
  [CX_CTRL, CX_INT, CX_CFG, CX_SVC, CX_IDX_CFG, CX_IDXC_CFG, CX_IDX_ZONE, CX_ZONE_CFG, CX_STAT, CX_NS, CX_NS_STATUS, CX_ENG_STATUS]

/-- The registers of the HIF window. -/
def regsHIF : List Reg :=
  [HIF_PORT_CFG, HIF_INT, HIF_PS_MAP, HIF_PORT_STATUS, HIF_CTL_STATUS]

/-- The registers of the QE window. -/
def regsQE : List Reg :=
  [QE_CTRL, QE_INT, QE_CTX_CFG, QE_CTX_STATUS, QE_DST, QE_RING_SEL, QE_RING_INFO, QE_RING_BASE, QE_ABORT_STATUS]

/-- The registers of the HG window. -/
def regsHG : List Reg :=
  [HG_CTRL, HG_INT, HG_BUDGET_DRIVE, HG_BUDGET_PART, HG_URGENT, HG_ILIM, HG_POOL, HG_RAIL, HG_SPIN, HG_CFG, HG_GROUP_ON, HG_GROUP_STATUS, HG_DOMAIN_STATUS, HG_PORT_CFG, HG_PORT_STATUS]

/-- The registers of the TH window. -/
def regsTH : List Reg :=
  [TH_CTRL, TH_INT, TH_STATUS, TH_THR, TH_WIN, TH_RATE, TH_STEP, TH_SENSOR, TH_HEAD]

/-- The registers of the CR window. -/
def regsCR : List Reg :=
  [CR_RST_CAUSE, CR_RST_CTRL, CR_ACT_STATUS, CR_WDT_CFG, CR_WDT_KICK, CR_WDT_STATUS, CR_INT, CR_PWR_CTRL, CR_PWR_STATUS, CR_IDLE, CR_DEEP_CFG, CR_DTIME]

/-- The registers of the SB window. -/
def regsSB : List Reg :=
  [SB_CTRL, SB_STATUS, SB_INT, SB_IMAGE_STATUS, SB_ITEM_STATUS, SB_BOOT_COUNT, SB_CHAPTER, SB_FLOOR, SB_ROM_ID, SB_POLICY, SB_CMD_STATUS, SB_RECORD]

/-- The registers of the BM window. -/
def regsBM : List Reg :=
  [BM_CTRL, BM_INT, BM_CFG, BM_MAP, BM_STATUS, BM_UE_ADDR, BM_SCRUB, BM_DEV_ERR]

/-- The registers of the RV window. -/
def regsRV : List Reg :=
  [RV_CTRL, RV_INT, RV_FILL, RV_ERR_CNT, RV_UE_ADDR, RV_CE_ADDR]

/-- The registers of the AP window. -/
def regsAP : List Reg :=
  [AP_CORE_CTRL, AP_CORE_STATUS, AP_MTIMECMP, AP_RESET_VEC, AP_MSIP, AP_INT, AP_REGION_BASE, AP_REGION_CFG, AP_L2_LOCK, AP_CMO_CTRL, AP_CMO_START, AP_CMO_END, AP_CMO_STATUS, AP_ERR_CNT, AP_ERR_ADDR, AP_XWIN]

/-- The registers of the IC window. -/
def regsIC : List Reg :=
  [IC_CFG, IC_INT, IC_SWSET, IC_TGT_CTRL, IC_CLAIM, IC_COMPLETE, IC_TGT_STATUS, IC_MOD, IC_SRC]

/-- The registers of the ER window. -/
def regsER : List Reg :=
  [ER_CTRL, ER_INT, ER_CFG, ER_STATUS, ER_POS, ER_LOST, ER_LAST, ER_FW_CTRL, ER_FW_DATA, ER_GASP, ER_GASP_SLOT]

/-- The registers of the MP window. -/
def regsMP : List Reg :=
  [MP_CTRL, MP_INT, MP_STATUS, MP_PARK, MP_PARK_STATUS, MP_WDT]

/-- Every register of the part. -/
def allRegs : List Reg :=
  regsSC ++ regsHL ++ regsDP ++ regsWP ++ regsMS ++ regsSV ++ regsMC ++ regsSQ ++ regsZX ++ regsCX ++ regsHIF ++ regsQE ++ regsHG ++ regsTH ++ regsCR ++ regsSB ++ regsBM ++ regsRV ++ regsAP ++ regsIC ++ regsER ++ regsMP

end Sys2Proof.Machine
end

