-- ==== Sys2Proof/Machine/State.lean ====
section
/-! DEFINITION. The state of the part: every register field and engine scalar in one sparse store, the staged copies
of ST registers, the loaded structure image, the memories, the queues and records of every engine, and the queue of
waiting commands. Plain data throughout. -/

namespace Sys2Proof.Machine

/-- One ring region of the ring partition section (R38). -/
structure RingRegion where
  first : Nat
  count : Nat
  owner : Nat
  purpose : Nat
  entryLog2 : Nat
  deriving DecidableEq, Repr, Inhabited

/-- One Headgate requester entry (R39). -/
structure PortDef where
  kind : Nat
  first : Nat
  count : Nat
  group : Nat
  peak : Nat
  flags : Nat
  deriving DecidableEq, Repr, Inhabited

/-- One rate band entry (R42). -/
structure Band where
  start : Nat
  rate : Nat
  sectors : Nat
  sampleBits : Nat
  targetLen : Nat
  deriving DecidableEq, Repr, Inhabited

/-- One rate band table: surface, set, total tracks and the 48 bands (R42). -/
structure BandTable where
  surface : Nat
  setNo : Nat
  total : Nat
  bands : List Band
  deriving DecidableEq, Repr, Inhabited

/-- One zone group (R43). -/
structure ZoneGroup where
  firstZone : Nat
  zoneCount : Nat
  firstTrack : Nat
  home : Nat
  band : Nat
  comb : Nat
  deriving DecidableEq, Repr, Inhabited

/-- One comb map (R44). Offsets are in nm. -/
structure CombMap where
  act : Nat
  width : Nat
  mask : Nat
  order : List Nat
  offsets : List Int
  deriving DecidableEq, Repr, Inhabited

/-- One profile table (R45). -/
structure Profile where
  flumes : Nat
  combWidth : Nat
  seekPct : Nat
  slotDiv : Nat
  urgentPct : Nat
  maxComp : Nat
  budget : Nat
  ceiling : Nat
  deriving DecidableEq, Repr, Inhabited

/-- One servo configuration entry (R47). -/
structure ServoCfg where
  redundancy : Nat
  posStages : Nat
  maStages : Nat
  holdWedges : Nat
  maEnable : Nat
  wuThreshold : Nat
  deriving DecidableEq, Repr, Inhabited

/-- One microcode reference (R47). -/
structure MicroRef where
  flashOffset : Nat
  words : Nat
  version : Nat
  digest : List Byte
  deriving DecidableEq, Repr, Inhabited

/-- The loaded structure image (R31 to R48). -/
structure Image where
  /-- Slot it was loaded from: 0 A, 1 B. -/
  slot : Nat
  version : Nat
  buildId : List Byte
  actMask : Nat
  sUpper : Nat
  sLower : Nat
  assistType : Nat
  readerSet : Nat
  rpm : Nat
  wedges : Nat
  /-- Surface of each head, 255 for an unpopulated slot. -/
  surface : List Nat
  upHead : List Nat
  downGroup : List Nat
  laneOpt : List Nat
  flumePerm : List Nat
  rings : List RingRegion
  domGroup : List Nat
  ports : List PortDef
  irq : List Nat
  clocks : List Nat
  bandTables : List BandTable
  zoneSize : Nat
  zoneCap : Nat
  groups : List ZoneGroup
  combs : List CombMap
  psMap : List Nat
  profiles : List Profile
  /-- The eleven values of R46 in their order. -/
  thermal : List Nat
  servo : List ServoCfg
  micro : List MicroRef
  urgentRate : Nat
  maxComp : Nat
  i12 : Nat
  i5 : Nat
  deriving DecidableEq, Repr, Inhabited

/-- One event record (R436). `count` is the repeat count once the record is closed. -/
structure EventRec where
  src : Nat
  code : Nat
  payload : List Byte
  dtime : Nat
  closed : Bool
  count : Nat
  deriving DecidableEq, Repr, Inhabited

/-- The record of the most recently accepted event while it stays open (R439). -/
structure OpenRec where
  src : Nat
  code : Nat
  payload : List Byte
  /-- Chapter offset once its programming has begun. -/
  off : Option Nat
  /-- The last-gasp slot that holds it. -/
  slot : Option Nat
  count : Nat
  deriving DecidableEq, Repr, Inhabited

/-- The content of an FE_CAP negotiation message (R82). -/
structure FeCapMsg where
  version : Nat
  ident : Nat
  rev : Nat
  slot : Nat
  upRates : Nat
  downRates : Nat
  widths : Nat
  readers : Nat
  assist : Nat
  /-- Highest sample rate, in 10 MS/s units. -/
  maxRate : Nat
  assistMin : Nat
  assistMax : Nat
  /-- Write FIFO depth, bits per slot. -/
  fifo : Nat
  /-- Latencies of assist enable and of the first written bit, in ns. -/
  aeLatency : Nat
  wrLatency : Nat
  deriving DecidableEq, Repr, Inhabited

/-- One sample time of a head's stream: from reader V or not, erased or not, and the two samples (R74, R91). -/
structure Smp where
  v : Bool
  erased : Bool
  a : Int
  b : Int
  deriving DecidableEq, Repr, Inhabited

/-- One downstream CT message of a group (R78). -/
structure CtMsg where
  slot : Nat
  op : Nat
  data : List Nat
  /-- Queued by firmware through HL_CT_TXHI. -/
  fw : Bool
  /-- Sends made so far (R80). -/
  tries : Nat
  deriving DecidableEq, Repr, Inhabited

/-- A response on a core's bus (R7, R14). -/
structure BusResp where
  core : Nat
  err : Bool
  data : Nat
  deriving DecidableEq, Repr, Inhabited

/-- A media operation (R278 to R283). `kind`: 0 read, 1 write, 2 validate, 3 journal or index write, 4 rewrite of a
unit, 5 self-test read, 6 index or journal read, 7 re-read of an extent, 8 recovery attempt. -/
structure MsOp where
  tag : Nat
  kind : Nat
  /-- Ladder class (R167). -/
  cls : Nat
  act : Nat
  /-- Slots it names on the actuator. -/
  mask : Nat
  zone : Nat
  /-- First position; assigned at dispatch for a write (R268). -/
  pos : Nat
  /-- Positions. -/
  count : Nat
  /-- Command context of a read, write number of a write, copy or index of the part's own. -/
  job : Nat
  /-- DTIME of queueing. -/
  since : Nat
  covered : Bool
  /-- 1 + the chunk a read of an extent serves, or 1 + the index page a read serves, or the ladder a recovery attempt belongs to; 0
  for none. -/
  aux : Nat
  /-- The tag that the operation was queued under first: its parts share it (R158, R283). -/
  grp : Nat
  deriving DecidableEq, Repr, Inhabited

/-- One attempt of the read recovery ladder (R160): the request fields, the read offset in PU, and the sectors it reads, all that
remain where none is named. `runner` stands for step 2 of R163 until its turn comes. -/
structure LadTry where
  iter : Nat
  shift : Nat
  alt : Nat
  weight : Nat
  acc : Nat
  off : Int
  only : List Nat
  runner : Bool
  /-- Reads of the sector whose soft values are combined; 0 outside rung 6 (R166). -/
  combine : Nat
  deriving DecidableEq, Repr

/-- What a thread's operation has read of a sector so far: the head, the last result word and its DTIME, the reads charged with their
lowest unsat, the reads since the sum of soft values began, and the zone position once the operation has ended (R158, R166, R170). -/
structure LadNote where
  head : Nat
  word : Nat
  time : Nat
  reads : Nat
  low : Nat
  run : Nat
  pos : Nat
  deriving DecidableEq, Repr, Inhabited

/-- A charged attempt at a sector: its head, rung and settings, and the unsat it gave (R161, R165). -/
structure LadRead where
  head : Nat
  sector : Nat
  rung : Nat
  set : LadTry
  unsat : Nat
  deriving DecidableEq, Repr

/-- A sector that climbs the ladder (R158, R170): its last result, the attempts charged, the lowest unsat, the head of the last
attempt, DTIME of its entry. `entered` is false for one that is only read again (R159). -/
structure LadSec where
  sector : Nat
  word : Nat
  tries : Nat
  best : Nat
  head : Nat
  since : Nat
  entered : Bool
  /-- The zone position that the sector holds. -/
  pos : Nat
  deriving DecidableEq, Repr

/-- The failed sectors of one operation on one track, which climb the ladder together (R158 to R173). -/
structure Ladder where
  id : Nat
  /-- The operation whose sectors they are. -/
  op : MsOp
  /-- The head of the rung-0 read. -/
  head0 : Nat
  track : Nat
  band : Nat
  rung : Nat
  /-- Attempts of the rung still to be made. -/
  plan : List LadTry
  /-- The attempt in the media queue, and its head. -/
  cur : LadTry
  curHead : Nat
  /-- The recovery head, once chosen (R161). -/
  recHead : Option Nat
  /-- The charged attempts at its sectors, newest first (R161, R165). -/
  tried : List LadRead
  secs : List LadSec
  /-- The lowest position of a sector that has ended unrecovered. -/
  lost : Option Nat
  deriving DecidableEq, Repr

/-- A read whose parts have not all ended: the results of those that have, and the lowest position of a sector reported unrecovered
(R158, R283). -/
structure LadHeld where
  op : MsOp
  notes : List LadNote
  lost : Option Nat
  deriving DecidableEq, Repr

/-- A power request waiting at the Headgate (R339, R341). -/
structure PowerReq where
  port : Nat
  units : Nat
  urgent : Bool
  holder : Nat
  since : Nat
  spinUp : Bool
  deriving DecidableEq, Repr, Inhabited

/-- One holder of a grant: who, units asked for, urgent (R339, R344). -/
structure PowerHolder where
  holder : Nat
  units : Nat
  urgent : Bool
  deriving DecidableEq, Repr, Inhabited

/-- A grant in force (R339). `order` rises with each grant made; `onU` of its units are drawn on U, the rest on G (R344); a withdrawn grant
counts as held until its units return (R345). -/
structure PowerGrant where
  port : Nat
  units : Nat
  holders : List PowerHolder
  order : Nat
  onU : Nat
  withdrawing : Bool
  deriving DecidableEq, Repr, Inhabited

/-- A flume request that waits for the arbiter (R105). `flume` is chosen and powering up. -/
structure FlumeWait where
  seq : Nat
  thr : Nat
  req : FlumeReq
  since : Nat
  flume : Option Nat
  deriving DecidableEq, Repr

/-- A request that a flume serves. `next` counts the sectors whose last sample has entered or that were skipped. -/
structure FlumeJob where
  seq : Nat
  thr : Nat
  req : FlumeReq
  next : Nat
  /-- The band set in force when the sector being received or encoded began (R64, R123). -/
  bandSet : Nat
  deriving DecidableEq, Repr

/-- What the sync search of a sector found (R119, R120): the bit at which the mark is placed, and what its result reports. -/
structure SyncInfo where
  pos : Nat
  bridged : Bool
  erased : Bool
  off : Int
  dist : Nat
  off2 : Int
  dist2 : Nat
  deriving DecidableEq, Repr

/-- A code word in a flume's decoder: the sector it is of, with its track, its soft values, and whether it is decoded or only summed
(R104). `live` is false once its request ended and its result is to be discarded. -/
structure DecWord where
  job : FlumeJob
  idx : Nat
  sync : SyncInfo
  mse : Nat
  track : Nat
  soft : List Int
  live : Bool
  deriving DecidableEq, Repr

/-- A flume: the request its front half serves, the incoming one of a handover, the sync found for the sector being
received, and the code words in its decoder, oldest first (R101, R107). -/
structure Flume where
  cur : Option FlumeJob
  incoming : Option FlumeJob
  sync : Option SyncInfo
  dec : List DecWord
  deriving DecidableEq, Repr

/-- A zone of the zone table (R267, R268, R271, R275). -/
structure Zone where
  /-- Host write pointer, in blocks. -/
  hwp : Nat
  /-- Media write pointer: the lowest position neither written nor void. -/
  mwp : Nat
  /-- Next position that ZX assigns. -/
  next : Nat
  resv : Nat
  reh0 : Option Nat
  reh1 : Option Nat
  /-- Void positions, rising. -/
  voids : List Nat
  /-- Positions at or above mwp that are written or void, rising. -/
  ahead : List Nat
  /-- 0 Empty; 1 Implicitly Opened; 2 Explicitly Opened; 3 Closed; 4 Full; 5 Read Only; 6 Offline. -/
  state : Nat
  /-- Writes wait for the rehome entry (R276). -/
  held : Bool
  /-- Zone Finished by Controller (R309). -/
  byCtl : Bool
  deriving DecidableEq, Repr

/-- A journal entry (R269). `kind`: 0 reservation, 1 placement, 2 state, 3 rehome, 4 checkpoint. -/
structure JEntry where
  kind : Nat
  zone : Nat
  /-- Reservation, first position, state, new home. -/
  a : Nat
  /-- Last position. -/
  b : Nat
  mwp : Nat
  hwp : Nat
  voids : List Nat
  /-- The write number a placement serves, or 1 + the context whose command a state entry completes. -/
  job : Nat
  deriving DecidableEq, Repr

/-- A journal position being written (R269, R270). -/
structure JPos where
  seq : Nat
  /-- The pair of journal zones that it is written to. -/
  pair : Nat
  entries : List JEntry
  posA : Nat
  posB : Nat
  passA : Bool
  passB : Bool
  deriving DecidableEq, Repr

/-- A write accepted by ZX: the command context it still serves, its zone and blocks, the positions not yet passed, and
how far it has come: placed (its placement entry waits) (R155). -/
structure WriteRec where
  wid : Nat
  ctx : Option Nat
  ctl : Nat
  ns : Nat
  zone : Nat
  blocks : Nat
  left : Nat
  first : Nat
  last : Nat
  placed : Bool
  /-- Further ranges of positions that its placement covers: rows filled out behind it, and what its data was written again to (R153, R155,
  R157): first and last. -/
  more : List (Nat × Nat) := []
  deriving DecidableEq, Repr

/-- A rewrite unit (R153): the write it belongs to, the void positions of its data, how many of the positions it is being
written to have not passed, the attempts made, the head of the last failure. -/
structure RewriteUnit where
  wid : Nat
  zone : Nat
  pos : Nat
  count : Nat
  left : Nat
  tries : Nat
  head : Nat
  /-- Being written again at `pos`. -/
  out : Bool
  deriving DecidableEq, Repr

/-- A write run of a head (R253): the thread and flume request it runs under, the sectors that have gone by, and for each
sector not yet judged the status it is known to have (0: as the detector finds). -/
structure WRun where
  seq : Nat
  thr : Nat
  band : Nat
  first : Nat
  count : Nat
  armed : Bool
  /-- Sectors that have gone by. -/
  idx : Nat
  /-- Sectors judged. -/
  judged : Nat
  marks : List Nat
  deriving DecidableEq, Repr

/-- A command context (R319). `stage`: 0 fetched, 1 in media service, 2 waits for its data to settle or a state entry to
become durable, 3 outcome known. -/
structure Ctx where
  ctl : Nat
  qid : Nat
  /-- Completion queue of the submission queue that the command was fetched from. -/
  cqid : Nat
  cmd : NvmeCmd
  /-- Ladder class; 4 for an admin command. -/
  cls : Nat
  stage : Nat
  status : Nat
  /-- Completion dword 0. -/
  dw0 : Nat
  /-- Media operations or writes outstanding. -/
  left : Nat
  covered : Bool
  /-- Writes a Flush waits for. -/
  waits : List Nat
  doorbell : Nat
  /-- Heads of the surfaces that a read touches, as its zones' home actuators name them (R286, R287). -/
  heads : List Nat
  /-- Ended without a completion: the context frees once its DMA has stopped (R323). -/
  dead : Bool
  deriving DecidableEq, Repr

/-- A ring of the ring pool in use (R318). `kind`: 0 submission, 1 completion. -/
structure Ring where
  ctl : Nat
  qid : Nat
  kind : Nat
  cqid : Nat
  prio : Nat
  base : Nat
  size : Nat
  head : Nat
  tail : Nat
  phase : Nat
  /-- Doorbells whose entries are not all fetched: entries and DTIME, oldest first. -/
  bells : List (Nat × Nat)
  deriving DecidableEq, Repr

/-- An Abort that has not completed (R325): its context, the command it names, how many entries of the queue are still to be
fetched before the tail recorded, and the context it ends, once known. -/
structure AbortWait where
  ctx : Nat
  ctl : Nat
  qid : Nat
  cid : Nat
  left : Nat
  target : Option Nat
  deriving DecidableEq, Repr

/-- Reservations of a namespace: the type, 0 for none, the holder, and the registrants with their keys (R315). -/
structure Resv where
  rtype : Nat
  holder : Nat
  keys : List (Nat × Nat)
  deriving DecidableEq, Repr

/-- A completion entry posted to the host (R326). -/
structure Completion where
  ctl : Nat
  qid : Nat
  cid : Nat
  status : Nat
  dw0 : Nat
  deriving DecidableEq, Repr

/-- An extent (R300) and where it lies (R305). -/
structure Extent where
  ns : Nat
  chunk : Nat
  gen : Nat
  raw : Bool
  level : Nat
  payload : Nat
  orig : Nat
  zone : Nat
  pos : Nat
  /-- Start within the position, in 16-byte units. -/
  off16 : Nat
  len16 : Nat
  /-- 1 + the write that packs it, until its position is assigned; 0 after. -/
  wid : Nat
  /-- Its bytes, while it waits to be packed (R300). -/
  data : List Byte := []
  deriving DecidableEq, Repr

/-- A compression or expansion job (R292). `kind`: 0 compression, 1 expansion for a read, 2 expansion for a merge (R302). -/
structure CxJob where
  kind : Nat
  ns : Nat
  chunk : Nat
  gen : Nat
  blocks : Nat
  level : Nat
  cls : Nat
  covered : Bool
  since : Nat
  /-- Write number of a compression, context of an expansion. -/
  job : Nat
  /-- Write number of a merge. -/
  wid : Nat
  /-- The expansion has failed once (R304). -/
  retried : Bool
  /-- The original bytes that a compression takes, the bytes of the extent that an expansion takes. -/
  data : List Byte := []
  deriving DecidableEq, Repr

/-- A partial chunk held in the Cistern (R302). -/
structure Partial where
  ns : Nat
  chunk : Nat
  /-- Bit b: block b of the chunk is held. -/
  blocks : Nat
  gen : Nat
  since : Nat
  cls : Nat
  /-- Writes whose data it holds and that wait for it. -/
  wids : List Nat
  /-- The chunk's bytes, zeros where no block is held. -/
  data : List Byte := []
  deriving DecidableEq, Repr

/-- Data of a write on its way from encryption to its positions (R136, R139): the write, the key slot, 1 + the namespace block it begins
with for data that is not compressed, and the bytes. -/
structure WData where
  wid : Nat
  slot : Option Nat
  lba : Nat
  bytes : List Byte
  deriving DecidableEq, Repr

/-- The data of a position as it leaves packing, in the Cistern until the position has passed (R136, R153, R307): zone, position, 1 + the
block of the namespace that it holds for data that is not compressed, and the 4,096 bytes. -/
structure Src where
  zone : Nat
  pos : Nat
  lba : Nat
  bytes : List Byte
  deriving DecidableEq, Repr

/-- The user bytes of a sector that a command has read, as decoded: its context, zone and position (R122, R136). -/
structure Fetched where
  ctx : Nat
  zone : Nat
  pos : Nat
  bytes : List Byte
  deriving DecidableEq, Repr

/-- Blocks of a chunk that a write holds until the chunk's extent has been expanded (R302). -/
structure Merge where
  ctx : Nat
  ns : Nat
  chunk : Nat
  mask : Nat
  data : List Byte
  deriving DecidableEq, Repr

/-- A key slot of the OTP (R384). -/
structure OtpKey where
  key : List Byte
  programmed : Bool
  revoked : Bool
  deriving DecidableEq, Repr, Inhabited

/-- The OTP's fields that can change (R384). `floors` and `epoch` count burned bits; `lifecycle` is the code of the highest
bit burned. -/
structure Otp where
  sign : List OtpKey
  owner : List OtpKey
  floors : List Nat
  epoch : Nat
  lifecycle : Nat
  policy : Nat
  deriving DecidableEq, Repr

/-- The OTP as Kelorsin ships it: sign_key 0 programmed with the factory key (`Config.factoryKey` holds it), lifecycle OPEN
(R384). -/
def shippedOtp : Otp :=
  { sign := [{ key := [], programmed := true, revoked := false }, { key := [], programmed := false, revoked := false },
      { key := [], programmed := false, revoked := false }, { key := [], programmed := false, revoked := false }],
    owner := [{ key := [], programmed := false, revoked := false }, { key := [], programmed := false, revoked := false }],
    floors := [0, 0, 0, 0, 0], epoch := 0, lifecycle := 1, policy := 0 }

/-- A booted item: its kind (R381), slot, security_version, measurement, and the range it was loaded to and its entry (R382,
R383). -/
structure BootItem where
  kind : Nat
  slot : Nat
  version : Nat
  meas : List Byte
  first : Nat
  size : Nat
  entry : Nat
  deriving DecidableEq, Repr, Inhabited

/-- An MCTP message being reassembled (R452). -/
structure MpAsm where
  seqNo : Nat
  tag : Nat
  data : List Byte
  deriving DecidableEq, Repr

/-- A management-port staging: the bytes staged, the end of the highest range, and DTIME of the last Stage Data (R455). -/
structure MpStage where
  cells : List Host.Cell
  size : Nat
  since : Nat
  deriving DecidableEq, Repr

/-- A response of the management port: the command it answers, its status and its data (R453 to R455). -/
structure MpResp where
  command : Nat
  status : Nat
  data : List Byte
  deriving DecidableEq, Repr

/-- An entry of the Error Information log (R171, R334). -/
structure ErrEntry where
  ctl : Nat
  qid : Nat
  cid : Nat
  status : Nat
  lba : Nat
  nsid : Nat
  deriving DecidableEq, Repr

/-- The machine stops with a fault: the part has none. Every misuse the spec describes ends in a status, an interrupt or
a bus error, which are next states; the one constructor is raised by no meaning (safe). -/
inductive Fault where
  /-- Raised by no meaning: the spec names no event that stops the part without a state it goes on from. -/
  | none
  deriving DecidableEq, Repr

/-- Why a command is refused. -/
inductive Refusal where
  /-- Raised by an arm of `exec` whose command has no meaning yet (safe). -/
  | notModelled (mnemonic : String)
  /-- Raised by every meaning for a command that names a unit the part does not have: an actuator above 3, a head above
  63 and so on (`Instr.wf`). No such command can be sent to the part (safe). -/
  | illFormed
  deriving DecidableEq, Repr

/-- A line that a cache holds (R416). -/
structure CacheLine where
  way : Nat
  data : List Byte
  dirty : Bool
  /-- The poison bits of its two 32-byte halves; a line of an L1 has none. -/
  poison : Nat
  deriving DecidableEq, Repr

/-- An access by an application core, as far as it has been served: from `addr` on `len` bytes are left, and `got` has been read. -/
structure CoreAcc where
  /-- Requester as BM_UE_ADDR numbers it. -/
  master : Nat
  isWrite : Bool
  addr : Nat
  data : List Byte
  len : Nat
  got : List Byte
  /-- What the check bits of the memory show: 0 none, 1 one bit, 2 uncorrectable. -/
  error : Nat
  deriving DecidableEq, Repr

/-- A fill that has been requested from memory and not yet installed (R418, R424). -/
structure Fill where
  acc : CoreAcc
  /-- The attribute of its region when the access was issued (R417). -/
  attr : Nat
  /-- The fill's read of memory with the offsets of the bytes that are not delivered, where a DMA write has come after it. -/
  read : Option (List Byte × List Nat)
  /-- Offsets of the line that DMA writes have written since. -/
  dma : List Nat
  deriving DecidableEq, Repr

/-- A store in a write buffer (R418). -/
structure BufStore where
  master : Nat
  addr : Nat
  data : List Byte
  deriving DecidableEq, Repr

/-- The state of the part. -/
structure State where
  /-- Register fields and engine scalars in force: ((field, instance), value), rising, a field at its reset value not listed. -/
  regs : List ((Nat × Nat) × Nat)
  /-- Staged copies of the ST fields written since they were last in force: ((field, instance), value) (R55). -/
  staged : List ((Nat × Nat) × Nat)
  /-- Addresses of the registers in the staged set (R55). -/
  stagedSet : List Nat
  /-- Fields of type RWL that are locked: (field, instance) (R6). -/
  locked : List (Nat × Nat)
  /-- DTIME in ns (R377). -/
  dtime : Nat
  /-- The model's own counter of free values taken so far. -/
  freeCtr : Nat
  /-- The loaded structure image; none before a load and in the image-less state (R52). -/
  img : Option Image
  /-- Captured high halves: ((core, register address), value) (R7). -/
  capHigh : List ((Nat × Nat) × Nat)
  /-- Held low halves: ((core, register address), value) (R7). -/
  heldLow : List ((Nat × Nat) × Nat)
  /-- The last bus response. -/
  bus : Option BusResp
  /-- NOR flash bytes; a byte not listed reads 0xFF, erased. -/
  flash : List Host.Cell
  /-- Event recorder: queued records, oldest first, without the one being programmed (R440). -/
  erFifo : List EventRec
  /-- The record being programmed and its chapter offset. -/
  erProg : Option (EventRec × Nat)
  /-- The open record (R439). -/
  erOpen : Option OpenRec
  /-- Copies of ER_POS, ER_STATUS, ER_LOST and ER_LAST in always-on SRAM (R447). -/
  erCopies : List Nat
  /-- Held downstream CT messages of each group, oldest first (R479). -/
  ctHeld : List (Nat × List CtMsg)
  /-- Messages sent and not yet answered, of each group (R80). -/
  ctSent : List (Nat × List CtMsg)
  /-- Receive queue of each group: low and high words (R79). -/
  ctRx : List (Nat × List (Nat × Nat))
  /-- FE_CAP of each upstream lane in the current bring-up (R82). -/
  feCap : List (Nat × FeCapMsg)
  /-- The last frame that each downstream lane sent, and the symbols it went out as (R69, R72). -/
  downFrame : List (Nat × Nat)
  downLine : List (Nat × List Int)
  /-- Sample times of each head that its flume has yet to take, oldest first (R74, R112, R150). -/
  samples : List (Nat × List Smp)
  /-- Queued media operations of each actuator, oldest first; an operation holds a tag of every head it names (R278). -/
  msQueue : List (Nat × List MsOp)
  /-- The staging list: operations without all their tags, and writes returned for a new home (R65, R278). -/
  msHold : List MsOp
  /-- Power requests waiting, in order of issue (R341). -/
  hgReqs : List PowerReq
  /-- Power grants in force (R339). -/
  hgGrants : List PowerGrant
  /-- Cistern bytes by address; a byte not listed reads 0, as the fill after training leaves it (R401). -/
  cistern : List Host.Cell
  /-- Addresses of the Cistern units that carry poison, rising (R404). -/
  cisternPoison : List Nat
  /-- DTIME of the uncorrectable units found in each device within the last second (R407). -/
  bmUeTimes : List (Nat × List Nat)
  /-- Reservoir bytes that are not 0, by address. -/
  reservoir : List Host.Cell
  /-- Reservoir ranges written since power-up: (first, end), rising, apart (R410). -/
  rvWritten : List (Nat × Nat)
  /-- The working state of each flume. -/
  flumes : List (Nat × Flume)
  /-- Each flume's sums of soft values, 8 bits and saturating (R104, R166). -/
  dpSums : List (Nat × List Int)
  /-- Flume requests that wait, in order of issue (R105). -/
  flumeReqs : List FlumeWait
  /-- Sector results waiting for thread 4q + t, oldest first: slot and result word (R122). -/
  sqRes : List (Nat × List (Nat × Nat))
  /-- Verify results waiting for thread 4q + t, oldest first: slot and result word (R152). -/
  sqVres : List (Nat × List (Nat × Nat))
  /-- Results of the sectors that the read of thread 4q + t has had so far (R158). -/
  ladNotes : List (Nat × List LadNote)
  /-- Reads with parts to come, by the tag their parts share (R158). -/
  ladHeld : List (Nat × LadHeld)
  /-- Recovery results kept: 1 + the command's context, or 0 for a read of the part's own; the track; the result word (R170). -/
  recResults : List (Nat × (Nat × Nat))
  /-- The read recovery ladder (R158 to R173). -/
  ladders : List Ladder
  /-- The operation that thread 4q + t holds. -/
  sqOps : List (Nat × MsOp)
  /-- The operation handed to thread 4q + t and not yet fetched (R243, R254). -/
  sqArrive : List (Nat × MsOp)
  /-- The zone table (R268). -/
  zones : List (Nat × Zone)
  /-- The zone table that the journal on the media restores: the latest checkpoint and the durable entries after it (R273). -/
  mediaZones : List (Nat × Zone)
  /-- Journal entries waiting for a position (R270). -/
  jrnWait : List JEntry
  /-- Journal positions written and not yet durable. -/
  jrnPos : List JPos
  /-- Writes whose data has not settled (R155). -/
  writes : List WriteRec
  /-- Rewrite units waiting (R153). -/
  rewrites : List RewriteUnit
  /-- The write run of each head. -/
  wruns : List (Nat × WRun)
  /-- Data of writes from encryption until their positions are assigned (R136, R139). -/
  wdata : List WData
  /-- Data of positions in the Cistern (R153, R307). -/
  source : List Src
  /-- Sectors that commands have read (R122, R136). -/
  fetched : List Fetched
  /-- Chunks that commands have expanded: (context, chunk), bytes (R292). -/
  expanded : List ((Nat × Nat) × List Byte)
  /-- Blocks that wait for a merge (R302). -/
  merges : List Merge
  /-- Command contexts in use (R319). -/
  ctxs : List (Nat × Ctx)
  /-- Rings in use (R318). -/
  rings : List (Nat × Ring)
  /-- The last completion entry posted. -/
  lastCpl : Option Completion
  /-- Aborts that have not completed (R325). -/
  aborts : List AbortWait
  /-- The chunk index: the extent of each chunk that has one, in order of chunk (R305). -/
  extents : List Extent
  /-- The index entries that a rebuild restores: those of extents placed durably (R308). -/
  mediaExtents : List Extent
  /-- Extents waiting to be packed and the write number each serves (R301). -/
  packing : List (Extent × Nat)
  /-- Partial chunks (R302). -/
  partials : List Partial
  /-- Jobs that wait for an engine (R292). -/
  cxReady : List CxJob
  /-- The job each engine runs. -/
  cxRun : List (Nat × CxJob)
  /-- The job each engine holds suspended. -/
  cxSusp : List (Nat × CxJob)
  /-- XTS key slots that hold a key: 512 bits, the data key low (R138). -/
  keys : List (Nat × Nat)
  /-- Sub-combs that remain of each actuator's plan: slot mask and centre in half nm (R190). -/
  combPlans : List (Nat × List (Nat × Int))
  /-- Amplitudes S of each head's last 64 good wedges, newest first (R179). -/
  svAmps : List (Nat × List Nat)
  /-- Measured offsets of each head's last 64 good wedges, newest first, PU (R189). -/
  svOfs : List (Nat × List Int)
  /-- Grants withdrawn and not yet released by their thread: (thread 4q + t, port) (R248, PWD). -/
  sqPwd : List (Nat × Nat)
  /-- Writes of packed extents: write number and the host writes it serves, one entry for each extent (R301, R155). -/
  packs : List (Nat × List Nat)
  /-- Index pages in the cache, oldest first: (namespace, page) (R306). -/
  idxCached : List (Nat × Nat)
  /-- Index pages changed since the last index checkpoint (R308). -/
  idxDirty : List (Nat × Nat)
  /-- Where index pages lie on the media: (namespace, page), (zone, position) (R305, R308). -/
  idxMedia : List ((Nat × Nat) × (Nat × Nat))
  /-- The lines of the L1 instruction caches, by core and line address (R416). -/
  l1i : List ((Nat × Nat) × CacheLine)
  /-- The lines of the L1 data caches, by core and line address (R416). -/
  l1d : List ((Nat × Nat) × CacheLine)
  /-- The lines of the L2, by line address (R416). -/
  l2 : List (Nat × CacheLine)
  /-- The lines of the victim cache, oldest first (R416, R420). -/
  victim : List (Nat × CacheLine)
  /-- The outstanding miss of each core (R418, R424). -/
  fills : List (Nat × Fill)
  /-- The write buffer of each core, oldest entry first (R418). -/
  wbufs : List (Nat × List BufStore)
  /-- Accesses that wait for their core's outstanding miss or for the caches to be invalidated, in order of arrival: core and
  access (R418, R419). -/
  coreWait : List (Nat × CoreAcc)
  /-- Reservoir bytes that a poisoned line has made uncorrectable, rising (R425). -/
  rvBad : List Nat
  /-- The OTP (R384). -/
  otp : Otp
  /-- Items in force, in order of kind (R387). -/
  items : List BootItem
  /-- The security core's private memory; a byte not listed is 0 (R413). -/
  secMem : List Host.Cell
  /-- The management core's private memory; a byte not listed is 0 (R413). -/
  mgtMem : List Host.Cell
  /-- The current boot record in always-on SRAM (R392). -/
  aoRecord : List Byte
  /-- The four microcode measurements kept beside it (R392). -/
  aoMicro : List (List Byte)
  /-- Measurement 4 of the boot's latest activation record; empty for none (R392, R394). -/
  aoAct : List Byte
  /-- The last health values, held in always-on SRAM while the core rails are off (R457). -/
  aoHealth : List Byte
  /-- Messages being reassembled, by message type (R452). -/
  mpAsm : List (Nat × MpAsm)
  /-- Management stagings in progress, by item kind (R455). -/
  mpStage : List (Nat × MpStage)
  /-- Park commands waiting for their response, by opcode, oldest first (R456, R458). -/
  mpWait : List Nat
  /-- The last response of the management port. -/
  mpResp : Option MpResp
  /-- The firmware staging buffer of Firmware Image Download (R327). -/
  fwStage : List Host.Cell
  /-- Ranges downloaded: (controller, (offset, length)) (R327). -/
  fwRanges : List (Nat × (Nat × Nat))
  /-- The image whose flash write an activation without reset began (R390). -/
  fwWrite : List Byte
  /-- Feature values set: ((controller, feature identifier), value) (R315). -/
  feats : List ((Nat × Nat) × Nat)
  /-- Asynchronous events not yet reported: (controller, completion dword 0), oldest first (R316, R336). -/
  aens : List (Nat × Nat)
  /-- The Error Information log, newest first, at most 64 entries (R334). -/
  errLog : List ErrEntry
  /-- Zones whose descriptors changed since the Changed Zone List was last read: (namespace, zone) (R334, R336). -/
  changedZones : List (Nat × Nat)
  /-- Namespaces whose attributes changed since the Changed Namespace List was last read (R334, R336). -/
  changedNs : List Nat
  /-- Reservation notifications not yet read: (controller, (type, namespace identifier)), oldest first (R334). -/
  resvNotes : List (Nat × (Nat × Nat))
  /-- Reservations, by namespace index (R315). -/
  resv : List (Nat × Resv)
  /-- The data a command last returned to the host. -/
  hostData : List Byte
  /-- Commands waiting, first in, first out. -/
  pending : List Instr
  deriving DecidableEq, Repr

/-- The part right after a power-on reset: every register at its reset value (no cell listed), DTIME 0, no image loaded,
every memory and queue empty, no command waiting. Values that come from the image, the straps, the ROM or the OTP are
written by the boot sequence (log entry 4). -/
def State.reset : State :=
  { regs := [],
    staged := [],
    stagedSet := [],
    locked := [],
    dtime := 0,
    freeCtr := 0,
    img := none,
    capHigh := [],
    heldLow := [],
    bus := none,
    flash := [],
    erFifo := [],
    erProg := none,
    erOpen := none,
    erCopies := [],
    ctHeld := [],
    ctSent := [],
    ctRx := [],
    feCap := [],
    downFrame := [],
    downLine := [],
    samples := [],
    msQueue := [],
    msHold := [],
    hgReqs := [],
    hgGrants := [],
    cistern := [],
    cisternPoison := [],
    bmUeTimes := [],
    reservoir := [],
    rvWritten := [],
    flumes := [],
    dpSums := [],
    flumeReqs := [],
    sqRes := [],
    sqVres := [],
    ladNotes := [],
    ladHeld := [],
    recResults := [],
    ladders := [],
    sqOps := [],
    sqArrive := [],
    zones := [],
    mediaZones := [],
    jrnWait := [],
    jrnPos := [],
    writes := [],
    rewrites := [],
    wruns := [],
    wdata := [],
    source := [],
    fetched := [],
    expanded := [],
    merges := [],
    ctxs := [],
    rings := [],
    lastCpl := none,
    aborts := [],
    extents := [],
    mediaExtents := [],
    packing := [],
    partials := [],
    cxReady := [],
    cxRun := [],
    cxSusp := [],
    keys := [],
    combPlans := [],
    svAmps := [],
    svOfs := [],
    sqPwd := [],
    packs := [],
    idxCached := [],
    idxDirty := [],
    idxMedia := [],
    l1i := [],
    l1d := [],
    l2 := [],
    victim := [],
    fills := [],
    wbufs := [],
    coreWait := [],
    rvBad := [],
    otp := shippedOtp,
    items := [],
    secMem := [],
    mgtMem := [],
    aoRecord := [],
    aoMicro := [],
    aoAct := [],
    aoHealth := [],
    mpAsm := [],
    mpStage := [],
    mpWait := [],
    mpResp := none,
    fwStage := [],
    fwRanges := [],
    fwWrite := [],
    feats := [],
    aens := [],
    errLog := [],
    changedZones := [],
    changedNs := [],
    resvNotes := [],
    resv := [],
    hostData := [],
    pending := [] }

end Sys2Proof.Machine
end

