-- ==== Sys2Proof/WellFormed.lean ====
section
/-! DEFINITION. Which commands name units the part has: an operand that names an instance is below the count of that
instance (00_scope.md, "Numbers, units and addresses"; 01_architecture.md, R13, R23). -/

namespace Sys2Proof

/-- A core: 0 to 7 application, 8 security, 9 management. -/
def okCore (n : Nat) : Bool := decide (n < 10)

/-- An actuator. -/
def okAct (n : Nat) : Bool := decide (n < 4)

/-- A head. -/
def okHead (n : Nat) : Bool := decide (n < 64)

/-- An upstream lane. -/
def okLane (n : Nat) : Bool := decide (n < 64)

/-- A group, by its downstream lane. -/
def okGroup (n : Nat) : Bool := decide (n < 16)

/-- A flume. -/
def okFlume (n : Nat) : Bool := decide (n < 32)

/-- A sequencer. -/
def okSeq (n : Nat) : Bool := decide (n < 4)

/-- A thread of a sequencer. -/
def okThread (n : Nat) : Bool := decide (n < 4)

/-- A servo engine or a compression engine. -/
def okEngine (n : Nat) : Bool := decide (n < 8)

/-- A host port. -/
def okPort (n : Nat) : Bool := decide (n < 2)

/-- A controller. -/
def okCtl (n : Nat) : Bool := decide (n < 2)

/-- A namespace index. -/
def okNs (n : Nat) : Bool := decide (n < 64)

/-- A Headgate port. -/
def okHgPort (n : Nat) : Bool := decide (n < 128)

/-- A power group. -/
def okPowerGroup (n : Nat) : Bool := decide (n < 32)

/-- An on-die or board temperature sensor. -/
def okSensor (n : Nat) : Bool := decide (n < 18)

/-- A GDDR6 device. -/
def okDevice (n : Nat) : Bool := decide (n < 2)

/-- An application core. -/
def okAppCore (n : Nat) : Bool := decide (n < 8)

/-- An interrupt source. -/
def okSource (n : Nat) : Bool := decide (n < 1024)

/-- An interrupt target. -/
def okTarget (n : Nat) : Bool := decide (n < 10)

/-- The symbols of one frame: 1,024 of two levels or 512 of four (R68, R69). -/
def okLevels (l : List Int) : Bool :=
  (l.length == 1024 && l.all (fun x => x == 1 || x == -1)) || (l.length == 512 && l.all (fun x => x == 1 || x == -1 || x == 3 || x == -3))

/-- The payload of a NEG frame with a negotiation message of a code (R70, R82). -/
def okPayload (code : Nat) (l : List Byte) : Bool := l.length == 120 && l.head? == some (BitVec.ofNat 8 code)

/-- A one-byte value. -/
def okByte (n : Nat) : Bool := decide (n < 256)

/-- A unit that can be lost. -/
def okUnit : LossUnit → Bool
  | .head h => okHead h
  | .upLane x => okLane x
  | .downLane y => okGroup y
  | .flume f => okFlume f
  | .actuator a => okAct a
  | .gddr d => okDevice d
  | .hostLane p => okPort p
  | .engine e => okEngine e

/-- A submission queue entry's fields lie within their widths. -/
def okCmd (c : NvmeCmd) : Bool :=
  decide (c.opcode < 2 ^ 8) && decide (c.cid < 2 ^ 16) && decide (c.nsid < 2 ^ 32) && decide (c.slba < 2 ^ 64) && decide (c.cdw10 < 2 ^ 32)
    && decide (c.cdw11 < 2 ^ 32) && decide (c.cdw12 < 2 ^ 32) && decide (c.cdw13 < 2 ^ 32) && decide (c.cdw14 < 2 ^ 32) && decide (c.cdw15 < 2 ^ 32)

/-- Every operand that names a unit names one the part has. -/
def Instr.wf : Instr → Bool
  | .registerWrite core _ _ _ _ => okCore core
  | .stFieldWrite core _ _ _ => okCore core
  | .check => true
  | .checkDone => true
  | .armCommit => true
  | .cancelArmedCommit => true
  | .discard => true
  | .commitStrobe => true
  | .commitMissed => true
  | .unitLoss unit => okUnit unit
  | .auxRailPor _ => true
  | .sysRstNLow _ => true
  | .perstAssert port _ => okPort port
  | .perstDeassert port => okPort port
  | .pwrgdDeassert => true
  | .pwrgdAssert => true
  | .warmReset _ => true
  | .watchdogReset _ => true
  | .bootSequence => true
  | .cacheInvalidateDone => true
  | .actReset core _ => okCore core
  | .actResetEnd act => okAct act
  | .mgtReset => true
  | .wrmCommand core => okCore core
  | .wdtEnable _ => true
  | .wdtKick core _ => okCore core
  | .wdtStage1 => true
  | .wdtStage2 => true
  | .powerStateGo core => okCore core
  | .powerTransitionStep => true
  | .idleAEntry => true
  | .deepEntry => true
  | .deepWakeTimer => true
  | .deepExit _ => true
  | .kclkCheck _ => true
  | .groupBringUp group => okGroup group
  | .groupToOff group => okGroup group
  | .hlCtrlWrite _ => true
  | .detectEntry group => okGroup group
  | .detectTimeout group => okGroup group
  | .feCap lane payload => okLane lane && okPayload 1 payload
  | .capxTimeout group => okGroup group
  | .ackSet lane payload => okLane lane && okPayload 4 payload
  | .settleTimeout group => okGroup group
  | .trainEntry group => okGroup group
  | .laneActive lane _ _ _ => okLane lane
  | .trainTimeout group => okGroup group
  | .attemptCountClear group => okGroup group
  | .keepalive group => okGroup group
  | .upstreamFrame lane levels => okLane lane && okLevels levels
  | .lockLoss lane => okLane lane
  | .retrainAttemptTimeout lane => okLane lane
  | .downstreamLaneLoss group _ => okGroup group
  | .transmitterPllUnlock group => okGroup group
  | .downstreamRebringUp group => okGroup group
  | .ack lane _ _ _ => okLane lane
  | .txeqAck lane _ _ _ => okLane lane
  | .status lane _ _ cause => okLane lane && okByte cause
  | .temp lane _ _ _ => okLane lane
  | .regData lane _ _ _ => okLane lane
  | .fault lane _ _ _ => okLane lane
  | .eyeDs lane height width _ => okLane lane && okByte height && okByte width
  | .ctAnswerTimeout group _ => okGroup group
  | .ctMessageQueue group _ => okGroup group
  | .ctReceiveDequeue group => okGroup group
  | .laneRetrain lane => okLane lane
  | .laneSleep lane => okLane lane
  | .laneWake lane => okLane lane
  | .clearLaneErr lane => okLane lane
  | .wakeAdaptDone lane _ _ _ => okLane lane
  | .eyeRefresh lane _ _ _ => okLane lane
  | .flumeRequest seq thread _ => okSeq seq && okThread thread
  | .flumeGrant => true
  | .handover seq thread _ _ => okSeq seq && okThread thread
  | .handoverSwitch flume _ => okFlume flume
  | .syncSearchEnd flume => okFlume flume
  | .sectorEnd flume => okFlume flume
  | .decodeDone flume => okFlume flume
  | .idleRelease flume => okFlume flume
  | .flumeFault flume => okFlume flume
  | .calCopy => true
  | .calRecordWrite core _ _ _ => okCore core
  | .detachNow flume => okFlume flume
  | .clearAccumulator flume => okFlume flume
  | .markStale head => okHead head
  | .clearValid head => okHead head
  | .clearQualityCounters head => okHead head
  | .keyLoad core => okCore core
  | .keyZeroise core => okCore core
  | .keyActionComplete => true
  | .writeGateAssert head => okHead head
  | .shockTrip => true
  | .shockHoldoffEnd => true
  | .verifyResult head => okHead head
  | .rewrite _ => true
  | .servoField head a b => okHead head && decide (a.code < 2 ^ 44) && decide (b.code < 2 ^ 44)
  | .servoWedgeEnd act _ => okAct act
  | .servoDeadlineMiss eng => okEngine eng
  | .engineSelfCheck eng => okEngine eng
  | .legCheckFail act => okAct act
  | .combPlan act => okAct act
  | .seekRequest act _ => okAct act
  | .loadAndAcquire act => okAct act
  | .acquisitionFail act => okAct act
  | .park act => okAct act
  | .clearSvCounters act => okAct act
  | .traceArm act => okAct act
  | .traceTriggerNow act => okAct act
  | .traceStop act => okAct act
  | .injectionStart act => okAct act
  | .injectionStop act => okAct act
  | .injectionEnd act => okAct act
  | .forcedSwap act => okAct act
  | .cancelSwap act => okAct act
  | .currentLoopTick act _ _ => okAct act
  | .mcCtrlWrite _ => true
  | .spindleStart => true
  | .stopByCoasting => true
  | .stopByBraking => true
  | .backEmfZeroCrossing _ _ => true
  | .spindleGrant => true
  | .catchTimeout => true
  | .alignTimeout => true
  | .rampTimeout => true
  | .rundownTimeout => true
  | .brakeHoldEnd => true
  | .observerUpdate _ _ _ => true
  | .speedLoop => true
  | .reacquireTimeout => true
  | .idleDepthWrite _ => true
  | .spFlt => true
  | .vcmFlt act => okAct act
  | .vcmFaultPersist act => okAct act
  | .brkFlt => true
  | .overVoltage => true
  | .brakeChopperSwitch _ => true
  | .powerLoss => true
  | .retractVelocityEnd act => okAct act
  | .latchEnd act => okAct act
  | .mwNop seq thread => okSeq seq && okThread thread
  | .mwLdi seq thread => okSeq seq && okThread thread
  | .mwAdd seq thread => okSeq seq && okThread thread
  | .mwSub seq thread => okSeq seq && okThread thread
  | .mwAnd seq thread => okSeq seq && okThread thread
  | .mwOr seq thread => okSeq seq && okThread thread
  | .mwXor seq thread => okSeq seq && okThread thread
  | .mwExt seq thread => okSeq seq && okThread thread
  | .mwIns seq thread => okSeq seq && okThread thread
  | .mwBr seq thread => okSeq seq && okThread thread
  | .mwCall seq thread => okSeq seq && okThread thread
  | .mwRet seq thread => okSeq seq && okThread thread
  | .mwJr seq thread => okSeq seq && okThread thread
  | .mwWait seq thread => okSeq seq && okThread thread
  | .waitWake seq thread => okSeq seq && okThread thread
  | .waitTimeout seq thread => okSeq seq && okThread thread
  | .mwFetch seq thread => okSeq seq && okThread thread
  | .mwEnd seq thread => okSeq seq && okThread thread
  | .mwPost seq thread => okSeq seq && okThread thread
  | .mwSig seq thread => okSeq seq && okThread thread
  | .mwArmAcq seq thread => okSeq seq && okThread thread
  | .mwArmRel seq thread => okSeq seq && okThread thread
  | .mwSeek seq thread => okSeq seq && okThread thread
  | .mwComb seq thread => okSeq seq && okThread thread
  | .mwSubc seq thread => okSeq seq && okThread thread
  | .mwOfs seq thread => okSeq seq && okThread thread
  | .mwSpred seq thread => okSeq seq && okThread thread
  | .mwCrel seq thread => okSeq seq && okThread thread
  | .mwPwrReq seq thread => okSeq seq && okThread thread
  | .mwPwrRel seq thread => okSeq seq && okThread thread
  | .mwFlmReq seq thread => okSeq seq && okThread thread
  | .mwFlmRel seq thread => okSeq seq && okThread thread
  | .mwResGet seq thread => okSeq seq && okThread thread
  | .mwVresGet seq thread => okSeq seq && okThread thread
  | .mwWrArm seq thread => okSeq seq && okThread thread
  | .mwWrAbort seq thread => okSeq seq && okThread thread
  | .csParity seq _ => okSeq seq
  | .sequencerStart seq => okSeq seq
  | .sequencerHalt seq => okSeq seq
  | .beginLoad core seq => okCore core && okSeq seq
  | .endLoad core seq => okCore core && okSeq seq
  | .threadEnableWrite seq _ => okSeq seq
  | .controlStoreWrite core seq _ _ _ => okCore core && okSeq seq
  | .nsEnable ns => okNs ns
  | .recover => true
  | .recoveryComplete _ => true
  | .checkpointNow => true
  | .journalWrite => true
  | .dispatch act => okAct act
  | .scheduleSlot act => okAct act
  | .compressionJobStart => true
  | .compressionDone eng _ => okEngine eng
  | .expansionDone eng => okEngine eng
  | .engineFault eng => okEngine eng
  | .engineIdleGate eng => okEngine eng
  | .partialChunkForce ns _ => okNs ns
  | .indexCheckpoint => true
  | .rebuildIndex => true
  | .rebuildComplete _ => true
  | .linkUp port _ _ => okPort port
  | .linkTrainingStart port => okPort port
  | .dlDown port => okPort port
  | .hotReset port => okPort port
  | .laneNarrowing port _ => okPort port
  | .submissionDoorbell ctl _ _ => okCtl ctl
  | .commandFetch ctl _ cmd => okCtl ctl && okCmd cmd
  | .controllerReset ctl => okCtl ctl
  | .controllerEnable ctl _ => okCtl ctl
  | .shutdownNotification ctl => okCtl ctl
  | .nvmeRead _ => true
  | .nvmeWrite _ _ => true
  | .nvmeFlush _ => true
  | .zoneAppend _ _ => true
  | .writeZeroes _ => true
  | .datasetManagement _ => true
  | .zoneOpen _ => true
  | .zoneClose _ => true
  | .zoneFinish _ => true
  | .zoneReset _ => true
  | .zoneOffline _ => true
  | .reportZones _ => true
  | .nvmeAbort _ => true
  | .asynchronousEventRequest _ => true
  | .completionPost _ _ => true
  | .deviceSelfTest _ => true
  | .selfTestResume => true
  | .firmwareImageDownload _ _ => true
  | .firmwareCommit _ => true
  | .activationTimeout => true
  | .formatNvm _ => true
  | .sanitize _ => true
  | .namespaceManagement _ => true
  | .namespaceAttachment _ => true
  | .reservationCommand _ => true
  | .createIoQueue _ => true
  | .deleteIoSubmissionQueue _ => true
  | .deleteIoCompletionQueue _ => true
  | .identify _ => true
  | .getLogPage _ => true
  | .setFeatures _ => true
  | .getFeatures _ => true
  | .powerStateChange _ => true
  | .unsupportedCommand _ => true
  | .grant port => okHgPort port
  | .rebalance => true
  | .unitsReturn port => okHgPort port
  | .withdrawalTimeout port => okHgPort port
  | .staggerTimeout => true
  | .unsanctionedDraw port => okHgPort port
  | .currentTrip _ _ => true
  | .currentPersist _ => true
  | .groupPowerOff group => okPowerGroup group
  | .sensorSample sensor _ _ => okSensor sensor
  | .stepUpTimer => true
  | .stepDownTimer => true
  | .shutdownCutoff => true
  | .releaseShutdown => true
  | .telemetryStale head => okHead head
  | .confirm core => okCore core
  | .raiseFloors core => okCore core
  | .reloadMicrocode core => okCore core
  | .seal _ => true
  | .lifecycleTransition _ => true
  | .revokeSignKey _ => true
  | .programSignKey _ => true
  | .programOwnerKey _ => true
  | .ownerCommand _ _ => true
  | .getVersion => true
  | .getCapabilities => true
  | .negotiateAlgorithms _ _ => true
  | .getDigests => true
  | .getCertificate _ _ _ => true
  | .challenge _ _ => true
  | .getMeasurements _ _ _ => true
  | .bmEnable => true
  | .deviceReady dev _ => okDevice dev
  | .periodicRetrain dev _ => okDevice dev
  | .fullRetrain => true
  | .clearBmDevErr => true
  | .edcMismatch dev _ _ => okDevice dev
  | .cisternAccess _ _ _ _ _ _ => true
  | .scrub dev _ _ => okDevice dev
  | .reservoirAccess _ _ _ _ _ _ => true
  | .reservoirFill => true
  | .fillDone => true
  | .coreRun core target => okCore core && okAppCore target
  | .coreStop core target => okCore core && okAppCore target
  | .machineTimer core => okAppCore core
  | .l2LockWrite _ => true
  | .clean => true
  | .invalidate => true
  | .cleanAndInvalidate => true
  | .lockFill => true
  | .invalidateIncludingLocked => true
  | .cleanAndInvalidateAll => true
  | .cmoDone => true
  | .cacheProtectionError _ core _ _ => okAppCore core
  | .sourceAssert src _ => okSource src
  | .softwareSourceRaise _ => true
  | .offerTimeout src => okSource src
  | .moderationRelease target => okTarget target
  | .claim core target => okCore core && okTarget target
  | .complete core target src => okCore core && okTarget target && okSource src
  | .eventAccept _ _ payload => decide (payload.length ≤ 240)
  | .firmwareRecordSubmit core _ _ => okCore core
  | .recordProgrammed => true
  | .recordClose => true
  | .drain => true
  | .restartChapter => true
  | .sectorEraseDone => true
  | .probeFlash _ => true
  | .freeKind1Slots => true
  | .programTimeout => true
  | .logMemoryFailed _ => true
  | .writePointSearch => true
  | .xspiWrite _ _ _ _ => true
  | .mctpPacket _ _ _ _ _ _ _ _ _ => true
  | .entdaa _ => true
  | .setdasa _ _ => true
  | .setEndpointId _ _ => true
  | .getEndpointId => true
  | .getEndpointUuid => true
  | .getMctpVersionSupport _ => true
  | .getMessageTypeSupport => true
  | .readNvmeMiDataStructure _ _ => true
  | .subsystemHealthStatusPoll _ => true
  | .controllerHealthStatusPoll ctl => okCtl ctl
  | .configurationGet _ => true
  | .configurationSet _ _ => true
  | .tunnelledAdmin ctl _ _ _ _ _ _ => okCtl ctl
  | .getHealth => true
  | .parkCommand => true
  | .parkAndSpinDownCommand => true
  | .endParkCommand => true
  | .powerDownCommand => true
  | .wake => true
  | .fullReset _ => true
  | .stageData _ _ _ => true
  | .stageCommit _ => true
  | .stagingTimeout _ => true
  | .releaseShutdownCommand _ => true
  | .mpPark core => okCore core
  | .mpParkAndSpinDown core => okCore core
  | .mpEndPark core => okCore core
  | .mpPowerDown core => okCore core
  | .parkComplete => true
  | .mpWdtKick core _ => okCore core
  | .mpWdtEnable core _ => okCore core
  | .mpWdtExpiry => true
  | .vcmFltClear act => okAct act
  | .requestStarved port => okHgPort port
  | .auxiliaryRailLoss => true
  | .hlrefStop act => okAct act
  | .drainTimeLimit => true
  | .writeSectorEnd head => okHead head
  | .activationFlashWriteEnd _ => true

end Sys2Proof
end

