-- ==== Sys2Proof/Machine/Ops.lean ====
section
/-! DEFINITION. The named operations every meaning is written over: reading and writing a field, resetting a class of
fields, free values, byte memories, the loaded image's tables, and how a command's effect becomes a step. -/

namespace Sys2Proof.Machine

/-- What a command answers. -/
abbrev Res := Host.Outcome State Fault Refusal

/-- The value in force of a field of an instance. -/
def State.get (s : State) (f : Fld) (i : Nat := 0) : Nat :=
  (KV.get s.regs (f.id, i)).getD (f.reset i)

/-- Store a value, cut to the field's width, as the value in force. A field at its reset value is not listed. -/
def State.set (s : State) (f : Fld) (i : Nat) (v : Nat) : State :=
  let x := v % 2 ^ f.width
  { s with regs := if x = f.reset i then KV.del s.regs (f.id, i) else KV.put pairLt s.regs (f.id, i) x }

/-- A field read as a truth value. -/
def State.on (s : State) (f : Fld) (i : Nat := 0) : Bool := s.get f i != 0

/-- Set a one-bit field. -/
def State.raise (s : State) (f : Fld) (i : Nat := 0) : State := s.set f i 1

/-- Clear a field to zero. -/
def State.clear (s : State) (f : Fld) (i : Nat := 0) : State := s.set f i 0

/-- Change a field by a function of its value. -/
def State.upd (s : State) (f : Fld) (i : Nat) (g : Nat → Nat) : State := s.set f i (g (s.get f i))

/-- Add one to a counter that saturates at its width. -/
def State.inc (s : State) (f : Fld) (i : Nat := 0) : State :=
  s.set f i (min (s.get f i + 1) (2 ^ f.width - 1))

/-- Add to a counter that saturates at its width. -/
def State.addSat (s : State) (f : Fld) (i n : Nat) : State :=
  s.set f i (min (s.get f i + n) (2 ^ f.width - 1))

/-- Add one to a counter that wraps at its width. -/
def State.incWrap (s : State) (f : Fld) (i : Nat := 0) : State := s.set f i (s.get f i + 1)

/-- Set one bit of a mask field. -/
def State.setBitOf (s : State) (f : Fld) (i b : Nat) : State := s.set f i (setBit (s.get f i) b)

/-- Clear one bit of a mask field. -/
def State.clearBitOf (s : State) (f : Fld) (i b : Nat) : State := s.set f i (clearBit (s.get f i) b)

/-- A field read as a two's complement number. -/
def State.getS (s : State) (f : Fld) (i : Nat := 0) : Int := signed f.width (s.get f i)

/-- Store an integer as a two's complement number. -/
def State.setS (s : State) (f : Fld) (i : Nat) (x : Int) : State := s.set f i (toBits f.width x)

/-- Apply an effect only where a condition holds. -/
def State.when (s : State) (c : Bool) (g : State → State) : State := if c then g s else s

/-- Apply an effect for each index of a list, in order. -/
def State.each (s : State) (l : List Nat) (g : Nat → State → State) : State := l.foldl (fun t i => g i t) s

/-- The indices 0 to n − 1 that a mask names. -/
def bitsOf (n mask : Nat) : List Nat := (List.range n).filter (fun i => mask.testBit i)

/-- Take the next free value: a number the spec does not give. -/
def State.fresh (s : State) : Nat := Config.free s.freeCtr

/-- Move on to the next free value. -/
def State.spend (s : State) : State := { s with freeCtr := s.freeCtr + 1 }

/-- DTIME in microseconds. -/
def State.us (s : State) : Nat := s.dtime / 1000

/-! Resets by class. -/

/-- Return every field of the classes named to its reset value. -/
def State.resetClasses (s : State) (p : Nat → Bool) : State :=
  { s with regs := s.regs.filter (fun c => !p (c.1.1 % 16)),
           locked := s.locked.filter (fun c => !p (c.1 % 16)) }

/-- Return the fields of actuator `a` that name ACT to their reset values. -/
def State.resetAct (s : State) (a : Nat) : State :=
  { s with regs := s.regs.filter (fun c =>
      !(actDiv (c.1.1 % 16) != 0 && c.1.2 / actDiv (c.1.1 % 16) == a)) }

/-- Return the fields of controller `c` that name CTL to their reset values. -/
def State.resetCtl (s : State) (c : Nat) : State :=
  { s with regs := s.regs.filter (fun x => !(x.1.1 % 16 == 8 && x.1.2 == c)) }

/-- Return every field of a register instance to its reset value. -/
def State.resetReg (s : State) (r : Reg) (i : Nat) : State :=
  r.flds.foldl (fun t f => t.set f i (f.reset i)) s

/-! Byte memories. -/

/-- Read a byte of a sparse memory whose unlisted bytes read `d`. -/
def memByte (m : List Host.Cell) (d : Byte) (a : Nat) : Byte := KV.getD m a d

/-- Write a byte, keeping the canonical form. -/
def memPut (m : List Host.Cell) (d : Byte) (a : Nat) (b : Byte) : List Host.Cell :=
  if b = d then KV.del m a else KV.put natLt m a b

/-- Write bytes at rising addresses. -/
def memWrite (m : List Host.Cell) (d : Byte) (a : Nat) : List Byte → List Host.Cell
  | [] => m
  | b :: r => memWrite (memPut m d a b) d (a + 1) r

/-- Read `n` bytes. -/
def memRead (m : List Host.Cell) (d : Byte) (a : Nat) : Nat → List Byte
  | 0 => []
  | n + 1 => memByte m d a :: memRead m d (a + 1) n

/-- The canonical form of a memory: addresses strictly rising, no entry equal to what an unlisted address reads as. -/
def Memory.wf (d : Byte) (m : List Host.Cell) : Bool := KV.sorted natLt m && m.all (fun c => c.2 != d)

/-- The little-endian number of a list of bytes (R5). -/
def leNat : List Byte → Nat
  | [] => 0
  | b :: r => b.toNat + 256 * leNat r

/-- The `n` little-endian bytes of a number (R5). -/
def leBytes (v : Nat) : Nat → List Byte
  | 0 => []
  | n + 1 => BitVec.ofNat 8 v :: leBytes (v / 256) n

/-- One step of CRC-32C over a bit (R32). -/
def crcBit (c : Nat) : Nat := if c % 2 = 1 then (c / 2) ^^^ 0x82F63B78 else c / 2

/-- CRC-32C over a byte. -/
def crcByte (c : Nat) (b : Byte) : Nat := (List.range 8).foldl (fun x _ => crcBit x) (c ^^^ b.toNat)

/-- CRC-32C: initial value and final XOR of all ones (R32). -/
def crc32c (l : List Byte) : Nat := l.foldl crcByte 0xFFFFFFFF ^^^ 0xFFFFFFFF

/-- What an erased flash byte reads as. -/
def flashErased : Byte := 0xFF#8

/-- A flash byte. -/
def State.flashByte (s : State) (a : Nat) : Byte := memByte s.flash flashErased a

/-- `n` flash bytes. -/
def State.flashRead (s : State) (a n : Nat) : List Byte := memRead s.flash flashErased a n

/-- Program flash bytes: a program only clears bits. -/
def flashProg (m : List Host.Cell) (a : Nat) : List Byte → List Host.Cell
  | [] => m
  | b :: r => flashProg (memPut m flashErased a (memByte m flashErased a &&& b)) (a + 1) r

/-- Program flash bytes. -/
def State.flashProgram (s : State) (a : Nat) (bs : List Byte) : State := { s with flash := flashProg s.flash a bs }

/-- Erase flash bytes. -/
def State.flashErase (s : State) (a n : Nat) : State :=
  { s with flash := s.flash.filter (fun c => !(decide (a ≤ c.1) && decide (c.1 < a + n))) }

/-! Keyed lists of engine records. -/

/-- Put a record for a key; a record equal to the default is not listed. -/
def kset {β : Type} [DecidableEq β] (d : β) (m : List (Nat × β)) (k : Nat) (v : β) : List (Nat × β) :=
  if v = d then KV.del m k else KV.put natLt m k v

/-! The loaded image's tables. -/

/-- The image in force; an all-zero image stands in while none is loaded, and names no actuator, head or lane. -/
def noImage : Image :=
  { slot := 0, version := 0, buildId := [], actMask := 0, sUpper := 0, sLower := 0, assistType := 0, readerSet := 0,
    rpm := 0, wedges := 0, surface := [], upHead := [], downGroup := [], laneOpt := [], flumePerm := [], rings := [],
    domGroup := [], ports := [], irq := [], clocks := [], bandTables := [], zoneSize := 0, zoneCap := 0, groups := [],
    combs := [], psMap := [], profiles := [], thermal := [], servo := [], micro := [], urgentRate := 0, maxComp := 0,
    i12 := 0, i5 := 0 }

/-- The image the part runs under. -/
def State.image (s : State) : Image := s.img.getD noImage

/-- Actuator `a` is present (R16). -/
def Image.hasAct (m : Image) (a : Nat) : Bool := m.actMask.testBit a

/-- The surface of head `h`, 255 if its slot is unpopulated (R35). -/
def Image.surf (m : Image) (h : Nat) : Nat := m.surface.getD h 255

/-- Head `h` is populated. -/
def Image.populated (m : Image) (h : Nat) : Bool := m.surf h != 255

/-- The twin of head `h`: the head of the twin actuator that reaches the same surface (R35). -/
def Image.twin (m : Image) (h : Nat) : Option Nat :=
  if m.populated h then
    (List.range 16).map (fun k => 16 * ((h / 16) ^^^ 2) + k) |>.find? (fun j => m.surf j == m.surf h && m.populated j)
  else none

/-- The upstream lane that carries head `h` (R36). -/
def Image.laneOf (m : Image) (h : Nat) : Option Nat := (List.range 64).find? (fun x => m.upHead.getD x 255 == h)

/-- The head that lane `x` carries, 255 if the lane is unused (R36). -/
def Image.headOf (m : Image) (x : Nat) : Nat := m.upHead.getD x 255

/-- The heads of group `y`'s four slots (R67). -/
def Image.groupSlots (m : Image) (y : Nat) : List Nat :=
  let k := m.downGroup.getD y 255
  if k < 4 then (List.range 4).map (fun j => 16 * (y / 4) + 4 * k + j) else []

/-- The populated heads of group `y`. -/
def Image.groupHeads (m : Image) (y : Nat) : List Nat := (m.groupSlots y).filter m.populated

/-- The used upstream lanes of group `y`. -/
def Image.groupLanes (m : Image) (y : Nat) : List Nat := (m.groupHeads y).filterMap m.laneOf

/-- Group `y` is used (R36). -/
def Image.groupUsed (m : Image) (y : Nat) : Bool := m.downGroup.getD y 255 < 4

/-- The group that serves head `h` (R67). -/
def Image.groupOf (m : Image) (h : Nat) : Option Nat :=
  (List.range 4).map (fun j => 4 * (h / 16) + j) |>.find? (fun y => m.downGroup.getD y 255 == h % 16 / 4)

/-- The populated heads of actuator `a`. -/
def Image.actHeads (m : Image) (a : Nat) : List Nat :=
  (List.range 16).map (fun k => 16 * a + k) |>.filter m.populated

/-- The band tables of a surface and set. -/
def Image.bandTable (m : Image) (surface setNo : Nat) : Option BandTable :=
  m.bandTables.find? (fun t => t.surface == surface && t.setNo == setNo)

/-- Flume `f` may attach to head `h` (R37). -/
def Image.permits (m : Image) (f h : Nat) : Bool := (m.flumePerm.getD f 0).testBit h

/-- The flumes that R37 permits on at least one head. -/
def Image.flumeMask (m : Image) : Nat := (List.range 32).foldl (fun n f => if m.flumePerm.getD f 0 = 0 then n else setBit n f) 0

/-- The Headgate port of a kind that serves an instance (R39). -/
def Image.portOf (m : Image) (kind inst : Nat) : Option Nat :=
  (List.range 128).find? (fun p =>
    let d := m.ports.getD p default
    d.kind == kind && decide (d.first ≤ inst) && decide (inst < d.first + max d.count 1))

/-- The zone group that holds an image zone (R43). -/
def Image.groupOfZone (m : Image) (z : Nat) : Option Nat :=
  (List.range m.groups.length).find? (fun g =>
    let d := m.groups.getD g default
    decide (d.firstZone ≤ z) && decide (z < d.firstZone + d.zoneCount))

/-- The zone group record of an index. -/
def Image.group (m : Image) (g : Nat) : ZoneGroup := m.groups.getD g default

/-- The comb map record of an index. -/
def Image.comb (m : Image) (c : Nat) : CombMap := m.combs.getD c default

/-- One revolution in ns (R62). -/
def Image.revNs (m : Image) : Nat := 60000000000 / max m.rpm 1

/-- The image-less state: the boot found no structure image that passes, and every switched domain stays off (R52, SB_STATUS). -/
def imagelessState (s : State) : Bool := decide (2 ≤ s.get SB_STATUS.state)

/-- The management port answers: its bus target responds (MP_CTRL.enable) and the management core runs; held in reset, the port is silent
(R388). -/
def mpAnswers (s : State) : Bool := s.on MP_CTRL.enable && s.on X.mgt_run

/-! Command contexts. -/

/-- A command context. -/
def ctxOf (s : State) (c : Nat) : Option Ctx := KV.get s.ctxs c

/-- Change a command context. -/
def updCtx (c : Nat) (f : Ctx → Ctx) (s : State) : State :=
  match KV.get s.ctxs c with
  | some x => { s with ctxs := KV.put natLt s.ctxs c (f x) }
  | none => s

/-- Drop the data that a command has read or holds for a merge. -/
def dropData (c : Nat) (s : State) : State :=
  { s with fetched := s.fetched.filter (fun f => f.ctx != c), expanded := s.expanded.filter (fun x => x.1.1 != c),
           merges := s.merges.filter (fun m => m.ctx != c), recResults := s.recResults.filter (fun r => r.1 != c + 1) }

/-- A command's outcome is known; the first failure stands. A command that is to end without a completion frees its context
(R323). -/
def ctxFinish (c status : Nat) (s : State) : State :=
  let s := dropData c s
  match KV.get s.ctxs c with
  | some x =>
    if x.dead then { s with ctxs := KV.del s.ctxs c }
    else { s with ctxs := KV.put natLt s.ctxs c { x with stage := 3, status := if x.status = 0 then status else x.status } }
  | none => s

/-- The bit of the Asynchronous Event Configuration feature that enables an event, where it has one: reliability and temperature of SMART /
Health, the notices of namespaces, activation and zones (R315; log entry 41). -/
def eventBit (dw0 : Nat) : Option Nat :=
  if dw0 = 1 + 2 * 65536 then some 2
  else if dw0 = 1 + 256 + 2 * 65536 then some 1
  else if dw0 = 2 + 4 * 65536 then some 8
  else if dw0 = 2 + 256 + 3 * 65536 then some 9
  else if dw0 = 2 + 0xEF * 256 + 0xBF * 65536 then some 27
  else none

/-- An event is enabled: the host has not masked it by the Asynchronous Event Configuration feature (R315). -/
def eventOn (s : State) (ctl dw0 : Nat) : Bool :=
  match eventBit dw0, KV.get s.feats (ctl, 0x0B) with
  | some b, some v => v.testBit b
  | _, _ => true

/-- An asynchronous event for a controller: an outstanding Asynchronous Event Request reports it, or it waits for one (R316,
R336). -/
def hostEvent (ctl dw0 : Nat) (s : State) : State :=
  if !eventOn s ctl dw0 then s else
  match s.ctxs.find? (fun p => p.2.ctl == ctl && p.2.qid == 0 && p.2.cmd.opcode == 0x0C && p.2.stage == 1 && !p.2.dead) with
  | some p => ctxFinish p.1 0 (updCtx p.1 (fun x => { x with dw0 := dw0 }) s)
  | none => if s.aens.contains (ctl, dw0) then s else { s with aens := s.aens ++ [(ctl, dw0)] }

/-- An asynchronous event for both controllers. -/
def hostEvents (dw0 : Nat) (s : State) : State := hostEvent 1 dw0 (hostEvent 0 dw0 s)

/-- The SMART / Health Status event of a loss of reliability (R336). -/
def smartEvent (s : State) : State := hostEvents (1 + 2 * 65536) s

/-! From effect to step. -/

/-- What SQ_THR_STATE and SQ_STATUS show of a thread's holdings: arm, grants, flume requests, operation, fault (R258). -/
def showThread (k : Nat) (s : State) : State :=
  let q := k / 4
  let t := k % 4
  let s := s.set SQ_THR_STATE.arm k (b2n (s.get SQ_STATUS.arm_held q == 1 && s.get SQ_STATUS.arm_owner q == t))
  let s := s.set SQ_THR_STATE.grants k (s.hgGrants.filter (fun g => g.holders.any (fun h => h.holder == 200 + k))).length
  let waits := (s.flumeReqs.filter (fun w => w.seq == q && w.thr == t)).length
  let jobs := s.flumes.foldl (fun n p => n + ((p.2.cur.toList ++ p.2.incoming.toList).filter (fun j => j.seq == q && j.thr == t)).length) 0
  let s := s.set SQ_THR_STATE.flumes k (min 15 (waits + jobs))
  let flag := fun (f : Fld) (b : Bool) (u : State) => if b then u.setBitOf f q t else u.clearBitOf f q t
  flag SQ_STATUS.thr_fault (s.get SQ_THR_STATE.state k == 4) (flag SQ_STATUS.thr_busy (s.sqOps.any (fun p => p.1 == k)) s)

/-- The kinds of port whose grants are fixed (R338). -/
def fixedKind (k : Nat) : Bool := k == 1 || k == 2 || k == 8 || k == 9

/-- Sequencers and servo engines are power-gated and the Cistern is in self-refresh: STANDBY (R372, R374). -/
def gated (s : State) : Bool := decide (7 ≤ s.get X.pwr_level)

/-- A power domain is held off whatever its group's state: its unit is out of service, failed, or gated in STANDBY (R352,
R372). -/
def domainHeld (s : State) (d : Nat) : Bool :=
  if d < 64 then s.get HL_ULANE_STATUS.state d == 4
  else if d < 80 then s.get HL_GROUP_STATUS.state (d - 64) == 7
  else if d < 112 then !(s.get DP_FLUME_SVC.mask).testBit (d - 80)
  else if d < 120 then !(s.get CX_SVC.mask).testBit (d - 112)
  else if d < 128 then false
  else if d < 136 then gated s || !(s.get SV_RED_SVC.mask ((d - 128) / 2)).testBit ((d - 128) % 2)
  else if d < 140 then gated s
  else false

/-- The powered domains of a list: those of a powered group that are not held off (R351). -/
def domainsOn (s : State) (from_ : Nat) (groups : List Nat) : Nat :=
  (groups.foldl (fun (p : Nat × Nat) g =>
    (p.1 + 1, if g != 0 && (s.get HG_GROUP_STATUS.on).testBit g && !domainHeld s (from_ + p.1) then setBit p.2 p.1 else p.2)) (0, 0)).2

/-- Show the powered domains (R351). -/
def showDomains (s : State) : State :=
  let d := s.image.domGroup
  let s := s.set HG_DOMAIN_STATUS.on 0 (domainsOn s 0 (d.take 64))
  let s := s.set HG_DOMAIN_STATUS.on 1 (domainsOn s 64 ((d.drop 64).take 64))
  s.set HG_DOMAIN_STATUS.on 2 (domainsOn s 128 (d.drop 128))

/-- An Asynchronous Event Request, which waits for an event and is no work. -/
def isAer (x : Ctx) : Bool := x.qid == 0 && x.cmd.opcode == 0x0C

/-- Nothing of a controller's commands is left: no context and no unsettled write (R323, R324). -/
def ctlQuiet (s : State) (c : Nat) : Bool := s.ctxs.all (fun p => p.2.ctl != c || isAer p.2) && s.writes.all (fun w => w.ctl != c || w.blocks == 0)

/-- A controller whose reset is under way drains until nothing of it is left; CSTS.RDY then clears. A shutdown is reported complete
likewise (R323, R324). -/
def showCtl (c : Nat) (s : State) : State :=
  let s := if s.on X.ctl_down c && ctlQuiet s c then ((s.clear X.ctl_down c).clear HIF_CTL_STATUS.rdy c).clear HIF_CTL_STATUS.draining c else s
  if s.on X.ctl_shn c && s.get HIF_CTL_STATUS.shst c == 1 && ctlQuiet s c then s.set HIF_CTL_STATUS.shst c 2 else s

/-- Contexts held (QE_CTX_STATUS), and the Aborts that wait for their target's fetch (QE_ABORT_STATUS). -/
def showCtxs (s : State) : State :=
  let held := fun c => (s.ctxs.filter (fun p => p.2.ctl == c)).length
  let s := (s.set QE_CTX_STATUS.ctl0 0 (held 0)).set QE_CTX_STATUS.ctl1 0 (held 1)
  let s := s.set QE_CTX_STATUS.urgent 0 (s.ctxs.filter (fun p => p.2.cls == 0)).length
  s.each [0, 1] (fun c t => t.set QE_ABORT_STATUS.pending c (min 64 (t.aborts.filter (fun a => a.ctl == c && a.target.isNone)).length))

/-- The ring that QE_RING_SEL names, in QE_RING_INFO and QE_RING_BASE. -/
def showRing (s : State) : State :=
  let r := s.get QE_RING_SEL.ring
  let d := (s.image.rings.find? (fun g => decide (g.first ≤ r) && decide (r < g.first + g.count))).getD default
  let s := ((s.set QE_RING_INFO.owner 0 d.owner).set QE_RING_INFO.purpose 0 d.purpose)
  match KV.get s.rings r with
  | some x =>
    let s := ((s.set QE_RING_INFO.active 0 1).set QE_RING_INFO.phase 0 x.phase).set QE_RING_INFO.entry_log2 0 (if x.kind = 0 then 6 else 4)
    let s := ((s.set QE_RING_INFO.size_m1 0 (x.size - 1)).set QE_RING_INFO.tail 0 x.tail).set QE_RING_INFO.head 0 x.head
    s.set QE_RING_BASE.addr 0 x.base
  | none =>
    let s := ((s.clear QE_RING_INFO.active).clear QE_RING_INFO.phase).set QE_RING_INFO.entry_log2 0 d.entryLog2
    let s := ((s.clear QE_RING_INFO.size_m1).clear QE_RING_INFO.tail).clear QE_RING_INFO.head
    s.clear QE_RING_BASE.addr

/-- A self-test whose media work has all ended is over (R330). -/
def showTest (s : State) : State :=
  let ops := s.msQueue.flatMap (fun p => p.2) ++ s.msHold ++ s.sqArrive.map (fun p => p.2) ++ s.sqOps.map (fun p => p.2)
  if s.get X.dst_run ≠ 0 ∧ s.get X.dst_yield = 0 ∧ ops.all (fun o => o.kind != 5) ∧ s.ladders.all (fun l => l.op.kind != 5) ∧ s.ladHeld.all (fun h => h.2.op.kind != 5) then
    s.clear X.dst_run
  else s

/-- CR_DTIME reports DTIME (R377). -/
def showClock (s : State) : State := s.set CR_DTIME.ns 0 s.dtime

/-- ER_STATUS.fifo counts the queued records and ER_STATUS.log_failed reads the latch of ER_GASP (R440, R446). -/
def showRecorder (s : State) : State :=
  let s := s.set ER_STATUS.fifo 0 s.erFifo.length
  s.set ER_STATUS.log_failed 0 (s.get ER_GASP.log_failed)

/-- SV_RED_STATUS.active names the active engine of each pair. -/
def showPairs (s : State) : State := s.each (List.range 4) (fun a t => t.set SV_RED_STATUS.active a (t.get SV_STATUS.active_engine a))

/-- The threads of every sequencer. -/
def showThreads (s : State) : State := s.each (List.range 16) showThread

/-- HG_POOL shows the units held by ports that are not fixed, and by those that are (R337). -/
def showPool (s : State) : State :=
  let s := s.set HG_POOL.held_g 0 ((s.hgGrants.filter (fun g => !fixedKind (s.get HG_PORT_CFG.kind g.port))).foldl (fun n g => n + (g.units - g.onU)) 0)
  s.set HG_POOL.x 0 ((s.hgGrants.filter (fun g => fixedKind (s.get HG_PORT_CFG.kind g.port))).foldl (fun n g => n + g.units) 0)

/-! The media queues as the registers of the media scheduler show them. -/

/-- The queued operations of an actuator. -/
def opsOf (s : State) (a : Nat) : List MsOp := KV.getD s.msQueue a []

/-- The number of a thread. -/
def thrNo (q t : Nat) : Nat := 4 * q + t

/-- Tags of a head in use: queued operations and those of the actuator's threads that name it; an
operation of which a piece is out has one tag (R278, R280). -/
def headTags (s : State) (h : Nat) : List MsOp :=
  let run := (List.range 4).filterMap (fun t => KV.get s.sqOps (thrNo (h / 16) t))
  let arr := (List.range 4).filterMap (fun t => KV.get s.sqArrive (thrNo (h / 16) t))
  ((opsOf s (h / 16) ++ arr ++ run).filter (fun o => o.mask.testBit (h % 16))).foldl
    (fun l o => if l.any (fun x => x.tag == o.tag) then l else l ++ [o]) []

/-- Every operation in a queue, in the staging list, handed over or held by a thread. -/
def allOps (s : State) : List MsOp :=
  s.msQueue.flatMap (fun p => p.2) ++ s.msHold ++ s.sqArrive.map (fun p => p.2) ++ s.sqOps.map (fun p => p.2)

/-- A head can serve a read: in service, not suspended, not stale, not lost (R279). -/
def headUp (s : State) (h : Nat) : Bool :=
  s.get MS_HEAD_SVC.in_service h == 1 && s.get HL_HEAD_CFG.suspended h == 0 && s.get DP_HEAD_STATE.stale h == 0 && s.get X.head_lost h == 0
    && s.image.populated h

/-- A head that may come back: in service and not lost. -/
def headKept (s : State) (h : Nat) : Bool := s.get MS_HEAD_SVC.in_service h == 1 && s.get X.head_lost h == 0 && s.image.populated h

/-- A head that the ladder may use: in service, not lost and not suspended; a stale one is waited for (R169, R172). -/
def headAvail (s : State) (h : Nat) : Bool := headKept s h && s.get HL_HEAD_CFG.suspended h == 0

/-- A head's surface has an available head on only one actuator of the pair (R286). -/
def singleServed (s : State) (h : Nat) : Bool :=
  match s.image.twin h with
  | some w => headUp s h != headUp s w
  | none => true

/-- The media queue of a head (MS_HQ_STATE, R278). -/
def showHq (h : Nat) (s : State) : State :=
  let l := headTags s h
  let s := s.set MS_HQ_STATE.used h (min l.length 32)
  let s := s.set MS_HQ_STATE.urgent h (l.filter (fun o => o.cls == 0)).length
  s.set MS_HQ_STATE.oldest_ms h (min (l.foldl (fun n o => max n (s.dtime - o.since)) 0 / 1000000) 65535)

/-- An actuator's media queues: those of its heads, its covered urgent reads queued or in service, and whether it serves a surface alone
(MS_ACT_STATE, R286). -/
def showMedia (a : Nat) (s : State) : State :=
  let s := s.each (s.image.actHeads a) showHq
  let ops := (allOps s ++ s.ladders.map (fun l => l.op)).filter (fun o => o.covered && o.act == a)
  let jobs := ops.foldl (fun l o => if l.contains o.job then l else o.job :: l) []
  let s := s.set MS_ACT_STATE.urgent a (min 3 jobs.length)
  s.set MS_ACT_STATE.single_served a (b2n ((s.image.actHeads a).any (fun h => headUp s h && singleServed s h)))

/-- The CT queue counts of a group (R79, HL_CT_QSTAT). -/
def showQueue (y : Nat) (s : State) : State :=
  let s := s.set HL_CT_QSTAT.rx_count y (KV.getD s.ctRx y []).length
  s.set HL_CT_QSTAT.tx_free y (32 - ((KV.getD s.ctHeld y []).filter (fun m => m.fw)).length)

/-- The mirrored read-only fields: each is wired to what it reports, so after every command it agrees with it. -/
def settle (s : State) : State :=
  let s := showTest (showRing (showCtxs (showCtl 1 (showCtl 0 s))))
  let s := showDomains (showThreads (showPairs (showRecorder (showClock s))))
  ((showPool s).each (List.range 4) showMedia).each (List.range 16) showQueue

/-- One XTAL cycle with nothing commanded: DTIME advances by 40 ns while the core rails are up (R377). -/
def tick (s : State) : State :=
  if s.on X.core_off then s
  else
    let t := (s.dtime + 40) % 2 ^ 64
    State.set { s with dtime := t } CR_DTIME.ns 0 t

/-- A command's answer from its effect: refused if the command is ill-formed (`wf` false); otherwise the effect where the domain it
reaches has power (`live`), with the mirrored fields settled and the queue of waiting commands left as it was. -/
def answer (live wf : Bool) (s : State) (eff : State → State) : Res :=
  if wf then .next { settle (if live then eff s else s) with pending := s.pending } else .refused .illFormed

/-- The answer of a command of the core domain: it has no effect while the core rails are off. -/
def run (wf : Bool) (s : State) (eff : State → State) : Res := answer (s.get X.core_off == 0) wf s eff

/-- The answer of a command of the always-on domain: it has no effect while the auxiliary rail is off. -/
def runAO (wf : Bool) (s : State) (eff : State → State) : Res := answer (s.get X.aux_off == 0) wf s eff

end Sys2Proof.Machine
end

