-- ==== Sys2Proof/Machine/Sha.lean ====
section
/-! DEFINITION. SHA-384 (FIPS 180-4), HMAC (FIPS 198-1) and the counter-mode derivation of SP 800-108, which R47, R384, R386 and R391
name (log entry 120). Words are numbers below 2⁶⁴, bytes numbers below 256. -/

namespace Sys2Proof.Machine

/-- A big-endian number of bytes. -/
def beNat (l : List Nat) : Nat := l.foldl (fun a b => 256 * a + b) 0

/-- The `n` low bytes of a number, most significant first. -/
def beList (v : Nat) : Nat → List Nat
  | 0 => []
  | n + 1 => v / 256 ^ n % 256 :: beList v n

/-! SHA-384. -/

/-- A word rotated right. -/
def rotWord (n x : Nat) : Nat := (x / 2 ^ n ||| x * 2 ^ (64 - n)) % 2 ^ 64

/-- The constants of the 80 rounds. -/
def shaK : List Nat :=
  [
    0x428a2f98d728ae22, 0x7137449123ef65cd, 0xb5c0fbcfec4d3b2f, 0xe9b5dba58189dbbc,
    0x3956c25bf348b538, 0x59f111f1b605d019, 0x923f82a4af194f9b, 0xab1c5ed5da6d8118,
    0xd807aa98a3030242, 0x12835b0145706fbe, 0x243185be4ee4b28c, 0x550c7dc3d5ffb4e2,
    0x72be5d74f27b896f, 0x80deb1fe3b1696b1, 0x9bdc06a725c71235, 0xc19bf174cf692694,
    0xe49b69c19ef14ad2, 0xefbe4786384f25e3, 0x0fc19dc68b8cd5b5, 0x240ca1cc77ac9c65,
    0x2de92c6f592b0275, 0x4a7484aa6ea6e483, 0x5cb0a9dcbd41fbd4, 0x76f988da831153b5,
    0x983e5152ee66dfab, 0xa831c66d2db43210, 0xb00327c898fb213f, 0xbf597fc7beef0ee4,
    0xc6e00bf33da88fc2, 0xd5a79147930aa725, 0x06ca6351e003826f, 0x142929670a0e6e70,
    0x27b70a8546d22ffc, 0x2e1b21385c26c926, 0x4d2c6dfc5ac42aed, 0x53380d139d95b3df,
    0x650a73548baf63de, 0x766a0abb3c77b2a8, 0x81c2c92e47edaee6, 0x92722c851482353b] ++
  [
    0xa2bfe8a14cf10364, 0xa81a664bbc423001, 0xc24b8b70d0f89791, 0xc76c51a30654be30,
    0xd192e819d6ef5218, 0xd69906245565a910, 0xf40e35855771202a, 0x106aa07032bbd1b8,
    0x19a4c116b8d2d0c8, 0x1e376c085141ab53, 0x2748774cdf8eeb99, 0x34b0bcb5e19b48a8,
    0x391c0cb3c5c95a63, 0x4ed8aa4ae3418acb, 0x5b9cca4f7763e373, 0x682e6ff3d6b2b8a3,
    0x748f82ee5defb2fc, 0x78a5636f43172f60, 0x84c87814a1f0ab72, 0x8cc702081a6439ec,
    0x90befffa23631e28, 0xa4506cebde82bde9, 0xbef9a3f7b2c67915, 0xc67178f2e372532b,
    0xca273eceea26619c, 0xd186b8c721c0c207, 0xeada7dd6cde0eb1e, 0xf57d4f7fee6ed178,
    0x06f067aa72176fba, 0x0a637dc5a2c898a6, 0x113f9804bef90dae, 0x1b710b35131c471b,
    0x28db77f523047d84, 0x32caab7b40c72493, 0x3c9ebe0a15c9bebc, 0x431d67c49c100d4c,
    0x4cc5d4becb3e42b6, 0x597f299cfc657e2a, 0x5fcb6fab3ad6faec, 0x6c44198c4a475817]

/-- The first value of the hash. -/
def shaStart : List Nat :=
  [
    0xcbbb9d5dc1059ed8, 0x629a292a367cd507, 0x9159015a3070dd17, 0x152fecd8f70e5939,
    0x67332667ffc00b31, 0x8eb44a8768581511, 0xdb0c2e0d64f98fa7, 0x47b5481dbefa4fa4]

/-- The next word of the message schedule, from those before it, newest first. -/
def shaWord (w : List Nat) : Nat :=
  let x := w.getD 14 0
  let y := w.getD 1 0
  let a := rotWord 1 x ^^^ rotWord 8 x ^^^ x / 2 ^ 7
  let b := rotWord 19 y ^^^ rotWord 61 y ^^^ y / 2 ^ 6
  (b + w.getD 6 0 + a + w.getD 15 0) % 2 ^ 64

/-- The message schedule of a block, newest word first, with `n` words to come. -/
def shaSchedule : Nat → List Nat → List Nat
  | 0, w => w
  | n + 1, w => shaSchedule n (shaWord w :: w)

/-- One round on the eight working words. -/
def shaRound (v : List Nat) (k w : Nat) : List Nat :=
  match v with
  | [a, b, c, d, e, f, g, h] =>
    let t := (h + (rotWord 14 e ^^^ rotWord 18 e ^^^ rotWord 41 e) + ((e &&& f) ^^^ ((2 ^ 64 - 1 - e) &&& g)) + k + w) % 2 ^ 64
    let u := ((rotWord 28 a ^^^ rotWord 34 a ^^^ rotWord 39 a) + ((a &&& b) ^^^ (a &&& c) ^^^ (b &&& c))) % 2 ^ 64
    [(t + u) % 2 ^ 64, a, b, c, (d + t) % 2 ^ 64, e, f, g]
  | _ => v

/-- The rounds of a block. -/
def shaRounds : List Nat → List Nat → List Nat → List Nat
  | k :: ks, w :: ws, v => shaRounds ks ws (shaRound v k w)
  | _, _, v => v

/-- The hash value after one block of 16 words. -/
def shaBlock (h block : List Nat) : List Nat :=
  (h.zip (shaRounds shaK (shaSchedule 64 block.reverse).reverse h)).map (fun p => (p.1 + p.2) % 2 ^ 64)

/-- Words of 8 bytes. -/
def words64 : Nat → List Nat → List Nat
  | 0, _ => []
  | n + 1, l => beNat (l.take 8) :: words64 n (l.drop 8)

/-- The hash value after the blocks of a padded message. -/
def shaBlocks : Nat → List Nat → List Nat → List Nat
  | 0, _, h => h
  | n + 1, l, h => shaBlocks n (l.drop 16) (shaBlock h (l.take 16))

/-- SHA-384 of bytes: 48 bytes. -/
def sha384 (l : List Nat) : List Nat :=
  let n := l.length
  let blocks := (n + 17 + 127) / 128
  let padded := l ++ [0x80] ++ List.replicate (128 * blocks - n - 17) 0 ++ beList (8 * n) 16
  ((shaBlocks blocks (words64 (16 * blocks) padded) shaStart).take 6).flatMap (fun w => beList w 8)

/-! Keys derived from a key. -/

/-- HMAC-SHA-384 with a key of at most 128 bytes. -/
def hmac384 (key msg : List Nat) : List Nat :=
  let k := key ++ List.replicate (128 - key.length) 0
  sha384 (k.map (fun b => b ^^^ 0x5C) ++ sha384 (k.map (fun b => b ^^^ 0x36) ++ msg))

/-- 448 bits of the SP 800-108 counter-mode derivation: each block's counter and the length are 32-bit numbers, a zero byte stands between
label and context (R386). -/
def kdf448 (key label context : List Nat) : Nat :=
  let block := fun (i : Nat) => hmac384 key (beList i 4 ++ label ++ [0] ++ context ++ beList 448 4)
  beNat ((block 1 ++ block 2).take 56)

end Sys2Proof.Machine
end

