-- ==== Sys2Proof/Machine/Ecdsa.lean ====
section
/-! DEFINITION. ECDSA over P-384 with SHA-384 (FIPS 186-5, SP 800-186), which R48, R384, R386, R391 and R396 name (log entry 120). Keys and
signatures are 96 bytes: two big-endian numbers of 48. -/

namespace Sys2Proof.Machine

/-! The curve. -/

/-- The field's prime, the group's order, the curve's b and the base point. -/
def p384 : Nat := 2 ^ 384 - 2 ^ 128 - 2 ^ 96 + 2 ^ 32 - 1
def n384 : Nat := 0xffffffffffffffffffffffffffffffffffffffffffffffffc7634d81f4372ddf581a0db248b0a77aecec196accc52973
def b384 : Nat := 0xb3312fa7e23ee7e4988e056be3f82d19181d9c6efe8141120314088f5013875ac656398d8a2ed19d2a85c8edd3ec2aef
def gx384 : Nat := 0xaa87ca22be8b05378eb1c71ef320ad746e1d3b628ba79b9859f741e082542a385502f25dbf55296c3a545e3872760ab7
def gy384 : Nat := 0x3617de4a96262c6f5d9e98bf9292dc29f8f41dbd289a147ce9da3113b5f0b8c00a60b1ce1d7e819d7a431d7c90ea0e5f

/-- The low `n` bits of a number, most significant first. -/
def bitsHigh (v : Nat) : Nat → List Bool
  | 0 => []
  | n + 1 => v.testBit n :: bitsHigh v n

/-- x to the power whose bits are given, modulo m, after an accumulator. -/
def powBits (m x : Nat) : List Bool → Nat → Nat
  | [], a => a
  | b :: r, a => powBits m x r (if b then a * a % m * x % m else a * a % m)

/-- The inverse of x modulo a prime m: x to the power m − 2. -/
def invMod (m x : Nat) : Nat := powBits m x (bitsHigh (m - 2) 384) 1

/-- Points in Jacobian coordinates: x ÷ z², y ÷ z³; z = 0 is the point at infinity. -/
def ptDouble (a : Nat × Nat × Nat) : Nat × Nat × Nat :=
  match a with
  | (x, y, z) =>
    let p := p384
    let d := z * z % p
    let m := 3 * (x + p - d) * (x + d) % p
    let s := 4 * x * (y * y % p) % p
    let x3 := (m * m + 2 * (p - s)) % p
    let u := y * y % p
    (x3, (m * (s + p - x3) + 8 * (p - u * u % p)) % p, 2 * y * z % p)

/-- Sum of two points. -/
def ptAdd (a b : Nat × Nat × Nat) : Nat × Nat × Nat :=
  match a, b with
  | (x1, y1, z1), (x2, y2, z2) =>
    if z1 = 0 then b
    else if z2 = 0 then a
    else
      let p := p384
      let q1 := z1 * z1 % p
      let q2 := z2 * z2 % p
      let u1 := x1 * q2 % p
      let u2 := x2 * q1 % p
      let s1 := y1 * (z2 * q2 % p) % p
      let s2 := y2 * (z1 * q1 % p) % p
      if u1 = u2 then (if s1 = s2 then ptDouble a else (1, 1, 0))
      else
        let h := (u2 + p - u1) % p
        let r := (s2 + p - s1) % p
        let hh := h * h % p
        let hhh := h * hh % p
        let v := u1 * hh % p
        let x3 := (r * r + (p - hhh) + 2 * (p - v)) % p
        (x3, (r * (v + p - x3) + (p - s1 * hhh % p)) % p, z1 * z2 % p * h % p)

/-- A multiple of a point by the bits of a number, after an accumulator. -/
def ptMulBits (a : Nat × Nat × Nat) : List Bool → Nat × Nat × Nat → Nat × Nat × Nat
  | [], t => t
  | b :: r, t => ptMulBits a r (if b then ptAdd (ptDouble t) a else ptDouble t)

/-- k times a point. -/
def ptMul (k : Nat) (a : Nat × Nat × Nat) : Nat × Nat × Nat := ptMulBits a (bitsHigh k 384) (1, 1, 0)

/-- The affine coordinates of a point, none for the point at infinity. -/
def ptAffine (a : Nat × Nat × Nat) : Option (Nat × Nat) :=
  match a with
  | (x, y, z) =>
    if z = 0 then none
    else
      let i := invMod p384 z
      let q := i * i % p384
      some (x * q % p384, y * (q * i % p384) % p384)

/-- The base point. -/
def basePoint : Nat × Nat × Nat := (gx384, gy384, 1)

/-- A point lies on the curve. -/
def onCurve (x y : Nat) : Bool :=
  decide (x < p384) && decide (y < p384) && y * y % p384 == (x * x % p384 * x + (p384 - 3) * x + b384) % p384

/-! Signatures. -/

/-- The number that a signature is made over: SHA-384 of the bytes. -/
def digestNum (msg : List Byte) : Nat := beNat (sha384 (msg.map BitVec.toNat))

/-- A big-endian number of 48 bytes at an offset. -/
def num48 (l : List Byte) (o : Nat) : Nat := beNat (((l.drop o).take 48).map BitVec.toNat)

/-- A number as 48 big-endian bytes. -/
def bytes48 (v : Nat) : List Byte := (beList v 48).map (BitVec.ofNat 8)

/-- The signature of bytes checks under a public key. -/
def sigOk (key msg sig : List Byte) : Bool :=
  let x := num48 key 0
  let y := num48 key 48
  let r := num48 sig 0
  let s := num48 sig 48
  if key.length ≠ 96 ∨ onCurve x y = false ∨ r = 0 ∨ n384 ≤ r ∨ s = 0 ∨ n384 ≤ s then false
  else
    let w := invMod n384 s
    match ptAffine (ptAdd (ptMul (digestNum msg % n384 * w % n384) basePoint) (ptMul (r * w % n384) (x, y, 1))) with
    | some v => v.1 % n384 == r
    | none => false

/-- The public key of a private scalar. -/
def publicKey (d : Nat) : List Byte :=
  match ptAffine (ptMul d basePoint) with
  | some v => bytes48 v.1 ++ bytes48 v.2
  | none => List.replicate 96 0

/-- The signature of bytes by a private scalar with a per-message secret k. -/
def signWith (d k : Nat) (msg : List Byte) : List Byte :=
  match ptAffine (ptMul k basePoint) with
  | some v =>
    let r := v.1 % n384
    bytes48 r ++ bytes48 (invMod n384 k * ((digestNum msg + r * d) % n384) % n384)
  | none => List.replicate 96 0

/-! The device attestation key (R386). -/

/-- The DAK's private scalar in a lifecycle state: derived from the unique secret with label "DAK" and the lifecycle code. -/
def dakScalar (lc : Nat) : Nat := kdf448 (beList Config.uds 32) [0x44, 0x41, 0x4B] [lc % 256] % (n384 - 1) + 1

/-- The DAK's public key, x then y. -/
def dakPublic (lc : Nat) : List Byte := publicKey (dakScalar lc)

/-- A signature by the DAK. How the per-message secret is chosen is not stated: a free value. -/
def dakSign (lc : Nat) (msg : List Byte) : List Byte := signWith (dakScalar lc) (Config.signSecret lc msg % (n384 - 1) + 1) msg

end Sys2Proof.Machine
end

