-- ==== Sys2Proof/Machine/ImageLoad.lean ====
section
/-! DEFINITION. The structure image: how it is read from a flash slot, and its validation (02_structure_image.md, R29 to R50).
`rd` answers the byte at an offset of the image. -/

namespace Sys2Proof.Machine

/-! Reading. -/

/-- A little-endian 16-bit field. -/
def u16 (rd : Nat → Nat) (o : Nat) : Nat := rd o + 256 * rd (o + 1)

/-- A little-endian 32-bit field. -/
def u32 (rd : Nat → Nat) (o : Nat) : Nat := u16 rd o + 65536 * u16 rd (o + 2)

/-- A signed 16-bit field. -/
def s16 (rd : Nat → Nat) (o : Nat) : Int := signed 16 (u16 rd o)

/-- Bytes `n` from an offset. -/
def rdBytes (rd : Nat → Nat) (o n : Nat) : List Byte := (List.range n).map (fun i => BitVec.ofNat 8 (rd (o + i)))

/-- Every byte of a range is zero. -/
def zeroes (rd : Nat → Nat) (o n : Nat) : Bool := (List.range n).all (fun i => rd (o + i) == 0)

/-- Byte offset of section `k`, 1 to 15 (R34). -/
def secOff (rd : Nat → Nat) (k : Nat) : Nat := u32 rd (0x40 + 16 * (k - 1) + 4)

/-- Length of section `k`. -/
def secLen (rd : Nat → Nat) (k : Nat) : Nat := u32 rd (0x40 + 16 * (k - 1) + 8)

/-- Round up to a multiple of 16. -/
def round16 (n : Nat) : Nat := (n + 15) / 16 * 16

/-- `n` records read at a stride. -/
def rdList {α : Type} (n : Nat) (f : Nat → α) : List α := (List.range n).map f

/-- A ring region (R38). -/
def readRegion (rd : Nat → Nat) (e : Nat) : RingRegion :=
  { first := u16 rd e, count := u16 rd (e + 2) + 1, owner := rd (e + 4), purpose := rd (e + 5), entryLog2 := rd (e + 6) }

/-- A Headgate requester (R39). -/
def readPort (rd : Nat → Nat) (e : Nat) : PortDef :=
  { kind := rd e, first := rd (e + 1), count := rd (e + 2), group := rd (e + 3), peak := u16 rd (e + 4), flags := u16 rd (e + 6) }

/-- A rate band (R42). -/
def readBand (rd : Nat → Nat) (e : Nat) : Band :=
  { start := u32 rd e, rate := u16 rd (e + 4), sectors := u16 rd (e + 6), sampleBits := rd (e + 8), targetLen := rd (e + 9) }

/-- A band table (R42). -/
def readTable (rd : Nat → Nat) (e : Nat) : BandTable :=
  { surface := rd e, setNo := rd (e + 1), total := u32 rd (e + 4), bands := rdList 48 (fun j => readBand rd (e + 16 + 16 * j)) }

/-- A zone group (R43). -/
def readGroup (rd : Nat → Nat) (e : Nat) : ZoneGroup :=
  { firstZone := u32 rd e, zoneCount := u32 rd (e + 4), firstTrack := u32 rd (e + 8), home := rd (e + 12), band := rd (e + 13), comb := rd (e + 14) }

/-- A comb map (R44). -/
def readComb (rd : Nat → Nat) (e : Nat) : CombMap :=
  { act := rd e, width := rd (e + 1), mask := u16 rd (e + 2), order := rdList (min 16 (rd (e + 1))) (fun i => rd (e + 4 + i)),
    offsets := rdList 16 (fun k => s16 rd (e + 0x14 + 2 * k)) }

/-- A profile (R45). -/
def readProfile (rd : Nat → Nat) (e : Nat) : Profile :=
  { flumes := rd e, combWidth := rd (e + 1), seekPct := rd (e + 2), slotDiv := rd (e + 3), urgentPct := rd (e + 4), maxComp := rd (e + 5),
    budget := u16 rd (e + 6), ceiling := u16 rd (e + 8) }

/-- A servo entry (R47). -/
def readServo (rd : Nat → Nat) (e : Nat) : ServoCfg :=
  { redundancy := rd e, posStages := rd (e + 1), maStages := rd (e + 2), holdWedges := rd (e + 3), maEnable := u16 rd (e + 4), wuThreshold := u16 rd (e + 6) }

/-- A microcode reference (R47). -/
def readMicro (rd : Nat → Nat) (e : Nat) : MicroRef :=
  { flashOffset := u32 rd e, words := u16 rd (e + 4), version := u32 rd (e + 8), digest := rdBytes rd (e + 0x10) 48 }

/-- Tables of section 0x08: surfaces × sets. -/
def tableCount (rd : Nat → Nat) : Nat := rd (secOff rd 8) * rd (secOff rd 8 + 1)

/-- The image that the bytes give (R33 to R47). -/
def readImage (slot : Nat) (rd : Nat → Nat) : Image :=
  let o := secOff rd
  { slot := slot, version := u32 rd 0x10, buildId := rdBytes rd 0x20 16,
    actMask := rd (o 1), sUpper := rd (o 1 + 1), sLower := rd (o 1 + 2), assistType := rd (o 1 + 3), readerSet := rd (o 1 + 4),
    rpm := u16 rd (o 1 + 6), wedges := u16 rd (o 1 + 8), surface := rdList 64 (fun h => rd (o 1 + 0x10 + h)),
    upHead := rdList 64 (fun x => rd (o 2 + x)), downGroup := rdList 16 (fun y => rd (o 2 + 0x40 + y)), laneOpt := rdList 80 (fun i => rd (o 2 + 0x50 + i)),
    flumePerm := rdList 32 (fun f => u32 rd (o 3 + 8 * f) + 2 ^ 32 * u32 rd (o 3 + 8 * f + 4)),
    rings := rdList (u16 rd (o 4)) (fun i => readRegion rd (o 4 + 16 + 8 * i)),
    domGroup := rdList 148 (fun d => rd (o 5 + d)), ports := rdList 128 (fun p => readPort rd (o 5 + 0xA0 + 8 * p)),
    irq := rdList 1024 (fun i => u32 rd (o 6 + 4 * i)), clocks := rdList 20 (fun i => u32 rd (o 7 + 8 * i)),
    bandTables := rdList (tableCount rd) (fun i => readTable rd (o 8 + 16 + 784 * i)),
    zoneSize := u32 rd (o 9), zoneCap := u32 rd (o 9 + 4), groups := rdList (u32 rd (o 9 + 8)) (fun i => readGroup rd (o 9 + 16 + 16 * i)),
    combs := rdList (rd (o 10)) (fun i => readComb rd (o 10 + 16 + 64 * i)),
    psMap := rdList 3 (fun i => rd (o 11 + i)), profiles := rdList 5 (fun i => readProfile rd (o 11 + 4 + 32 * i)),
    thermal := rdList 11 (fun i => u16 rd (o 12 + 2 * i)), servo := rdList 4 (fun a => readServo rd (o 13 + 32 * a)),
    micro := rdList 4 (fun q => readMicro rd (o 14 + 64 * q)),
    urgentRate := u16 rd (o 15), maxComp := rd (o 15 + 2), i12 := u16 rd (o 15 + 4), i5 := u16 rd (o 15 + 6) }

/-! Checks: each is whether it holds and the offset it names in its section; 0 stands for no single field (R50). -/

/-- A check of a rule. -/
abbrev RuleCheck := Bool × Option Nat

/-- The first check that fails: the offset of its field in the image, 0 for none. -/
def firstFail (base : Nat) (l : List RuleCheck) : Option Nat :=
  (l.find? (fun c => !c.1)).map (fun c => match c.2 with | some o => base + o | none => 0)

/-- A number lies in a range. -/
def inRange (lo x hi : Nat) : Bool := decide (lo ≤ x) && decide (x ≤ hi)

/-- Reserved bytes (R32). -/
def reservedOk (rd : Nat → Nat) (base o n : Nat) : List RuleCheck := rdList n (fun i => (rd (base + o + i) == 0, some (o + i)))

/-- Heads that the image populates. -/
def Image.heads (m : Image) : List Nat := (List.range 64).filter m.populated

/-- Surfaces, ascending. -/
def Image.surfaces (m : Image) : List Nat := (List.range 32).filter (fun x => m.surface.contains x)

/-- A lane's rate cap in kbit/s (R36). -/
def capKbps (o : Nat) : Nat := match o % 4 with | 1 => 14062500 | 2 => 28125000 | 3 => 56250000 | _ => 0

/-- R35, R16, R17: topology. -/
def rulesTopology (rd : Nat → Nat) (b : Nat) (m : Image) : List RuleCheck :=
  let level := fun (a : Nat) => if a % 2 = 0 then (0, m.sUpper) else (m.sUpper, m.sUpper + m.sLower)
  [(secLen rd 1 == 80, none), ([0x0F, 0x05, 0x03, 0x01].contains m.actMask, some 0), (inRange 1 m.sUpper 16, some 1),
   (if m.hasAct 1 then inRange 1 m.sLower 16 else m.sLower == 0, some 2), (m.assistType == 1 || m.assistType == 2, some 3),
   (m.readerSet == 7 || m.readerSet == 5, some 4), (rd (b + 5) == 0, some 5), (inRange 3600 m.rpm 15000, some 6),
   (inRange 64 m.wedges 1024, some 8), (decide (m.rpm * m.wedges ≤ 6000000), some 8)]
  ++ reservedOk rd b 0xA 6
  ++ (List.range 64).map (fun h =>
    let x := m.surf h
    let l := level (h / 16)
    (x == 255 || (m.hasAct (h / 16) && decide (l.1 ≤ x) && decide (x < l.2)
      && ((List.range h).all (fun g => g / 16 != h / 16 || m.surf g != x))), some (0x10 + h)))
  ++ (List.range (m.sUpper + m.sLower)).flatMap (fun x =>
    (if x < m.sUpper then [0, 2] else [1, 3]).map (fun a => (!m.hasAct a || (m.actHeads a).any (fun h => m.surf h == x), none)))

/-- A lane of the map is used: upstream lanes 0 to 63, then downstream ones. -/
def laneUsed (m : Image) (i : Nat) : Bool := if i < 64 then m.upHead.getD i 255 != 255 else m.downGroup.getD (i - 64) 255 != 255

/-- R36 within the section. -/
def rulesLanes (rd : Nat → Nat) (_b : Nat) (m : Image) : List RuleCheck :=
  [(secLen rd 2 == 160, none)]
  ++ (List.range 64).map (fun x => let h := m.upHead.getD x 255; (h == 255 || (decide (h < 64) && h / 16 == x / 16), some x))
  ++ (List.range 16).map (fun y => let k := m.downGroup.getD y 255; (k == 255 || decide (k < 4), some (0x40 + y)))
  ++ (List.range 80).map (fun i =>
    let o := m.laneOpt.getD i 0
    let c := o % 4
    (decide (o < 8) && (if laneUsed m i then (if i < 64 then c != 0 else decide (2 ≤ c)) else c == 0), some (0x50 + i)))

/-- R37 has no rule of its own section but its length. -/
def rulesFlumes (rd : Nat → Nat) (_b : Nat) (_m : Image) : List RuleCheck := [(secLen rd 3 == 256, none)]

/-- R38 within the section. -/
def rulesRings (rd : Nat → Nat) (b : Nat) (m : Image) : List RuleCheck :=
  let n := u16 rd b
  [(inRange 1 n 64, some 0), (secLen rd 4 == round16 (16 + 8 * n), none)] ++ reservedOk rd b 2 14
  ++ (List.range n).flatMap (fun i =>
    let r := m.rings.getD i default
    let e := 16 + 8 * i
    let before := m.rings.take i
    [(decide (r.first + r.count ≤ 65536), some e), (decide (r.owner ≤ 7), some (e + 4)), (decide (r.purpose ≤ 4), some (e + 5)),
     (inRange 4 r.entryLog2 7, some (e + 6)), (rd (b + e + 7) == 0, some (e + 7)),
     (decide (2 ≤ r.owner) || r.purpose == 0, some (e + 5)),
     (decide (2 ≤ r.owner) || (r.count % 2 == 0 && decide (r.count ≤ 16384)), some (e + 2)),
     (decide (2 ≤ r.owner) || before.all (fun x => x.owner != r.owner), some (e + 4)),
     (r.purpose != 1 || (r.owner == 3 && before.all (fun x => x.purpose != 1)), some (e + 5)),
     (before.all (fun x => decide (r.first + r.count ≤ x.first) || decide (x.first + x.count ≤ r.first)), some e)])
  ++ reservedOk rd b (16 + 8 * n) (round16 (16 + 8 * n) - (16 + 8 * n))
  ++ [(m.rings.any (fun r => r.purpose == 1), none)]

/-- The limit of `first` of a requester kind, exclusive (R39). -/
def firstLimit (kind : Nat) : Nat := match kind with | 2 => 4 | 3 => 64 | 4 => 64 | 5 => 4 | 6 => 32 | _ => 1

/-- How many requesters are of a kind. -/
def Image.kinds (m : Image) (k : Nat) : Nat := (m.ports.filter (fun p => p.kind == k)).length

/-- R39 within the section: the limits of an entry hold for an unused one too, as do its reserved bits (R32). -/
def rulesPower (rd : Nat → Nat) (b : Nat) (m : Image) : List RuleCheck :=
  [(secLen rd 5 == 1184, none)]
  ++ (List.range 148).map (fun d => (decide (m.domGroup.getD d 0 ≤ 31), some d))
  ++ [120, 140, 142, 144, 145, 146, 147].map (fun d => (m.domGroup.getD d 0 != 0, some d))
  ++ reservedOk rd b 0x94 12
  ++ (List.range 128).flatMap (fun p =>
    let r := m.ports.getD p default
    let e := 0xA0 + 8 * p
    if r.kind = 0 then [(decide (r.group ≤ 31), some (e + 3)), (decide (r.peak ≤ 16383), some (e + 4)), (decide (r.flags < 4), some (e + 6))]
    else
      [(decide (r.kind ≤ 9), some e), (decide (r.first < firstLimit r.kind), some (e + 1)),
       (if r.kind = 3 ∨ r.kind = 4 then inRange 1 r.count 16 && (r.first + r.count - 1) / 16 == r.first / 16 else r.count == 1, some (e + 2)),
       (decide (r.group ≤ 31), some (e + 3)), (decide (r.peak ≤ 16383), some (e + 4)), (decide (r.flags < 4), some (e + 6))])
  ++ [1, 7, 8, 9].map (fun k => (m.kinds k == 1, none))

/-- R40. -/
def rulesIrq (rd : Nat → Nat) (_b : Nat) (m : Image) : List RuleCheck :=
  [(secLen rd 6 == 4096, none)]
  ++ (List.range 1024).map (fun i =>
    let w := m.irq.getD i 0
    (w / 2 ^ 10 % 64 == 0 && w / 2 ^ 20 % 16 == 0 && decide (w < 2 ^ 25) && (!w.testBit 24 || w % 1024 != 0), some (4 * i)))

/-- The permitted range of a clock entry in kHz (R41, R470). -/
def clockRange (i : Nat) : Nat × Nat :=
  match i with
  | 0 => (1250000, 1250000) | 1 => (400000, 2000000) | 2 => (625000, 625000) | 3 => (100000, 100000) | 4 => (32, 32)
  | 13 => (200000, 200000) | 14 => (50000, 200000) | 15 => (156250, 156250) | 16 => (25000, 25000) | 17 => (25000, 25000)
  | 18 => (1000000, 1000000) | 19 => (50000, 50000)
  | _ => if i < 9 then (800000, 800000) else (650000, 1300000)

/-- R41 within the section. -/
def rulesClocks (rd : Nat → Nat) (b : Nat) (m : Image) : List RuleCheck :=
  [(secLen rd 7 == 160, none)]
  ++ (List.range 20).flatMap (fun i =>
    let r := clockRange i
    [(inRange r.1 (m.clocks.getD i 0) r.2, some (8 * i)), (u32 rd (b + 8 * i + 4) == 0, some (8 * i + 4))])

/-- R42 within the section. -/
def rulesBands (rd : Nat → Nat) (b : Nat) (m : Image) : List RuleCheck :=
  let sets := rd (b + 1)
  [(sets == 1 || sets == 2, some 1), (secLen rd 8 == 16 + 784 * tableCount rd, none)] ++ reservedOk rd b 2 14
  ++ (List.range (tableCount rd)).flatMap (fun i =>
    let t := m.bandTables.getD i default
    let e := 16 + 784 * i
    let ref := m.bandTables.getD (i - i % max sets 1) default
    [(decide (t.surface < 32) && (decide (i < sets) || decide ((m.bandTables.getD (i - sets) default).surface < t.surface)) && t.surface == ref.surface, some e),
     (t.setNo == i % max sets 1, some (e + 1))]
    ++ reservedOk rd b (e + 2) 2 ++ reservedOk rd b (e + 8) 8
    ++ (List.range 48).flatMap (fun j =>
      let x := t.bands.getD j default
      let y := t.bands.getD (j - 1) default
      let z := ref.bands.getD j default
      let f := e + 16 + 16 * j
      [((if j = 0 then x.start == 0 else decide (y.start < x.start)) && decide (x.start < t.total) && x.start == z.start, some f),
       (inRange 2300 x.rate 5200 && (j == 0 || decide (x.rate ≤ y.rate)) && x.rate == z.rate, some (f + 4)),
       (x.sectors == z.sectors, some (f + 6)),
       (x.sampleBits == 5 || (x.sampleBits == 6 && decide (x.rate ≤ 4390)), some (f + 8)),
       (x.targetLen == 3 || x.targetLen == 4, some (f + 9))]
      ++ reservedOk rd b (f + 10) 6))

/-- R43 within the section; a part's registers hold 4,096 zone groups (ZX_ZG_HOME). R43 gives group_count no lower bound: the model asks
for one group at least (DESIGN CHOICE, log entry 101). -/
def rulesZones (rd : Nat → Nat) (b : Nat) (m : Image) : List RuleCheck :=
  let n := u32 rd (b + 8)
  [((List.range 32).any (fun k => m.zoneSize == 2 ^ k), some 0), (inRange 1 m.zoneCap m.zoneSize, some 4), (inRange 1 n 4096, some 8),
   (secLen rd 9 == 16 + 16 * n, none)] ++ reservedOk rd b 12 4
  ++ (List.range n).flatMap (fun i =>
    let g := m.groups.getD i default
    let p := m.groups.getD (i - 1) default
    let e := 16 + 16 * i
    [(g.firstZone == (if i = 0 then 0 else p.firstZone + p.zoneCount), some e), (decide (1 ≤ g.zoneCount), some (e + 4)),
     (decide (g.home < 4), some (e + 12)), (decide (g.band < 48), some (e + 13)), (rd (b + e + 15) == 0, some (e + 15))])

/-- R44 within the section. -/
def rulesCombs (rd : Nat → Nat) (b : Nat) (m : Image) : List RuleCheck :=
  let n := rd b
  [(inRange 1 n 64, some 0), (secLen rd 10 == 16 + 64 * n, none)] ++ reservedOk rd b 1 15
  ++ (List.range n).flatMap (fun i =>
    let c := m.combs.getD i default
    let e := 16 + 64 * i
    let slots := bitsOf 16 c.mask
    [(decide (c.act < 4), some e), (inRange 1 c.width 16, some (e + 1)), (slots.length == c.width, some (e + 2)),
     (c.order.length == c.width && slots.all (fun k => c.order.contains k)
       && (List.range 16).all (fun j => decide (j < c.width) || rd (b + e + 4 + j) == 255), some (e + 4))]
    ++ (List.range 16).map (fun k =>
      let o := c.offsets.getD k 0
      (if slots.contains k then decide (-1000 ≤ o) && decide (o ≤ 1000) else o == 0, some (e + 0x14 + 2 * k)))
    ++ reservedOk rd b (e + 0x34) 12)

/-- R45 within the section. -/
def rulesProfiles (rd : Nat → Nat) (b : Nat) (m : Image) : List RuleCheck :=
  [(secLen rd 11 == 176, none)] ++ (List.range 3).map (fun i => (decide (m.psMap.getD i 9 ≤ 4), some i)) ++ reservedOk rd b 3 1
  ++ (List.range 5).flatMap (fun i =>
    let p := m.profiles.getD i default
    let e := 4 + 32 * i
    [(inRange 1 p.flumes 32, some e), (inRange 1 p.combWidth 16, some (e + 1)), (inRange 20 p.seekPct 100, some (e + 2)),
     (inRange 2 p.slotDiv 16, some (e + 3)), (decide (p.urgentPct ≤ 50), some (e + 4)), (inRange 1 p.maxComp 9 || p.maxComp == 255, some (e + 5)),
     (decide (p.budget ≤ 16383), some (e + 6)), (decide (p.ceiling ≤ 3400), some (e + 8))] ++ reservedOk rd b (e + 10) 22)
  ++ reservedOk rd b 164 12

/-- R46. -/
def rulesThermal (rd : Nat → Nat) (b : Nat) (m : Image) : List RuleCheck :=
  let t := fun (i : Nat) => signed 16 (m.thermal.getD i 0)
  [(secLen rd 12 == 32, none), (decide (t 0 < t 1), some 0), (decide (t 1 + 40 ≤ t 2), some 2), (decide (t 2 ≤ 880), some 4),
   (decide (8 ≤ t 3) && decide (t 3 ≤ 160), some 6), (decide (40 ≤ t 4), some 8), (decide (t 5 ≤ 520) && decide (t 4 < t 5), some 10),
   (decide (t 6 < t 7), some 14), (decide (8 ≤ t 8) && decide (t 8 ≤ 160), some 16), (inRange 100 (m.thermal.getD 9 0) 1000, some 18),
   (inRange (m.thermal.getD 9 0) (m.thermal.getD 10 0) 20000, some 20)] ++ reservedOk rd b 0x16 10

/-- R47, servo entries: an entry is all zero or within its ranges. -/
def rulesServo (rd : Nat → Nat) (b : Nat) (m : Image) : List RuleCheck :=
  [(secLen rd 13 == 128, none)]
  ++ (List.range 4).flatMap (fun a =>
    let x := m.servo.getD a default
    let e := 32 * a
    if zeroes rd (b + e) 32 then []
    else
      [(decide (x.redundancy ≤ 1), some e), (inRange 1 x.posStages 8, some (e + 1)), (inRange 1 x.maStages 4, some (e + 2)),
       (decide (x.holdWedges ≤ 2), some (e + 3)), (inRange 8 x.wuThreshold 128, some (e + 6))] ++ reservedOk rd b (e + 8) 24)

/-- R47, microcode references: an entry is all zero, or has words within the microcode area of the image's own slot (R380). -/
def rulesMicro (rd : Nat → Nat) (b : Nat) (m : Image) : List RuleCheck :=
  let area := if m.slot = 0 then 0x900000 else 0xA00000
  [(secLen rd 14 == 256, none)]
  ++ (List.range 4).flatMap (fun q =>
    let x := m.micro.getD q default
    let e := 64 * q
    if zeroes rd (b + e) 64 then []
    else
      [(decide (area ≤ x.flashOffset) && decide (x.flashOffset + 320 + 16 * x.words ≤ area + 0x100000), some e),
       (inRange 1 x.words 8192, some (e + 4))] ++ reservedOk rd b (e + 6) 2 ++ reservedOk rd b (e + 12) 4)

/-- R47, limits. -/
def rulesLimits (rd : Nat → Nat) (b : Nat) (m : Image) : List RuleCheck :=
  [(secLen rd 15 == 16, none), (inRange 1 m.urgentRate 400, some 0), (inRange 1 m.maxComp 9, some 2), (rd (b + 3) == 0, some 3),
   (inRange 1000 m.i12 12000, some 4), (inRange 500 m.i5 6000, some 6)] ++ reservedOk rd b 8 8

/-! The rules that relate sections. -/

/-- The slot group of a head, counted over the part. -/
def groupPop (m : Image) (a k : Nat) : Bool := (List.range 4).any (fun j => m.populated (16 * a + 4 * k + j))

/-- R36 against the topology. -/
def crossLanes (m : Image) : List RuleCheck :=
  (List.range 64).map (fun x => let h := m.upHead.getD x 255; (h == 255 || m.populated h, some x))
  ++ m.heads.map (fun h => ((m.upHead.filter (fun x => x == h)).length == 1, none))
  ++ (List.range 16).map (fun y => let k := m.downGroup.getD y 255; (k == 255 || groupPop m (y / 4) k, some (0x40 + y)))
  ++ (List.range 16).map (fun i =>
    (!groupPop m (i / 4) (i % 4) || (((List.range 4).filter (fun j => m.downGroup.getD (4 * (i / 4) + j) 255 == i % 4)).length == 1), none))

/-- R37 against the topology. -/
def crossFlumes (m : Image) : List RuleCheck :=
  (List.range 32).map (fun f => ((List.range 64).all (fun h => !m.permits f h || m.populated h), some (8 * f)))
  ++ m.heads.map (fun h => ((List.range 32).any (fun f => m.permits f h), none))

/-- R38 against the topology. -/
def crossRings (m : Image) : List RuleCheck :=
  (List.range m.rings.length).map (fun i => let r := m.rings.getD i default; (r.purpose != 1 || decide (m.heads.length ≤ r.count), some (16 + 8 * i + 2)))

/-- Requesters of a kind that cover a head or instance. -/
def covers (m : Image) (k i : Nat) : Nat := (m.ports.filter (fun p => p.kind == k && decide (p.first ≤ i) && decide (i < p.first + p.count))).length

/-- R39 against the other sections. -/
def crossPower (m : Image) : List RuleCheck :=
  (List.range 80).map (fun d => ((m.domGroup.getD d 0 != 0) == (m.laneOpt.getD d 0 % 4 != 0), some d))
  ++ (List.range 32).map (fun f => ((m.domGroup.getD (80 + f) 0 != 0) == (m.flumePerm.getD f 0 != 0), some (80 + f)))
  ++ (List.range 4).flatMap (fun a => [128 + 2 * a, 129 + 2 * a, 136 + a].map (fun d => (!m.hasAct a || m.domGroup.getD d 0 != 0, some d)))
  ++ (List.range 128).map (fun p =>
    let r := m.ports.getD p default
    (match r.kind with
      | 2 => m.hasAct r.first
      | 5 => m.hasAct r.first
      | 3 => (List.range r.count).any (fun i => m.populated (r.first + i))
      | 4 => (List.range r.count).any (fun i => m.populated (r.first + i))
      | _ => true, some (0xA0 + 8 * p + 1)))
  ++ (List.range 4).flatMap (fun a => [2, 5].map (fun k => (!m.hasAct a || covers m k a == 1, none)))
  ++ m.heads.flatMap (fun h => [3, 4].map (fun k => (covers m k h == 1, none)))
  ++ (List.range 32).map (fun f => (m.flumePerm.getD f 0 == 0 || covers m 6 f == 1, none))

/-- R41 against the rate bands: a DCLK group runs at a quarter of the highest rate of its heads or more. -/
def crossClocks (m : Image) : List RuleCheck :=
  (List.range 4).map (fun g =>
    let heads := m.heads.filter (fun h => (List.range 8).any (fun j => m.permits (8 * g + j) h))
    let rate := (heads.flatMap (fun h => (m.bandTables.filter (fun t => t.surface == m.surf h)).flatMap (fun t => t.bands))).foldl (fun n x => max n x.rate) 0
    (decide (rate * 250 ≤ m.clocks.getD (9 + g) 0), some (8 * (9 + g))))

/-- R42 against the topology and the lanes. -/
def crossBands (m : Image) : List RuleCheck :=
  let readers := if m.readerSet = 7 then 2 else 1
  ((m.bandTables.filter (fun t => t.setNo == 0)).map (fun t => t.surface) == m.surfaces, some 0)
  :: (List.range m.bandTables.length).flatMap (fun i =>
    let t := m.bandTables.getD i default
    let caps := (m.heads.filter (fun h => m.surf h == t.surface)).map (fun h => match m.laneOf h with | some x => capKbps (m.laneOpt.getD x 0) | none => 0)
    (List.range 48).flatMap (fun j =>
      let x := t.bands.getD j default
      let f := 16 + 784 * i + 16 + 16 * j
      [(decide (x.sectors * 32768 * m.rpm * 10 ≤ 9 * x.rate * 60000000), some (f + 6)),
       (caps.all (fun c => decide (readers * x.rate * 1000 * x.sampleBits * 1024 ≤ c * 960)), some (f + 8))]))

/-- Tracks that a zone of a group takes: ⌈zone_cap ÷ (w × n)⌉ (R43); 0 where its band has no sectors. -/
def zoneTracks (m : Image) (g : ZoneGroup) : Nat :=
  let c := m.comb g.comb
  let l := (bitsOf 16 c.mask).filterMap (fun k => (m.bandTable (m.surf (16 * c.act + k)) 0).map (fun t => (t.bands.getD g.band default).sectors))
  let d := c.width * l.foldl min (l.headD 0)
  if d = 0 then 0 else (m.zoneCap + d - 1) / d

/-- Surfaces that a zone group's comb reaches. -/
def groupSurfaces (m : Image) (g : ZoneGroup) : List Nat := let c := m.comb g.comb; (bitsOf 16 c.mask).map (fun k => m.surf (16 * c.act + k))

/-- R43 against the other sections. A group whose band has no sectors on a surface that its comb reaches would hold no position; R43 does
not speak of it, and the model fails it at its band (DESIGN CHOICE, log entry 101). -/
def crossZones (m : Image) : List RuleCheck :=
  (List.range m.groups.length).flatMap (fun i =>
    let g := m.groups.getD i default
    let e := 16 + 16 * i
    let t := zoneTracks m g
    let last := g.firstTrack + g.zoneCount * t
    [(m.hasAct g.home, some (e + 12)), (decide (g.comb < m.combs.length) && (m.comb g.comb).act == g.home, some (e + 14)), (t != 0, some (e + 13)),
     ((groupSurfaces m g).all (fun x => match m.bandTable x 0 with
        | some b => decide ((b.bands.getD g.band default).start ≤ g.firstTrack)
            && decide (last ≤ (if g.band < 47 then (b.bands.getD (g.band + 1) default).start else b.total))
        | none => false), some (e + 8)),
     ((m.groups.take i).all (fun p =>
        !(groupSurfaces m g).any (fun x => (groupSurfaces m p).contains x) || decide (last ≤ p.firstTrack)
          || decide (p.firstTrack + p.zoneCount * zoneTracks m p ≤ g.firstTrack)), some (e + 8))])

/-- R44 against the topology. -/
def crossCombs (m : Image) : List RuleCheck :=
  (List.range m.combs.length).flatMap (fun i =>
    let c := m.combs.getD i default
    [(m.hasAct c.act, some (16 + 64 * i)), ((bitsOf 16 c.mask).all (fun k => m.populated (16 * c.act + k)), some (16 + 64 * i + 2))])

/-- R45 against the limits. -/
def crossProfiles (m : Image) : List RuleCheck :=
  (List.range 5).map (fun i => let c := (m.profiles.getD i default).maxComp; (c == 255 || decide (c ≤ m.maxComp), some (4 + 32 * i + 5)))

/-- R47 against the topology: an absent actuator's entry is all zero, a present one's is not. -/
def crossServo (rd : Nat → Nat) (b : Nat) (m : Image) : List RuleCheck :=
  (List.range 4).flatMap (fun a =>
    [(zeroes rd (b + 32 * a) 32 == !m.hasAct a, some (32 * a)),
     ((bitsOf 16 (m.servo.getD a default).maEnable).all (fun k => m.populated (16 * a + k)), some (32 * a + 4))])

/-- R47 against the topology: microcode for each present actuator, none for an absent one. -/
def crossMicro (rd : Nat → Nat) (b : Nat) (m : Image) : List RuleCheck :=
  (List.range 4).map (fun q => (zeroes rd (b + 64 * q) 64 == !m.hasAct q, some (64 * q)))

/-! The order of R49. -/

/-- Step 5, first pass: the rules of each section, by type. -/
def passOne (rd : Nat → Nat) (m : Image) : List (Nat × List RuleCheck) :=
  [(1, rulesTopology rd (secOff rd 1) m), (2, rulesLanes rd (secOff rd 2) m), (3, rulesFlumes rd (secOff rd 3) m), (4, rulesRings rd (secOff rd 4) m),
   (5, rulesPower rd (secOff rd 5) m), (6, rulesIrq rd (secOff rd 6) m), (7, rulesClocks rd (secOff rd 7) m), (8, rulesBands rd (secOff rd 8) m),
   (9, rulesZones rd (secOff rd 9) m), (10, rulesCombs rd (secOff rd 10) m), (11, rulesProfiles rd (secOff rd 11) m),
   (12, rulesThermal rd (secOff rd 12) m), (13, rulesServo rd (secOff rd 13) m), (14, rulesMicro rd (secOff rd 14) m), (15, rulesLimits rd (secOff rd 15) m)]

/-- Step 5, second pass. -/
def passTwo (rd : Nat → Nat) (m : Image) : List (Nat × List RuleCheck) :=
  [(2, crossLanes m), (3, crossFlumes m), (4, crossRings m), (5, crossPower m), (7, crossClocks m), (8, crossBands m), (9, crossZones m),
   (10, crossCombs m), (11, crossProfiles m), (13, crossServo rd (secOff rd 13) m), (14, crossMicro rd (secOff rd 14) m)]

/-- The first failing section of a pass: its code, 0x06 + type, and the offset (R50). -/
def passFail (rd : Nat → Nat) (l : List (Nat × List RuleCheck)) : Option (Nat × Nat) :=
  l.findSome? (fun p => (firstFail (secOff rd p.1) p.2).map (fun o => (6 + p.1, o)))

/-- Step 1: the header; a failed check's code is 1, or 2 for the crc (R33, R50). -/
def headerFail (rd : Nat → Nat) : Option (Nat × Nat) :=
  let len := u32 rd 8
  let checks : List RuleCheck :=
    [(u32 rd 0 == 0x4D554D4C, some 0), (u16 rd 4 == 1, some 4), (u16 rd 6 == 0, some 6), (u32 rd 0xC == 0x6440, some 0xC),
     (len % 16 == 0 && inRange 0x400 len 4194304, some 8)] ++ reservedOk rd 0 0x1A 6 ++ reservedOk rd 0 0x30 12
  match firstFail 0 checks with
  | some o => some (1, o)
  | none => if u32 rd 0x3C = crc32c (rdBytes rd 0 0x3C) then none else some (2, 0x3C)

/-- A signature block at `b` over the bytes before it, with the OTP's image-signing keys: the offset of the failing field
(R48, R384). `keys` answers the key of a slot that is programmed and not revoked. -/
def signatureFail (rd : Nat → Nat) (b : Nat) (keys : Nat → Option (List Byte)) : Option Nat :=
  let checks : List RuleCheck := [(u32 rd b == 0x4749534C, some 0), (u32 rd (b + 4) == 1, some 4), ((keys (u32 rd (b + 8))).isSome, some 8),
    (u32 rd (b + 12) == 0, some 12)] ++ reservedOk rd b 0x70 144
  match firstFail b checks with
  | some o => some o
  | none =>
    match keys (u32 rd (b + 8)) with
    | some k => if sigOk k (rdBytes rd 0 b) (rdBytes rd (b + 0x10) 96) then none else some 0
    | none => some (b + 8)

/-- Step 4: the directory and each section's crc (R34, R50). -/
def directoryFail (rd : Nat → Nat) : Option (Nat × Nat) :=
  let len := u32 rd 8
  let dir : List RuleCheck := [(u32 rd 0x14 == 0x40, some 0x14), (u16 rd 0x18 == 15, some 0x18)]
    ++ (List.range 15).flatMap (fun i =>
      let e := 0x40 + 16 * i
      let o := u32 rd (e + 4)
      let n := u32 rd (e + 8)
      [(u16 rd e == i + 1, some e), (u16 rd (e + 2) == 1, some (e + 2)),
       (o % 16 == 0 && decide (0x130 ≤ o) && (List.range i).all (fun j => decide (o + n ≤ secOff rd (j + 1)) || decide (secOff rd (j + 1) + secLen rd (j + 1) ≤ o)), some (e + 4)),
       (n % 16 == 0 && decide (o + n + 256 ≤ len), some (e + 8))])
  match firstFail 0 dir with
  | some o => some (5, o)
  | none => ((List.range 15).find? (fun i => u32 rd (0x40 + 16 * i + 12) != crc32c (rdBytes rd (secOff rd (i + 1)) (secLen rd (i + 1))))).map
      (fun i => (6, 0x40 + 16 * i + 12))

/-- The validation of R49: the code of R50 and the offset, or none where every step passes. -/
def imageFail (rd : Nat → Nat) (slot floor : Nat) (keys : Nat → Option (List Byte)) : Option (Nat × Nat) :=
  match headerFail rd with
  | some f => some f
  | none =>
    match signatureFail rd (u32 rd 8 - 256) keys with
    | some o => some (3, o)
    | none =>
      if u32 rd 0x10 < floor then some (4, 0x10)
      else
        match directoryFail rd with
        | some f => some f
        | none =>
          let m := readImage slot rd
          match passFail rd (passOne rd m) with
          | some f => some f
          | none => passFail rd (passTwo rd m)

end Sys2Proof.Machine
end

