-- ==== Sys2Proof/Machine/ImageRegs.lean ====
section
/-! DEFINITION. The register values that the structure image gives: the fields whose reset value is Image (R31, R45, R46,
R111, R378 and the register tables). -/

namespace Sys2Proof.Machine

/-- A field, an instance and its value. -/
abbrev FVal := Fld × Nat × Nat

/-- The profile that an index names (R45). -/
def Image.profile (m : Image) (k : Nat) : Profile := m.profiles.getD k default

/-- The index of the profile mapped to a power state PS0 to PS2 (R45). -/
def Image.psProfile (m : Image) (ps : Nat) : Nat := m.psMap.getD ps 0

/-- A profile's compression limit; 0xFF stands for the image's (R45). -/
def Image.compLevel (m : Image) (p : Profile) : Nat := if p.maxComp = 0xFF then m.maxComp else p.maxComp

/-- Whether the image's head slots of an actuator are populated, as a mask. -/
def Image.popMask (m : Image) (a : Nat) : Nat := (List.range 16).foldl (fun n k => if m.populated (16 * a + k) then setBit n k else n) 0

/-- Readers of each head's stream at reset: 2 with readers A and B, else 1 (R35, R42). -/
def Image.readers (m : Image) : Nat := if m.readerSet = 7 then 2 else 1

/-- Values of the profile registers (R20, R45). -/
def profileValues (m : Image) (p : Profile) : List FVal :=
  [(DP_POOL.count, 0, p.flumes), (MS_PROFILE.comb_width, 0, p.combWidth), (MS_PROFILE.seek_pct, 0, p.seekPct),
   (MS_URG_CFG.slot_div, 0, p.slotDiv), (HG_URGENT.pct, 0, p.urgentPct), (MS_PROFILE.max_comp_level, 0, m.compLevel p),
   (HG_BUDGET_DRIVE.units, 0, p.budget), (HG_BUDGET_PART.units, 0, p.ceiling)]

/-- A profile with its flume count capped at the pool of flumes in service (R27). -/
def capped (p : Profile) (mask : Nat) : Profile := { p with flumes := min p.flumes (max 1 (bitsOf 32 mask).length) }

/-- The layout of a band on a surface: spans, slot, preamble and pad, all unfit bits zero (R111). -/
def bandLayout (m : Image) (i : Nat) (b : Band) : List FVal :=
  let g := max 1 (Nat.gcd b.sectors m.wedges)
  let wedges := m.wedges / g
  let sectors := b.sectors / g
  let span := (300000000 * b.rate - wedges * b.rate * m.rpm * g) / (5 * m.rpm * g)
  let slot := span / max 1 sectors
  let unfit := decide (slot < 36984)
  [(DP_BAND_LAYOUT.unfit, i, b2n unfit), (DP_BAND_LAYOUT.span_wedges, i, wedges), (DP_BAND_LAYOUT.span_sectors, i, sectors),
   (DP_BAND_LAYOUT.preamble, i, min (slot - 36920) 256), (DP_BAND_LAYOUT.span_pad, i, span - slot * sectors), (DP_BAND_LAYOUT.slot, i, slot)]

/-- The layouts of a surface with the band table set it uses (R111). -/
def surfaceLayout (m : Image) (surface setNo : Nat) : List FVal :=
  match m.bandTable surface setNo with
  | none => []
  | some t => (List.range 48).flatMap (fun j => bandLayout m (48 * surface + j) (t.bands.getD j default))

/-- Values of the Headgate's port registers (R39; HG_PORT_CFG). -/
def portValues (d : PortDef) (p : Nat) : List FVal :=
  let part := if d.kind = 5 ∨ d.kind = 6 ∨ d.kind = 7 ∨ d.kind = 9 then d.peak else if d.kind = 8 then d.peak / 2 else 0
  [(HG_PORT_CFG.kind, p, d.kind), (HG_PORT_CFG.first, p, d.first), (HG_PORT_CFG.count, p, d.count), (HG_PORT_CFG.group, p, d.group),
   (HG_PORT_CFG.flags, p, d.flags), (HG_PORT_CFG.part_units, p, part), (HG_PORT_CFG.peak, p, d.peak)]

/-- The power groups that no requester names (HG_GROUP_ON). -/
def Image.looseGroups (m : Image) : List Nat :=
  (List.range 32).filter (fun g => g != 0 && m.domGroup.contains g && !(m.ports.any (fun d => d.kind != 0 && d.group == g)))

/-- Values of an actuator's registers (R47). -/
def actValues (m : Image) (a : Nat) : List FVal :=
  let c := m.servo.getD a default
  [(WP_WU_THR.threshold, a, c.wuThreshold), (SV_LOOP.hold_wedges, a, c.holdWedges), (SV_LOOP.vcm_ref, a, m.popMask a),
   (SV_LOOP.ma_closed, a, c.maEnable), (SV_RED_CFG.mode, a, c.redundancy), (SV_RED_SVC.mask, a, if m.hasAct a then 3 else 0)]

/-- The routing word of an interrupt source (R40, R426). -/
def irqValues (w n : Nat) : List FVal :=
  [(IC_SRC.targets, n, w % 1024), (IC_SRC.edge, n, b2n (decide (960 ≤ n))), (IC_SRC.enable, n, w / 2 ^ 24 % 2), (IC_SRC.priority, n, w / 65536 % 16)]

/-- Thermal limits (R46). -/
def thermalValues (m : Image) : List FVal :=
  let t := fun i => m.thermal.getD i 0
  [(TH_THR.warning, 0, t 0), (TH_THR.throttle, 0, t 1), (TH_THR.shutdown, 0, t 2), (TH_THR.hysteresis, 0, t 3),
   (TH_WIN.air_min, 0, t 4), (TH_WIN.air_max, 0, t 5), (TH_WIN.assist_min, 0, t 6), (TH_WIN.assist_max, 0, t 7),
   (TH_RATE.near_margin, 0, t 8), (TH_RATE.rate_normal, 0, t 9), (TH_RATE.rate_near, 0, t 10)]

/-- Every field value that the image gives at a load. -/
def imageValues (m : Image) : List FVal :=
  (List.range 64).flatMap (fun h => [((HL_HEAD_CFG.readers, h, m.readers) : FVal), (MS_HEAD_SVC.in_service, h, b2n (m.populated h))])
  ++ [(DP_FLUME_SVC.mask, 0, m.flumeMask), (MS_URG_CFG.rate, 0, m.urgentRate), (HG_ILIM.i12_ma, 0, m.i12), (HG_ILIM.i5_ma, 0, m.i5),
      (HIF_PS_MAP.ps0, 0, m.psProfile 0), (HIF_PS_MAP.ps1, 0, m.psProfile 1), (HIF_PS_MAP.ps2, 0, m.psProfile 2),
      (HG_GROUP_ON.force, 0, m.looseGroups.foldl setBit 0 / 2),
      (BM_MAP.devices, 0, (List.range 2).foldl (fun n d => if m.domGroup.getD (140 + d) 0 = 0 then n else setBit n d) 0)]
  ++ profileValues m (m.profile (m.psProfile 0)) ++ thermalValues m
  ++ (List.range 4).flatMap (actValues m)
  ++ (List.range 128).flatMap (fun p => portValues (m.ports.getD p default) p)
  ++ (List.range m.groups.length).map (fun g => ((ZX_ZG_HOME.home, g, (m.group g).home) : FVal))
  ++ (List.range 256).map (fun i => ((MC_CURVE.rpm, i, m.rpm) : FVal))
  ++ (List.range 1024).flatMap (fun n => irqValues (m.irq.getD n 0) n)
  ++ (List.range 32).flatMap (fun su => surfaceLayout m su 0)

/-- Set fields. -/
def setAll (l : List FVal) (s : State) : State := l.foldl (fun t v => t.set v.1 v.2.1 v.2.2) s

/-- After an ACT reset of actuator `a`, its fields stand at the values of the loaded image (R378). -/
def imageAct (a : Nat) (s : State) : State :=
  match s.img with
  | none => s
  | some m => setAll ((imageValues m).filter (fun v => actDiv v.1.cls != 0 && v.2.1 / actDiv v.1.cls == a)) s

/-- After a late reset of motor control, the speed curve stands at the loaded image's speed (R242; MC_CURVE). -/
def imageCurve (s : State) : State :=
  match s.img with
  | none => s
  | some m => s.each (List.range 256) (fun i t => t.set MC_CURVE.rpm i m.rpm)

end Sys2Proof.Machine
end

