-- ==== Sys2Proof/Machine/Recorder.lean ====
section
/-! DEFINITION. The event recorder, ER (21_event_recorder.md, R436 to R449): records, the FIFO, the open record, the
chapter, the last-gasp slots. `State.event` is what every other block calls when its chapter says that it writes an
event record. -/

namespace Sys2Proof.Machine

/-- Flash offset of the event chapter (R380). -/
def erBase : Nat := 0x6000000

/-- Size of the event chapter (R380). -/
def erSize : Nat := 0x2000000

/-- Length of a record in bytes: header and payload, a multiple of 16 (R436). -/
def recLen (payload : List Byte) : Nat := 16 + 16 * ((payload.length + 15) / 16)

/-- A record's bytes with the given mark (R436). -/
def recBytes (r : EventRec) (mark : Nat) : List Byte :=
  leBytes mark 2 ++ leBytes (recLen r.payload / 16) 1 ++ leBytes r.src 1 ++ leBytes r.code 2
    ++ leBytes (if r.closed then r.count else 0xFFFF) 2 ++ leBytes r.dtime 8 ++ r.payload
    ++ List.replicate (recLen r.payload - 16 - r.payload.length) 0

/-- A record of the recorder's own (src 0x30), already closed. -/
def ownRec (s : State) (code : Nat) (payload : List Byte) : EventRec :=
  { src := 0x30, code := code, payload := payload, dtime := s.dtime, closed := true, count := 0 }

/-- Count an event that is lost (R440). -/
def erLose (src : Nat) (s : State) : State :=
  let s := if s.get ER_LOST.count = 0 then s.set X.er_lost_first 0 s.dtime else s
  let s := s.set X.er_lost_last 0 s.dtime
  let s := s.set X.er_lost_srcs 0 (setBit (s.get X.er_lost_srcs) src)
  let s := if src < 32 then s.setBitOf ER_LOST.srcs 0 src else s
  let s := s.inc ER_LOST.count
  s.raise ER_INT.lost

/-- The free last-gasp slots, and the next one (R446). -/
def erFrees (s : State) : List Nat := (List.range 8).filter (fun i => !(s.get ER_GASP.used).testBit i)
def erFree (s : State) : Option Nat := (erFrees s).head?

/-- Write a record into the next free last-gasp slot, of kind 1 (failure) or 2 (deferred); with no slot free the event is
lost (R445, R446). -/
def erSlot (kind : Nat) (r : EventRec) (s : State) : State :=
  match erFree s with
  | none => erLose r.src s
  | some i =>
    let bytes := recBytes r 0x5245
    let s := s.each (List.range 32) (fun w t =>
      t.set ER_GASP_SLOT.word (32 * i + w) (leNat ((bytes.drop (8 * w)).take 8)))
    let s := s.setBitOf ER_GASP.used 0 i
    if kind = 2 then s.setBitOf ER_GASP.deferred 0 i else s.clearBitOf ER_GASP.deferred 0 i

/-- Close the open record: its count goes into the repeat field, in flash if its programming has begun, in its last-gasp slot, or in
the queued record (R439, R445). -/
def erClose (s : State) : State :=
  match s.erOpen with
  | none => s
  | some o =>
    let s := { s with erOpen := none }
    match o.off, o.slot with
    | some a, _ =>
      let s := { s with erProg := s.erProg.map (fun p => if p.2 = a then ({ p.1 with closed := true, count := o.count }, a) else p) }
      if s.on ER_GASP.log_failed then s else s.flashProgram (erBase + a + 6) (leBytes o.count 2)
    | none, some i =>
      let w := s.get ER_GASP_SLOT.word (32 * i)
      s.set ER_GASP_SLOT.word (32 * i) (w % 2 ^ 48 + 2 ^ 48 * o.count)
    | none, none =>
      match s.erFifo.reverse with
      | [] => s
      | r :: rest => { s with erFifo := (({ r with closed := true, count := o.count } : EventRec) :: rest).reverse }

/-- The lost-events record of R440 and R437. -/
def erLostRec (s : State) : EventRec :=
  ownRec s 1 (leBytes (s.get ER_LOST.count) 4 ++ leBytes 0 4 ++ leBytes (s.get X.er_lost_first) 8
    ++ leBytes (s.get X.er_lost_last) 8 ++ leBytes (s.get X.er_lost_srcs) 8)

/-- Start programming a record at the write point: a pad record first where it does not fit in its sector, or the
chapter-full record where it would leave fewer than 32 bytes (R438, R442). All but the mark is programmed at once; the
mark is programmed when the record finishes (log entry 12). -/
def erProgram (r : EventRec) (isOpen : Bool) (s : State) : State :=
  let wp := s.get ER_POS.write_point
  let len := recLen r.payload
  let left := 0x10000 - wp % 0x10000
  let pad := if left < len then left else 0
  if erSize < wp + pad + len + 32 then
    let full := ownRec s 2 (List.replicate 16 0)
    let s := s.flashProgram (erBase + wp) (recBytes full 0x5245)
    let s := s.set ER_POS.write_point 0 (wp + 32)
    let s := s.inc ER_POS.records
    let s := { s with erFifo := r :: s.erFifo }
    (s.set ER_STATUS.full 0 1).raise ER_INT.full
  else
    let s := if pad = 0 then s else
      (s.flashProgram (erBase + wp) (recBytes (ownRec s 5 (List.replicate (pad - 16) 0)) 0x5245)).inc ER_POS.records
    let off := wp + pad
    let s := s.set ER_POS.write_point 0 off
    let s := s.flashProgram (erBase + off) (recBytes r 0xFFFF)
    let s := { s with erProg := some (r, off) }
    if isOpen then { s with erOpen := s.erOpen.map (fun o => { o with off := some off }) } else s

/-- With the FIFO empty and losses counted, the lost-events record is queued ahead of every event accepted later, and the count clears
(R440, R441). -/
def erLostQueue (s : State) : State :=
  if s.erFifo.isEmpty && s.get ER_LOST.count != 0 then
    let r := erLostRec s
    { ((s.clear ER_LOST.count).clear ER_LOST.srcs).clear X.er_lost_srcs with erFifo := [r] }
  else s

/-- Start the next record where one waits and the recorder may program: the oldest queued record (R438, R440, R443). -/
def erStart (s : State) : State :=
  if s.erProg.isSome || !s.on X.er_found || s.on ER_STATUS.full || s.on ER_GASP.log_failed
      || (s.on ER_STATUS.erasing && decide (s.get X.er_erase_next ≤ s.get ER_POS.write_point / 0x10000)) then s
  else
    let s := erLostQueue s
    match s.erFifo with
    | [] => s
    | r :: rest =>
      let isOpen := rest.isEmpty && s.erOpen.isSome && (s.erOpen.bind (fun o => o.off)).isNone
      erLostQueue (erProgram r isOpen { s with erFifo := rest })

/-- No record fits any more: the chapter is full (R442). -/
def erNoRoom (s : State) : State :=
  if erSize < s.get ER_POS.write_point + 32 then (s.set ER_STATUS.full 0 1).raise ER_INT.full else s

/-- The open record counts an identical event (R439). -/
def erRepeat (o : OpenRec) (s : State) : State :=
  let s := { s with erOpen := some { o with count := o.count + 1 } }
  let s := (s.set ER_LAST.repeat 0 (o.count + 1)).set ER_LAST.last_us 0 s.us
  if 65534 ≤ o.count + 1 then erClose s else s

/-- A record is the most recently accepted: it stays open (R439). -/
def erOpens (r : EventRec) (slot : Option Nat) (s : State) : State :=
  let s := { s with erOpen := some { src := r.src, code := r.code, payload := r.payload, off := none, slot := slot, count := 0 } }
  (s.set ER_LAST.repeat 0 0).set ER_LAST.last_us 0 s.us

/-- Accept an event straight into a last-gasp slot; with no slot free it is lost (R440, R445, R447). -/
def erToSlot (kind : Nat) (r : EventRec) (s : State) : State :=
  match erFree s with
  | none => erLose r.src s
  | some i => erOpens r (some i) (erSlot kind r (erClose s))

/-- Accept an event that is not identical to the open record's (R439, R440, R445, R447). -/
def erNew (r : EventRec) (s : State) : State :=
  if s.on X.er_deep_drain then erToSlot 2 r s
  else if s.on ER_GASP.log_failed then erToSlot 1 r s
  else if 64 ≤ s.erFifo.length then erLose r.src s
  else
    let s := erClose s
    erStart (erOpens r none { s with erFifo := s.erFifo ++ [r] })

/-- Accept an event (R439, R440, R442, R445, R447). -/
def erAccept (src code : Nat) (payload : List Byte) (s : State) : State :=
  if s.on ER_STATUS.full then s.inc ER_STATUS.refused
  else
    match s.erOpen.filter (fun o => o.src == src && o.code == code && o.payload == payload) with
    | some o => erRepeat o s
    | none => erNew { src := src, code := code, payload := payload, dtime := s.dtime, closed := false, count := 0 } s

/-- Event record of register window `win`: bits 15:8 of the code are the instance, bits 7:0 the INT bit set with the
event or 0xFF; each payload value stands on an 8-byte boundary (R437). -/
def State.event (s : State) (win inst bitNo : Nat) (vals : List Nat := []) : State :=
  erAccept win (inst * 256 + bitNo) (vals.flatMap (fun v => leBytes v 8)) s

/-- Set an interrupt bit and write the event record that goes with it. -/
def State.alarm (s : State) (f : Fld) (i win inst : Nat) (vals : List Nat := []) : State :=
  (s.raise f i).event win inst f.lo vals

/-- The drain has nothing left to program: it is complete, and at DEEP entry the register copies are made (R447). -/
def erDrainCheck (s : State) : State :=
  if s.on X.er_draining && s.erFifo.isEmpty && s.erProg.isNone then
    (s.clear X.er_draining).raise ER_INT.drained
  else s

/-- Copies of ER_POS, ER_STATUS, ER_LOST and ER_LAST, in register layout (R447). -/
def regValue (s : State) (r : Reg) (i : Nat) : Nat := r.flds.foldl (fun n f => n + s.get f i * 2 ^ f.lo) 0

/-- Copy the recorder's registers into always-on SRAM (R447). -/
def erCopy (s : State) : State :=
  { s with erCopies := [regValue s ER_POS 0, regValue s ER_STATUS 0, regValue s ER_LOST 0, regValue s ER_LAST 0] }

/-- Start a drain: close the open record and program every queued record (R447). -/
def erDrain (s : State) : State :=
  erDrainCheck (erStart ((erClose s).set X.er_draining 0 1))

/-- At 100 ms of the drain of DEEP entry, or when it ends: queued records go to kind-2 slots and the registers are copied
(R447). -/
def erDrainEnd (s : State) : State :=
  let left := (s.erProg.map (fun p => p.1)).toList ++ s.erFifo
  let s := { s with erFifo := [], erProg := none }
  let s := left.foldl (fun t r => erSlot 2 r t) s
  erCopy (s.clear X.er_draining)

/-- The log memory has failed: the records go to the last-gasp slots and the latch is set. The open record, if it is among them, is the
last and goes on counting in its slot (R439, R445). -/
def erFail (cause : Nat) (s : State) : State :=
  let off := match s.erProg with
    | some (_, o) => o
    | none => if s.on ER_STATUS.erasing then s.get X.er_erase_next * 0x10000 else s.get ER_POS.write_point
  let r := ownRec s 3 (leBytes cause 1 ++ List.replicate 7 0 ++ leBytes off 4)
  let left := (s.erProg.map (fun p => p.1)).toList ++ s.erFifo
  let last := (erFrees s)[left.length]?
  let s := erSlot 1 r { s with erFifo := [], erProg := none }
  let s := left.foldl (fun t r => erSlot 1 r t) s
  let s := if left.any (fun q => !q.closed) then { s with erOpen := last.bind (fun i => s.erOpen.map (fun o => { o with off := none, slot := some i })) }
    else s
  let s := (s.set ER_GASP.log_failed 0 1).set ER_GASP.cause 0 cause
  let s := (s.set ER_STATUS.cause 0 cause).clear ER_STATUS.erasing
  s.raise ER_INT.log_failed

/-- EVENT_ACCEPT (R439, R440). -/
def execEventAccept (src code : Nat) (payload : List Byte) (s : State) : Res :=
  run (decide (payload.length ≤ 240)) s (erAccept src code payload)

/-- Source number of a core's firmware records: 0x20–0x27, 0x28 security, 0x29 management (R436). -/
def fwSrc (core : Nat) : Nat := 0x20 + core

/-- FIRMWARE_RECORD_SUBMIT: a write of ER_FW_CTRL submits len16 × 16 bytes, header included, from the writing core's
ER_FW_DATA (R437; ER_FW_CTRL). A reserved length keeps the previous one (R8). -/
def execFirmwareRecordSubmit (core code len16 : Nat) (s : State) : Res :=
  run (okCore core) s (fun s =>
    let s := if ER_FW_CTRL.len16.rule.reserved len16 then s else s.set ER_FW_CTRL.len16 0 len16
    let n := 16 * s.get ER_FW_CTRL.len16 - 16
    let bytes := (List.range 30).flatMap (fun w => leBytes (s.get ER_FW_DATA.word (32 * core + w)) 8)
    erAccept (fwSrc core) (code % 65536) (bytes.take n) s)

/-- RECORD_PROGRAMMED: the mark is programmed, the write point moves on and the next record starts (R438, R440, R442). -/
def execRecordProgrammed (s : State) : Res :=
  run true s (fun s =>
    match s.erProg with
    | none => s
    | some (r, off) =>
      let s := { s with erProg := none }
      let s := s.flashProgram (erBase + off) (leBytes 0x5245 2)
      let s := (s.set ER_POS.write_point 0 (off + recLen r.payload)).inc ER_POS.records
      let s := erDrainCheck (erStart s)
      if s.on X.er_deep_drain && !s.on X.er_draining then erCopy s else s)

/-- RECORD_CLOSE: close_ms passes without a repeat (R439). -/
def execRecordClose (s : State) : Res := run true s erClose

/-- DRAIN: ER_CTRL.action 1 (R447). -/
def execDrain (s : State) : Res := run true s erDrain

/-- RESTART_CHAPTER: ER_CTRL.action 2, refused while log_failed (R443). -/
def execRestartChapter (s : State) : Res :=
  run true s (fun s =>
    if s.on ER_GASP.log_failed then s.raise ER_INT.refused
    else
      let s := erClose s
      let r := ownRec s 4 (leBytes (s.get ER_POS.records) 4 ++ leBytes 0 4 ++ leBytes (s.get ER_POS.write_point) 4)
      let back := (s.erProg.map (fun p => p.1)).toList
      let s := { s with erProg := none, erFifo := r :: (back ++ s.erFifo) }
      let s := ((s.set ER_POS.write_point 0 0).set ER_POS.records 0 0).clear ER_STATUS.full
      (s.set ER_STATUS.erasing 0 1).set X.er_erase_next 0 0)

/-- SECTOR_ERASE_DONE: one sector of a restart is erased; recording resumes once sector 0 is erased (R443). -/
def execSectorEraseDone (s : State) : Res :=
  run true s (fun s =>
    if s.on ER_STATUS.erasing then
      let n := s.get X.er_erase_next
      let s := s.flashErase (erBase + 0x10000 * n) 0x10000
      let s := s.set X.er_erase_next 0 (n + 1)
      let s := if 512 ≤ n + 1 then s.clear ER_STATUS.erasing else s
      erStart s
    else s)

/-- Count the valid records below the write point. -/
def erCount (s : State) (wp : Nat) : Nat → Nat → Nat
  | 0, _ => 0
  | k + 1, o =>
    if wp ≤ o then 0
    else
      let len16 := leNat (s.flashRead (erBase + o + 2) 1)
      let len := if len16 = 0xFF ∨ len16 = 0 then 16 else 16 * len16
      (if leNat (s.flashRead (erBase + o) 2) = 0x5245 then 1 else 0) + erCount s wp k (o + len)

/-- PROBE_FLASH: ER_CTRL.action 3 erases and verifies the sector at the write point; on success recording resumes at the
next sector, on failure log_failed is set again (R446). -/
def execProbeFlash (ok : Bool) (s : State) : Res :=
  run true s (fun s =>
    if ok then
      let sec := s.get ER_POS.write_point / 0x10000
      let s := s.flashErase (erBase + 0x10000 * sec) 0x10000
      let wp := 0x10000 * (sec + 1)
      let s := (s.clear ER_GASP.log_failed).set ER_POS.write_point 0 wp
      let s := s.set ER_POS.records 0 (min (erCount s wp (wp / 16 + 1) 0) (2 ^ 32 - 1))
      erStart (erNoRoom s)
    else s.raise ER_INT.log_failed)

/-- FREE_KIND_1_SLOTS: ER_CTRL.action 4 (R446). -/
def execFreeKind1Slots (s : State) : Res :=
  run true s (fun s =>
    let kind1 := (List.range 8).filter (fun i => (s.get ER_GASP.used).testBit i && !(s.get ER_GASP.deferred).testBit i)
    let s := { s with erOpen := s.erOpen.filter (fun o => match o.slot with | some i => !kind1.contains i | none => true) }
    s.each kind1 (fun i t =>
      t.each (List.range 32) (fun w t => t.clear ER_GASP_SLOT.word (32 * i + w)) |>.clearBitOf ER_GASP.used 0 i))

/-- PROGRAM_TIMEOUT: a program or erase exceeds prog_timeout_us, cause 3 (R445). -/
def execProgramTimeout (s : State) : Res :=
  run true s (fun s =>
    if s.erProg.isSome || s.on ER_STATUS.erasing then erFail 3 s else s)

/-- LOG_MEMORY_FAILED: cause 1 to 4 of R445. -/
def execLogMemoryFailed (cause : Nat) (s : State) : Res :=
  run true s (fun s =>
    if 1 ≤ cause ∧ cause ≤ 4 ∧ s.get ER_GASP.log_failed = 0 then erFail cause s else s)

/-- The first 16 bytes of sector `n` of the chapter are erased. -/
def erSectorErased (s : State) (n : Nat) : Bool :=
  (s.flashRead (erBase + 0x10000 * n) 16).all (fun b => b == flashErased)

/-- Binary search for the first sector whose first 16 bytes are erased (R444 step 1). -/
def erSearch (s : State) : Nat → Nat → Nat → Nat
  | 0, lo, _ => lo
  | k + 1, lo, hi =>
    if hi ≤ lo then lo
    else
      let mid := (lo + hi) / 2
      if erSectorErased s mid then erSearch s k lo mid else erSearch s k (mid + 1) hi

/-- Walk a sector record by record, voiding a torn record, to the first erased slot (R444 step 2). -/
def erWalk : Nat → Nat → State → Nat × State
  | 0, o, s => (o, s)
  | k + 1, o, s =>
    let mark := leNat (s.flashRead (erBase + o) 2)
    let len16 := leNat (s.flashRead (erBase + o + 2) 1)
    let len := if len16 = 0xFF ∨ len16 = 0 then 16 else 16 * len16
    let torn := (s.flashRead (erBase + o) len).any (fun b => b != flashErased)
    let next (t : State) : Nat × State := if (o + len) % 0x10000 = 0 then (o + len, t) else erWalk k (o + len) t
    if mark = 0xFFFF then
      if torn then next (s.flashProgram (erBase + o) [0, 0]) else (o, s)
    else next s

/-- The record a last-gasp slot holds (R446). -/
def erSlotRec (s : State) (i : Nat) : EventRec :=
  let b := (List.range 32).flatMap (fun w => leBytes (s.get ER_GASP_SLOT.word (32 * i + w)) 8)
  let len := 16 * leNat ((b.drop 2).take 1)
  { src := leNat ((b.drop 3).take 1), code := leNat ((b.drop 4).take 2), payload := (b.drop 16).take (len - 16),
    dtime := leNat ((b.drop 8).take 8), closed := true, count := leNat ((b.drop 6).take 2) }

/-- WRITE_POINT_SEARCH: after a POR, WRM or WDG reset ER finds the write point, voids torn records, takes in the deferred
slots and the watchdog and power-loss records, and starts; a record of the management watchdog follows (R444, R370, R240, R447, R459). -/
def execWritePointSearch (s : State) : Res :=
  run true s (fun s =>
    if s.on X.er_found then s
    else
      let first := erSearch s 10 0 512
      let (wp, s) := if first = 0 then (0, s) else erWalk 4096 (0x10000 * (first - 1)) s
      let s := s.set ER_POS.write_point 0 wp
      let s := s.set ER_POS.records 0 (min (erCount s wp (wp / 16 + 1) 0) (2 ^ 32 - 1))
      let s := erNoRoom (s.set X.er_found 0 1)
      let slots := if s.on ER_GASP.log_failed || s.on ER_STATUS.full then [] else bitsOf 8 (s.get ER_GASP.deferred)
      let deferred := slots.map (erSlotRec s)
      let s := s.each slots (fun i t => (t.each (List.range 32) (fun w t => t.clear ER_GASP_SLOT.word (32 * i + w))
        |>.clearBitOf ER_GASP.used 0 i).clearBitOf ER_GASP.deferred 0 i)
      let wdt := if s.on CR_WDT_STATUS.fired then [ownRec s 6 (leBytes (regValue s CR_WDT_STATUS 0) 8)] else []
      let pl := if s.on MC_PL_STATUS.valid then [ownRec s 7 (leBytes (regValue s MC_PL_STATUS 0) 8)] else []
      let s := if s.on ER_GASP.log_failed then (wdt ++ pl).foldl (fun t r => erSlot 1 r t) s
        else { s with erFifo := deferred ++ wdt ++ pl ++ s.erFifo }
      let s := erStart s
      if s.on X.mp_wdt_ev then (s.event 19 0 3).clear X.mp_wdt_ev else s)

/-- DRAIN_TIME_LIMIT: 100 ms of the drain of DEEP entry (R447). -/
def execDrainTimeLimit (s : State) : Res :=
  run true s (fun s => if s.on X.er_deep_drain && s.on X.er_draining then erDrainEnd s else s)

end Sys2Proof.Machine
end

