-- ==== Sys2Proof/Machine/Bus.lean ====
section
/-! DEFINITION. The register bus: address decoding (R7, R9, R12), reads and writes by field type (R6, R8), halves (R7),
staged copies (R55) and their invalidation of a passed check (R59). -/

namespace Sys2Proof.Machine

/-- Walk a register's replication: the instance number and the bytes left over. -/
def locateDims : List (Nat × Nat) → Nat → Nat → Option (Nat × Nat)
  | [], off, acc => some (acc, off)
  | (stride, count) :: r, off, acc =>
    if off / stride < count then locateDims r (off % stride) (acc * count + off / stride) else none

/-- The instance of a register that an address falls in, and the byte offset within it. -/
def Reg.locate (r : Reg) (a : Nat) : Option (Nat × Nat) :=
  if a < r.addr then none
  else
    match locateDims r.dims (a - r.addr) 0 with
    | some (i, o) => if o < r.width / 8 then some (i, o) else none
    | none => none

/-- The register, instance and byte offset that an address falls in. -/
def locateAddr (a : Nat) : Option (Reg × Nat × Nat) :=
  allRegs.findSome? (fun r => (r.locate a).map (fun p => (r, p.1, p.2)))

/-- The address of an instance of a register. -/
def addrDims : List (Nat × Nat) → Nat → Nat
  | [], _ => 0
  | (stride, _) :: r, i =>
    let inner := r.foldl (fun n d => n * d.2) 1
    stride * (i / inner) + addrDims r (i % inner)

/-- The address of an instance of a register (R9, R12). -/
def Reg.addrOf (r : Reg) (i : Nat) : Nat := r.addr + addrDims r.dims i

/-- First and last address of the register windows (R13). -/
def inWindows (a : Nat) : Bool := decide (0x20000000 ≤ a) && decide (a ≤ 0x215FFFFF)

/-- The staged copy of a field: the value last written, or the value in force where none is staged (R55). -/
def State.stagedVal (s : State) (f : Fld) (i : Nat) : Nat := (KV.get s.staged (f.id, i)).getD (s.get f i)

/-- The value a check evaluates: the staged copy of an ST field, the value in force of any other (R57). -/
def State.eff (s : State) (f : Fld) (i : Nat := 0) : Nat := if f.ty = .st then s.stagedVal f i else s.get f i

/-- The commit controller's states (SC_STATUS.state). -/
def scIdle : Nat := 0
def scStaged : Nat := 1
def scChecking : Nat := 2
def scChecked : Nat := 3
def scArmed : Nat := 4
def scFailed : Nat := 5

/-- Report an outcome in SC_STATUS.result; any but 0x0 and 0x1 sets SC_INT.not_applied. -/
def scResult (r : Nat) (s : State) : State :=
  let s := s.set SC_STATUS.result 0 r
  if r = 0 ∨ r = 1 then s else s.raise SC_INT.not_applied

/-- What a write of an ST field does to the controller: a passed check is invalidated, and an armed commit cancelled with
result 0x6; an empty or failed set becomes STAGED; a check in progress runs on (R59, log entry 21). -/
def scStagedWrite (s : State) : State :=
  let st := s.get SC_STATUS.state
  if st = scArmed then scResult 6 (s.set SC_STATUS.state 0 scStaged)
  else if st = scChecking then s
  else s.set SC_STATUS.state 0 scStaged

/-- Write an ST field: the staged copy takes the value and the register joins the staged set (R55, R8). -/
def stageField (f : Fld) (i addr v : Nat) (s : State) : State :=
  let s := { s with staged := KV.put pairLt s.staged (f.id, i) (v % 2 ^ f.width),
                    stagedSet := if s.stagedSet.contains addr then s.stagedSet else s.stagedSet ++ [addr] }
  scStagedWrite s

/-- Write one field by its type (R6, R8). `addr` is its register's address. -/
def writeField (f : Fld) (i addr v : Nat) (s : State) : State :=
  match f.ty with
  | .ro => s
  | .wo => s
  | .rw => if f.rule.reserved v then s else s.set f i (f.rule.stored v)
  | .w1c => s.set f i (s.get f i - (s.get f i &&& v))
  | .st => stageField f i addr (f.rule.stored v) s
  | .rwl =>
    if s.locked.contains (f.id, i) || f.rule.reserved v then s
    else { s.set f i (f.rule.stored v) with locked := s.locked ++ [(f.id, i)] }

/-- A value below a limit that another field sets: TH_RATE.rate_near lies at or above rate_normal (R8). -/
def belowLimit (f : Fld) (v : Nat) (s : State) : Bool := f.id == TH_RATE.rate_near.id && decide (v < s.get TH_RATE.rate_normal)

/-- Write the fields of a part of a register in the order it lists them. A reserved encoding written to an ST field is stored as it is
(R8); clamping statements still apply. -/
def writeReg (r : Reg) (i : Nat) (part : Fld → Bool) (v : Nat) (s : State) : State :=
  r.flds.foldl (fun t f => if part f && !belowLimit f (f.of v) t then writeField f i (r.addrOf i) (f.of v) t else t) s

/-- What a field reads as: WO reads as zero, ST the staged copy (R6). -/
def readField (s : State) (f : Fld) (i : Nat) : Nat :=
  match f.ty with
  | .wo => 0
  | .st => s.stagedVal f i
  | _ => s.get f i

/-- What a register instance reads as; reserved bits read as zero (R8). -/
def readReg (s : State) (r : Reg) (i : Nat) : Nat := r.flds.foldl (fun n f => n + readField s f i * 2 ^ f.lo) 0

/-- The cores: 0 to 7 application, 8 security, 9 management. -/
def secCore : Nat := 8
def mgtCore : Nat := 9

/-- Registers that only some cores write: a write by another core is ignored (WP_NS_CRYPT, the key registers:
security core; SB_CTRL: any but the management core; MP registers: security and management core; AP_XWIN k: its own core; core 0's run bit:
security core). -/
def mayWrite (core : Nat) (r : Reg) (i : Nat) : Bool :=
  if r.addr = SB_CTRL.addr then core != mgtCore
  else if r.addr / 0x100000 = 0x213 then core == secCore || core == mgtCore
  else if r.addr = WP_NS_CRYPT.addr ∨ r.addr = WP_XTS_KEY_DATA.addr ∨ r.addr = WP_XTS_KEY_CTRL.addr then core == secCore
  else if r.addr = AP_XWIN.addr then core == secCore + i
  else if r.addr = AP_CORE_CTRL.addr ∧ i = 0 then core == secCore
  else true

/-- Fields of a namespace binding may be written only while the namespace is disabled (R263), a calibration record only
through R126, a control store only through R260: a plain write leaves them. -/
def plainWritable (s : State) (r : Reg) (i : Nat) : Bool :=
  if r.addr = ZX_NS.addr then s.get ZX_NS.enable i == 0
  else if r.addr = DP_CAL.addr ∨ r.addr = SQ_CS.addr then false
  else true

/-- The instance a core's access reaches: each core has its own copy of ER_FW_DATA (R437). -/
def coreInst (core : Nat) (r : Reg) (i : Nat) : Nat := if r.addr = ER_FW_DATA.addr then 32 * core + i else i

/-- Answer a bus access. -/
def respond (core : Nat) (err : Bool) (data : Nat) (s : State) : State :=
  { s with bus := some { core := core, err := err, data := data } }

/-- A denied write of a key register sets key_denied (WP_INT). -/
def denied (r : Reg) (s : State) : State :=
  if r.addr = WP_XTS_KEY_DATA.addr ∨ r.addr = WP_XTS_KEY_CTRL.addr then s.raise WP_INT.key_denied else s

/-- Write a whole register, or one half of it; `raw` for the writes that their own rules have let through (R126, R260). -/
def busStore (raw : Bool) (core : Nat) (r : Reg) (i : Nat) (part : Fld → Bool) (v : Nat) (s : State) : State :=
  if !mayWrite core r i then denied r s
  else if !raw && !plainWritable s r i then s
  else writeReg r (coreInst core r i) part v s

/-- A read of SC_PEEK_DATA returns the value in force of the register SC_PEEK_ADDR names, zero if it is no ST register. -/
def peek (s : State) : Nat :=
  match locateAddr (s.get SC_PEEK_ADDR.addr) with
  | some (r, i, 0) => if r.flds.any (fun f => f.ty == .st) then r.flds.foldl (fun n f => n + s.get f i * 2 ^ f.lo) 0 else 0
  | _ => 0

/-- What a core reads from a register. -/
def busLoad (core : Nat) (r : Reg) (i : Nat) (s : State) : Nat :=
  if r.addr = SC_PEEK_DATA.addr then peek s else readReg s r (coreInst core r i)

/-- One access of a register window (R6, R7, R14): `store` writes a register instance, in the part named, and `load` reads one. The
application cores reach 64-bit registers whole; the security and management cores in two 32-bit halves, the low one first. Each register
has its own held and captured half for each core. A high half written with no low half held writes the fields that lie in it whole; a
field that begins in the low half (SC_INSTANT.value, AP_MTIMECMP.value) is not written at all, which R7 leaves open (DESIGN CHOICE, log
entry 7). -/
def busAccess (store : Reg → Nat → (Fld → Bool) → Nat → State → State) (load : Reg → Nat → State → Nat × State)
    (core : Nat) (isWrite : Bool) (a width v : Nat) (s : State) : State :=
  if width ≠ 32 ∧ width ≠ 64 ∨ a % (width / 8) ≠ 0 ∨ (width = 64 ∧ secCore ≤ core) then respond core true 0 s
  else
    match locateAddr a with
    | none => respond core false 0 s
    | some (r, i, o) =>
      if r.width = width ∧ o = 0 then
        if isWrite then store r i (fun _ => true) v (respond core false 0 s)
        else let x := load r i s; respond core false x.1 x.2
      else if r.width = 64 ∧ width = 32 ∧ secCore ≤ core then
        if o = 0 then
          if isWrite then respond core false 0 { s with heldLow := KV.put pairLt s.heldLow (core, a) v }
          else
            let x := load r i s
            respond core false (x.1 % 2 ^ 32) { x.2 with capHigh := KV.put pairLt x.2.capHigh (core, a) (x.1 / 2 ^ 32) }
        else if isWrite then
          match KV.get s.heldLow (core, a - 4) with
          | some lo =>
            store r i (fun _ => true) (lo + v * 2 ^ 32) (respond core false 0 { s with heldLow := KV.del s.heldLow (core, a - 4) })
          | none => store r i (fun f => decide (32 ≤ f.lo)) (v * 2 ^ 32) (respond core false 0 s)
        else
          match KV.get s.capHigh (core, a - 4) with
          | some hi => respond core false hi { s with capHigh := KV.del s.capHigh (core, a - 4) }
          | none => let x := load r i s; respond core false (x.1 / 2 ^ 32) x.2
      else respond core true 0 s

/-- A write of a register without behaviour of its own; `raw` for the writes that their own rules have let through (R126, R260). -/
def plainAccess (raw : Bool) (core a width v : Nat) (s : State) : State :=
  busAccess (busStore raw core) (fun r i s => (busLoad core r i s, s)) core true a width v s

/-- The address ranges of R13 that hold storage. -/
def inStorage (s : State) (a : Nat) : Bool :=
  decide (a ≤ 0xFFFF) || (decide (0x10000000 ≤ a) && decide (a ≤ 0x11FFFFFF))
    || (decide (0x100000000 ≤ a) && decide (a < 0x100000000 + s.get BM_STATUS.backed_mib * 0x100000))

end Sys2Proof.Machine
end

