-- ==== Sys2Proof/Machine/Staging.lean ====
section
/-! DEFINITION. Staged changes and the sluice commit (03_staged_commit.md, R55 to R66), with the consistency check of R58
and what a unit loss does to it (R26). -/

namespace Sys2Proof.Machine

/-- The members of a list of register addresses, lowest first: the first of them (R57). -/
def lowest (l : List Nat) : Option Nat := l.foldl (fun m a => match m with | none => some a | some b => some (min a b)) none

/-- The registers of the staged set. -/
def stagedRegs (s : State) : List (Reg × Nat × Nat) :=
  s.stagedSet.filterMap (fun a => (locateAddr a).map (fun p => (p.1, p.2.1, a)))

/-- A line rate in kbit/s by rate code (R68). -/
def rateKbps (code : Nat) : Nat :=
  match code with
  | 1 => 14062500 | 2 => 28125000 | 3 => 56250000 | _ => 0

/-- The states a GDDR6 device may have to be mapped: ready or self-refresh (BM_MAP). -/
def devUsable (s : State) (d : Nat) : Bool :=
  let st := if d = 0 then s.get BM_STATUS.dev0 else s.get BM_STATUS.dev1
  st == 3 || st == 4

/-- Rule 0x01: staged fields holding a reserved encoding (R8, R58). -/
def rule01 (s : State) : List Nat :=
  (stagedRegs s).filterMap (fun (r, i, a) =>
    let bad := r.flds.any (fun f => f.ty == .st && f.rule.reserved (s.eff f i))
    let bm := r.addr == BM_MAP.addr &&
      (List.range 2).any (fun d => (s.eff BM_MAP.devices 0).testBit d && !devUsable s d)
    let head := r.addr == MS_HEAD_SVC.addr && s.eff MS_HEAD_SVC.in_service i == 1 && !s.image.populated i
    if bad || bm || head then some a else none)

/-- Thermal limits of R46 in 0.125 °C, as two's complement 16-bit values. -/
def thermalOk (s : State) : Bool :=
  let t (f : Fld) : Int := signed 16 (s.eff f)
  decide (t TH_THR.warning < t TH_THR.throttle) && decide (t TH_THR.throttle + 40 ≤ t TH_THR.shutdown)
    && decide (t TH_THR.shutdown ≤ 880) && decide (8 ≤ t TH_THR.hysteresis) && decide (t TH_THR.hysteresis ≤ 160)

/-- Window limits of R46. -/
def windowOk (s : State) : Bool :=
  let t (f : Fld) : Int := signed 16 (s.eff f)
  decide (40 ≤ t TH_WIN.air_min) && decide (t TH_WIN.air_max ≤ 520) && decide (t TH_WIN.air_min < t TH_WIN.air_max)
    && decide (t TH_WIN.assist_min < t TH_WIN.assist_max)

/-- Rule 0x02: limits that depend on the loaded image (R58). -/
def rule02 (s : State) : List Nat :=
  (stagedRegs s).filterMap (fun (r, i, a) =>
    let bad :=
      (r.addr == MS_PROFILE.addr && decide (s.image.maxComp < s.eff MS_PROFILE.max_comp_level))
      || (r.addr == HL_HEAD_CFG.addr && s.eff HL_HEAD_CFG.readers i == 2 && s.image.readerSet == 5)
      || (r.addr == SV_RED_SVC.addr && s.eff SV_RED_SVC.mask i == 0 && s.image.hasAct i)
      || (r.addr == TH_THR.addr && !thermalOk s) || (r.addr == TH_WIN.addr && !windowOk s)
    if bad then some a else none)

/-- An actuator is in service: it is present and not lost, its pair is not at fault, and one of the engines that `mask` names has not
failed (R57, R217). -/
def pairSvc (s : State) (a mask : Nat) : Bool :=
  s.image.hasAct a && s.get X.act_lost a == 0 && s.get SV_RED_STATUS.state a != 2
    && (List.range 2).any (fun e => mask.testBit e && !(s.get SV_RED_STATUS.failed a).testBit e)

/-- The ports whose grants are never withdrawn: spindle, the voice coils of actuators whose pair is in service, the Cistern
and the core cluster (R58 rule 0x03, R338). -/
def fixedPorts (s : State) (val : Fld → Nat → Nat) : List Nat :=
  (List.range 128).filter (fun p =>
    let d := s.image.ports.getD p default
    d.kind == 1 || d.kind == 8 || d.kind == 9 || (d.kind == 2 && pairSvc s d.first (val SV_RED_SVC.mask d.first)))

/-- The drive budget at throttle step k (R58, R338). -/
def budgetAt (b k : Nat) : Nat := b * (16 - k) / 16

/-- The urgent reserve, rounded up (R58). -/
def reserveOf (b pct : Nat) : Nat := (b * pct + 99) / 100

/-- Rule 0x03: the budget covers the grants that are never withdrawn (R58). -/
def rule03 (s : State) : List Nat :=
  let b := budgetAt (s.eff HG_BUDGET_DRIVE.units) (s.get TH_STATUS.step)
  let u := reserveOf b (s.eff HG_URGENT.pct)
  let x := (fixedPorts s (fun f i => s.eff f i)).foldl (fun n p => n + s.eff HG_PORT_CFG.peak p) 0
  if b < u + x then [HG_BUDGET_DRIVE.addr] else []

/-- Rule 0x04: part ceiling and rail limits (R58). -/
def rule04 (s : State) : List Nat :=
  (if 3400 < s.eff HG_BUDGET_PART.units ∨ s.eff HG_BUDGET_DRIVE.units < s.eff HG_BUDGET_PART.units
    then [HG_BUDGET_PART.addr] else [])
  ++ (if s.image.i12 < s.eff HG_ILIM.i12_ma ∨ s.image.i5 < s.eff HG_ILIM.i5_ma then [HG_ILIM.addr] else [])

/-- How many bits of a mask are set. -/
def popCount (n mask : Nat) : Nat := (bitsOf n mask).length

/-- Rule 0x05: the pool is no larger than the flumes in service (R58). -/
def rule05 (s : State) : List Nat :=
  if popCount 32 (s.eff DP_FLUME_SVC.mask) < s.eff DP_POOL.count then [DP_POOL.addr] else []

/-- Head `h` is in service in the values a check evaluates. -/
def headSvc (s : State) (h : Nat) : Bool := s.eff MS_HEAD_SVC.in_service h == 1

/-- Rule 0x06: a flume is dedicated to one head, permitted, and both are in service (R58). -/
def rule06 (s : State) : List Nat :=
  (List.range 32).filterMap (fun f =>
    if s.eff DP_FLUME_ASSIGN.mode f = 1 then
      let h := s.eff DP_FLUME_ASSIGN.head f
      if s.image.permits f h && (s.eff DP_FLUME_SVC.mask).testBit f && headSvc s h then none
      else some (DP_FLUME_ASSIGN.addrOf f)
    else none)

/-- The lane rate a check uses: settled, or the lower of the cap and the limit (R58 rule 0x07). -/
def checkRate (s : State) (x : Nat) : Nat :=
  let settled := s.get HL_ULANE_STATUS.rate x
  let st := s.get HL_ULANE_STATUS.state x
  if settled ≠ 0 ∧ st ≠ 0 ∧ st ≠ 4 then settled
  else min (s.image.laneOpt.getD x 0 % 4) (s.get HL_ULANE_CTRL.rate_limit x)

/-- Rule 0x07: each head's samples fit its lane, and its downstream lane is not FAILED; a head can break both parts, and names a register
for each (R58). A staged DP_SURF_SET that names set 1 on an image of one set finds no band table and fails nothing here: R58 does not
speak of it (DESIGN CHOICE, log entry 94). -/
def rule07 (s : State) : List Nat :=
  (List.range 64).flatMap (fun h =>
    if headSvc s h && s.image.populated h then
      match s.image.laneOf h with
      | none => []
      | some x =>
        let su := s.image.surf h
        let bands := ((s.image.bandTable su (s.eff DP_SURF_SET.setSel su)).map (fun t => t.bands)).getD []
        let need := bands.any (fun b =>
          decide (rateKbps (checkRate s x) * 960 < s.eff HL_HEAD_CFG.readers h * b.rate * 1000 * b.sampleBits * 1024))
        let failed := match s.image.groupOf h with
          | some y => s.get HL_GROUP_STATUS.state y == 7
          | none => false
        let cfg := HL_HEAD_CFG.addrOf h
        let sel := DP_SURF_SET.addrOf su
        (if need then [if s.stagedSet.contains cfg then cfg else if s.stagedSet.contains sel then sel else cfg] else [])
          ++ (if failed then [MS_HEAD_SVC.addrOf h] else [])
    else [])

/-- Rule 0x08: heads out of service hold no flume and write no zone group; a head is set in service only on ACTIVE lanes
and not stale (R58). -/
def rule08 (s : State) : List Nat :=
  (List.range 64).filterMap (fun h =>
    if s.image.populated h then
      let held := (List.range 32).any (fun f => s.eff DP_FLUME_ASSIGN.mode f == 1 && s.eff DP_FLUME_ASSIGN.head f == h)
      let zoned := (List.range s.image.groups.length).any (fun g =>
        let home := s.eff ZX_ZG_HOME.home g
        home == h / 16 && ((s.image.comb (s.image.group g).comb).mask).testBit (h % 16))
      let outBad := !headSvc s h && (held || zoned)
      let laneUp := match s.image.laneOf h with | some x => s.get HL_ULANE_STATUS.state x == 2 | none => false
      let downUp := match s.image.groupOf h with | some y => s.get HL_GROUP_STATUS.state y == 5 | none => false
      let newly := headSvc s h && s.get MS_HEAD_SVC.in_service h == 0
      let inBad := newly && !(laneUp && downUp && s.get DP_HEAD_STATE.stale h == 0)
      if outBad || inBad then some (MS_HEAD_SVC.addrOf h) else none
    else none)

/-- An actuator is in service in the values a check evaluates. -/
def actSvc (s : State) (a : Nat) : Bool := pairSvc s a (s.eff SV_RED_SVC.mask a)

/-- Rule 0x09: the reference set names heads in service (R58). -/
def rule09 (s : State) : List Nat :=
  (List.range 4).filterMap (fun a =>
    if actSvc s a then
      let v := s.eff SV_LOOP.vcm_ref a
      let m := s.eff SV_LOOP.ma_closed a
      let bad := (List.range 16).any (fun k => (v.testBit k || m.testBit k) && !(headSvc s (16 * a + k)))
      if bad || v == 0 then some (SV_LOOP.addrOf a) else none
    else none)

/-- The comb map of an actuator for a set of its slots: the one with that slot set, else the one that shares the most slots (R275). -/
def Image.mapFor (m : Image) (a mask : Nat) : Option CombMap :=
  let mine := m.combs.filter (fun c => c.act == a)
  match mine.find? (fun c => c.mask == mask) with
  | some c => some c
  | none => mine.foldl (fun (b : Option CombMap) c =>
      let n := (bitsOf 16 (c.mask &&& mask)).length
      match b with
      | some x => if (bitsOf 16 (x.mask &&& mask)).length < n then some c else b
      | none => some c) none

/-- The slots by which an actuator of the pair reaches the surfaces of a comb: R17 gives each surface one head of each actuator. -/
def Image.twinSlots (m : Image) (c : CombMap) (a : Nat) : Nat :=
  (bitsOf 16 c.mask).foldl (fun n k =>
    match (List.range 16).find? (fun j => m.surf (16 * a + j) == m.surf (16 * c.act + k) && m.populated (16 * a + j)) with
    | some j => setBit n j
    | none => n) 0

/-- Rule 0x0A: every zone group has a home that can write it: a head in service on every surface that the group's comb reaches, and on the
twin also on every surface of the twin's own comb map for those slots (R58, R275). The row's last sentence is kept by the part itself,
which sets a zone Offline only where a surface is bare (R28, `offlineCheck`). -/
def rule0A (s : State) : List Nat :=
  (List.range s.image.groups.length).filterMap (fun g =>
    let d := s.image.group g
    let c := s.image.comb d.comb
    let home := s.eff ZX_ZG_HOME.home g
    let slots := if home = c.act then c.mask else
      let k := s.image.twinSlots c home
      match s.image.mapFor home k with
      | some t => k ||| t.mask
      | none => k
    let surfaces := (bitsOf 16 c.mask).map (fun k => s.image.surf (16 * c.act + k)) ++ (bitsOf 16 slots).map (fun k => s.image.surf (16 * home + k))
    let reach := surfaces.all (fun su => (List.range 16).any (fun k =>
      s.image.surf (16 * home + k) == su && headSvc s (16 * home + k)))
    if (home = d.home ∨ home = d.home ^^^ 2) ∧ actSvc s home ∧ reach then none else some (ZX_ZG_HOME.addrOf g))

/-- Rule 0x0B: power states map to profiles 0 to 4 (R58). -/
def rule0B (s : State) : List Nat :=
  if 4 < s.eff HIF_PS_MAP.ps0 ∨ 4 < s.eff HIF_PS_MAP.ps1 ∨ 4 < s.eff HIF_PS_MAP.ps2 then [HIF_PS_MAP.addr] else []

/-- The first violated rule, in the order of R58's table, and the lowest register it names (R57). -/
def firstViolation (s : State) : Option (Nat × Nat) :=
  [(1, rule01 s), (2, rule02 s), (3, rule03 s), (4, rule04 s), (5, rule05 s), (6, rule06 s), (7, rule07 s),
   (8, rule08 s), (9, rule09 s), (10, rule0A s), (11, rule0B s)].findSome? (fun p => (lowest p.2).map (fun a => (p.1, a)))

/-- The staged set names a unit. R26 gives no list of the registers that name one: the model takes those whose instance is the unit or
whose staged value selects it (DESIGN CHOICE, log entry 102). -/
def stagedNames (s : State) (u : LossUnit) : Bool :=
  let headNamed (h : Nat) : Bool := (stagedRegs s).any (fun (r, i, _) =>
    ((r.addr == HL_HEAD_CFG.addr || r.addr == MS_HEAD_SVC.addr || r.addr == SV_SLOT_CFG.addr) && i == h)
    || (r.addr == SV_MCOEF.addr && i / 20 == h)
    || (r.addr == DP_FLUME_ASSIGN.addr && s.eff DP_FLUME_ASSIGN.mode i == 1 && s.eff DP_FLUME_ASSIGN.head i == h)
    || (r.addr == SV_LOOP.addr && i == h / 16 &&
        ((s.eff SV_LOOP.vcm_ref i).testBit (h % 16) || (s.eff SV_LOOP.ma_closed i).testBit (h % 16))))
  match u with
  | .head h => headNamed h
  | .upLane x => headNamed (s.image.headOf x)
  | .downLane y => (s.image.groupHeads y).any headNamed
  | .flume f => (stagedRegs s).any (fun (r, i, _) =>
      (r.addr == DP_FLUME_ASSIGN.addr && i == f) || (r.addr == DP_FLUME_SVC.addr && (s.eff DP_FLUME_SVC.mask).testBit f))
  | .actuator a =>
    (s.image.actHeads a).any headNamed || (stagedRegs s).any (fun (r, i, _) =>
      (decide (r.addr / 0x100000 = 0x20D) && i / max (r.count / 4) 1 == a)
      || ((r.addr == WP_WU_THR.addr || r.addr == MC_VCM_CFG.addr) && i == a)
      || (r.addr == ZX_ZG_HOME.addr && s.eff ZX_ZG_HOME.home i == a))
  | .gddr d => (stagedRegs s).any (fun (r, _, _) => r.addr == BM_MAP.addr && (s.eff BM_MAP.devices).testBit d)
  | .hostLane _ => false
  | .engine e => (stagedRegs s).any (fun (r, i, _) => r.addr == SV_RED_SVC.addr && i == e / 2)

/-- A loss invalidates a passed check that names the unit, and cancels a commit armed on it (R26). -/
def scLoss (u : LossUnit) (s : State) : State :=
  let st := s.get SC_STATUS.state
  if (st = scChecked ∨ st = scArmed) ∧ stagedNames s u then scResult 9 (s.set SC_STATUS.state 0 scStaged) else s

/-- Forget the staged set and every staged copy. -/
def scDrop (s : State) : State := { s with staged := [], stagedSet := [] }

/-- A reset that returns the registers named to their reset values takes them out of the staged set; a passed check is
then invalidated and an armed commit cancelled with result 0x7 (R66). A check that is in progress runs on over what is left of the set:
R66 speaks of a passed check only (DESIGN CHOICE, log entry 103). -/
def scReset (gone : Reg → Nat → Bool) (s : State) : State :=
  let out := s.stagedSet.filter (fun a => match locateAddr a with | some (r, i, _) => gone r i | none => false)
  if out.isEmpty then s
  else
    let dropped := out.flatMap (fun a => match locateAddr a with
      | some (r, i, _) => r.flds.map (fun f => (f.id, i)) | none => [])
    let st := s.get SC_STATUS.state
    let s := { s with stagedSet := s.stagedSet.filter (fun a => !out.contains a),
                      staged := s.staged.filter (fun c => !dropped.contains c.1) }
    if st = scArmed then scResult 7 (s.set SC_STATUS.state 0 scStaged)
    else if st = scChecked then s.set SC_STATUS.state 0 scStaged
    else s

/-- CHECK: SC_CTRL.action 1 (R57). -/
def execCheck (s : State) : Res :=
  run true s (fun s =>
    let st := s.get SC_STATUS.state
    if st = scChecking ∨ st = scArmed then scResult 0xA s else s.set SC_STATUS.state 0 scChecking)

/-- CHECK_DONE: the check ends as CHECKED or FAILED (R57, R58). After a passed check SC_STATUS.reg_addr reads 0, which R57 does not state
(DESIGN CHOICE, log entry 103). -/
def execCheckDone (s : State) : Res :=
  run true s (fun s =>
    if s.get SC_STATUS.state = scChecking then
      let s := s.raise SC_INT.check_done
      match firstViolation s with
      | none => scResult 0 (((s.set SC_STATUS.state 0 scChecked).set SC_STATUS.rule 0 0).set SC_STATUS.reg_addr 0 0)
      | some (rule, addr) =>
        scResult 2 (((s.set SC_STATUS.state 0 scFailed).set SC_STATUS.rule 0 rule).set SC_STATUS.reg_addr 0 addr)
    else s)

/-- The instant that SC_CTRL and SC_INSTANT name cannot be met (R63). -/
def instantBad (s : State) : Bool :=
  let k := s.get SC_CTRL.instant_kind
  (k == 3 && decide (s.get SC_INSTANT.value < s.dtime))
  || (k == 1 && (!s.image.hasAct (s.get SC_CTRL.actuator) || decide (s.image.wedges ≤ s.get SC_INSTANT.value)))

/-- ARM_COMMIT: SC_CTRL.action 2 (R60, R63). The deadline of a wedge or index instant is fixed at arming: SC_DEADLINE, or
two revolutions after arming where it is 0 (R62). The commit stands as it was armed, whatever is written to SC_CTRL later (R60, log
entry 95). -/
def execArmCommit (s : State) : Res :=
  run true s (fun s =>
    let st := s.get SC_STATUS.state
    if st = scArmed then scResult 0xA s
    else if st ≠ scChecked then scResult 3 s
    else if instantBad s then scResult 5 s
    else
      let d := s.get SC_DEADLINE.dtime
      let s := s.set X.sc_deadline 0 (if d = 0 then s.dtime + 2 * s.image.revNs else d)
      let s := (s.set X.sc_kind 0 (s.get SC_CTRL.instant_kind)).set X.sc_act 0 (s.get SC_CTRL.actuator)
      let s := (s.set X.sc_miss 0 (s.get SC_CTRL.miss_action)).set X.sc_value 0 (s.get SC_INSTANT.value)
      (s.set X.sc_old 0 1).set SC_STATUS.state 0 scArmed)

/-- CANCEL_ARMED_COMMIT: SC_CTRL.action 3 (R60). -/
def execCancelArmedCommit (s : State) : Res :=
  run true s (fun s =>
    if s.get SC_STATUS.state = scArmed then scResult 8 (s.set SC_STATUS.state 0 scChecked) else s)

/-- DISCARD: SC_CTRL.action 4; an armed commit is cancelled first (R56). A discard while CHECKING ends that check without check_done, a case
that R56 leaves open (DESIGN CHOICE, log entry 103). -/
def execDiscard (s : State) : Res :=
  run true s (fun s =>
    let st := s.get SC_STATUS.state
    let s := if st = scArmed then scResult 8 s else s
    (scDrop s).set SC_STATUS.state 0 scIdle)

end Sys2Proof.Machine
end

