-- ==== Sys2Proof/Machine/Power.lean ====
section
/-! DEFINITION. The Headgate's pools, requests and grants (15_headgate.md, R337 to R344, R351): the operations every
consumer uses. The commands of the Headgate itself are in Headgate.lean. -/

namespace Sys2Proof.Machine

/-- Holder numbers: who holds or asks for a port. -/
def holderLink : Nat := 1
def holderSpindle : Nat := 2
def holderHeadgate : Nat := 3
def holderCompression : Nat := 4
def holderFlume (f : Nat) : Nat := 100 + f
def holderThread (q t : Nat) : Nat := 200 + 4 * q + t

/-- The kind of a port (R39). -/
def portKind (s : State) (p : Nat) : Nat := s.get HG_PORT_CFG.kind p

/-- The ports of the fixed grants (R338). -/
def isFixedPort (s : State) (p : Nat) : Bool := fixedKind (portKind s p)

/-- Effective drive budget B at the last rebalance (R337, R345). -/
def hgB (s : State) : Nat := s.get HG_POOL.b

/-- Effective part ceiling C at the last rebalance (R337, R345). -/
def hgC (s : State) : Nat := s.get X.hg_c

/-- Fixed grants X: the sum of the grants of R338. -/
def hgX (s : State) : Nat := (s.hgGrants.filter (fun g => isFixedPort s g.port)).foldl (fun n g => n + g.units) 0

/-- The urgent reserve U at the last rebalance (R337, R345). -/
def hgU (s : State) : Nat := s.get HG_POOL.u

/-- The general pool G (R337, R338). -/
def hgG (s : State) : Nat := hgB s - hgU s - hgX s

/-- Compute the pools: B and C at the throttle step, U, and the floor where B cannot hold X and U (R337, R338, R345). -/
def hgPools (s : State) : State :=
  let k := s.get TH_STATUS.step
  let b := budgetAt (s.get HG_BUDGET_DRIVE.units) k
  let u := reserveOf b (s.get HG_URGENT.pct)
  let x := hgX s
  let s := (s.set HG_POOL.step 0 k).set HG_POOL.b 0 b
  let s := s.set X.hg_c 0 (budgetAt (s.get HG_BUDGET_PART.units) k)
  if b < x + u then (s.set HG_POOL.u 0 (b - x)).raise HG_INT.floor else s.set HG_POOL.u 0 u

/-- Units held on G, units awaiting return included (R345). -/
def hgHeldG (s : State) : Nat :=
  (s.hgGrants.filter (fun g => !isFixedPort s g.port)).foldl (fun n g => n + (g.units - g.onU)) 0

/-- Units held on U. -/
def hgHeldU (s : State) : Nat := s.hgGrants.foldl (fun n g => n + g.onU) 0

/-- Part units of the grants in force. -/
def hgPart (s : State) : Nat := s.hgGrants.foldl (fun n g => n + s.get HG_PORT_CFG.part_units g.port) 0

/-- The grant of a port. -/
def grantOf (s : State) (p : Nat) : Option PowerGrant := s.hgGrants.find? (fun g => g.port == p)

/-- Change the grant of a port. -/
def updGrant (p : Nat) (f : PowerGrant → PowerGrant) (s : State) : State :=
  { s with hgGrants := s.hgGrants.map (fun x => if x.port = p then f x else x) }

/-- A port holds a grant that is not being withdrawn. -/
def hasGrant (s : State) (p : Nat) : Bool := s.hgGrants.any (fun g => g.port == p && !g.withdrawing)

/-- A port of a kind that serves an instance holds a grant. -/
def hasGrantFor (s : State) (kind inst : Nat) : Bool :=
  match s.image.portOf kind inst with
  | some p => hasGrant s p
  | none => false

/-- A flume's power follows the grant of its port (R103). -/
def flumePower (p : Nat) (on : Bool) (s : State) : State :=
  if portKind s p = 6 then
    let f := s.get HG_PORT_CFG.first p
    let s := s.set DP_FLUME_STATUS.power f (b2n on)
    if s.get DP_FLUME_STATUS.state f ≤ 1 then s.set DP_FLUME_STATUS.state f (b2n on) else s
  else s

/-! The compression engines under their port. -/

/-- The compression engines' port. -/
def cxPort (s : State) : Option Nat := s.image.portOf 7 0

/-- The engines' grant is in force; where the image gives them no port they need none. -/
def cxGranted (s : State) : Bool := match cxPort s with | some p => hasGrant s p | none => true

/-- The kind-7 port may draw on the urgent reserve (R291). -/
def cxReserve (s : State) : Bool := match cxPort s with | some p => (s.get HG_PORT_CFG.flags p).testBit 0 | none => false

/-- A job runs: with the grant, or as the expansion of a covered urgent chunk on the urgent reserve (R291). -/
def cxMay (s : State) (j : CxJob) : Bool := cxGranted s || (j.kind != 0 && j.covered && cxReserve s)

/-- Show an engine's state. -/
def engShow (e : Nat) (s : State) : State :=
  if s.get CX_ENG_STATUS.state e = 5 then s
  else
    let run_ := KV.get s.cxRun e
    let st := match run_ with
      | some j => if j.kind = 0 then 2 else 3
      | none => if s.get CX_ENG_STATUS.state e = 0 then 0 else if s.get CX_ENG_STATUS.state e = 4 && !cxGranted s then 4 else 1
    let held := (KV.get s.cxSusp e).isSome || (match run_ with | some j => !cxMay s j | none => false)
    let s := (s.set CX_ENG_STATUS.state e st).set CX_ENG_STATUS.suspended e (b2n held)
    s.set CX_ENG_STATUS.level e (match run_ with | some j => if j.kind = 0 then j.level else 0 | none => 0)

/-- Show every engine. -/
def cxShow (s : State) : State := s.each (List.range 8) engShow

/-- The rank of a job (R292). -/
def cxRank (s : State) (j : CxJob) : Nat :=
  if j.kind != 0 && j.covered then 1
  else if j.kind = 0 then (if s.get CX_CFG.age_us * 1000 < s.dtime - j.since then 2 else 4)
  else 3

/-- Report a port's grant in HG_PORT_STATUS; a flume's power and the engines' states follow it (R103, R291). -/
def hgReport (p : Nat) (s : State) : State :=
  let s := flumePower p (grantOf s p).isSome s
  let s := if portKind s p = 7 then cxShow s else s
  let waiting := s.hgReqs.any (fun r => r.port == p)
  match grantOf s p with
  | some g =>
    let s := s.set HG_PORT_STATUS.state p (if g.withdrawing then 3 else 2)
    let s := s.set HG_PORT_STATUS.on_reserve p (b2n (g.onU != 0))
    let s := s.set HG_PORT_STATUS.holders p (min g.holders.length 15)
    s.set HG_PORT_STATUS.units p g.units
  | none =>
    let s := s.set HG_PORT_STATUS.state p (b2n waiting)
    ((s.clear HG_PORT_STATUS.on_reserve p).clear HG_PORT_STATUS.holders p).clear HG_PORT_STATUS.units p

/-- X as R342 counts it: the peaks of the fixed-grant ports. -/
def hgPeakX (s : State) : Nat :=
  (fixedPorts s (fun f i => s.get f i)).foldl (fun n p => n + s.get HG_PORT_CFG.peak p) 0

/-- A request that can never be granted (R342). -/
def hgOversize (s : State) (p units : Nat) : Bool :=
  let b := s.get HG_BUDGET_DRIVE.units
  decide (b < units + reserveOf b (s.get HG_URGENT.pct) + hgPeakX s)
    || decide (s.get HG_BUDGET_PART.units < s.get HG_PORT_CFG.part_units p)

/-- A request waits; one that can never be granted is reported (R339, R342). -/
def hgWait (p u : Nat) (urgent : Bool) (holder : Nat) (spinUp : Bool) (s : State) : State :=
  let r : PowerReq := { port := p, units := u, urgent := urgent, holder := holder, since := s.dtime, spinUp := spinUp }
  let s : State := { s with hgReqs := s.hgReqs.filter (fun (x : PowerReq) => !(x.port == p && x.holder == holder)) ++ [r] }
  hgReport p (if hgOversize s p u && !isFixedPort s p then (s.set HG_PORT_STATUS.oversize p 1).raise HG_INT.oversize else s)

/-- Ask for a port: a covering grant gains a holder at once, any other request waits (R339, R342). -/
def hgRequest (p units : Nat) (urgent : Bool) (holder : Nat) (spinUp : Bool) (s : State) : State :=
  let u := if units = 0 then s.get HG_PORT_CFG.peak p else units
  match grantOf s p with
  | some g =>
    if !g.withdrawing && decide (u ≤ g.units) then
      let hs := g.holders.filter (fun (h : PowerHolder) => h.holder != holder) ++ [({ holder := holder, units := u, urgent := urgent } : PowerHolder)]
      hgReport p (updGrant p (fun x => { x with holders := hs }) s)
    else hgWait p u urgent holder spinUp s
  | none => hgWait p u urgent holder spinUp s

/-- A grant's units return to the pools (R339, R340). -/
def hgReturn (p : Nat) (s : State) : State :=
  hgReport p { s with hgGrants := s.hgGrants.filter (fun g => g.port != p) }

/-- A holder withdraws its waiting request. -/
def hgCancel (p holder : Nat) (s : State) : State :=
  let s : State := { s with hgReqs := s.hgReqs.filter (fun (x : PowerReq) => !(x.port == p && x.holder == holder)) }
  let s := if s.hgReqs.any (fun x => x.port == p) then s else (s.clear HG_PORT_STATUS.oversize p).clear X.hg_starved p
  hgReport p s

/-- A holder releases a port: the units return when the last holder has released them (R339). -/
def hgRelease (p holder : Nat) (s : State) : State :=
  let s := hgCancel p holder { s with sqPwd := s.sqPwd.filter (fun x => !(200 + x.1 == holder && x.2 == p)) }
  match grantOf s p with
  | none => s
  | some g =>
    let hs := g.holders.filter (fun h => h.holder != holder)
    if hs.isEmpty then hgReturn p s
    else
      let u := hs.foldl (fun n h => max n h.units) 0
      hgReport p (updGrant p (fun x => { x with holders := hs, units := u, onU := min x.onU u }) s)

/-- Power the group a port names; after the thermal cutoff no domain is powered (R351, R359). -/
def hgPowerGroup (p : Nat) (s : State) : State :=
  let g := s.get HG_PORT_CFG.group p
  if g = 0 ∨ s.on TH_STATUS.cutoff then s else s.setBitOf HG_GROUP_STATUS.on 0 g

/-- Make a grant of `units` to a holder, `onU` of the units that it lacks drawn on U, with its group powered; a grant that holds more keeps
it (R339, R341, R344). -/
def hgGrant (p units : Nat) (h : PowerHolder) (onU : Nat) (s : State) : State :=
  let n := s.get X.hg_order
  let s := s.set X.hg_order 0 (n + 1)
  let s : State := match grantOf s p with
    | some g => updGrant p (fun x =>
        { x with units := max units x.units, onU := x.onU + onU, holders := g.holders.filter (fun (y : PowerHolder) => y.holder != h.holder) ++ [h], order := n }) s
    | none => { s with hgGrants := s.hgGrants ++
        [{ port := p, units := units, holders := [h], order := n, onU := onU, withdrawing := false }] }
  let s : State := { s with hgReqs := s.hgReqs.filter (fun (x : PowerReq) => !(x.port == p && x.holder == h.holder)) }
  let s := (s.clear HG_PORT_STATUS.oversize p).clear X.hg_starved p
  hgReport p (hgPowerGroup p s)

/-- Take the notice of a withdrawal: the grant counts as held until its units return (R345). -/
def hgNotice (p : Nat) (s : State) : State :=
  let threads := match grantOf s p with
    | some g => (g.holders.filter (fun h => decide (200 ≤ h.holder))).map (fun h => (h.holder - 200, p))
    | none => []
  let s := updGrant p (fun x => { x with withdrawing := true }) { s with sqPwd := s.sqPwd ++ threads }
  let s := (s.inc HG_PORT_STATUS.withdrawals p).raise HG_INT.withdraw
  hgReport p s

/-- Make the fixed grants: the Cistern and core cluster after the load, the voice coils of pairs in service (R338). -/
def hgFixedGrants (s : State) : State :=
  let ports := (List.range 128).filter (fun p =>
    let k := portKind s p
    (k == 8 || k == 9 || (k == 2 && pairSvc s (s.get HG_PORT_CFG.first p) (s.get SV_RED_SVC.mask (s.get HG_PORT_CFG.first p)))) && !hasGrant s p)
  s.each ports (fun p t =>
    let u := t.get HG_PORT_CFG.peak p
    hgGrant p u { holder := holderHeadgate, units := u, urgent := false } 0 t)

/-- Whether a waiting request may be granted now, and the units that it draws on U: it draws the units it lacks first on U where it is urgent
and its port may, then on G (R337, R339, R344). A grant that covers it by now serves it at once. While withdrawn units have not returned
nothing is drawn on G (R345). -/
def hgFits (s : State) (r : PowerReq) : Option Nat :=
  let have_ := match grantOf s r.port with | some g => g.units | none => 0
  let need := r.units - have_
  let partNeed := if (grantOf s r.port).isSome then 0 else s.get HG_PORT_CFG.part_units r.port
  let withdrawing := match grantOf s r.port with | some g => g.withdrawing | none => false
  let blocked := (s.on X.hg_stagger && (s.get HG_PORT_CFG.flags r.port).testBit 1)
    || (s.get HG_CTRL.enable == 0 && !isFixedPort s r.port)
    || (!isFixedPort s r.port && hgOversize s r.port r.units)
  let u := if r.urgent && (s.get HG_PORT_CFG.flags r.port).testBit 0 then min need (hgU s - hgHeldU s) else 0
  let g := need - u
  if withdrawing then none
  else if (grantOf s r.port).isSome && need == 0 then some 0
  else if blocked || hgC s < hgPart s + partNeed then none
  else if g = 0 then some u
  else if s.hgGrants.any (fun x => x.withdrawing && decide (x.onU < x.units)) then none
  else if isFixedPort s r.port then (if hgHeldG s + hgX s + hgU s + g ≤ hgB s then some 0 else none)
  else if hgHeldG s + g ≤ hgG s then some u
  else none

/-- The rank of a request in R341's order. -/
def hgRank (r : PowerReq) : Nat := if r.spinUp then 0 else if r.urgent then 1 else 2

/-- The order of R341: rank, then DTIME of issue. -/
def hgOrdered (s : State) : List PowerReq :=
  (s.hgReqs.filter (fun r => hgRank r == 0)) ++ (s.hgReqs.filter (fun r => hgRank r == 1)) ++ (s.hgReqs.filter (fun r => hgRank r == 2))

/-- The first request of the order that may be granted: it fits, and no starved non-urgent request stands ahead of a
non-urgent one (R341). -/
def hgNext (s : State) : Option (PowerReq × Nat) :=
  let step (acc : Bool × Option (PowerReq × Nat)) (r : PowerReq) : Bool × Option (PowerReq × Nat) :=
    match acc with
    | (blocked, some x) => (blocked, some x)
    | (blocked, none) =>
      let fits := hgFits s r
      let mayPass := !(blocked && hgRank r == 2)
      match fits with
      | some onU => if mayPass then (blocked, some (r, onU)) else (blocked, none)
      | none =>
        let starves := hgRank r == 2 && s.on X.hg_starved r.port && s.get HG_PORT_STATUS.oversize r.port == 0
        (blocked || starves, none)
  ((hgOrdered s).foldl step (false, none)).2

end Sys2Proof.Machine
end

