-- ==== Sys2Proof/Machine/Frames.lean ====
section
/-! DEFINITION. Frames of the head link (04_head_link.md, R69 to R78, R82): line coding, the scrambler, the layout of a frame, its
messages and samples, and how a downstream lane sends one. A frame is a number of 1,024 bits, bit 1023 sent first. -/

namespace Sys2Proof.Machine

/-! Line coding (R69). -/

/-- The two bits of a PAM4 symbol by the Gray map: 00 → −3, 01 → −1, 11 → +1, 10 → +3 (R69). -/
def grayBits (l : Int) : Nat := if l = -3 then 0 else if l = -1 then 1 else if l = 1 then 3 else 2

/-- The level of two bits (R69). -/
def grayLevel (b : Nat) : Int := if b = 0 then -3 else if b = 1 then -1 else if b = 3 then 1 else 3

/-- The line bits of a frame's symbols: 512 in PAM4, two bits each with the first the more significant, else 1,024 in NRZ. R69 gives
levels for PAM4 only; in NRZ +1 stands for a 1 and −1 for a 0 (DEDUCED, log entry 105). -/
def lineBits (levels : List Int) : Nat :=
  if levels.length = 512 then levels.foldl (fun n l => 4 * n + grayBits l) 0
  else levels.foldl (fun n l => 2 * n + b2n (decide (0 < l))) 0

/-- The symbols of a frame's line bits. -/
def lineLevels (pam4 : Bool) (n : Nat) : List Int :=
  if pam4 then (List.range 512).map (fun i => grayLevel (n / 4 ^ (511 - i) % 4))
  else (List.range 1024).map (fun i => if n.testBit (1023 - i) then 1 else -1)

/-- The polarity of a lane: inverted where lane_opt bit 2 is set (R69). -/
def polarity (opt : Nat) (levels : List Int) : List Int := if opt.testBit 2 then levels.map (fun l => -l) else levels

/-- The self-synchronising scrambler 1 + x³⁹ + x⁵⁸ over a frame, first bit first: the line bits, and the last 58 sent (R69). -/
def scramble (reg frame : Nat) : Nat × Nat :=
  (List.range 1024).foldl (fun (p : Nat × Nat) i =>
    let b := b2n (frame.testBit (1023 - i) != (p.2.testBit 38 != p.2.testBit 57))
    (2 * p.1 + b, (2 * p.2 + b) % 2 ^ 58)) (0, reg)

/-- The descrambler: each bit with the line bits 39 and 58 before it, the last 58 of the frame before standing in `reg` (R69). -/
def descramble (reg line : Nat) : Nat :=
  let t := reg * 2 ^ 1024 + line
  (line ^^^ (t / 2 ^ 39) ^^^ (t / 2 ^ 58)) % 2 ^ 1024

/-- The next bits of PRBS-31, x³¹ + x²⁸ + 1, most significant first, and the state after them (R73). The polynomial is the usual one of
that name (PRESUMED, log entry 105). -/
def prbs31 (n st : Nat) : List Bool × Nat :=
  (List.range n).foldl (fun (p : List Bool × Nat) _ =>
    let b := p.2.testBit 30 != p.2.testBit 27
    (p.1 ++ [b], (2 * p.2 + b2n b) % 2 ^ 31)) ([], st)

/-! The frame (R70). -/

/-- Bits as a number, the first the most significant. -/
def bitsNat (l : List Bool) : Nat := l.foldl (fun n b => 2 * n + b2n b) 0

/-- The `w` bits of a number, the most significant first. -/
def natBits (w n : Nat) : List Bool := (List.range w).map (fun i => n.testBit (w - 1 - i))

/-- Bytes as bits, each with its most significant bit first (R70). -/
def byteBits (l : List Nat) : List Bool := l.flatMap (natBits 8)

/-- A number's `n` bytes, the most significant first. -/
def beBytes (v n : Nat) : List Byte := (List.range n).map (fun i => BitVec.ofNat 8 (v / 2 ^ (8 * (n - 1 - i))))

/-- The header of a frame, bits 1023:992. -/
def frameHeader (f : Nat) : Nat := f / 2 ^ 992 % 2 ^ 32

/-- Payload byte b: payload bits 8b to 8b + 7, where payload bit p is frame bit 991 − p (R70). -/
def payloadByte (f b : Nat) : Nat := f / 2 ^ (984 - 8 * b) % 256

/-- The first `n` payload bytes. -/
def payloadBytes (f n : Nat) : List Nat := (List.range n).map (payloadByte f)

/-- The `w` payload bits from bit p on, most significant first. -/
def payloadField (f p w : Nat) : Nat := f / 2 ^ (992 - p - w) % 2 ^ w

/-- CRC-32C over frame bits 1023:32, taken as 124 bytes in transmission order (R70). -/
def frameCrc (f : Nat) : Nat := crc32c (beBytes (f / 2 ^ 32) 124)

/-- The frame's CRC is good: bit 31 of it is sent first (R70). -/
def crcGood (f : Nat) : Bool := f % 2 ^ 32 == frameCrc f

/-- A frame of a header and up to 960 payload bits; unused payload bits are zero (R70, R74). -/
def mkFrame (header : Nat) (payload : List Bool) : Nat :=
  let p := payload.take 960
  let f := (header % 2 ^ 32 * 2 ^ 960 + bitsNat p * 2 ^ (960 - p.length)) * 2 ^ 32
  f + frameCrc f

/-! Upstream header (R71). -/

/-- Frame types (R73). -/
def frmIdle : Nat := 0
def frmData : Nat := 1
def frmNeg : Nat := 2
def frmTrain : Nat := 3

/-- Frame types a receiver accepts (R73). -/
def frameTypeOk (t : Nat) : Bool := t ≤ 3

/-- type, bits 31:28. -/
def hdrType (f : Nat) : Nat := frameHeader f / 2 ^ 28
/-- seq, bits 27:25. -/
def hdrSeq (f : Nat) : Nat := frameHeader f / 2 ^ 25 % 8
/-- v, bit 24: the RA samples come from reader V. -/
def hdrV (f : Nat) : Bool := (frameHeader f).testBit 24
/-- nsmp, bits 23:16: sample times carried. -/
def hdrNsmp (f : Nat) : Nat := frameHeader f / 2 ^ 16 % 256
/-- ct_len, bits 15:8: CT bytes at the start of the payload. -/
def hdrCtLen (f : Nat) : Nat := frameHeader f / 2 ^ 8 % 256
/-- dok, bit 7. -/
def hdrDok (f : Nat) : Bool := (frameHeader f).testBit 7
/-- sidx, bits 6:0. -/
def hdrSidx (f : Nat) : Nat := frameHeader f % 128

/-- The CT bytes of a frame: ct_len is at most 120 and a multiple of 4; a frame that says otherwise is read to the multiple below and to
120 (R71; DESIGN CHOICE, log entry 105). -/
def ctBytes (f : Nat) : List Nat := payloadBytes f (min 120 (hdrCtLen f / 4 * 4))

/-- The sample times of a DATA frame: RA, and RB in layout 0, two's complement of the sample width, most significant bit first (R74).
Sample times beyond the 960 payload bits, which R74 forbids, are not there to read (DESIGN CHOICE, log entry 105). -/
def frameSamples (f readers width : Nat) : List (Int × Int) :=
  let start := 8 * (ctBytes f).length
  let n := min (hdrNsmp f) ((960 - start) / (readers * width))
  (List.range n).map (fun i =>
    let p := start + i * readers * width
    (signed width (payloadField f p width), if readers = 2 then signed width (payloadField f (p + width) width) else 0))

/-! Messages (R77). -/

/-- The length of a message by bits 7:6 of its opcode; none for the reserved 0b11 (R77). -/
def msgLen (op : Nat) : Option Nat :=
  match op / 64 % 4 with
  | 0 => some 4
  | 1 => some 8
  | 2 => some 16
  | _ => none

/-- The messages of CT bytes, in order. A reserved opcode is discarded; its length is not stated, so nothing after it in the frame is
read; bytes short of a whole message are dropped, since a message never spans frames (R77; DESIGN CHOICE, log entry 105). -/
def ctMessages : Nat → List Nat → List (List Nat)
  | 0, _ => []
  | _ + 1, [] => []
  | k + 1, op :: r =>
    match msgLen op with
    | none => []
    | some n => if n ≤ r.length + 1 then (op :: r).take n :: ctMessages k ((op :: r).drop n) else []

/-- A little-endian field of a message's bytes (R70). -/
def msgNat (m : List Nat) (o n : Nat) : Nat := ((m.drop o).take n).foldr (fun b v => b + 256 * v) 0

/-- The bytes of a downstream message: opcode, slot, data, zeros up to its length (R77). -/
def CtMsg.bytes (m : CtMsg) : List Nat :=
  let n := (msgLen m.op).getD 4
  ((m.op % 256 :: m.slot % 256 :: m.data) ++ List.replicate 16 0).take n

/-! Negotiation messages (R82). -/

/-- FE_CAP, by its payload bytes (R82). -/
def feCapOf (p : List Byte) : FeCapMsg :=
  let m := p.map (fun b => b.toNat)
  { version := msgNat m 1 1, ident := msgNat m 2 2, rev := msgNat m 4 1, slot := msgNat m 5 1, upRates := msgNat m 6 1,
    downRates := msgNat m 7 1, widths := msgNat m 8 1, readers := msgNat m 9 1, assist := msgNat m 10 1, maxRate := msgNat m 12 2,
    assistMin := msgNat m 14 2, assistMax := msgNat m 16 2, fifo := msgNat m 18 2, aeLatency := msgNat m 20 2, wrLatency := msgNat m 22 2 }

/-- PART_CAP: version 0x10, identity 0x6440, downstream rates 28.125 and 56.25, and the group (R82). -/
def partCap (y : Nat) : List Nat := [0x02, 0x10, 0x40, 0x64, 0x06, y]

/-- SET: the downstream rate code, the upstream rate code, sample widths and layout of each of the group's four slots, and the assist type.
A slot whose lane takes no part is off (R82). -/
def setMessage (s : State) (y : Nat) : List Nat :=
  let lanes := (s.image.groupSlots y).map (fun h => (s.image.laneOf h).filter (fun x => s.on X.hl_lane_ok x))
  let each := fun (f : Fld) => (List.range 4).map (fun j => match (lanes.getD j none) with | some x => s.get f x | none => 0)
  [0x03, s.get HL_GROUP_STATUS.down_rate y] ++ each HL_ULANE_STATUS.rate ++ each HL_ULANE_STATUS.widths ++ each HL_ULANE_STATUS.layout
    ++ [s.get HL_GROUP_STATUS.assist y]

/-- GO (R82). -/
def goMessage : List Nat := [0x05]

/-! Sending a downstream frame. -/

/-- The downstream header: type, seq, ka, a wg and an ae bit for each slot of the group, ct_len, imm (R72). -/
def downHeader (ty seq ka wg ae ctLen imm : Nat) : Nat :=
  ty * 2 ^ 28 + seq % 8 * 2 ^ 25 + ka % 2 * 2 ^ 24 + wg % 16 * 2 ^ 20 + ae % 16 * 2 ^ 16 + ctLen % 256 * 2 ^ 8 + imm % 2 * 2 ^ 7

/-- The bits of a group's four slots by a one-bit field of their heads. -/
def slotMask (s : State) (y : Nat) (f : Fld) : Nat :=
  (List.range 4).foldl (fun n j => match (s.image.groupSlots y)[j]? with
    | some h => n + s.get f h * 2 ^ j
    | none => n) 0

/-- The payload of a DATA frame: the CT bytes, the count word, and the WR bits of each slot in ascending order (R75). -/
def dataPayload (ct : List Nat) (wr : List (List Bool)) : List Bool :=
  byteBits ct ++ byteBits ((List.range 4).map (fun k => (wr.getD k []).length)) ++ wr.flatten

/-- Send one frame on a downstream lane: the next seq, the gates and assists as they stand, the payload; scrambled, mapped to symbols at
the settled rate, inverted where lane_opt says so (R69 to R73, R75). Handshake mode is NRZ (R68). -/
def sendFrame (y ty : Nat) (ka imm : Bool) (ctLen : Nat) (payload : List Bool) (s : State) : State :=
  let h := downHeader ty (s.get X.hl_tx_seq y) (b2n ka) (slotMask s y WP_HEAD_STATE.gate) (slotMask s y WP_HEAD_STATE.ae) ctLen (b2n imm)
  let f := mkFrame h payload
  let l := scramble (s.get X.hl_scr y) f
  let pam4 := ty != frmNeg && s.get HL_GROUP_STATUS.down_rate y == 3
  let levels := polarity (s.image.laneOpt.getD (64 + y) 0) (lineLevels pam4 l.1)
  let s := (s.incWrap X.hl_tx_seq y).set X.hl_scr y l.2
  { s with downFrame := KV.put natLt s.downFrame y f, downLine := KV.put natLt s.downLine y levels }

/-- A NEG frame with a negotiation message; in handshake mode every frame carries ka while the generator runs (R73, R81, R87). -/
def sendNeg (y : Nat) (m : List Nat) (s : State) : State :=
  sendFrame y frmNeg (s.on HL_GROUP_STATUS.ka_active y) false 0 (byteBits m) s

/-- A TRAIN frame: CT bytes, then PRBS-31 that continues across frames (R73). -/
def sendTrain (y : Nat) (ka : Bool) (ct : List Nat) (s : State) : State :=
  let p := prbs31 (960 - 8 * ct.length) (s.get X.hl_prbs y)
  sendFrame y frmTrain ka false ct.length (byteBits ct ++ p.1) (s.set X.hl_prbs y p.2)

/-- A frame with CT bytes in the type of the group's state: TRAIN in training, IDLE in ACTIVE (R73, R84, R85). -/
def sendCt (y : Nat) (ka : Bool) (ct : List Nat) (s : State) : State :=
  if s.get HL_GROUP_STATUS.state y = 4 then sendTrain y ka ct s else sendFrame y frmIdle ka false ct.length (byteBits ct) s

/-- A DATA frame with WR bits for the slots of a group; `imm` drops at once every gate whose wg bit is 0 (R75). -/
def sendData (y : Nat) (imm : Bool) (wr : List (List Bool)) (s : State) : State :=
  sendFrame y frmData false imm 0 (dataPayload [] wr) s

/-! Queuing a message (R77, R78, R479). -/

/-- CT bytes travel from TRAIN to ACTIVE (R479). -/
def carriesCt (s : State) (y : Nat) : Bool := s.get HL_GROUP_STATUS.state y == 4 || s.get HL_GROUP_STATUS.state y == 5

/-- Messages that are answered: by ACK, TXEQ_ACK or REG_DATA (R78). -/
def isAcked (op : Nat) : Bool := [0x01, 0x02, 0x03, 0x04, 0x06, 0x07, 0x08, 0x09, 0x0A, 0x40, 0x41, 0x42, 0x43, 0x80].contains op

/-- Send a message in a frame of its own; RESUME travels in a frame that carries a keepalive (R77, R88). -/
def ctEmit (y : Nat) (m : CtMsg) (s : State) : State := sendCt y (m.op == 0x01 && s.on HL_GROUP_STATUS.ka_active y) m.bytes s

/-- Queue a CT message: sent where the group carries CT, held otherwise (R479, log entry 14). -/
def ctQueue (y : Nat) (m : CtMsg) (s : State) : State :=
  if carriesCt s y then
    let s := ctEmit y m s
    if isAcked m.op then { s with ctSent := kset [] s.ctSent y (KV.getD s.ctSent y [] ++ [{ m with tries := m.tries + 1 }]) } else s
  else { s with ctHeld := kset [] s.ctHeld y (KV.getD s.ctHeld y [] ++ [m]) }

/-- A message of the part's own. -/
def ctPart (y slot op : Nat) (data : List Nat) (s : State) : State :=
  ctQueue y { slot := slot, op := op, data := data, fw := false, tries := 0 } s

/-- Tell a head's front-end its sample width and clock, unless it has acknowledged them or is being told (R78, R123). -/
def sendClk (h width khz : Nat) (s : State) : State :=
  let data := [width, 0] ++ (leBytes khz 4).map (fun b => b.toNat)
  match s.image.groupOf h with
  | none => s
  | some y =>
    let told := (KV.getD s.ctSent y [] ++ KV.getD s.ctHeld y []).filter (fun m => m.op == 0x42 && m.slot == h % 16)
    if told.any (fun m => m.data == data) ∨ (told.isEmpty ∧ s.get X.hl_width h = width ∧ s.get X.hl_clk h = khz) then s
    else ctPart y (h % 16) 0x42 data s

end Sys2Proof.Machine
end

