-- ==== Sys2Proof/Machine/Signal.lean ====
section
/-! DEFINITION. The signal chain of a flume and the sector format (05_detection.md, R110 to R119, R128, R132; 06_write_path.md, R140, R150):
what the samples of a sector become, by the calibration record, and the bits of a sector. Where the spec gives a stage and not its
arithmetic, the stage is an uninterpreted function of Config (log entry 107). -/

namespace Sys2Proof.Machine

/-! The calibration record (R125). -/

/-- A signed field of a 64-bit word. -/
def sfield (v lo w : Nat) : Int := signed w (v / 2 ^ lo)

/-- Taps 0 to 23 of a record, six a word from word `w` on (R125). -/
def recTaps (rec : List Nat) (w : Nat) : List Int :=
  (List.range 24).map (fun i => sfield (rec.getD (w + i / 6) 0) (10 * (i % 6)) 10)

/-- What of a record adapts (R128), as the working copy holds it. -/
structure Work where
  gain : Int
  freq : Int
  dcA : Int
  dcB : Int
  tapsA : List Int
  tapsB : List Int
  weightA : Int
  weightB : Int
  /-- Words 11 to 13: predictor taps and variance codes. -/
  noise : List Nat
  deriving DecidableEq, Repr

/-- The working copy as a record starts it (R128). -/
def workOf (rec : List Nat) : Work :=
  let w0 := rec.getD 0 0
  let w9 := rec.getD 9 0
  { gain := (w0 / 2 ^ 48 % 256 : Nat), freq := sfield w0 32 16, dcA := sfield w0 24 8, dcB := sfield w0 16 8,
    tapsA := recTaps rec 1, tapsB := recTaps rec 5, weightA := sfield w9 52 12, weightB := sfield w9 40 12,
    noise := [rec.getD 11 0, rec.getD 12 0, rec.getD 13 0] }

/-- The words of a working copy, with the record's other fields as they were (R125, R128). -/
def workWords (rec : List Nat) (w : Work) : List Nat :=
  let taps := fun (l : List Int) (k : Nat) => (List.range 6).foldl (fun n i => n + toBits 10 (l.getD (6 * k + i) 0) * 2 ^ (10 * i)) 0
  let w0 := toBits 8 w.gain * 2 ^ 48 + toBits 16 w.freq * 2 ^ 32 + toBits 8 w.dcA * 2 ^ 24 + toBits 8 w.dcB * 2 ^ 16
  let w9 := toBits 12 w.weightA * 2 ^ 52 + toBits 12 w.weightB * 2 ^ 40
  [w0] ++ (List.range 4).map (taps w.tapsA) ++ (List.range 4).map (taps w.tapsB) ++ [w9, rec.getD 10 0] ++ w.noise
    ++ [rec.getD 14 0, rec.getD 15 0]

/-- The coefficients g0 to g3 of a target, g3 ignored with length 3 (R115). -/
def targetOf (word len : Nat) : List Int := (List.range (if len = 3 then 3 else 4)).map (fun i => sfield word (10 * i) 10)

/-! The stages (R112 to R115). -/

/-- How a sector is to be processed: its record, target, number of readers and sample width, the reader weights' split, the loop and
adaptation exponents, and whether it adapts (R104, R113 to R115, R128, R129). -/
structure Chain where
  rec_ : List Nat
  target : List Int
  readers : Nat
  width : Nat
  weightSel : Nat
  kp : Nat
  ki : Nat
  muTap : Nat
  muWeight : Nat
  muGain : Nat
  adapt : Bool
  deriving DecidableEq, Repr

/-- A 5-bit sample on the 6-bit scale (R112). -/
def scale6 (width : Nat) (x : Int) : Int := if width = 5 then 2 * x else x

/-- Sample n of a list, zero outside it. -/
def sampleAt (l : List Int) (n : Int) : Int := if n < 0 then 0 else l.getD n.toNat 0

/-- Reader B delayed by align_int whole samples and align_frac in 1/64 of one, by an 8-tap interpolator (R112). -/
def alignB (rec : List Nat) (b : List Int) (n : Nat) : Int :=
  let w9 := rec.getD 9 0
  let at_ : Int := (n : Int) - sfield w9 34 6
  Config.interpolate (w9 / 2 ^ 28 % 64) ((List.range 8).map (fun i => sampleAt b (at_ - (i : Nat) + 3)))

/-- A 24-tap FIR at sample n: tap i on the sample i before it (R113). -/
def firAt (taps x : List Int) (n : Nat) : Int :=
  (List.range 24).foldl (fun y i => y + taps.getD i 0 * sampleAt x ((n : Int) - (i : Nat))) 0

/-- The reader weights in use: the record's, or its total split k/16 to reader B; reader A alone in layout 1 (R104, R113). -/
def weightsOf (c : Chain) (w : Work) : Int × Int :=
  let t := w.weightA + w.weightB
  if c.readers = 1 then (w.weightA, 0)
  else if c.weightSel = 0 then (w.weightA, w.weightB)
  else (t * (16 - (c.weightSel : Int)) / 16, t * (c.weightSel : Int) / 16)

/-- The sum of g_i times the level of the bit i before (R128). -/
def targetLevel (g : List Int) (bits : List Bool) (n : Nat) : Int :=
  (List.range g.length).foldl (fun y i => if i ≤ n then y + g.getD i 0 * Config.bitLevel (bits.getD (n - i) false) else y) 0

/-- What the chain has made of the samples so far: the combined stream, the equaliser output, the tentative decisions, the errors, and the
working copy. -/
structure Chained where
  comb : List Int
  y : List Int
  bits : List Bool
  err : List Int
  work : Work
  deriving DecidableEq, Repr

/-- The working copy after one sample: taps by sign-data LMS, both weights together, gain, DC and noise figures (R128). -/
def adaptStep (c : Chain) (a b : List Int) (n : Nat) (e ya yb : Int) (w : Work) : Work :=
  let tap := fun (x : List Int) (taps : List Int) =>
    (List.range 24).map (fun i => Config.lmsStep (8 + c.muTap) (taps.getD i 0) (e * (sampleAt x ((n : Int) - (i : Nat))).sign))
  { w with
    tapsA := tap a w.tapsA
    tapsB := if c.readers = 1 then w.tapsB else tap b w.tapsB
    weightA := Config.lmsStep (8 + c.muWeight) w.weightA (e * ya)
    weightB := if c.readers = 1 then w.weightB else Config.lmsStep (8 + c.muWeight) w.weightB (e * yb)
    gain := Config.lmsStep (8 + c.muGain) w.gain e
    dcA := Config.dcStep w.dcA e
    dcB := if c.readers = 1 then w.dcB else Config.dcStep w.dcB e
    noise := w.noise.map (fun v => Config.noiseStep v e) }

/-- One sample through the chain: DC removal, alignment, equalisers, combining, gain, timing, detection, adaptation. An erased sample
enters as zero and freezes the adaptation (R112 to R115, R118, R128). -/
def chainStep (c : Chain) (smp : List Smp) (t : Chained) (n : Nat) : Chained :=
  let w := t.work
  let erased := (smp.getD n default).erased
  let take := fun (f : Smp → Int) (dc : Int) => smp.map (fun (x : Smp) => if x.erased then 0 else scale6 c.width (f x) - dc)
  let a := take (fun x => x.a) w.dcA
  let b := take (fun x => x.b) w.dcB
  let b' := (List.range smp.length).map (alignB c.rec_ b)
  let ya := firAt w.tapsA a n
  let yb := firAt w.tapsB b' n
  let k := weightsOf c w
  let comb := t.comb ++ [Config.gainTimes w.gain (Config.combineScale (k.1 * ya + k.2 * yb))]
  let y := Config.retimed c.kp c.ki w.freq comb n
  let ys := t.y ++ [y]
  let bits := t.bits ++ [Config.tentative c.target w.noise ys n]
  let e := y - targetLevel c.target bits n
  let w := if erased then w else { w with freq := Config.timingFreq c.kp c.ki w.freq comb n }
  let w := if c.adapt && !erased then adaptStep c a b' n e ya yb w else { w with freq := if c.adapt then w.freq else t.work.freq }
  { comb := comb, y := ys, bits := bits, err := t.err ++ [e], work := w }

/-- The chain over the samples of a sector (R112 to R115, R128). -/
def chainRun (c : Chain) (smp : List Smp) : Chained :=
  (List.range smp.length).foldl (chainStep c smp) { comb := [], y := [], bits := [], err := [], work := workOf c.rec_ }

/-- The 6-bit soft value of each bit; 0 for a bit that an erased sample covers (R115, R118). -/
def softValues (c : Chain) (smp : List Smp) (t : Chained) : List Int :=
  (List.range smp.length).map (fun n => if (smp.getD n default).erased then 0 else signed 6 (toBits 6 (Config.soft c.target t.work.noise t.y n)))

/-- MSE: 65,536 × Σe² ÷ (N × Σg²), rounded down, over the samples that are not erased (R132, log entry 107). -/
def chainMse (c : Chain) (smp : List Smp) (t : Chained) : Nat :=
  let ix := (List.range smp.length).filter (fun n => !(smp.getD n default).erased)
  let e2 := ix.foldl (fun v n => v + ((t.err.getD n 0) * (t.err.getD n 0)).toNat) 0
  let g2 := c.target.foldl (fun v g => v + (g * g).toNat) 0
  65536 * e2 / (ix.length * g2)

/-! The sync mark (R119). -/

/-- Bits that differ. -/
def hamming (a b : List Bool) : Nat := ((a.zip b).filter (fun p => p.1 != p.2)).length

/-- The candidates of a search: every bit position within ± window of the prediction whose 40 decisions lie within the threshold of the
pattern, as offset from the prediction and distance (R119). -/
def markSearch (bits : List Bool) (pattern : Nat) (predicted : Int) (window threshold : Nat) : List (Int × Nat) :=
  ((List.range (2 * window + 1)).map (fun (i : Nat) => (i : Int) - (window : Int))).filterMap (fun off =>
    let p := predicted + off
    if p < 0 ∨ (bits.length : Int) < p + 40 then none
    else
      let d := hamming ((bits.drop p.toNat).take 40) (natBits 40 pattern)
      if d ≤ threshold then some (off, d) else none)

/-- Better of two candidates: lower distance, then nearer the prediction, then earlier (R119). -/
def betterMark (a b : Int × Nat) : Bool :=
  decide (a.2 < b.2) || (a.2 == b.2 && (decide (a.1.natAbs < b.1.natAbs) || (a.1.natAbs == b.1.natAbs && decide (a.1 < b.1))))

/-- The best of a list of candidates. -/
def bestMark (l : List (Int × Nat)) : Option (Int × Nat) :=
  l.foldl (fun b c => match b with
    | none => some c
    | some x => if betterMark c x then some c else some x) none

/-! The sector (R110, R117, R140). -/

/-- The length of a code word, and of its information bits (R110). -/
def codeBits : Nat := 36864
def infoBits : Nat := 32832

/-- The repeating 0b1100 of preamble, postamble and pad (R110, R140). -/
def padBits (n : Nat) : List Bool := (List.range n).map (fun i => i % 4 < 2)

/-- The location descriptor of a sector: surface, a zero byte, sector and track, little-endian (R110). -/
def locationBytes (surface sector track : Nat) : List Byte := leBytes surface 1 ++ [0] ++ leBytes sector 2 ++ leBytes track 4

/-- The tag: the CRC-32C of the user bytes, then that of the location descriptor (R110). Each is stored little-endian, as R5 has every
multi-byte value. -/
def sectorTag (user : List Byte) (surface sector track : Nat) : List Byte :=
  leBytes (crc32c user) 4 ++ leBytes (crc32c (locationBytes surface sector track)) 4

/-- The code word of user bytes: 4,096 bytes and the tag, each most significant bit first, then the parity of the part's fixed matrix
(R110, R117). -/
def codeWord (user : List Byte) (surface sector track : Nat) : List Bool :=
  let info := byteBits ((user ++ sectorTag user surface sector track).map (fun b => b.toNat))
  info ++ (List.range (codeBits - infoBits)).map (Config.parityBit info)

/-- The bits of a sector in order: preamble, sync mark, code word, postamble, pad, which continues the postamble (R110, R140). -/
def sectorBits (slot preamble pattern : Nat) (code : List Bool) : List Bool :=
  padBits preamble ++ natBits 40 pattern ++ code ++ padBits (slot - (preamble + 40 + codeBits))

/-- Bytes from bits, each most significant bit first (R110). -/
def bitsBytes : Nat → List Bool → List Byte
  | 0, _ => []
  | n + 1, l => BitVec.ofNat 8 (bitsNat (l.take 8)) :: bitsBytes n (l.drop 8)

/-- What the decoder answers for a code word's soft values and an iteration limit: iterations used, unsatisfied checks, information bits
(R116). The parity-check matrix is fixed in the part and the spec does not give it. -/
structure Decoded where
  iterations : Nat
  unsat : Nat
  info : List Bool
  deriving DecidableEq, Repr

/-- The decoder's answer: at most the limit's iterations (R116). -/
def decodeWord (soft : List Int) (limit : Nat) : Decoded :=
  { iterations := min limit (Config.ldpcIterations soft limit), unsat := Config.ldpcUnsat soft limit,
    info := (List.range infoBits).map (Config.ldpcBit soft limit) }

/-- Sum of two soft values in 8 bits, saturating (R104). -/
def satAdd8 (a b : Int) : Int := max (-128) (min 127 (a + b))

/-- The status of a decoded code word: its syndrome, then the tag's two checks (R116, R117). -/
def decodeStatus (d : Decoded) (surface sector track : Nat) : Nat :=
  let bytes := bitsBytes 4104 d.info
  let user := bytes.take 4096
  let tag := sectorTag user surface sector track
  if d.unsat ≠ 0 then 1
  else if (bytes.drop 4096).take 4 ≠ tag.take 4 then 2
  else if (bytes.drop 4100).take 4 ≠ tag.drop 4 then 3
  else 0

end Sys2Proof.Machine
end

