-- ==== Sys2Proof/Machine/Flumes.lean ====
section
/-! DEFINITION. The working state of flumes and threads that several blocks act on: results posted to a thread (R122,
R248), refusals (R106), ending a request (R65, R109, R133, R134, R259), and the events of a thread (R256). -/

namespace Sys2Proof.Machine

/-- A flume that serves nothing. -/
def emptyFlume : Flume := { cur := none, incoming := none, sync := none, dec := [] }

/-- The working state of a flume. -/
def flumeOf (s : State) (f : Nat) : Flume := KV.getD s.flumes f emptyFlume

/-- Store the working state of a flume. -/
def setFlume (f : Nat) (x : Flume) (s : State) : State := { s with flumes := kset emptyFlume s.flumes f x }

/-- The flume attached to a head. -/
def flumeAt (s : State) (h : Nat) : Option Nat :=
  (List.range 32).find? (fun f => match (flumeOf s f).cur with | some j => j.req.head == h | none => false)

/-- A flume names a head: it is attached to it, or is to be by a handover (R101). -/
def flumeNames (s : State) (h f : Nat) : Bool :=
  let x := flumeOf s f
  (x.cur.toList ++ x.incoming.toList).any (fun j => j.req.head == h)

/-- The register instance gr of a thread. -/
def thrReg (q t r : Nat) : Nat := 16 * (4 * q + t) + r

/-- Threads whose operation uses a head (R254, R256). -/
def threadsOn (s : State) (h : Nat) : List Nat :=
  (List.range 4).filter (fun t => match KV.get s.sqOps (thrNo (h / 16) t) with
    | some o => o.mask.testBit (h % 16)
    | none => false)

/-- Raise event e for a thread that holds an operation (R256). -/
def raiseEvent (q t e : Nat) (s : State) : State :=
  if (KV.get s.sqOps (thrNo q t)).isSome then s.setBitOf SQ_THR_STATE.pending (thrNo q t) (e - 1) else s

/-- LOSS: a head of an operation is suspended, taken out of service or loses its lane (R256). -/
def raiseLoss (h : Nat) (s : State) : State := s.each (threadsOn s h) (fun t x => raiseEvent (h / 16) t 3 x)

/-- PARK: a park of the actuator begins (R256). -/
def raisePark (a : Nat) (s : State) : State := s.each (List.range 4) (fun t x => raiseEvent a t 2 x)

/-- Post a sector result to a thread (R122). -/
def postRes (q t slot word : Nat) (s : State) : State :=
  let k := thrNo q t
  { s with sqRes := kset [] s.sqRes k (KV.getD s.sqRes k [] ++ [(slot, word)]) }

/-- Post a verify result to a thread (R152). -/
def postVres (q t slot word : Nat) (s : State) : State :=
  let k := thrNo q t
  { s with sqVres := kset [] s.sqVres k (KV.getD s.sqVres k [] ++ [(slot, word)]) }

/-- The band record of a head and band in a band set. -/
def bandIn (s : State) (h b set : Nat) : Band :=
  match s.image.bandTable (s.image.surf h) set with
  | some t => t.bands.getD b default
  | none => default

/-- The band record of a head and band in the set in force for its surface (R123). -/
def bandOf (s : State) (h b : Nat) : Band := bandIn s h b (s.get DP_SURF_SET.setSel (s.image.surf h))

/-- The number of sectors on a track of a head and band; 4,096 where no image gives one. -/
def trackSectors (s : State) (h b : Nat) : Nat :=
  let n := (bandOf s h b).sectors
  if n = 0 then 4096 else n

/-- The track sector of index i of a request: counting on from first_sector, sector 0 following the last. -/
def sectorAt (s : State) (r : FlumeReq) (i : Nat) : Nat := (r.first + i) % trackSectors s r.head r.band

/-- No mark was looked for. -/
def noSync : SyncInfo := { pos := 0, bridged := false, erased := false, off := 0, dist := 0, off2 := 0, dist2 := 15 }

/-- The result word of R122. -/
def resultWord (sector status iter : Nat) (y : SyncInfo) (mse unsat : Nat) : Nat :=
  sector % 4096 * 2 ^ 52 + status * 2 ^ 48 + min iter 63 * 2 ^ 42 + b2n y.bridged * 2 ^ 41 + b2n y.erased * 2 ^ 40
    + toBits 6 y.off * 2 ^ 34 + toBits 6 y.off2 * 2 ^ 28 + min y.dist 15 * 2 ^ 24 + min y.dist2 15 * 2 ^ 20
    + min (mse / 16) 4095 * 2 ^ 8 + min unsat 255

/-- An average with weight 1/64 per sector (DP_QUAL_B), rounded down. -/
def average (width old new : Nat) : Nat := min (((63 * old + new) / 64)) (2 ^ width - 1)

/-- Keep the quality figures of a head and band for one sector read or validated (R132). -/
def quality (r : FlumeReq) (status iter : Nat) (y : SyncInfo) (mse : Nat) (s : State) : State :=
  if 4 < status ∨ r.purpose = 1 then s
  else
    let q := 48 * r.head + r.band
    let s := s.inc DP_QUAL_A.sectors q
    let s := if (status = 1 ∨ status = 4) ∧ r.iter = 0 then s.inc DP_QUAL_A.inline_fail q else s
    let s := if y.bridged then s.inc DP_QUAL_B.bridged q else s
    let s := if status = 4 then s.inc DP_QUAL_B.sync_miss q else s
    let s := if status = 2 ∨ status = 3 then s.inc DP_QUAL_B.tag_fail q else s
    let s := s.upd DP_QUAL_B.mse_avg q (fun o => average 16 o mse)
    s.upd DP_QUAL_B.iter_avg q (fun o => average 8 o (4 * iter))

/-- End a head's suspension where its lane has recovered (R92, R131). -/
def resumeRecovered (h : Nat) (s : State) : State :=
  let c := s.get HL_HEAD_CFG.susp_cause h
  if s.on HL_HEAD_CFG.suspended h && (c == 1 || c == 2) then
    (s.clear HL_HEAD_CFG.suspended h).clear HL_HEAD_CFG.susp_cause h
  else s

/-- Judge a validation pass at its last sector (R131). -/
def judgePass (h count : Nat) (s : State) : State :=
  if s.get X.dp_val_bad h = 0 ∧ s.get X.dp_val_mse h ≤ s.get DP_QUAL_THR.mse_max * count then
    let s := (s.clear DP_HEAD_STATE.stale h).set DP_HEAD_STATE.validated h s.us
    resumeRecovered h (s.alarm DP_INT.val_pass 0 11 h)
  else (s.inc DP_HEAD_STATE.val_fail h).alarm DP_INT.val_fail 0 11 h

/-- Count a sector of a validate request toward the pass; a request for another count than val_sectors is no pass (R131). -/
def valSector (r : FlumeReq) (status iter mse : Nat) (s : State) : State :=
  if r.purpose ≠ 2 ∨ r.count ≠ s.get DP_QUAL_THR.val_sectors then s
  else
    let h := r.head
    let s := s.upd X.dp_val_posted h (fun n => n + 1)
    let s := if status = 0 ∧ iter ≤ s.get DP_ITER.inline_max then s else s.set X.dp_val_bad h 1
    let s := s.upd X.dp_val_mse h (fun n => n + mse)
    if r.count ≤ s.get X.dp_val_posted h then judgePass h r.count s else s

/-- The media scheduler notes the result of a sector of a read operation; a later result of the sector under the same head takes its
place, and what was charged adds up. The DTIME is that of the result by which the sector failed first (R158, R166, R170). -/
def ladNote (j : FlumeJob) (w : Nat) (s : State) : State :=
  let k := thrNo j.seq j.thr
  match KV.get s.sqOps k with
  | some o =>
    if j.req.purpose = 0 ∧ (o.kind = 0 ∨ 5 ≤ o.kind) then
      let l := KV.getD s.ladNotes k []
      let same := fun (n : LadNote) => n.head == j.req.head && n.word / 2 ^ 52 == w / 2 ^ 52
      let n := (l.find? same).getD { head := j.req.head, word := w, time := s.dtime, reads := 0, low := 255, run := 0, pos := 0 }
      let st := w / 2 ^ 48 % 16
      let n := if st ≤ 4 then { n with reads := n.reads + 1, low := min n.low (w % 256), run := n.run + 1 } else { n with run := 0 }
      { s with ladNotes := kset [] s.ladNotes k (l.filter (fun n => !same n) ++ [{ n with word := w, time := if n.reads ≤ 1 then s.dtime else n.time }]) }
    else s
  | none => s

/-- Post the result of sector i of a job (R122, R131, R132, R158). -/
def postSector (j : FlumeJob) (i status iter : Nat) (y : SyncInfo) (mse unsat : Nat) (s : State) : State :=
  let w := resultWord (sectorAt s j.req i) status iter y mse unsat
  let s := ladNote j w (postRes j.seq j.thr (j.req.head % 16) w s)
  valSector j.req status iter mse (quality j.req status iter y mse s)

/-- A refused request: the code goes to the head, to the flume where one was chosen, and to the thread (R106, R248). -/
def flumeRefuse (code q t : Nat) (r : FlumeReq) (f : Option Nat) (s : State) : State :=
  let s := (s.set DP_HEAD_STATE.last_refusal r.head code).raise DP_INT.refusal
  let s := match f with
    | some f => s.set DP_FLUME_STATUS.last_refusal f code
    | none => s
  let s := s.set SQ_THR_STATE.last_refusal (thrNo q t) code
  s.setBitOf X.sq_fref (thrNo q t) (r.head % 16)

/-- The track that the heads of an actuator are on: that of its comb's reference position (R189). -/
def headTrack (s : State) (h : Nat) : Nat := s.get X.sv_ref (h / 16) / 256

/-- Bytes that the spec leaves open: n of them. -/
def openBytes (s : State) (n : Nat) : List Byte := (List.range n).map (Config.openByte s.freeCtr)

/-- What DP_FLUME_STATUS.state shows (R101). -/
def flumeState (s : State) (f : Nat) : Nat :=
  let x := flumeOf s f
  if s.get DP_FLUME_STATUS.state f = 5 then 5
  else if x.incoming.isSome then 3
  else if x.cur.isSome then 2
  else if !x.dec.isEmpty then 4
  else s.get DP_FLUME_STATUS.power f

/-- Show a flume's state. -/
def flumeShow (f : Nat) (s : State) : State := s.set DP_FLUME_STATUS.state f (flumeState s f)

/-- A head is attached to no flume. -/
def headFree (h : Nat) (s : State) : State := (s.clear DP_HEAD_STATE.attached h).clear DP_HEAD_STATE.flume h

/-- The head's samples that a flume has not taken are dropped: the next is the first of a sector. -/
def dropSamples (h : Nat) (s : State) : State := { s with samples := KV.del s.samples h }.clear X.dp_skip h

/-- A job as its next sector begins: under the band set now in force (R64, R65, R123). -/
def jobNext (s : State) (j : FlumeJob) : FlumeJob := { j with bandSet := s.get DP_SURF_SET.setSel (s.image.surf j.req.head) }

/-- The front-end is told the sample width and clock of a job's band before its next sector (R42, R123). -/
def jobClk (j : FlumeJob) (s : State) : State :=
  let b := bandIn s j.req.head j.req.band j.bandSet
  if b.sectors = 0 then s else sendClk j.req.head b.sampleBits (1000 * b.rate) s

/-- The front half takes a job: the head is attached, the record selected; a write uses the native record (R104, R124). -/
def flumeAttach (f : Nat) (j : FlumeJob) (s : State) : State :=
  let r := j.req
  let j := jobNext s j
  let s := jobClk j (dropSamples r.head s)
  let s := (setFlume f { flumeOf s f with cur := some j, sync := none } s).clear X.dp_out f
  let s := (s.set DP_HEAD_STATE.attached r.head 1).set DP_HEAD_STATE.flume r.head f
  let s := (s.set DP_FLUME_STATUS.head f r.head).set DP_FLUME_STATUS.band f r.band
  let s := (s.set DP_FLUME_STATUS.writer f (if r.purpose = 1 then 0 else r.writer)).set DP_FLUME_STATUS.purpose f r.purpose
  let s := (s.clear X.dp_val_posted r.head).clear X.dp_val_bad r.head
  let s := (s.clear X.dp_val_mse r.head).clear X.dp_leave f
  flumeShow f s

/-- Forget a flume's sums of soft values (R104, R166). -/
def dropSums (f : Nat) (s : State) : State := { s with dpSums := KV.del s.dpSums f }

/-- Power-gate a flume that serves nothing (R103). -/
def flumeOff (f : Nat) (s : State) : State :=
  let s := (dropSums f s).clear X.dp_out f
  match s.image.portOf 6 f with
  | some p => hgRelease p (holderFlume f) s
  | none => s

/-- A flume that left service or the pool releases its grant once it serves nothing (R65, R103). -/
def flumeRest (f : Nat) (s : State) : State := if s.on X.dp_out f && s.get DP_FLUME_STATUS.state f == 1 then flumeOff f s else s

/-- A thread's reads of a sector no longer add up: the flume's sum is lost (R166). -/
def sumsLost (j : FlumeJob) (s : State) : State :=
  let k := thrNo j.seq j.thr
  match KV.get s.ladNotes k with
  | some l => { s with ladNotes := kset [] s.ladNotes k (l.map (fun n => if n.head = j.req.head then { n with run := 0 } else n)) }
  | none => s

/-- The front half leaves its head; the sum of soft values is lost (R166). An incoming handover that is still to come is
cancelled with SVC (R109). -/
def flumeDetach (f : Nat) (s : State) : State :=
  let x := flumeOf s f
  let s := match x.cur with
    | some j => sumsLost j (headFree j.req.head (dropSamples j.req.head s))
    | none => s
  let s := match x.incoming with
    | some j => flumeRefuse 8 j.seq j.thr j.req (some f) s
    | none => s
  let s := setFlume f { x with cur := none, incoming := none, sync := none } s
  flumeRest f (flumeShow f ((dropSums f s).clear X.dp_leave f))

/-- The incoming job of a handover becomes the front half's (R108). -/
def flumeSwitch (f : Nat) (s : State) : State :=
  let x := flumeOf s f
  match x.incoming with
  | none => s
  | some j =>
    let s := match x.cur with
      | some o => headFree o.req.head (dropSamples o.req.head s)
      | none => s
    flumeAttach f j (setFlume f { x with cur := none, incoming := none, sync := none } s)

/-- A sector is being received or encoded: samples of it have entered, its mark was found, or the head's gate is asserted for it. -/
def sectorOpen (s : State) (x : Flume) (j : FlumeJob) : Bool :=
  decide (j.next < j.req.count)
    && (x.sync.isSome || !(KV.getD s.samples j.req.head []).isEmpty || (j.req.purpose == 1 && (s.on WP_HEAD_STATE.gate j.req.head || s.on X.wp_gap j.req.head)))

/-- The request's first sector has begun. -/
def jobBegun (s : State) (x : Flume) (j : FlumeJob) : Bool := decide (0 < j.next) || sectorOpen s x j

/-- The sector in progress of a request ends with a status; a write posts no result (R106, R109). -/
def sectorCut (x : Flume) (j : FlumeJob) (status : Nat) (s : State) : State :=
  if j.req.purpose ≠ 1 ∧ j.next < j.req.count then postSector j j.next status 0 (x.sync.getD noSync) 0 0 s else s

/-- The sector in progress of the front half's request ends with a status and the flume detaches; a refusal code other
than 0 goes to the request (R106, R109, R135, R259). -/
def flumeEndNow (f status code : Nat) (s : State) : State :=
  let x := flumeOf s f
  match x.cur with
  | none => s
  | some j =>
    let s := sectorCut x j status s
    let s := if code = 0 then s else flumeRefuse code j.seq j.thr j.req (some f) s
    flumeDetach f s

/-- The flume leaves its request: at the end of the sector it is receiving or encoding, or at once where none is in progress. The refusal
code is recorded for a request with sectors left; SVC only where its first sector has not begun (R65, R103, R106, R340). -/
def flumeLeave (f code : Nat) (s : State) : State :=
  let x := flumeOf s f
  match x.cur with
  | none => s
  | some j =>
    let quiet := decide (j.req.count ≤ j.next) || (code == 8 && jobBegun s x j)
    if sectorOpen s x j then s.set X.dp_leave f (if quiet then 15 else code)
    else flumeDetach f (if quiet then s else flumeRefuse code j.seq j.thr j.req (some f) s)

/-- An incoming handover goes on without its outgoing operation: at the predicted time the switch judges its gap again (R109). -/
def flumeOrphan (f : Nat) (s : State) : State :=
  let x := flumeOf s f
  match x.cur with
  | some j => flumeShow f ((setFlume f { x with cur := none, sync := none } (headFree j.req.head (dropSamples j.req.head s))).clear X.dp_leave f)
  | none => s

/-- Upstream lane loss of a head: the sector being received and the request's remaining sectors end with status 6 and the
flume detaches; a handover proceeds to its incoming head, and an incoming operation of the lost head ends with status 6
(R109, R134). -/
def flumeLaneLost (h : Nat) (s : State) : State :=
  let s := s.each (List.range 32) (fun f t =>
    let x := flumeOf t f
    match x.incoming with
    | some j =>
      if j.req.head = h then
        let t := (List.range j.req.count).foldl (fun u i => postSector j i 6 0 noSync 0 0 u) t
        flumeShow f (setFlume f { x with incoming := none } t)
      else t
    | none => t)
  match flumeAt s h with
  | none => s
  | some f =>
    let x := flumeOf s f
    match x.cur with
    | none => s
    | some j =>
      let left := (List.range j.req.count).filter (fun i => decide (j.next ≤ i))
      let s := if j.req.purpose = 1 then s else left.foldl (fun u i => postSector j i 6 0 noSync 0 0 u) s
      if x.incoming.isSome then flumeOrphan f s else flumeDetach f s

/-- End a thread's flume request for a slot, as an abort does: a waiting request is refused with ABORT, a granted flume
ends its sector with status 6 and detaches, and the results of its sectors in the decoder are discarded (R259). -/
def flumeDrop (q t slot : Nat) (s : State) : State :=
  let mine := fun (r : FlumeReq) => r.head / 16 == q && r.head % 16 == slot
  let s := (s.flumeReqs.filter (fun w => w.seq == q && w.thr == t && mine w.req)).foldl
    (fun u w => flumeRefuse 10 q t w.req none u) s
  let s := { s with flumeReqs := s.flumeReqs.filter (fun w => !(w.seq == q && w.thr == t && mine w.req)) }
  s.each (List.range 32) (fun f u =>
    let x := flumeOf u f
    let u := match x.incoming with
      | some j => if j.seq == q && j.thr == t && mine j.req then flumeShow f (setFlume f { x with incoming := none } u) else u
      | none => u
    let x := flumeOf u f
    let u := setFlume f { x with dec := x.dec.map (fun d => if d.job.seq == q && d.job.thr == t && mine d.job.req then { d with live := false } else d) } u
    let x := flumeOf u f
    match x.cur with
    | some j => if j.seq == q && j.thr == t && mine j.req then flumeEndNow f 6 10 u else u
    | none => u)

/-- The slots for which a thread holds a flume request, waiting, granted or incoming (R251). -/
def flumeSlots (s : State) (q t : Nat) : List Nat :=
  let w := (s.flumeReqs.filter (fun w => w.seq == q && w.thr == t)).map (fun w => w.req.head % 16)
  let g := (List.range 32).flatMap (fun f =>
    let x := flumeOf s f
    (x.cur.toList ++ x.incoming.toList).filter (fun j => j.seq == q && j.thr == t) |>.map (fun j => j.req.head % 16))
  (List.range 16).filter (fun k => (w ++ g).contains k)

end Sys2Proof.Machine
end

