-- ==== Sys2Proof/Machine/CacheLines.lean ====
section
/-! DEFINITION. The two data memories as stores (R13, R403, R407 to R410) and the lines of the caches over them (R415, R416, R420, R421):
where a line lies, how it moves between the L1, the L2 and the victim cache, how it is written back, and what a write by a DMA master
does to it (R415, R424). -/

namespace Sys2Proof.Machine

/-! The Cistern. -/

/-- First Cistern address (R13). -/
def cisternBase : Nat := 0x100000000

/-- Backed bytes of one device: 1.875 GiB (R403). -/
def deviceBytes : Nat := 0x78000000

/-- Device states of BM_STATUS. -/
def devTraining : Nat := 1
def devReady : Nat := 3
def devLost : Nat := 5

/-- The state field of a device. -/
def devField (d : Nat) : Fld := if d = 0 then BM_STATUS.dev0 else BM_STATUS.dev1

/-- The state of a device. -/
def devState (s : State) (d : Nat) : Nat := s.get (devField d)

/-- Device d is configured: its PHY's domain is not in power group 0 (R400). -/
def devConfigured (s : State) (d : Nat) : Bool := s.image.domGroup.getD (140 + d) 0 != 0

/-- A device answers accesses: ready, or in self-refresh, from which an access wakes it (R372, R402). -/
def devUp (s : State) (d : Nat) : Bool := devState s d == devReady || devState s d == 4

/-- The devices in service (BM_MAP). -/
def mapDevices (s : State) : List Nat := bitsOf 2 (s.get BM_MAP.devices)

/-- The device that backs an address (R403, R408). -/
def deviceOf (s : State) (a : Nat) : Option Nat :=
  if a < cisternBase then none
  else (mapDevices s)[(a - cisternBase) / deviceBytes]?

/-- An address is served: its device is in service and answers (R403, R407, R14). -/
def cisternServed (s : State) (a : Nat) : Bool :=
  match deviceOf s a with
  | some d => devUp s d
  | none => false

/-- Store bytes in the Cistern. -/
def State.cisternStore (s : State) (a : Nat) (bs : List Byte) : State := { s with cistern := memWrite s.cistern 0 a bs }

/-- Insert into a rising list without repeats. -/
def insertNat (n : Nat) : List Nat → List Nat
  | [] => [n]
  | x :: r => if n < x then n :: x :: r else if n = x then x :: r else x :: insertNat n r

/-! The Reservoir. -/

/-- First and end address of the Reservoir (R13). -/
def rvBase : Nat := 0x10000000
def rvEnd : Nat := 0x12000000

/-- Add a range to a list of ranges that is rising and apart. -/
def addRange (lo hi : Nat) : List (Nat × Nat) → List (Nat × Nat)
  | [] => if lo < hi then [(lo, hi)] else []
  | (a, b) :: r =>
    if hi ≤ lo then (a, b) :: r
    else if b < lo then (a, b) :: addRange lo hi r
    else if hi < a then (lo, hi) :: (a, b) :: r
    else addRange (min lo a) (max hi b) r

/-- A byte has been written since the half last powered up (R410). -/
def rvValid (s : State) (a : Nat) : Bool := s.rvWritten.any (fun p => decide (p.1 ≤ a) && decide (a < p.2))

/-- A byte read: one never written gives a free value (R410). -/
def rvByte (s : State) (a k : Nat) : Byte :=
  if rvValid s (a + k) then memByte s.reservoir 0 (a + k) else BitVec.ofNat 8 (Config.free (s.freeCtr + k))

/-- Store bytes in the Reservoir, with valid check bits. -/
def State.rvStore (s : State) (a : Nat) (bs : List Byte) : State :=
  { s with reservoir := memWrite s.reservoir 0 a bs, rvWritten := addRange a (a + bs.length) s.rvWritten,
           rvBad := s.rvBad.filter (fun x => !(decide (a ≤ x) && decide (x < a + bs.length))) }

/-- Zero-fill a range of the Reservoir. -/
def State.rvZero (s : State) (a n : Nat) : State :=
  { s with reservoir := s.reservoir.filter (fun c => !(decide (a ≤ c.1) && decide (c.1 < a + n))),
           rvWritten := addRange a (a + n) s.rvWritten,
           rvBad := s.rvBad.filter (fun x => !(decide (a ≤ x) && decide (x < a + n))) }

/-! Lines. -/

/-- Sets of the L2 and of an L1, and lines of the victim cache (R416). -/
def l2Sets : Nat := 4096
def l1Sets : Nat := 256
def victimLines : Nat := 32

/-- An address lies in the Reservoir. -/
def inReservoir (a : Nat) : Bool := decide (rvBase ≤ a) && decide (a < rvEnd)

/-- The bytes of an access of `n` bytes at `a` that lie in a line, as offsets in it: first and end. -/
def inLine (a n line : Nat) : Nat × Nat := (max a (64 * line) - 64 * line, min (a + n) (64 * line + 64) - 64 * line)

/-- The lines that `n` bytes from `a` touch. -/
def linesOf (a n : Nat) : List Nat := if n = 0 then [] else (List.range ((a + n - 1) / 64 - a / 64 + 1)).map (fun k => a / 64 + k)

/-- Replace bytes of a list from an offset on. -/
def overlay (o : Nat) (bs old : List Byte) : List Byte := old.take o ++ bs ++ old.drop (o + bs.length)

/-- The bytes of the halves, 32 bytes each, that offsets `lo` to `hi` touch, as a mask (R416). -/
def halves (lo hi : Nat) : Nat := (if lo < 32 ∧ lo < hi then 1 else 0) + (if 32 < hi then 2 else 0)

/-- What the memory holds of a line: its bytes, and the offsets of those that no read delivers, in poisoned units of the Cistern and
uncorrectable in the Reservoir (R404, R411). The free values of Reservoir bytes never written are those from `freeCtr` on. -/
def lineInMemory (s : State) (line : Nat) : List Byte × List Nat :=
  let a := 64 * line
  let all := List.range 64
  if inReservoir a then (all.map (fun k => rvByte s a k), all.filter (fun k => s.rvBad.contains (a + k)))
  else (memRead s.cistern 0 a 64, all.filter (fun k => s.cisternPoison.contains (a + 32 * (k / 32))))

/-- Write a line to memory with its poison: it sets the poison bit of each affected Cistern unit, and makes the bytes of the half
uncorrectable in the Reservoir (R404, R425; the Reservoir's by inference, log entry 115). `keep` are offsets that memory keeps. -/
def lineStore (line : Nat) (data : List Byte) (poison : Nat) (keep : List Nat) (s : State) : State :=
  let a := 64 * line
  let old := (lineInMemory s line).1
  let data := (List.range 64).map (fun k => if keep.contains k then old.getD k 0 else data.getD k 0)
  if inReservoir a then
    let s := s.rvStore a data
    let bad := (List.range 64).filter (fun k => poison.testBit (k / 32))
    { s with rvBad := bad.foldl (fun l k => insertNat (a + k) l) s.rvBad }
  else if cisternServed s a then
    let s := s.cisternStore a data
    let units := [0, 1].filter (fun k => poison.testBit k)
    let kept := s.cisternPoison.filter (fun u => u != a && u != a + 32)
    { s with cisternPoison := units.foldl (fun l k => insertNat (a + 32 * k) l) kept }
  else s

/-- Write a line back if it is dirty; memory keeps the bytes at the offsets named (R420, R424). -/
def lineBack (line : Nat) (x : CacheLine) (keep : List Nat) (s : State) : State :=
  if x.dirty then lineStore line x.data x.poison keep s else s

/-- The dirty L1 copy of a line is merged into the line the L2 holds; the L1 copies stay, clean (R414, R415, R423). -/
def mergeL1 (line : Nat) (s : State) : State :=
  match s.l1d.find? (fun p => p.1.2 == line && p.2.dirty), KV.get s.l2 line with
  | some p, some x =>
    { s with l2 := KV.put natLt s.l2 line { x with data := p.2.data, dirty := true, poison := 0 },
             l1d := s.l1d.map (fun q => if q.1.2 == line then (q.1, { q.2 with dirty := false }) else q) }
  | _, _ => s

/-- Every L1 copy of a line is invalidated. -/
def dropL1 (line : Nat) (s : State) : State :=
  { s with l1d := s.l1d.filter (fun p => p.1.2 != line), l1i := s.l1i.filter (fun p => p.1.2 != line) }

/-- The line as the caches hold it, dirty L1 data included: from the L2 or the victim cache. -/
def cachedLine (s : State) (line : Nat) : Option CacheLine :=
  match KV.get (mergeL1 line s).l2 line with
  | some x => some x
  | none => (s.victim.find? (fun p => p.1 == line)).map (fun p => p.2)

/-- A line is dropped from every cache, with no write-back. -/
def dropLine (line : Nat) (s : State) : State :=
  let s := dropL1 line s
  { s with l2 := KV.del s.l2 line, victim := s.victim.filter (fun p => p.1 != line) }

/-- A line enters the victim cache, which evicts its oldest line to memory beyond 32 (R416, R420). -/
def toVictim (line : Nat) (x : CacheLine) (s : State) : State :=
  let v := s.victim ++ [(line, x)]
  match (if victimLines < v.length then v else []) with
  | (o, y) :: r => { lineBack o y [] s with victim := r }
  | [] => { s with victim := v }

/-- The L2 evicts a line into the victim cache; being inclusive it takes the L1 copies with it (R415, R420). -/
def l2Evict (line : Nat) (s : State) : State :=
  let s := dropL1 line (mergeL1 line s)
  match KV.get s.l2 line with
  | some x => toVictim line x { s with l2 := KV.del s.l2 line }
  | none => s

/-- The line that a way of a line's set holds in the L2. -/
def l2At (s : State) (line way : Nat) : Option Nat :=
  (s.l2.find? (fun p => p.2.way == way && p.1 % l2Sets == line % l2Sets)).map (fun p => p.1)

/-- The ways that are not locked (R421). -/
def openWays (s : State) : List Nat := (List.range 16).filter (fun w => !(s.get AP_L2_LOCK.ways).testBit w)

/-- The L2 allocates a line in a way that is not locked, evicting what lies there. Which of them its pseudo-LRU names is a free value
(R416, R421). -/
def l2Install (line : Nat) (x : CacheLine) (s : State) : State :=
  let ways := openWays s
  match ways[s.fresh % ways.length]? with
  | none => lineBack line x [] s
  | some w =>
    let s := s.spend
    let s := match l2At s line w with | some o => l2Evict o s | none => s
    { s with l2 := KV.put natLt s.l2 line { x with way := w } }

/-- The L2 recalls a line from the victim cache, dirty or not, without a memory access (R420). -/
def recallVictim (line : Nat) (s : State) : State :=
  match s.victim.find? (fun p => p.1 == line) with
  | some p => l2Install line p.2 { s with victim := s.victim.filter (fun q => q.1 != line) }
  | none => s

/-- A core's L1 takes a copy of a line the L2 holds, evicting what lies in the way that its pseudo-LRU names, a free value; a dirty line
evicted is merged into the L2 (R415, R416). -/
def l1Install (inst : Bool) (c line : Nat) (data : List Byte) (s : State) : State :=
  let w := s.fresh % 4
  let s := s.spend
  let x : CacheLine := { way := w, data := data, dirty := false, poison := 0 }
  let out := fun (p : (Nat × Nat) × CacheLine) => p.1.1 == c && p.2.way == w && p.1.2 % l1Sets == line % l1Sets
  if inst then { s with l1i := KV.put pairLt (s.l1i.filter (fun p => !out p)) (c, line) x }
  else
    let s := match s.l1d.find? out with | some p => mergeL1 p.1.2 s | none => s
    { s with l1d := KV.put pairLt (s.l1d.filter (fun p => !out p)) (c, line) x }

/-! Writes by masters that do not use the caches. -/

/-- A write by a DMA master, the security core or the management core reaches a line: dirty bytes that it does not write are written
back, and every cached copy is invalidated (R415). A fill of the line that is under way has read memory before it, and the line it
installs is invalidated (R424). -/
def writeMeets (a n line : Nat) (s : State) : State :=
  let r := inLine a n line
  let mine := (List.range 64).filter (fun k => decide (r.1 ≤ k) && decide (k < r.2))
  let s := match cachedLine s line with | some x => dropLine line (lineBack line x mine s) | none => s
  let m := lineInMemory s line
  { s with freeCtr := s.freeCtr + 64, fills := s.fills.map (fun p =>
      if p.2.acc.addr / 64 = line then (p.1, { p.2 with read := some (p.2.read.getD m), dma := mine.foldl (fun l k => insertNat k l) p.2.dma })
      else p) }

/-- What a write by such a master does to the caches (R415, R424). -/
def dmaWrites (a n : Nat) (s : State) : State :=
  if s.l2.isEmpty && s.victim.isEmpty && s.fills.isEmpty then s else (linesOf a n).foldl (fun t line => writeMeets a n line t) s

/-- The part's own transfers store only where the Cistern serves the address (R14, R407). They invalidate what is cached (R415), and a
unit written whole loses its poison (R406). -/
def State.cisternPut (s : State) (a : Nat) (bs : List Byte) : State :=
  if cisternServed s a then
    let s := dmaWrites a bs.length s
    let s := { s with cisternPoison := s.cisternPoison.filter (fun u => !(decide (a ≤ u) && decide (u + 32 ≤ a + bs.length))) }
    s.cisternStore a bs
  else s

end Sys2Proof.Machine
end

