-- ==== Sys2Proof/Machine/ZoneTable.lean ====
section
/-! DEFINITION. The zone table (R268), where positions lie (R266, R275),
the journal's waiting entries (R269), and the zones that a loss sets Offline (R28). -/

namespace Sys2Proof.Machine

/-! The zone table. -/

/-- A zone with nothing written. -/
def emptyZone : Zone :=
  { hwp := 0, mwp := 0, next := 0, resv := 0, reh0 := none, reh1 := none, voids := [], ahead := [], state := 0, held := false, byCtl := false }

/-- A zone. -/
def zoneOf (s : State) (z : Nat) : Zone := KV.getD s.zones z emptyZone

/-- The 32 bytes of a zone in the zone table; an absent rehome point is all ones (log entry 42). -/
def zoneBytes (x : Zone) : List Byte :=
  leBytes x.hwp 4 ++ leBytes x.mwp 4 ++ leBytes x.resv 4 ++ leBytes (x.reh0.getD 0xFFFFFFFF) 4 ++ leBytes (x.reh1.getD 0xFFFFFFFF) 4
    ++ leBytes x.voids.length 4 ++ leBytes x.state 1 ++ List.replicate 7 0

/-- Store a zone, in the table in the Cistern too. -/
def setZone (z : Nat) (x : Zone) (s : State) : State :=
  State.cisternPut { s with zones := kset emptyZone s.zones z x } (s.get ZX_ZT_BASE.addr + 32 * z) (zoneBytes x)

/-- Change a zone. -/
def updZone (z : Nat) (f : Zone → Zone) (s : State) : State := setZone z (f (zoneOf s z)) s

/-- The media write pointer passes every finished position next to it (R268). -/
def Zone.advance (x : Zone) : Zone :=
  let m := x.ahead.foldl (fun m p => if p = m then m + 1 else m) x.mwp
  { x with mwp := m, ahead := x.ahead.filter (fun p => decide (m ≤ p)) }

/-- A position is written or void. -/
def Zone.done (x : Zone) (p : Nat) : Zone :=
  if p < x.mwp then x else ({ x with ahead := insertNat p x.ahead } : Zone).advance

/-- A position is void (R151, R267). -/
def Zone.void (x : Zone) (p : Nat) : Zone := { x.done p with voids := insertNat p x.voids }

/-! Where positions lie. -/

/-- n of R266: the least sectors of the group's band among the surfaces its comb reaches, at least 1. -/
def groupSectors (m : Image) (g : Nat) : Nat :=
  let d := m.group g
  let c := m.comb d.comb
  let l := c.order.filterMap (fun k => (m.bandTable (m.surf (16 * c.act + k)) 0).map (fun t => (t.bands.getD d.band default).sectors))
  max 1 (l.foldl min (l.headD 1))

/-- w of R266. -/
def groupWidth (m : Image) (g : Nat) : Nat := max 1 (m.comb (m.group g).comb).width

/-- T of R266. -/
def groupTracks (m : Image) (g : Nat) : Nat :=
  let d := groupWidth m g * groupSectors m g
  (m.zoneCap + d - 1) / d

/-- The positions of a zone of a group (R266). -/
def groupPositions (m : Image) (g : Nat) : Nat := groupTracks m g * groupWidth m g * groupSectors m g

/-- The zone group of a zone; an unknown zone is taken with group 0. -/
def groupIx (m : Image) (z : Nat) : Nat := (m.groupOfZone z).getD 0

/-- Slot of a position in its comb (R266). -/
def posSlot (m : Image) (z p : Nat) : Nat :=
  let g := groupIx m z
  (m.comb (m.group g).comb).order.getD (p % groupWidth m g) 0

/-- Track of a position (R266). -/
def posTrack (m : Image) (z p : Nat) : Nat :=
  let g := groupIx m z
  let d := m.group g
  d.firstTrack + (z - d.firstZone) * groupTracks m g + p / groupWidth m g / groupSectors m g

/-- Sector of a position, with the track skew ⌈n ÷ 40⌉ (R266). -/
def posSector (m : Image) (z p : Nat) : Nat :=
  let g := groupIx m z
  let n := groupSectors m g
  let r := p / groupWidth m g
  (r + (n + 39) / 40 * (r / n)) % n

/-- The head of an actuator that reaches the surface of a position (R266, R275). -/
def posHead (m : Image) (act z p : Nat) : Nat :=
  let home := (m.comb (m.group (groupIx m z)).comb).act
  let h := 16 * home + posSlot m z p
  if act = home then h else (m.twin h).getD h

/-- The writing actuator of a position: the image home, with the zone's rehome points (R275). -/
def writingAct (s : State) (z p : Nat) : Nat :=
  let home := (s.image.group (groupIx s.image z)).home
  let x := zoneOf s z
  match x.reh0 with
  | none => home
  | some a => if p < a then home else
    match x.reh1 with
    | none => home ^^^ 2
    | some b => if p < b then home ^^^ 2 else home

/-- Slots of an actuator that reach the surfaces of a zone's comb: the comb's own on the home actuator, their twins' on the
twin (R275). -/
def combMask (m : Image) (z act : Nat) : Nat :=
  let c := m.comb (m.group (groupIx m z)).comb
  if act = c.act then c.mask
  else c.order.foldl (fun n k => match m.twin (16 * c.act + k) with
    | some w => if w / 16 = act then setBit n (w % 16) else n
    | none => n) 0

/-- The comb map that an operation names on an actuator: the zone's own at home, else the twin's with the same slots or the
most slots shared (R275). -/
def combFor (m : Image) (z act : Nat) : Nat :=
  let c := (m.group (groupIx m z)).comb
  let own := m.comb c
  if own.act = act then c
  else
    let mask := combMask m z act
    let l := (List.range m.combs.length).filter (fun i => (m.comb i).act == act)
    match l.find? (fun i => (m.comb i).mask == mask) with
    | some i => i
    | none => l.foldl (fun b i => if popCount 16 ((m.comb b).mask &&& mask) < popCount 16 ((m.comb i).mask &&& mask) then i else b) (l.headD 0)

/-! The journal and the namespaces. -/

/-- Add a journal entry (R269). -/
def jrnAdd (e : JEntry) (s : State) : State := { s with jrnWait := s.jrnWait ++ [e] }

/-- The zones of a journal pair: copy A and copy B. -/
def jrnZones (s : State) (pair : Nat) : Nat × Nat := (s.get ZX_JRN_ZONE.zone_a pair, s.get ZX_JRN_ZONE.zone_b pair)

/-- A zone is one of the four journal zones. -/
def isJrnZone (s : State) (z : Nat) : Bool :=
  let a := jrnZones s 0
  let b := jrnZones s 1
  z == a.1 || z == a.2 || z == b.1 || z == b.2

/-- Zones of a namespace. -/
def nsZones (s : State) (n : Nat) : Nat := s.get ZX_NS.zone_count n

/-- First zone of a namespace (R263). -/
def nsFirst (s : State) (n : Nat) : Nat := s.get ZX_NS.first_zone n

/-- A zone lies in a namespace's range. -/
def inNs (s : State) (n z : Nat) : Bool := decide (nsFirst s n ≤ z) && decide (z < nsFirst s n + nsZones s n)

/-- The enabled namespace that holds a zone. -/
def nsOfZone (s : State) (z : Nat) : Option Nat := (List.range 64).find? (fun n => s.on ZX_NS.enable n && inNs s n z)

/-! Zone states. -/

/-- Zone states. -/
def zsEmpty : Nat := 0
def zsImplicit : Nat := 1
def zsExplicit : Nat := 2
def zsClosed : Nat := 3
def zsFull : Nat := 4
def zsReadOnly : Nat := 5
def zsOffline : Nat := 6

/-- Open zones. -/
def isOpenState (n : Nat) : Bool := n == zsImplicit || n == zsExplicit

/-- A zone that leaves Empty while its group is homed away from the image home is written by the group's home from its first position
(R65, R275, R276, log entry 45). -/
def startHome (z : Nat) (s : State) : State :=
  let g := groupIx s.image z
  if s.get ZX_ZG_HOME.home g = (s.image.group g).home then s
  else
    let s := updZone z (fun x => { x with reh0 := some 0, held := true }) s
    jrnAdd { kind := 3, zone := z, a := g, b := 0, mwp := 0, hwp := 0, voids := [], job := 0 } s

/-- Set a zone's state with its journal entry; `job` is 1 + the context that waits for it (R269, R270). -/
def zoneState (z st job : Nat) (s : State) : State :=
  let s := if (zoneOf s z).state = zsEmpty ∧ isOpenState st = true then startHome z s else s
  let s := updZone z (fun x => { x with state := st }) s
  jrnAdd { kind := 2, zone := z, a := st, b := 0, mwp := (zoneOf s z).mwp, hwp := (zoneOf s z).hwp, voids := [], job := job } s

/-! Zones without a head (R28). -/

/-- A zone stores data on a surface: one of its written positions lies there (R28, R266). -/
def zoneOnSurface (s : State) (z su : Nat) : Bool :=
  let m := s.image
  let c := m.comb (m.group (groupIx m z)).comb
  let x := zoneOf s z
  (c.order.take (min x.mwp (groupWidth m (groupIx m z)))).any (fun k => m.surf (16 * c.act + k) == su)

/-- Set a zone Offline, with its event and its place in the Changed Zone List (R28, R336). -/
def zoneOffline (z : Nat) (s : State) : State :=
  if (zoneOf s z).state = zsOffline then s
  else
    let s := match nsOfZone s z with
      | some n => hostEvents (2 + 0xEF * 256 + 0xBF * 65536) { s with changedZones := s.changedZones.filter (fun p => p != (n, z)) ++ [(n, z)] }
      | none => s
    zoneState z zsOffline 0 s

/-- Zones with data on a surface without a head in service go Offline: at a loss, and at a commit that takes a head out of service (R28). -/
def offlineCheck (s : State) : State :=
  let m := s.image
  let bare := (List.range 32).filter (fun su =>
    let heads := (List.range 64).filter (fun h => m.surf h == su)
    !heads.isEmpty && heads.all (fun h => s.get MS_HEAD_SVC.in_service h == 0 || s.on X.head_lost h))
  if bare.isEmpty then s
  else (s.zones.filter (fun p => bare.any (zoneOnSurface s p.1))).foldl (fun t p => zoneOffline p.1 t) s

end Sys2Proof.Machine
end

