-- ==== Sys2Proof/Machine/Units.lean ====
section
/-! DEFINITION. What several blocks do to a head at once: removing write gate (R147), suspending a head (R92, R93), making
it stale (R130), and losing a unit (R25 to R28). -/

namespace Sys2Proof.Machine

/-- Removal causes of WP_HEAD_STATE.last_removal (R147). -/
def gatePosition : Nat := 1
def gateFeedback : Nat := 2
def gateShock : Nat := 3
def gateLane : Nat := 4
def gateCurrent : Nat := 5
def gateWindow : Nat := 6
def gateShutdown : Nat := 7
def gateGrant : Nat := 8
def gateAir : Nat := 9
def gateAbort : Nat := 10
def gateAct : Nat := 11

/-- The WP_INT bit that goes with a removal cause, if there is one. -/
def gateInt (cause : Nat) : Option Fld :=
  match cause with
  | 1 | 2 => some WP_INT.wu
  | 3 => some WP_INT.shock
  | 5 => some WP_INT.curlim
  | 6 | 9 => some WP_INT.window
  | _ => none

/-- The first and last sector of the run in progress that were written since the gate was asserted. -/
def gateSectors (s : State) (h : Nat) : Nat × Nat :=
  match KV.get s.wruns h with
  | some r => (s.get X.wp_first_sector h, (r.first + r.idx) % trackSectors s h r.band)
  | none => (s.get X.wp_first_sector h, s.get X.wp_first_sector h)

/-- A removal while the peak position error exceeds adj_threshold is recorded: track, sectors, peak error (R149). -/
def adjacentCheck (h : Nat) (s : State) : State :=
  if s.get WP_WU.adj_threshold < s.get X.wp_peak h then
    let r := gateSectors s h
    s.alarm WP_INT.adj_check 0 12 h [s.get SV_SLOT_POS.position h / 256, r.1, r.2, s.get X.wp_peak h]
  else s

/-- A head is writing: its gate is asserted, or dropped for a wedge gap inside its run (R140). -/
def writing (s : State) (h : Nat) : Bool := s.on WP_HEAD_STATE.gate h || s.on X.wp_gap h

/-- Tell the front-end of a head at once: a DATA frame on its downstream lane with the head's wg bit 0 and imm 1, where the lane can carry
one (R75, R90, R147). -/
def sendImm (h : Nat) (s : State) : State :=
  match s.image.groupOf h with
  | some y => if s.get HL_GROUP_STATUS.state y = 5 ∧ s.get X.hl_down_lost y = 0 then sendData y true [] s else s
  | none => s

/-- The gate and the assist of a head drop, and its write FIFO is empty. -/
def gateClear (h : Nat) (s : State) : State :=
  (((s.clear WP_HEAD_STATE.gate h).clear WP_HEAD_STATE.ae h).clear X.wp_gap h).clear X.wp_queued h |>.clear X.wp_sent h

/-- A DATA frame on a head's downstream lane, with WR bits for its slot, the gates and assists as they stand, and no imm (R75, R140). -/
def sendWr (h : Nat) (bits : List Bool) (s : State) : State :=
  match s.image.groupOf h with
  | some y =>
    if s.get HL_GROUP_STATUS.state y = 5 ∧ s.get X.hl_down_lost y = 0 then
      sendData y false ((List.range 4).map (fun k => if (s.image.groupSlots y)[k]? = some h then bits else [])) s
    else s
  | none => s

/-- What a removal of write gate leaves: its cause, its interrupt, and the adjacent-track record (R147, R149). -/
def gateCause (h cause : Nat) (s : State) : State :=
  let s := adjacentCheck h ((s.set WP_HEAD_STATE.last_removal h cause).clear X.wp_remove h)
  match gateInt cause with
  | some f => s.raise f
  | none => s

/-- Remove write gate for a head at once, with its assist; the sector being written counts as failed (R147, R151). The front-end hears of it
in a frame with imm 1; at an ACT reset it is the keepalive limit that tells it (R147). A head that is not writing is left alone. -/
def gateOff (h cause : Nat) (s : State) : State :=
  if writing s h then
    let s := gateClear h s
    let s := if cause = gateAct then s else sendImm h s
    gateCause h cause (s.set X.wp_ended h 1)
  else s

/-- Write gate and assist end with the sector just written, which they leave whole (R144, R147). -/
def gateEnd (h : Nat) (s : State) : State := if writing s h then sendWr h [] (gateClear h s) else s

/-- Remove write gate at the end of the sector being written (R147). -/
def gateOffAtEnd (h cause : Nat) (s : State) : State :=
  if writing s h then s.set X.wp_remove h cause else s

/-- Remove write gate of every writing head. -/
def gateOffAll (cause : Nat) (s : State) : State := s.each (List.range 64) (fun h t => gateOff h cause t)

/-- An operation is a read. -/
def MsOp.isRead (o : MsOp) : Bool := !(o.kind == 1 || o.kind == 3 || o.kind == 4)

/-- Store the queue of an actuator. -/
def setOps (a : Nat) (l : List MsOp) (s : State) : State := { s with msQueue := kset [] s.msQueue a l }

/-- The part of an operation that one head served, for its twin. -/
def MsOp.toTwin (o : MsOp) (w : Nat) : MsOp := { o with act := w / 16, mask := 2 ^ (w % 16) }

/-- The queued operations of a head move: reads to its twin, writes back to the media scheduler (R65, R92). A comb
operation keeps its other heads. A recovery attempt of an actuator in reset stays (R172). -/
def moveQueue (h : Nat) (s : State) : State :=
  let a := h / 16
  let kept := (s.get CR_ACT_STATUS.in_reset).testBit a
  let mine := (opsOf s a).filter (fun o => o.mask.testBit (h % 16) && !(kept && o.kind == 8))
  match s.image.twin h with
  | none => s
  | some w =>
    let kept := (opsOf s a).filterMap (fun o =>
      if mine.contains o then
        (if o.isRead && decide (clearBit o.mask (h % 16) ≠ 0) then some { o with mask := clearBit o.mask (h % 16) } else none)
      else some o)
    let reads := (mine.filter MsOp.isRead).map (fun o => o.toTwin w)
    let s := setOps a kept s
    let s := setOps (w / 16) (opsOf s (w / 16) ++ reads) s
    { s with msHold := s.msHold ++ mine.filter (fun o => !o.isRead) }

/-- Suspend a head with a cause of HL_HEAD_CFG.susp_cause; a FAULT cause stays until it ends as R93 says. -/
def suspend (h cause : Nat) (s : State) : State :=
  let keep := s.on HL_HEAD_CFG.suspended h && s.get HL_HEAD_CFG.susp_cause h == 5
  let s := s.set HL_HEAD_CFG.suspended h 1
  let s := if keep then s else s.set HL_HEAD_CFG.susp_cause h cause
  moveQueue h (raiseLoss h s)

/-- End a head's suspension. -/
def resumeHead (h : Nat) (s : State) : State := (s.clear HL_HEAD_CFG.suspended h).clear HL_HEAD_CFG.susp_cause h

/-- Make a head stale with a cause of DP_HEAD_STATE.stale_cause (R130). -/
def makeStale (h cause : Nat) (s : State) : State :=
  (s.set DP_HEAD_STATE.stale h 1).set DP_HEAD_STATE.stale_cause h cause

/-- The head's position feedback is marked lost to its servo engine: it is write-unsafe from here (R90, R198). -/
def feedbackLost (h : Nat) (s : State) : State :=
  (s.set X.sv_fb_lost h 1).set SV_SLOT_STATE.unsafeBit h 1

/-- Open a head's microactuator loop: its command ramps to 0 from the last one sent (R25, R187, R194, R198). -/
def openLoop (h : Nat) (s : State) : State :=
  let s := if s.on SV_SLOT_STATE.closed h then s.setS X.sv_dcur h (s.getS SV_SLOT_STATE.command h) else s
  let s := ((s.clear X.sv_disp h).clear X.sv_u h).clear X.sv_lostcnt h
  ((s.clear SV_SLOT_STATE.closed h).clear SV_SLOT_STATE.ready h).clear SV_SLOT_OFS.disp_nm h

/-- A head is lost: its writer is gated, its loop opened, it leaves its comb, nothing new is scheduled on it, a record is
written, a check naming it is invalidated, and zones left without a head go Offline (R25 to R28). -/
def loseHead (h : Nat) (s : State) : State :=
  if s.on X.head_lost h then s
  else
    let s := gateOff h gateLane s
    let s := openLoop h (s.clear SV_SLOT_STATE.member h)
    let s := raiseLoss h (moveQueue h (s.set X.head_lost h 1))
    let s := smartEvent (scLoss (.head h) s)
    offlineCheck (s.event 2 h 0xFF)

/-- Make one head of an actuator unable to write, follow or be scheduled, without its own record. -/
def stopHead (cause h : Nat) (s : State) : State :=
  openLoop h ((gateOff h cause s).clear SV_SLOT_STATE.member h)

/-- A whole actuator is lost: its writers are gated, its heads leave every comb with loops opened, its voice-coil grant is
released, and one record is written (R25, R27, R338). -/
def loseAct (a : Nat) (s : State) : State :=
  if s.on X.act_lost a then s
  else
    let s := s.each (s.image.actHeads a) (fun h t => moveQueue h (stopHead gateFeedback h (if t.on X.head_lost h then t else t.set X.head_lost h 2)))
    let s := s.set X.act_lost a 1
    let s := match s.image.portOf 2 a with
      | some p => hgReturn p s
      | none => s
    let s := smartEvent (scLoss (.actuator a) s)
    offlineCheck (s.event 13 a 0xFF)

end Sys2Proof.Machine
end

