-- ==== Sys2Proof/Machine/Buffer.lean ====
section
/-! DEFINITION. The two data memories: the Cistern behind BM and the Reservoir behind RV (19_memories.md, R400 to R411),
and the register commands of their controllers. -/

namespace Sys2Proof.Machine

/-- Report the backed range: 1,920 MiB for each device in service once one is ready (BM_STATUS). -/
def showBacked (s : State) : State :=
  let any := (mapDevices s).any (devUp s)
  s.set BM_STATUS.backed_mib 0 (if any then 1920 * (mapDevices s).length else 0)

/-- Cistern bytes. -/
def State.cisternRead (s : State) (a n : Nat) : List Byte := memRead s.cistern 0 a n

/-- The units that `n` bytes from `a` touch. -/
def unitsOf (a n : Nat) : List Nat :=
  if n = 0 then [] else (List.range ((a + n - 1) / 32 - a / 32 + 1)).map (fun k => 32 * (a / 32 + k))

/-- Record the requester and address of a poisoned unit: master is kind × 8,192 + subsystem × 256 + instance. -/
def ueAddr (sub inst kind a : Fld) (master k addr : Nat) (s : State) : State :=
  let s := (s.set sub 0 (master / 256 % 32)).set inst 0 (master % 256)
  (s.set kind 0 k).set a 0 addr

/-- A device is lost: its range is refused, dev_lost is set and a record written, an affected check is invalidated
(R26, R407). -/
def loseDevice (d : Nat) (s : State) : State :=
  if devState s d = devLost then s
  else
    let s := s.set (devField d) 0 devLost
    let s := smartEvent (scLoss (.gddr d) s)
    s.alarm BM_INT.dev_lost 0 5 d

/-- Count an uncorrectable unit toward the device's limit within any 1 s (R407). -/
def countUe (d : Nat) (s : State) : State :=
  let times := (KV.getD s.bmUeTimes d []).filter (fun t => decide (s.dtime < t + 1000000000)) ++ [s.dtime]
  let s := { s with bmUeTimes := kset [] s.bmUeTimes d times }
  if s.get BM_CFG.ue_limit < times.length then loseDevice d s else s

/-- A poisoned read: counted, recorded, and no data delivered (R406). -/
def poisonedRead (d master kind addr : Nat) (s : State) : State :=
  let s := s.inc BM_DEV_ERR.ue d
  let s := ueAddr BM_UE_ADDR.subsystem BM_UE_ADDR.inst BM_UE_ADDR.kind BM_UE_ADDR.addr master kind addr s
  countUe d (s.alarm BM_INT.ue 0 5 d [addr])

/-- A single-bit error: corrected, written back and counted (R406). -/
def correctedRead (d : Nat) (s : State) : State := (s.inc BM_DEV_ERR.ce d).raise BM_INT.ce

/-- A partly covered unit whose merge reads uncorrectable, or that is poisoned already, is written back with poison; a
whole unit written carries none (R406). `error` is what the stored bits of the access's first unit show. -/
def mergeUnit (d master a n error u : Nat) (s : State) : State :=
  let whole := decide (a ≤ u) && decide (u + 32 ≤ a + n)
  if whole then { s with cisternPoison := s.cisternPoison.filter (fun x => x != u) }
  else
    let error := if u = 32 * (a / 32) then error else 0
    if error = 2 ∨ s.cisternPoison.contains u then
      let s := { s with cisternPoison := insertNat u s.cisternPoison }
      let s := ueAddr BM_UE_ADDR.subsystem BM_UE_ADDR.inst BM_UE_ADDR.kind BM_UE_ADDR.addr master 3 u s
      let s := s.alarm BM_INT.poison 0 5 d [u]
      if error = 2 then countUe d s else s
    else if error = 1 then correctedRead d s
    else s

/-- The first unit of an access that no device serves. -/
def cisternGap (s : State) (a n : Nat) : Option Nat := (unitsOf a n).find? (fun u => !cisternServed s u)

/-! How a device stores its data (R403, R404). -/

/-- The 16-bit check word of a data unit: its extended Hamming code, the poison bit, and the unit's address bits 39:5 folded into five
(R404). -/
def checkWord (s : State) (u : Nat) : Nat :=
  let fold := (List.range 7).foldl (fun x k => x ^^^ u / 2 ^ (5 + 5 * k) % 32) 0
  Config.hamming (s.cisternRead u 32) % 1024 + 1024 * b2n (s.cisternPoison.contains u) + 2048 * fold

/-- Byte `i` of a device's storage, whose backed range starts at address `base`: blocks of 512 bytes hold 15 data units, their check
words and two zeros. Consecutive blocks lie in the device's two channels by turns (R403). -/
def deviceByte (s : State) (base i : Nat) : Byte :=
  let b := i / 512
  let k := i % 512
  if k < 480 then memByte s.cistern 0 (base + 480 * b + k)
  else if k < 510 then (leBytes (checkWord s (base + 480 * b + 32 * ((k - 480) / 2))) 2).getD (k % 2) 0
  else 0

/-- The channel of a device that holds offset `o` of its data (R403). -/
def channelOf (o : Nat) : Nat := o / 480 % 2

/-- A read of a unit that is not served: nothing where nothing backs it, else a poisoned read, of kind 5 where the device is lost (R14,
R407). -/
def cisternRefuse (master kind u : Nat) (s : State) : State :=
  match deviceOf s u with
  | none => s
  | some d => poisonedRead d master (if devState s d = devLost then 5 else kind) (32 * (u / 32)) s

/-- An access wakes its device from self-refresh (R372, R402). -/
def wakeDev (d : Nat) (s : State) : State := if devState s d = 4 then s.set (devField d) 0 devReady else s

/-- A read of the Cistern: the bytes delivered, none for a bus error, a lost device's range or a poisoned unit. `error` is what the
stored bits of the first unit show: 0 none, 1 one bit, 2 uncorrectable (R14, R406, R407). -/
def cisternLoad (master kind a n error : Nat) (s : State) : Option (List Byte) × State :=
  match deviceOf s a with
  | none => (none, s)
  | some d =>
    match (if devUp s d then cisternGap s a n else some a) with
    | some u => (none, cisternRefuse master kind u s)
    | none =>
      let s := wakeDev d s
      match (if error = 2 then some (32 * (a / 32)) else (unitsOf a n).find? (fun u => s.cisternPoison.contains u)) with
      | some u => (none, poisonedRead d master kind u s)
      | none => (some (s.cisternRead a n), if error = 1 then correctedRead d s else s)

/-- A write of the Cistern: partly covered units are merged; none where a unit is not served (R14, R406, R407). -/
def cisternWrite (master a : Nat) (data : List Byte) (error : Nat) (s : State) : Option State :=
  match deviceOf s a with
  | none => none
  | some d =>
    if !devUp s d || (cisternGap s a data.length).isSome then none
    else
      let s := (unitsOf a data.length).foldl (fun t u => mergeUnit d master a data.length error u t) (wakeDev d s)
      some (s.cisternStore a data)

/-- BM_CTRL.enable is set: every configured device trains (R401). -/
def bmEnable (s : State) : State :=
  let s := s.set BM_CTRL.enable 0 1
  s.each ((List.range 2).filter (fun d => devConfigured s d && devState s d == 0)) (fun d t => t.set (devField d) 0 devTraining)

/-- BM_ENABLE: every configured device trains (R401). -/
def execBmEnable (s : State) : Res := run true s bmEnable

/-- DEVICE_READY: training and zero-fill end, or training fails and the device is lost (R401, R407). -/
def execDeviceReady (dev : Nat) (ok : Bool) (s : State) : Res :=
  run (okDevice dev) s (fun s =>
    if devState s dev = devTraining ∨ devState s dev = 2 then
      if ok then
        let s := s.set (devField dev) 0 devReady
        let gone := fun a => deviceOf s a == some dev
        showBacked { s with cistern := s.cistern.filter (fun c => !gone c.1), cisternPoison := s.cisternPoison.filter (fun u => !gone u) }
      else loseDevice dev (s.alarm BM_INT.train_fail 0 5 dev)
    else s)

/-- PERIODIC_RETRAIN: one channel's WCK and read timing are retrained; its requests wait at most 1 µs and no state
changes (R401). -/
def execPeriodicRetrain (dev _channel : Nat) (s : State) : Res := run (okDevice dev) s (fun s => s)

/-- FULL_RETRAIN: BM_CTRL.action 1 retrains every channel, holding each at most 2 ms; no state changes (R401). -/
def execFullRetrain (s : State) : Res := run true s (fun s => s)

/-- CLEAR_BM_DEV_ERR: BM_CTRL.action 2. -/
def execClearBmDevErr (s : State) : Res :=
  run true s (fun s => s.each (List.range 2) (fun d t => t.resetReg BM_DEV_ERR d))

/-- EDC_MISMATCH: `outcome` is the number of the replay that succeeds. Beyond replay_max the channel is retrained and one
more replay made; if that fails too (outcome above replay_max + 1) the device is lost (R405, R407). -/
def execEdcMismatch (dev _channel outcome : Nat) (s : State) : Res :=
  run (okDevice dev) s (fun s =>
    if devState s dev = devReady then
      let m := s.get BM_CFG.replay_max
      let s := (s.addSat BM_DEV_ERR.replays dev (min (max outcome 1) m)).raise BM_INT.replay
      if outcome ≤ m then s
      else
        let s := ((s.inc BM_DEV_ERR.retrains dev).raise BM_INT.retrain).inc BM_DEV_ERR.replays dev
        if outcome = m + 1 then s else loseDevice dev s
    else s)

/-- Units of a device. -/
def deviceUnits : Nat := deviceBytes / 32

/-- SCRUB: the scrubber reads unit `unit` of a device, corrects it, or poisons and records it without faulting a requester
(R406); the last unit of the backed range ends a pass. -/
def execScrub (dev unit error : Nat) (s : State) : Res :=
  run (okDevice dev) s (fun s =>
    match (mapDevices s).idxOf? dev with
    | none => s
    | some k =>
      if s.get BM_CTRL.scrub_en = 0 ∨ devState s dev ≠ devReady ∨ deviceUnits ≤ unit then s
      else
        let u := cisternBase + k * deviceBytes + 32 * unit
        let total := deviceUnits * (mapDevices s).length
        let pos := k * deviceUnits + unit + 1
        let s := if error = 1 then correctedRead dev s
          else if error = 2 then
            let s := { s with cisternPoison := insertNat u s.cisternPoison }
            let s := ueAddr BM_UE_ADDR.subsystem BM_UE_ADDR.inst BM_UE_ADDR.kind BM_UE_ADDR.addr (5 * 256) 4 u s
            countUe dev (s.event 5 dev 0xFF [u])
          else s
        if pos = total then (s.set BM_SCRUB.progress 0 0).raise BM_INT.scrub_pass
        else s.set BM_SCRUB.progress 0 (pos * 65536 / total))

/-! The Reservoir. -/

/-- An uncorrectable Reservoir byte: RV_INT.ue, its requester and address, and a record (R411). -/
def rvUncorrectable (master kind a : Nat) (s : State) : State :=
  let s := (s.inc RV_ERR_CNT.ue).alarm RV_INT.ue 0 6 0 [a]
  ueAddr RV_UE_ADDR.subsystem RV_UE_ADDR.inst RV_UE_ADDR.kind RV_UE_ADDR.addr master kind a s

/-- A corrected Reservoir byte (R411). -/
def rvCorrected (a : Nat) (s : State) : State := ((s.inc RV_ERR_CNT.ce).raise RV_INT.ce).set RV_CE_ADDR.addr 0 a

/-- The addresses of an access's uncorrectable bytes: the first byte where its stored bits show it (`error` 2), and those that hold a
poisoned write-back (R411). -/
def rvFaults (s : State) (a n error : Nat) : List Nat :=
  let bad := s.rvBad.filter (fun x => decide (a ≤ x) && decide (x < a + n))
  if error = 2 then insertNat a bad else bad

/-- A read of the Reservoir: the bytes delivered, none for a bus error or an uncorrectable byte, each of which is counted and recorded.
`error` is what the stored bits of the first byte show: 0 none, 1 one bit, 2 uncorrectable (R14, R410, R411). -/
def rvLoad (master kind a n error : Nat) (s : State) : Option (List Byte) × State :=
  if a < rvBase ∨ rvEnd < a + n then (none, s)
  else
    match rvFaults s a n error with
    | x :: r => (none, (x :: r).foldl (fun t y => rvUncorrectable master kind y t) s)
    | [] =>
      let s := if error = 1 then rvCorrected a s else s
      (some ((List.range n).map (fun k => rvByte s a k)), { s with freeCtr := s.freeCtr + n })

/-- A write of the Reservoir; none outside it (R14, R409). -/
def rvWrite (a : Nat) (data : List Byte) (s : State) : Option State :=
  if a < rvBase ∨ rvEnd < a + data.length then none else some (s.rvStore a data)

/-- A read of the memory that an address names. -/
def memLoad (master kind a n error : Nat) (s : State) : Option (List Byte) × State :=
  if inReservoir a then rvLoad master kind a n error s else cisternLoad master kind a n error s

/-- A write of the memory that an address names; none where it takes no write. -/
def memStore (master a : Nat) (data : List Byte) (error : Nat) (s : State) : Option State :=
  if inReservoir a then rvWrite a data s else cisternWrite master a data error s

/-- RESERVOIR_FILL: RV_CTRL.action 1 zero-fills the range of RV_FILL, or is refused; an access inside the range waits for
the fill, so the zeros stand from its start (R410). -/
def execReservoirFill (s : State) : Res :=
  run true s (fun s =>
    let first := s.get RV_FILL.start
    let len := s.get RV_FILL.len
    if s.on X.rv_filling || decide (0x80000 < first + len) then s.raise RV_INT.fill_refused
    else (s.rvZero (rvBase + 64 * first) (64 * len)).set X.rv_filling 0 1)

/-- FILL_DONE (R410). -/
def execFillDone (s : State) : Res :=
  run true s (fun s => if s.on X.rv_filling then (s.clear X.rv_filling).raise RV_INT.fill_done else s)

end Sys2Proof.Machine
end

