-- ==== Sys2Proof/Machine/Deflate.lean ====
section
/-! DEFINITION. DEFLATE as the compression engine writes and reads it (13_compression.md, R295, R297, R298, R303; RFC 1951, which R297
names): the match search, the blocks and their codes, and the expansion. Bits are a list, the first in the stream first; a value has its
least significant bit first, a Huffman code its most significant. What R297 leaves to the engine is a free function of Config (log
entry 108). -/

namespace Sys2Proof.Machine

/-! The level table (R295). -/

/-- A level: hash-chain depth, lazy matching, cycle budget for a chunk. -/
structure CxLevel where
  depth : Nat
  lazy : Bool
  budget : Nat
  deriving DecidableEq, Repr, Inhabited

/-- Levels 1 to 9 (R295). -/
def cxLevels : List CxLevel :=
  [⟨1, false, 32768⟩, ⟨4, false, 49152⟩, ⟨8, false, 65536⟩, ⟨16, true, 98304⟩, ⟨32, true, 131072⟩, ⟨64, true, 196608⟩,
   ⟨128, true, 262144⟩, ⟨256, true, 393216⟩, ⟨1024, true, 524288⟩]

/-- The level of a number; one outside 1 to 9 is taken as the nearer. -/
def cxLevelOf (n : Nat) : CxLevel := cxLevels.getD (min 8 (n - 1)) default

/-! Matches (R297). -/

/-- A symbol of the stream before coding: a literal byte, or a length and a distance. -/
inductive LzTok where
  | lit (b : Nat)
  | copy (len dist : Nat)
  deriving DecidableEq, Repr

/-- The hash of the three bytes at a place. -/
def hash3 (d : List Nat) (n : Nat) : Nat := Config.hash15 (d.getD n 0) (d.getD (n + 1) 0) (d.getD (n + 2) 0) % 32768

/-- Bytes that agree from two places on, at most `k`. -/
def agree (d : List Nat) : Nat → Nat → Nat → Nat
  | 0, _, _ => 0
  | k + 1, p, n => if d.getD p 256 = d.getD n 257 then agree d k (p + 1) (n + 1) + 1 else 0

/-- The chain of a place: earlier places with its hash, nearest first, within the 32,768 bytes a distance can name. -/
def hashChain (d : List Nat) (n : Nat) : List Nat :=
  ((List.range n).reverse.filter (fun p => hash3 d p == hash3 d n)).filter (fun p => decide (n - p ≤ 32768))

/-- The longest match at a place within a chain's depth, up to 258 bytes and not past `stop`, as length and distance; of two as long the
nearer. Length 0 where none has 3 bytes (R297). -/
def bestMatch (d : List Nat) (depth stop n : Nat) : Nat × Nat :=
  if stop < n + 3 then (0, 0)
  else
    let l := ((hashChain d n).take depth).map (fun p => (agree d (min 258 (stop - n)) p n, n - p))
    let b := l.foldl (fun (b : Nat × Nat) c => if b.1 < c.1 then c else b) (0, 0)
    if b.1 < 3 then (0, 0) else b

/-- The symbols from a place to `stop`, with the cycles left: while they last the search walks to the level's depth, and once they equal
what depth-1 search needs for the bytes left, to depth 1 (R295, R297). -/
def lzFrom (d : List Nat) (v : CxLevel) (stop : Nat) : Nat → Nat → Nat → List LzTok × Nat
  | 0, _, left => ([], left)
  | k + 1, n, left =>
    if stop ≤ n then ([], left)
    else
      let depth := if left ≤ Config.depthOneCycles (d.length - n) then 1 else v.depth
      let left := left - Config.searchCycles depth d n
      let m := bestMatch d depth stop n
      let next := if v.lazy && m.1 != 0 then bestMatch d depth stop (n + 1) else (0, 0)
      if m.1 = 0 ∨ m.1 < next.1 then
        let r := lzFrom d v stop k (n + 1) left
        (.lit (d.getD n 0) :: r.1, r.2)
      else
        let r := lzFrom d v stop k (n + m.1) left
        (.copy m.1 m.2 :: r.1, r.2)

/-- The symbols of each 16 KiB of a chunk (R297). -/
def lzBlocks (d : List Nat) (v : CxLevel) : List (List LzTok) :=
  ((List.range ((d.length + 16383) / 16384)).foldl (fun (p : List (List LzTok) × Nat) k =>
    let r := lzFrom d v (min d.length (16384 * (k + 1))) 16384 (16384 * k) p.2
    (p.1 ++ [r.1], r.2)) ([], v.budget)).1

/-! Symbols (RFC 1951, 3.2.5). -/

/-- Lowest length, and extra bits, of length codes 257 to 285. -/
def lenTable : List (Nat × Nat) :=
  [(3, 0), (4, 0), (5, 0), (6, 0), (7, 0), (8, 0), (9, 0), (10, 0), (11, 1), (13, 1), (15, 1), (17, 1), (19, 2), (23, 2), (27, 2), (31, 2),
   (35, 3), (43, 3), (51, 3), (59, 3), (67, 4), (83, 4), (99, 4), (115, 4), (131, 5), (163, 5), (195, 5), (227, 5), (258, 0)]

/-- Lowest distance, and extra bits, of distance codes 0 to 29. -/
def distTable : List (Nat × Nat) :=
  [(1, 0), (2, 0), (3, 0), (4, 0), (5, 1), (7, 1), (9, 2), (13, 2), (17, 3), (25, 3), (33, 4), (49, 4), (65, 5), (97, 5), (129, 6), (193, 6),
   (257, 7), (385, 7), (513, 8), (769, 8), (1025, 9), (1537, 9), (2049, 10), (3073, 10), (4097, 11), (6145, 11), (8193, 12), (12289, 12),
   (16385, 13), (24577, 13)]

/-- The code of a value in a table: the last row that starts at or below it; its extra bits and their value. -/
def tableCode (t : List (Nat × Nat)) (v : Nat) : Nat × (Nat × Nat) :=
  let i := ((List.range t.length).filter (fun i => decide ((t.getD i (0, 0)).1 ≤ v))).foldl max 0
  (i, ((t.getD i (0, 0)).2, v - (t.getD i (0, 0)).1))

/-! Huffman codes (RFC 1951, 3.2.2). -/

/-- The first code of each length. -/
def firstCode (lens : List Nat) : Nat → Nat
  | 0 => 0
  | n + 1 => 2 * (firstCode lens n + (if n = 0 then 0 else (lens.filter (fun l => l == n)).length))

/-- The code of a symbol by the code lengths. -/
def huffCode (lens : List Nat) (i : Nat) : Nat :=
  let n := lens.getD i 0
  firstCode lens n + ((lens.take i).filter (fun l => l == n)).length

/-- The bits of a symbol. -/
def huffBits (lens : List Nat) (i : Nat) : List Bool := natBits (lens.getD i 0) (huffCode lens i)

/-- The bits of a value, least significant first. -/
def lsbBits (w v : Nat) : List Bool := (List.range w).map (fun i => v.testBit i)

/-- Code lengths of the fixed codes (RFC 1951, 3.2.6). -/
def fixedLit : List Nat := List.replicate 144 8 ++ List.replicate 112 9 ++ List.replicate 24 7 ++ List.replicate 8 8
def fixedDist : List Nat := List.replicate 30 5

/-! Blocks. -/

/-- The bits of one symbol under code lengths for literals and lengths, and for distances. -/
def tokBits (lit dist : List Nat) : LzTok → List Bool
  | .lit b => huffBits lit b
  | .copy len d =>
    let l := tableCode lenTable len
    let x := tableCode distTable d
    huffBits lit (257 + l.1) ++ lsbBits l.2.1 l.2.2 ++ huffBits dist x.1 ++ lsbBits x.2.1 x.2.2

/-- How often each literal, length and end-of-block code occurs in a block, and each distance code. -/
def litCounts (ts : List LzTok) : List Nat :=
  let syms := ts.map (fun t => match t with | .lit b => b | .copy len _ => 257 + (tableCode lenTable len).1)
  (List.range 286).map (fun i => ((256 :: syms).filter (fun s => s == i)).length)
def distCounts (ts : List LzTok) : List Nat :=
  let syms := ts.filterMap (fun t => match t with | .lit _ => none | .copy _ d => some (tableCode distTable d).1)
  (List.range 30).map (fun i => (syms.filter (fun s => s == i)).length)

/-- The order of the code length code lengths (RFC 1951, 3.2.7). -/
def clenOrder : List Nat := [16, 17, 18, 0, 8, 7, 9, 6, 10, 5, 11, 4, 12, 3, 13, 2, 14, 1, 15]

/-- Extra bits of a code length symbol. -/
def clenExtra (s : Nat) : Nat := if s = 16 then 2 else if s = 17 then 3 else if s = 18 then 7 else 0

/-- The code lengths of a table without the zeros at its end, at least `least` of them. -/
def trimLens (least : Nat) (lens : List Nat) : List Nat :=
  let n := ((List.range lens.length).filter (fun i => lens.getD i 0 != 0)).foldl (fun m i => max m (i + 1)) 0
  lens.take (max least n)

/-- The header of a dynamic block: the counts, the code length code, and the lengths in it (RFC 1951, 3.2.7). -/
def dynHeader (lit dist : List Nat) : List Bool :=
  let l := trimLens 257 lit
  let d := trimLens 1 dist
  let runs := Config.lengthRuns (l ++ d)
  let counts := (List.range 19).map (fun i => (runs.filter (fun r => r.1 == i)).length)
  let cl := Config.huffLengths 7 counts
  let order := trimLens 4 (clenOrder.map (fun i => cl.getD i 0))
  lsbBits 5 (l.length - 257) ++ lsbBits 5 (d.length - 1) ++ lsbBits 4 (order.length - 4) ++ order.flatMap (lsbBits 3)
    ++ runs.flatMap (fun r => huffBits cl r.1 ++ lsbBits (clenExtra r.1) r.2)

/-- A block as its parts: the header's bits, those of each symbol, those of the end-of-block code. -/
def blockParts (final : Bool) (ty : Nat) (head : List Bool) (lit dist : List Nat) (ts : List LzTok) : List Bool × (List (List Bool) × List Bool) :=
  ([final] ++ lsbBits 2 ty ++ head, (ts.map (tokBits lit dist), huffBits lit 256))

/-- The bits of a block's parts. -/
def partsBits (p : List Bool × (List (List Bool) × List Bool)) : List Bool := p.1 ++ p.2.1.flatten ++ p.2.2

/-- A block of 16 KiB: fixed or dynamic codes, whichever is shorter, fixed where both are as long (R297). -/
def deflateBlock (final : Bool) (ts : List LzTok) : List Bool × (List (List Bool) × List Bool) :=
  let lit := Config.huffLengths 15 (litCounts ts)
  let dist := Config.huffLengths 15 (distCounts ts)
  let fixed := blockParts final 1 [] fixedLit fixedDist ts
  let dyn := blockParts final 2 (dynHeader lit dist) lit dist ts
  if (partsBits dyn).length < (partsBits fixed).length then dyn else fixed

/-- Emit a block after `used` bits: none where a symbol does not fit the limit with 22 bits more (R298). -/
def emitBlock (limit : Nat) (p : List Bool × (List (List Bool) × List Bool)) (out : List Bool) : Option (List Bool) :=
  (p.2.1.foldl (fun (o : Option (List Bool)) b => match o with
    | none => none
    | some l => if l.length + b.length + 22 ≤ limit then some (l ++ b) else none) (some (out ++ p.1))).map (fun l => l ++ p.2.2)

/-- Bits as bytes, the first the least significant, padded with zero bits (R297). -/
def packBits : Nat → List Bool → List Nat
  | 0, _ => []
  | n + 1, l => if l.isEmpty then [] else (l.take 8).foldr (fun b v => b2n b + 2 * v) 0 :: packBits n (l.drop 8)

/-- The payload of a chunk at a level: none where it would exceed `limit` bytes (R295, R297, R298). -/
def deflate (level limit : Nat) (data : List Byte) : Option (List Byte) :=
  let d := data.map (fun b => b.toNat)
  let blocks := lzBlocks d (cxLevelOf level)
  let out := (List.range blocks.length).foldl (fun (o : Option (List Bool)) k => match o with
    | none => none
    | some l => emitBlock (8 * limit) (deflateBlock (k + 1 == blocks.length) (blocks.getD k [])) l) (some [])
  out.map (fun l => (packBits (l.length / 8 + 1) l).map (fun n => BitVec.ofNat 8 n))

/-! Expansion (RFC 1951; R303). -/

/-- A value of `w` bits, least significant first; none where the stream ends. -/
def takeBits (w : Nat) (l : List Bool) : Option (Nat × List Bool) :=
  if l.length < w then none else some ((l.take w).foldr (fun b v => b2n b + 2 * v) 0, l.drop w)

/-- The next symbol under code lengths: a code of at most 15 bits, or none for an invalid one. -/
def takeSym (lens : List Nat) : Nat → Nat → Nat → List Bool → Option (Nat × List Bool)
  | 0, _, _, _ => none
  | _ + 1, _, _, [] => none
  | k + 1, n, code, b :: r =>
    let c := 2 * code + b2n b
    match (List.range lens.length).find? (fun i => lens.getD i 0 == n + 1 && huffCode lens i == c) with
    | some i => some (i, r)
    | none => takeSym lens k (n + 1) c r

/-- Copy `len` bytes from `dist` back, in an output held last byte first. -/
def copyBack : Nat → Nat → List Nat → List Nat
  | 0, _, o => o
  | n + 1, dist, o => copyBack n dist (o.getD (dist - 1) 0 :: o)

/-- The symbols of a block up to its end code, into an output held last byte first; none for an invalid code, a distance before the start,
an output beyond `cap`, or a stream that ends (R303). -/
def inflateSyms (lit dist : List Nat) (cap : Nat) : Nat → List Bool → List Nat → Option (List Bool × List Nat)
  | 0, _, _ => none
  | k + 1, l, o =>
    match takeSym lit 15 0 0 l with
    | none => none
    | some (s, l) =>
      if s < 256 then (if o.length < cap then inflateSyms lit dist cap k l (s :: o) else none)
      else if s = 256 then some (l, o)
      else
        match lenTable[s - 257]? with
        | none => none
        | some row =>
          match takeBits row.2 l with
          | none => none
          | some (x, l) =>
            match takeSym dist 15 0 0 l with
            | none => none
            | some (e, l) =>
              match distTable[e]? with
              | none => none
              | some drow =>
                match takeBits drow.2 l with
                | none => none
                | some (y, l) =>
                  let len := row.1 + x
                  let d := drow.1 + y
                  if o.length < d ∨ cap < o.length + len then none else inflateSyms lit dist cap k l (copyBack len d o)

/-- The code lengths of a dynamic header: `n` of them, each given or repeated. -/
def readLens (cl : List Nat) (n : Nat) : Nat → List Bool → List Nat → Option (List Nat × List Bool)
  | 0, _, _ => none
  | k + 1, l, o =>
    if o.length = n then some (o, l)
    else if n < o.length then none
    else
      match takeSym cl 7 0 0 l with
      | none => none
      | some (s, l) =>
        if s < 16 then readLens cl n k l (o ++ [s])
        else
          match takeBits (clenExtra s) l with
          | none => none
          | some (x, l) =>
            if s = 16 then (if o.isEmpty then none else readLens cl n k l (o ++ List.replicate (3 + x) (o.getLastD 0)))
            else readLens cl n k l (o ++ List.replicate ((if s = 17 then 3 else 11) + x) 0)

/-- The codes of a dynamic block (RFC 1951, 3.2.7). -/
def readDyn (l : List Bool) : Option ((List Nat × List Nat) × List Bool) :=
  match takeBits 14 l with
  | none => none
  | some (h, l) =>
    let nl := h % 32 + 257
    let nd := h / 32 % 32 + 1
    let nc := h / 1024 + 4
    match takeBits (3 * nc) l with
    | none => none
    | some (c, l) =>
      let cl := (List.range 19).map (fun i => match clenOrder.idxOf? i with
        | some k => if k < nc then c / 8 ^ k % 8 else 0
        | none => 0)
      match readLens cl (nl + nd) (nl + nd + 1) l [] with
      | none => none
      | some (lens, l) => some ((lens.take nl, lens.drop nl), l)

/-- The bytes of a stored block: from the next whole byte a length and its complement, then the bytes (RFC 1951, 3.2.4). -/
def inflateStored (cap : Nat) (l : List Bool) (o : List Nat) : Option (List Bool × List Nat) :=
  let l := l.drop (l.length % 8)
  match takeBits 32 l with
  | none => none
  | some (h, l) =>
    let n := h % 65536
    if h / 65536 ≠ 65535 - n ∨ cap < o.length + n then none
    else match takeBits (8 * n) l with
      | none => none
      | some (_, r) => some (r, ((packBits n (l.take (8 * n))).reverse ++ o))

/-- The blocks of a stream up to the final one, into an output held last byte first. -/
def inflateBlocks (cap : Nat) : Nat → List Bool → List Nat → Option (List Nat)
  | 0, _, _ => none
  | k + 1, l, o =>
    match takeBits 3 l with
    | none => none
    | some (h, l) =>
      let r := match h / 2 with
        | 0 => inflateStored cap l o
        | 1 => inflateSyms fixedLit fixedDist cap (l.length + 1) l o
        | 2 => match readDyn l with
          | some (t, l) => inflateSyms t.1 t.2 cap (l.length + 1) l o
          | none => none
        | _ => none
      match r with
      | none => none
      | some (l, o) => if h % 2 = 1 then some o else inflateBlocks cap k l o

/-- Expand a payload to at most `cap` bytes; none where the stream is not good (R303). -/
def inflate (cap : Nat) (payload : List Byte) : Option (List Byte) :=
  let l := payload.flatMap (fun b => lsbBits 8 b.toNat)
  (inflateBlocks cap (l.length + 1) l []).map (fun o => o.reverse.map (fun n => BitVec.ofNat 8 n))

end Sys2Proof.Machine
end

