-- ==== Sys2Proof/Machine/Xts.lean ====
section
/-! DEFINITION. XTS-AES-256, the encryption of the write path (06_write_path.md, R136 to R139): AES-256 (FIPS 197) and the XTS mode of
IEEE 1619, which R137 names. Bytes are numbers below 256, a block is 16 of them. -/

namespace Sys2Proof.Machine

/-! AES-256. -/

/-- Twice a byte in the field of AES. -/
def aesDouble (b : Nat) : Nat := if b < 128 then 2 * b else (2 * b) ^^^ 0x11B

/-- Product of two bytes in the field of AES. -/
def aesMul (a b : Nat) : Nat :=
  ((List.range 8).foldl (fun (p : Nat × Nat) i => (if b.testBit i then p.1 ^^^ p.2 else p.1, aesDouble p.2)) (0, a)).1

/-- Inverse in the field, 0 for 0: the 254th power. -/
def aesInv (a : Nat) : Nat :=
  ((List.range 7).foldl (fun (p : Nat × Nat) _ => let q := aesMul p.2 p.2; (aesMul p.1 q, q)) (1, a)).1

/-- A byte rotated left. -/
def rotByte (b n : Nat) : Nat := (b * 2 ^ n + b / 2 ^ (8 - n)) % 256

/-- The S-box. -/
def sBox (a : Nat) : Nat :=
  let b := aesInv a
  b ^^^ rotByte b 1 ^^^ rotByte b 2 ^^^ rotByte b 3 ^^^ rotByte b 4 ^^^ 0x63

/-- The inverse S-box. -/
def invSBox (a : Nat) : Nat := aesInv (rotByte a 1 ^^^ rotByte a 3 ^^^ rotByte a 6 ^^^ 0x05)

/-- Bytewise exclusive or. -/
def xorBytes (a b : List Nat) : List Nat := a.zipWith (fun x y => x ^^^ y) b

/-- The 60 words of the expanded key of 32 bytes. -/
def expandKey (key : List Nat) : List (List Nat) :=
  (List.range 60).foldl (fun (ws : List (List Nat)) i =>
    if i < 8 then ws ++ [(key.drop (4 * i)).take 4]
    else
      let t := ws.getD (i - 1) []
      let t := if i % 8 = 0 then
          let r := (t.drop 1 ++ t.take 1).map sBox
          xorBytes r [(List.range (i / 8 - 1)).foldl (fun b _ => aesDouble b) 1, 0, 0, 0]
        else if i % 8 = 4 then t.map sBox else t
      ws ++ [xorBytes (ws.getD (i - 8) []) t]) []

/-- The 16 bytes of round key r. -/
def roundKey (ws : List (List Nat)) (r : Nat) : List Nat := ((ws.drop (4 * r)).take 4).flatten

/-- ShiftRows, and its inverse with `back`. -/
def shiftRows (back : Bool) (b : List Nat) : List Nat :=
  (List.range 16).map (fun i =>
    let row := i % 4
    let col := if back then i / 4 + 4 - row else i / 4 + row
    b.getD (4 * (col % 4) + row) 0)

/-- MixColumns with the coefficients of a column's first row. -/
def mixColumns (k : List Nat) (b : List Nat) : List Nat :=
  (List.range 16).map (fun i =>
    (List.range 4).foldl (fun x j => x ^^^ aesMul (b.getD (4 * (i / 4) + j) 0) (k.getD ((j + 4 - i % 4) % 4) 0)) 0)

/-- AES-256 encryption of a block. -/
def aesEncrypt (key b : List Nat) : List Nat :=
  let ws := expandKey key
  let b := (List.range 13).foldl (fun b r =>
    xorBytes (mixColumns [2, 3, 1, 1] (shiftRows false (b.map sBox))) (roundKey ws (r + 1))) (xorBytes b (roundKey ws 0))
  xorBytes (shiftRows false (b.map sBox)) (roundKey ws 14)

/-- AES-256 decryption of a block. -/
def aesDecrypt (key b : List Nat) : List Nat :=
  let ws := expandKey key
  let b := (List.range 13).foldl (fun b r =>
    mixColumns [14, 11, 13, 9] (xorBytes ((shiftRows true b).map invSBox) (roundKey ws (13 - r)))) (xorBytes b (roundKey ws 14))
  xorBytes ((shiftRows true b).map invSBox) (roundKey ws 0)

/-! XTS. -/

/-- The tweak of the next block: times alpha, the 16 bytes little-endian. -/
def xtsNext (t : Nat) : Nat := if t.testBit 127 then (2 * t) % 2 ^ 128 ^^^ 0x87 else 2 * t

/-- Byte numbers of a number, little-endian. -/
def leNums (v n : Nat) : List Nat := (List.range n).map (fun i => v / 256 ^ i % 256)

/-- A number of little-endian byte numbers. -/
def numsLe (l : List Nat) : Nat := l.foldr (fun b v => b + 256 * v) 0

/-- The blocks of a data unit, each under its tweak. R137 makes every unit a multiple of 16 bytes. -/
def xtsBlocks (one : List Nat → List Nat) : Nat → Nat → List Nat → List Nat
  | 0, _, _ => []
  | k + 1, t, d =>
    let m := leNums t 16
    xorBytes (one (xorBytes (d.take 16) m)) m ++ xtsBlocks one k (xtsNext t) (d.drop 16)

/-- A data unit through XTS with a slot's 512 bits, the data key low, and a tweak value (R137, R138). -/
def xtsUnit (decrypt : Bool) (key tweak : Nat) (data : List Byte) : List Byte :=
  let k1 := leNums key 32
  let k2 := leNums (key / 2 ^ 256) 32
  let t := numsLe (aesEncrypt k2 (leNums tweak 16))
  let one := if decrypt then aesDecrypt k1 else aesEncrypt k1
  (xtsBlocks one (data.length / 16) t (data.map (fun b => b.toNat))).map (fun n => BitVec.ofNat 8 n)

/-- Successive 4,096-byte units of some bytes, the first with the tweak given, each next one with the tweak one above (R137). -/
def xtsUnits (decrypt : Bool) (key : Nat) : Nat → Nat → List Byte → List Byte
  | 0, _, _ => []
  | n + 1, tweak, d =>
    if d.isEmpty then [] else xtsUnit decrypt key tweak (d.take 4096) ++ xtsUnits decrypt key n (tweak + 1) (d.drop 4096)

end Sys2Proof.Machine
end

