-- ==== Sys2Proof/Machine/DataPath.lean ====
section
/-! DEFINITION. The data of reads and writes between the host and the flumes (06_write_path.md, R136, R137, R139, R153; 13_compression.md,
R300 to R307): encryption, extents, and what stands in the Cistern of each position. -/

namespace Sys2Proof.Machine

/-! Bytes. -/

/-- n bytes of a list from a place on, zeros past its end. -/
def bytesAt (l : List Byte) (at_ n : Nat) : List Byte :=
  let t := (l.drop at_).take n
  t ++ List.replicate (n - t.length) 0

/-- The 4,096 bytes of block i of a list. -/
def blockAt (l : List Byte) (i : Nat) : List Byte := bytesAt l (4096 * i) 4096

/-! Encryption (R136 to R139). -/

/-- The key slot that a namespace is bound to (R139). -/
def nsSlot (s : State) (n : Nat) : Option Nat := if s.on WP_NS_CRYPT.enable n then some (s.get WP_NS_CRYPT.slot n) else none

/-- An encrypted namespace whose key slot is empty (R139, R322). -/
def keyMissing (s : State) (n : Nat) : Bool := s.on WP_NS_CRYPT.enable n && !(s.get WP_XTS_SLOTS.loaded).testBit (s.get WP_NS_CRYPT.slot n)

/-- Bytes of a namespace through its key slot, in 4,096-byte units with rising tweaks from the one given; in clear where it is bound to no
slot (R136, R137). -/
def nsCrypt (s : State) (decrypt : Bool) (n tweak : Nat) (b : List Byte) : List Byte :=
  match nsSlot s n with
  | none => b
  | some k => xtsUnits decrypt (KV.getD s.keys k 0) (b.length / 4096 + 1) tweak b

/-- Data units of a slot are in the engines: of writes that have no positions yet, and of sectors read whose command has not ended (R139,
log entry 109). -/
def slotInUse (s : State) (k : Nat) : Bool :=
  s.wdata.any (fun w => w.slot == some k)
    || s.fetched.any (fun f => match ctxOf s f.ctx with | some x => nsSlot s (x.cmd.nsid - 1) == some k | none => false)

/-! Extents (R300, R303). -/

/-- The first 28 bytes of an extent's header (R300). -/
def extentHead (e : Extent) (check : Nat) : List Byte :=
  leBytes 0x5843 2 ++ leBytes (b2n e.raw) 1 ++ leBytes e.level 1 ++ leBytes e.payload 4 ++ leBytes e.orig 4 ++ leBytes check 4
    ++ leBytes e.chunk 8 ++ leBytes e.gen 4

/-- An extent: header, payload, zero padding to a multiple of 16 bytes (R300). -/
def extentBytes (e : Extent) (payload original : List Byte) : List Byte :=
  let h := extentHead e (crc32c original)
  bytesAt (h ++ leBytes (crc32c h) 4 ++ payload) 0 (16 * e.len16)

/-- A number at a place of an extent. -/
def extNum (b : List Byte) (at_ n : Nat) : Nat := leNat (bytesAt b at_ n)

/-- Expand an extent: the failure code of R303, 0 for none, and the original bytes. -/
def expandExtent (e : Extent) (b : List Byte) : Nat × List Byte :=
  let fmt := extNum b 2 1
  let plen := extNum b 4 4
  let orig := extNum b 8 4
  let out := if fmt = 1 then (if plen = orig then some ((b.drop 32).take plen) else none) else inflate orig ((b.drop 32).take plen)
  if extNum b 0 2 ≠ 0x5843 ∨ 1 < fmt ∨ extNum b 28 4 ≠ crc32c (b.take 28) then (1, [])
  else if extNum b 16 8 ≠ e.chunk ∨ extNum b 24 4 ≠ e.gen % 2 ^ 32 then (2, [])
  else if (b.drop (32 + plen)).any (fun x => x != 0) then (3, [])
  else match out with
    | none => (3, [])
    | some o => if o.length ≠ orig then (3, []) else if crc32c o ≠ extNum b 12 4 then (4, []) else (0, o)

/-- Positions that an extent spans. -/
def Extent.span (e : Extent) : Nat := (16 * e.off16 + 16 * e.len16 + 4095) / 4096

/-- An extent has a byte in a range of positions of a zone. -/
def Extent.touches (e : Extent) (z p n : Nat) : Bool :=
  let first := e.pos
  let last := e.pos + (16 * e.off16 + 16 * e.len16 - 1) / 4096
  e.zone == z && decide (first < p + n) && decide (p ≤ last)

/-- Lay extents out one after another from a position on: the list with their new places. -/
def layExtents (p : Nat) : List Extent → Nat → List Extent
  | [], _ => []
  | e :: r, at16 => { e with pos := p + at16 / 256, off16 := at16 % 256 } :: layExtents p r (at16 + e.len16)

/-! Chunks and blocks. -/

/-- A compressed namespace. -/
def nsCompressed (s : State) (n : Nat) : Bool := s.on ZX_NS.compressed n

/-- The extent of a chunk that the index holds. -/
def extentOf (s : State) (n chunk : Nat) : Option Extent := s.extents.find? (fun e => e.ns == n && e.chunk == chunk)

/-- Position of block i of a zone that is not compressed: the (i + 1)-th position that is not void (R267). -/
def posOfBlock (x : Zone) (i : Nat) : Nat := x.voids.foldl (fun p v => if v ≤ p then p + 1 else p) i

/-- Compression jobs, running or not. -/
def cxJobs (s : State) : List CxJob := s.cxReady ++ s.cxRun.map (fun p => p.2) ++ s.cxSusp.map (fun p => p.2)

/-- Original data of a chunk that waits for compression or packing, older first: generation, blocks held, bytes. An extent older than the
index's is left out (R301, R302). -/
def heldSources (s : State) (n k : Nat) : List (Nat × Nat × List Byte) :=
  let newer := fun (g : Nat) => match extentOf s n k with | some e => decide (e.gen < g) | none => true
  ((s.packing.filter (fun p => p.1.ns == n && p.1.chunk == k && newer p.1.gen)).map (fun p => (p.1.gen, 2 ^ (p.1.orig / 4096) - 1, (expandExtent p.1 p.1.data).2)))
    ++ ((cxJobs s).filter (fun j => j.kind == 0 && j.ns == n && j.chunk == k && !j.retried && newer j.gen)).map (fun j => (j.gen, 2 ^ j.blocks - 1, j.data))
    ++ (s.partials.filter (fun p => p.ns == n && p.chunk == k)).map (fun p => (p.gen, p.blocks, p.data))

/-- Blocks of a chunk whose original data waits for compression or packing. -/
def chunkHeld (s : State) (n k : Nat) : Nat := (heldSources s n k).foldl (fun m x => m ||| x.2.1) 0

/-- The newest held original data of a block of a chunk. -/
def heldBlock (s : State) (n k b : Nat) : Option (List Byte) :=
  (((heldSources s n k).filter (fun x => x.2.1.testBit b)).foldl (fun (o : Option (Nat × Nat × List Byte)) x => match o with
    | none => some x
    | some y => if y.1 ≤ x.1 then some x else some y) none).map (fun x => blockAt x.2.2 b)

/-- The chunk's bytes that are held, zeros elsewhere. -/
def heldBytes (s : State) (n k : Nat) : List Byte := (List.range 16).flatMap (fun b => (heldBlock s n k b).getD (bytesAt [] 0 4096))

/-! What stands in the Cistern. -/

/-- A position has been judged. -/
def posDone (s : State) (z p : Nat) : Bool :=
  let x := zoneOf s z
  decide (p < x.mwp) || x.ahead.contains p

/-- The namespace index that marks the writes of a sanitize overwrite. -/
def sanNs : Nat := 64

/-- The job of the zone reset entries of a crypto erase (R329). -/
def sanJob : Nat := 0xFFFF

/-- The bytes that a position is to hold: its data, or what stands for it in the part of its write that has no positions yet (R280); for an
overwrite the host's pattern (R329); for the journal, whose bits no rule lays out, free values (R269, log entry 109). -/
def srcBytes (s : State) (z p : Nat) : List Byte :=
  match s.source.find? (fun x => x.zone == z && x.pos == p) with
  | some x => x.bytes
  | none =>
    if s.writes.any (fun w => w.ns == sanNs && w.zone == z) then (List.range 1024).flatMap (fun _ => leBytes (s.get X.san_pattern) 4)
    else
      let rest := (s.writes.filter (fun w => w.zone == z && decide (w.first ≤ w.last))).findSome? (fun w => s.wdata.find? (fun v => v.wid == w.wid))
      match rest with
      | some w => if (zoneOf s z).next ≤ p then blockAt w.bytes (p - (zoneOf s z).next) else (List.range 4096).map (fun i => Config.openByte (2 ^ 32 * z + p) i)
      | none => (List.range 4096).map (fun i => Config.openByte (2 ^ 32 * z + p) i)

/-- A position has not passed, or is void with its data still to be written again (R153, R155). -/
def posOpen (s : State) (z p : Nat) : Bool :=
  !posDone s z p || s.rewrites.any (fun u => u.zone == z && decide (u.pos ≤ p) && decide (p < u.pos + u.count))

/-- The Cistern still needs a position's data: it is open, or holds bytes of an extent with an open position (R153, R307). -/
def srcNeeded (s : State) (z p : Nat) : Bool :=
  posOpen s z p || s.extents.any (fun e => e.wid == 0 && e.touches z p 1 && (List.range e.span).any (fun i => posOpen s z (e.pos + i)))

/-- Free the data of a zone's positions that is no longer needed (R153, R307). -/
def srcRelease (z : Nat) (s : State) : State := { s with source := s.source.filter (fun x => x.zone != z || srcNeeded s z x.pos) }

/-- Put the data of a position into the Cistern. -/
def srcPut (z p lba : Nat) (b : List Byte) (s : State) : State :=
  { s with source := s.source.filter (fun x => !(x.zone == z && x.pos == p)) ++ [{ zone := z, pos := p, lba := lba, bytes := b }] }

/-- The first n positions' worth of a write's data takes its positions (R268, R301). -/
def srcAssign (wid z p n : Nat) (s : State) : State :=
  match s.wdata.find? (fun w => w.wid == wid) with
  | none => s
  | some w =>
    let s := s.each (List.range n) (fun i t => srcPut z (p + i) (if w.lba = 0 then 0 else w.lba + i) (blockAt w.bytes i) t)
    let rest := w.bytes.drop (4096 * n)
    { s with wdata := s.wdata.filterMap (fun v => if v.wid = wid then
        (if rest.isEmpty then none else some { v with lba := if v.lba = 0 then 0 else v.lba + n, bytes := rest }) else some v) }

/-- The bytes of some positions. -/
def srcRun (s : State) (z p n : Nat) : List Byte := (List.range n).flatMap (fun i => srcBytes s z (p + i))

/-- The bytes of an extent in the Cistern, as they leave encryption: from the write that packs it, or from its positions (R301, R307). -/
def extentCipher (s : State) (e : Extent) : List Byte :=
  if e.wid ≠ 0 then
    let b := match s.wdata.find? (fun w => w.wid + 1 == e.wid) with | some w => w.bytes | none => []
    bytesAt b (4096 * e.pos + 16 * e.off16) (16 * e.len16)
  else bytesAt (srcRun s e.zone e.pos e.span) (16 * e.off16) (16 * e.len16)

/-- The bytes of an extent that a command has read from the media (R292). -/
def extentFetched (s : State) (c : Nat) (e : Extent) : List Byte :=
  let at_ := fun (p : Nat) => ((s.fetched.find? (fun f => f.ctx == c && f.zone == e.zone && f.pos == p)).map (fun f => f.bytes)).getD []
  bytesAt ((List.range e.span).flatMap (fun i => blockAt (at_ (e.pos + i)) 0)) (16 * e.off16) (16 * e.len16)

/-- An extent's bytes decrypted: unit i of chunk k has the tweak 32k + i (R137). -/
def extentPlain (s : State) (e : Extent) (b : List Byte) : List Byte := nsCrypt s true e.ns (32 * e.chunk) b

/-- The data of a namespace block in the Cistern, decrypted: of a write without a position yet, or of a position not yet passed (R307 for
compressed namespaces; log entry 109). -/
def cisternBlock (s : State) (n lba : Nat) : Option (List Byte) :=
  let w := s.wdata.find? (fun w => w.lba != 0 && decide (w.lba ≤ lba + 1) && decide (lba + 1 < w.lba + w.bytes.length / 4096)
    && s.writes.any (fun r => r.wid == w.wid && r.ns == n))
  let b := match w with
    | some w => some (blockAt w.bytes (lba + 1 - w.lba))
    | none => (s.source.find? (fun (x : Src) => x.lba == lba + 1 && inNs s n x.zone)).map (fun (x : Src) => x.bytes)
  b.map (nsCrypt s true n lba)

/-- Number of blocks of a chunk up to its last held one: the blocks of its extent (R300, R302; blocks between that no write gave read as
zeros, log entry 109). -/
def maskBlocks (m : Nat) : Nat := (List.range 16).foldl (fun n b => if m.testBit b then b + 1 else n) 0

/-- A chunk's bytes with the blocks of a mask replaced by those of a command's data that begins at a block of the namespace. -/
def chunkPut (old data : List Byte) (mask slba k : Nat) : List Byte :=
  (List.range 16).flatMap (fun b => if mask.testBit b then blockAt data (16 * k + b - slba) else blockAt old b)

/-- A block of a namespace as a read command has it: held original data, what the command has expanded or taken from the Cistern, what it
has read from the media, else zeros (R267, R302, R304, R307). -/
def ctxBlock (s : State) (c n lba : Nat) : List Byte :=
  if nsCompressed s n then
    match heldBlock s n (lba / 16) (lba % 16) with
    | some b => b
    | none => blockAt (KV.getD s.expanded (c, lba / 16) []) (lba % 16)
  else match KV.get s.expanded (c, lba) with
    | some b => b
    | none =>
      let z := nsFirst s n + lba / max 1 s.image.zoneSize
      let p := posOfBlock (zoneOf s z) (lba % max 1 s.image.zoneSize)
      match s.fetched.find? (fun f => f.ctx == c && f.zone == z && f.pos == p) with
      | some f => nsCrypt s true n lba f.bytes
      | none => bytesAt [] 0 4096

/-- The bytes of a namespace's block range as a read command has them. -/
def ctxBytes (s : State) (c n slba nlb : Nat) : List Byte := (List.range nlb).flatMap (fun i => ctxBlock s c n (slba + i))

/-- Take the blocks of a range that stand in the Cistern for a command (R307). -/
def takeCistern (c n slba nlb : Nat) (s : State) : State :=
  s.each (List.range nlb) (fun i t => match cisternBlock t n (slba + i) with
    | some b => { t with expanded := KV.put pairLt t.expanded (c, slba + i) b }
    | none => t)

/-! The chunk index on the media (R305). -/

/-- The two words of a chunk's index entry. -/
def entryBytes (s : State) (n k : Nat) : List Byte :=
  match extentOf s n k with
  | some e => leBytes (e.zone % 2 ^ 24 * 2 ^ 40 + e.pos % 2 ^ 32 * 2 ^ 8 + e.off16 % 256) 8
      ++ leBytes (2 ^ 63 + b2n e.raw * 2 ^ 62 + e.len16 % 2 ^ 13 * 2 ^ 32 + e.gen % 2 ^ 32) 8
  | none => List.replicate 16 0

/-- An index page: 256 entries. -/
def pageBytes (s : State) (n page : Nat) : List Byte := (List.range 256).flatMap (fun i => entryBytes s n (256 * page + i))

/-- Position i of the page table: 512 entries of 8 bytes, one for each page of the enabled compressed namespaces. -/
def tableBytes (s : State) (i : Nat) : List Byte :=
  (List.range 512).flatMap (fun e =>
    let k := 512 * i + e
    match s.idxMedia.find? (fun x => s.on ZX_NS.enable x.1.1 && nsCompressed s x.1.1 && s.get CX_NS.pt_first x.1.1 + x.1.2 == k) with
    | some x => leBytes (x.2.1 % 2 ^ 24 * 2 ^ 40 + x.2.2 % 2 ^ 32 * 2 ^ 8 + 1) 8
    | none => List.replicate 8 0)

end Sys2Proof.Machine
end

