-- ==== Sys2Proof/Machine/Detection.lean ====
section
/-! DEFINITION. The detector pipelines, DP (05_detection.md, R101 to R135): requests and grants, handover, sync search,
sector end and decode, calibration records, faults. The samples stand in `State.samples`; what the signal chain makes of them is
Machine/Signal.lean. -/

namespace Sys2Proof.Machine

/-- A flume in service, permitted on the head, not in fault, in a mode that admits the request (R102). -/
def admits (s : State) (f : Nat) (r : FlumeReq) : Bool :=
  let mode := s.get DP_FLUME_ASSIGN.mode f
  (s.get DP_FLUME_SVC.mask).testBit f && s.image.permits f r.head && s.get DP_FLUME_STATUS.state f != 5
    && (mode == 0 || (mode == 1 && s.get DP_FLUME_ASSIGN.head f == r.head) || (mode == 2 && r.urgent))

/-- The record a request selects: 2 × (48h + b) + x, native for a write (R124). -/
def calRecord (r : FlumeReq) : Nat := 2 * (48 * r.head + r.band) + (if r.purpose = 1 then 0 else r.writer)

/-- A record is valid (R125). -/
def calValid (s : State) (rec : Nat) : Bool := (s.get DP_CAL.word (16 * rec)).testBit 63

/-- The refusal of R106 that a request meets, if any: BAND first for an unfit band, on which every request is refused so (R111), else the
lowest code that holds (log entry 30). `f` is the flume of a handover: a head that another flume is to take is not there to hand to (R101). -/
def refusalCode (s : State) (r : FlumeReq) (f : Option Nat) (busy : Bool) : Nat :=
  let rw := decide (r.purpose ≤ 1)
  let h := r.head
  let pool := match f with
    | some f => [f]
    | none => List.range 32
  if decide (48 ≤ r.band) || s.on DP_BAND_LAYOUT.unfit (48 * s.image.surf h + r.band) then 5
  else if !pool.any (fun g => admits s g r) then 1
  else if s.get MS_HEAD_SVC.in_service h = 0 || s.on X.head_lost h || (rw && s.on HL_HEAD_CFG.suspended h) then 2
  else if rw && s.on DP_HEAD_STATE.stale h then 3
  else if !calValid s (calRecord r) then 4
  else if r.writer == 1 && (s.image.twin h).isNone then 5
  else
    match f with
    | some f => if (List.range 32).any (fun g => g != f && flumeNames s h g) then 6 else 0
    | none => if busy && (flumeAt s h).isSome then 6 else 0

/-- The flume with which a thread has read all sectors of its request for a head: a new request for the head goes on it, with its sum of
soft values kept (R166; DEDUCED, log entry 113). -/
def flumeKept (s : State) (q t h : Nat) : Option Nat :=
  (List.range 32).find? (fun f =>
    let x := flumeOf s f
    match x.cur with
    | some j => j.seq == q && j.thr == t && j.req.head == h && decide (j.req.count ≤ j.next) && x.incoming.isNone
    | none => false)

/-- The slots of a thread's requests that still have sectors to come. -/
def slotsBusy (s : State) (q t : Nat) : List Nat := (flumeSlots s q t).filter (fun k => (flumeKept s q t (16 * q + k)).isNone)

/-- A request enters arbitration, goes on the flume that the thread keeps for the head, or is refused (R104, R106, R166). -/
def flumeAsk (q t : Nat) (r : FlumeReq) (s : State) : State :=
  let s := s.clearBitOf X.sq_fref (thrNo q t) (r.head % 16)
  if r.handover then
    { s with flumeReqs := s.flumeReqs ++ [{ seq := q, thr := t, req := r, since := s.dtime, flume := none }] }
  else match flumeKept s q t r.head with
  | some f =>
    let c := refusalCode s r (some f) true
    if c = 0 then flumeAttach f { seq := q, thr := t, req := r, next := 0, bandSet := 0 } s else flumeRefuse c q t r (some f) s
  | none =>
    let c := refusalCode s r none true
    if c = 0 then { s with flumeReqs := s.flumeReqs ++ [{ seq := q, thr := t, req := r, since := s.dtime, flume := none }] }
    else flumeRefuse c q t r none s

/-- FLUME_REQUEST (R104, R106). A thread holds at most one request for a slot (R251). -/
def execFlumeRequest (seq thread : Nat) (req : FlumeReq) (s : State) : Res :=
  run (okSeq seq && okThread thread) s (fun s =>
    if !req.handover && (slotsBusy s seq thread).contains (req.head % 16) then s else flumeAsk seq thread req s)

/-- A flume that can take a request: it admits it, serves nothing and is chosen by no other; without power only while
fewer than DP_POOL.count hold or await it (R103). -/
def flumeFree (s : State) (r : FlumeReq) (f : Nat) : Bool :=
  let x := flumeOf s f
  let asked := s.flumeReqs.filterMap (fun w => w.flume)
  let on := (List.range 32).filter (fun g => s.on DP_FLUME_STATUS.power g || asked.contains g)
  admits s f r && x.cur.isNone && x.incoming.isNone && !asked.contains f
    && (s.on DP_FLUME_STATUS.power f || decide (on.length < s.get DP_POOL.count))

/-- Rank of a flume in R105's choice, lowest first. -/
def flumeRank (s : State) (f : Nat) : Nat :=
  let m := s.get DP_FLUME_ASSIGN.mode f
  64 * (if m = 1 then 0 else if m = 2 then 1 else 2) + (if s.on DP_FLUME_STATUS.power f then 0 else 32) + f

/-- The flume of the least rank. -/
def flumeChoose (s : State) (r : FlumeReq) : Option Nat :=
  ((List.range 32).filter (flumeFree s r)).foldl (fun b f =>
    match b with
    | none => some f
    | some g => if flumeRank s f < flumeRank s g then some f else some g) none

/-- Remove a waiting request. -/
def dropWait (w : FlumeWait) (s : State) : State := { s with flumeReqs := s.flumeReqs.erase w }

/-- Waiting requests in the arbiter's order: urgent first, then by issue (R105). -/
def flumeOrder (s : State) : List FlumeWait :=
  let l := s.flumeReqs.filter (fun w => !w.req.handover)
  l.filter (fun w => w.req.urgent) ++ l.filter (fun w => !w.req.urgent)

/-- Grant a flume to a waiting request. -/
def flumeGive (w : FlumeWait) (f : Nat) (s : State) : State :=
  let n := s.get X.dp_grants
  let s := ((dropWait w s).set X.dp_order f n).set X.dp_grants 0 (n + 1)
  flumeAttach f { seq := w.seq, thr := w.thr, req := w.req, next := 0, bandSet := 0 } s

/-- Serve one waiting request: attach it to a flume with power, or ask the Headgate for its flume's grant; none where it must wait, as it
must while another flume has its head or is to take it, and a read under a read offset until two wedges have shown the head on it (R101,
R103, R105, R164, R344). -/
def flumeServe (w : FlumeWait) (s : State) : Option State :=
  if (List.range 32).any (flumeNames s w.req.head) then none
  else if w.req.purpose = 0 ∧ s.get X.sv_rofs w.req.head ≠ 0 ∧ s.get X.sv_near w.req.head < 2 then none
  else
    match w.flume with
    | some f =>
      if s.on DP_FLUME_STATUS.power f && (flumeOf s f).cur.isNone && (flumeOf s f).incoming.isNone && admits s f w.req then some (flumeGive w f s)
      else none
    | none =>
      match flumeChoose s w.req with
      | none => none
      | some f =>
        if s.on DP_FLUME_STATUS.power f then some (flumeGive w f s)
        else
          match s.image.portOf 6 f with
          | none => none
          | some p =>
            let s := { s with flumeReqs := s.flumeReqs.map (fun v => if v = w then { w with flume := some f } else v) }
            some (hgRequest p 0 w.req.urgent (holderFlume f) false s)

/-- Refuse the waiting requests that R106 now refuses; one whose flume no longer admits it chooses again (R102). -/
def flumeRejudge (s : State) : State :=
  let s := { s with flumeReqs := s.flumeReqs.map (fun (w : FlumeWait) => match w.flume with
    | some f => if admits s f w.req then w else { w with flume := none }
    | none => w) }
  (flumeOrder s).foldl (fun t w =>
    let c := refusalCode t w.req none false
    if c = 0 then t else flumeRefuse c w.seq w.thr w.req none (dropWait w t)) s

/-- FLUME_GRANT: the arbiter serves the first request it can (R102, R103, R105). -/
def execFlumeGrant (s : State) : Res :=
  run true s (fun s =>
    if s.get DP_CTRL.enable = 0 then s
    else
      let s := flumeRejudge s
      match (flumeOrder s).findSome? (fun w => flumeServe w s) with
      | some t => t
      | none => s)

/-- The flume that a thread holds and no handover waits on, lowest number first (R107). -/
def heldFlume (s : State) (q t : Nat) : Option Nat :=
  (List.range 32).find? (fun f =>
    let x := flumeOf s f
    match x.cur with
    | some j => j.seq == q && j.thr == t && x.incoming.isNone
    | none => false)

/-- HANDOVER: granted where the gap is at least min_gap and nothing of R106 refuses the incoming head; otherwise refused,
the outgoing operation unaffected (R107). -/
def execHandover (seq thread : Nat) (req : FlumeReq) (gapNs : Nat) (s : State) : Res :=
  run (okSeq seq && okThread thread) s (fun s =>
    match heldFlume s seq thread with
    | none => s
    | some f =>
      let s := { s with flumeReqs := s.flumeReqs.filter (fun w => !(w.seq == seq && w.thr == thread && w.req.handover)) }
      let c := refusalCode s req (some f) true
      let c := if c = 0 ∧ gapNs < s.get DP_CTRL.min_gap then 7 else c
      if c = 0 then flumeShow f (setFlume f { flumeOf s f with incoming := some { seq := seq, thr := thread, req := req, next := 0, bandSet := 0 } } s)
      else flumeRefuse c seq thread req (some f) s)

/-- HANDOVER_SWITCH: after the outgoing request's last sector the front half takes the incoming head. Where the outgoing operation ended
early, the gap is judged again at the predicted time, and the handover goes on or is refused with LATE (R107 to R109). -/
def execHandoverSwitch (flume gapNs : Nat) (s : State) : Res :=
  run (okFlume flume) s (fun s =>
    let x := flumeOf s flume
    match x.cur, x.incoming with
    | some j, _ => if j.req.count ≤ j.next then flumeSwitch flume s else s
    | none, some j =>
      if s.get DP_CTRL.min_gap ≤ gapNs then flumeSwitch flume s
      else flumeRest flume (flumeShow flume (setFlume flume { x with incoming := none } (flumeRefuse 7 j.seq j.thr j.req (some flume) s)))
    | none, none => s)

/-! Sectors. -/

/-- The 16 words of a calibration record. -/
def calWords (s : State) (rec : Nat) : List Nat := (List.range 16).map (fun w => s.get DP_CAL.word (16 * rec + w))

/-- The band layout of a request: the slot and the preamble of a sector (R111). -/
def layoutIx (s : State) (r : FlumeReq) : Nat := 48 * s.image.surf r.head + r.band

/-- A recovery attempt of a rung above 2, which adapts nothing whatever its fields are (R160). -/
def ladFrozen (s : State) (j : FlumeJob) : Bool :=
  match KV.get s.sqOps (thrNo j.seq j.thr) with
  | some o => o.kind == 8 && s.ladders.any (fun l => l.id == o.aux && decide (3 ≤ l.rung))
  | none => false

/-- Adaptation runs in a sector (R128, R129). -/
def adapts (s : State) (j : FlumeJob) (y : SyncInfo) : Bool :=
  s.on DP_ADAPT.enable && j.req.syncShift == 0 && j.req.altTarget == 0 && j.req.weightSel == 0 && j.req.acc == 0
    && !y.bridged && j.req.purpose != 1 && !ladFrozen s j

/-- The target of a request: the record's at the band set's length, or an alternative with its own (R104, R115). -/
def jobTarget (s : State) (j : FlumeJob) (rec : List Nat) : List Int :=
  let len := (bandIn s j.req.head j.req.band j.bandSet).targetLen
  if j.req.altTarget = 0 then targetOf (rec.getD 10 0) len
  else
    let i := j.req.altTarget - 1
    targetOf (s.get DP_ALT_TARGET.target i) (match s.get DP_ALT_TARGET.len i with | 1 => 3 | 2 => 4 | _ => len)

/-- How the front half processes a sector of a job (R112 to R115, R128). -/
def chainOf (s : State) (j : FlumeJob) (adapt : Bool) : Chain :=
  let rec_ := calWords s (calRecord j.req)
  { rec_ := rec_, target := jobTarget s j rec_, readers := s.get HL_HEAD_CFG.readers j.req.head, width := s.get X.hl_width j.req.head,
    weightSel := j.req.weightSel, kp := s.get DP_ADAPT.kp, ki := s.get DP_ADAPT.ki, muTap := s.get DP_ADAPT.mu_tap,
    muWeight := s.get DP_ADAPT.mu_weight, muGain := s.get DP_ADAPT.mu_gain, adapt := adapt }

/-- The samples of the sector being received: at most a slot of them (R111). -/
def sectorSamples (s : State) (j : FlumeJob) : List Smp :=
  (KV.getD s.samples j.req.head []).take (s.get DP_BAND_LAYOUT.slot (layoutIx s j.req))

/-- The next sector of the front half's job: its band set, and CLK where that asks for another width (R64, R65, R123). -/
def nextSector (f : Nat) (s : State) : State :=
  match (flumeOf s f).cur with
  | some j =>
    let j := jobNext s j
    jobClk j (setFlume f { flumeOf s f with cur := some j } s)
  | none => s

/-- A flume at the end of a sector: it leaves its request where it is to, else its next sector begins (R65, R103). -/
def sectorDone (f : Nat) (j : FlumeJob) (s : State) : State :=
  let c := s.get X.dp_leave f
  if c = 0 then nextSector f s
  else flumeDetach f (if c = 15 then s else flumeRefuse c j.seq j.thr j.req (some f) s)

/-- Where the sync mark of the sector being received should begin (R111, R118, R160). -/
def syncPredicted (s : State) (j : FlumeJob) : Int := (s.get DP_BAND_LAYOUT.preamble (layoutIx s j.req) : Int) + signed 6 j.req.syncShift

/-- The marks that the tentative decisions of the sector being received show in the window; none where a sample of it is erased (R118,
R119). -/
def syncMarks (s : State) (j : FlumeJob) : List (Int × Nat) :=
  let smp := sectorSamples s j
  let window := s.get DP_SYNC.window
  let predicted := syncPredicted s j
  let hit := (List.range smp.length).any (fun n => (smp.getD n default).erased
    && decide (predicted - window ≤ (n : Int)) && decide ((n : Int) < predicted + window + 40))
  if hit then []
  else markSearch (chainRun (chainOf s j (adapts s j noSync)) smp).bits (s.get DP_SYNC_PATTERN.pattern) predicted window (s.get DP_SYNC.threshold)

/-- A mark is taken, with its runner-up (R119, R122). -/
def syncTaken (s : State) (j : FlumeJob) (l : List (Int × Nat)) (b : Int × Nat) : SyncInfo :=
  let r := (bestMark (l.erase b)).getD (0, 15)
  { noSync with pos := (syncPredicted s j + b.1).toNat, off := b.1, dist := b.2, off2 := r.1, dist2 := r.2 }

/-- A missed mark that is not bridged ends the sector with status 4 (R120). -/
def syncMissed (f : Nat) (j : FlumeJob) (s : State) : State :=
  let y := { noSync with erased := (sectorSamples s j).any (fun m => m.erased) }
  let slot := s.get DP_BAND_LAYOUT.slot (layoutIx s j.req)
  let held := KV.getD s.samples j.req.head []
  let s := { s with samples := kset [] s.samples j.req.head (held.drop slot) }.set X.dp_skip j.req.head (slot - held.length)
  let s := setFlume f { flumeOf s f with cur := some { j with next := j.next + 1 } } s
  sectorDone f j (postSector j j.next 4 0 y 0 0 (s.incWrap DP_FLUME_STATUS.sectors f))

/-- SYNC_SEARCH_END: the tentative decisions around the predicted position are compared with the pattern, and the mark is chosen, bridged or
missed with status 4; an erased sample in the window misses it (R118 to R120). -/
def execSyncSearchEnd (flume : Nat) (s : State) : Res :=
  run (okFlume flume) s (fun s =>
    let x := flumeOf s flume
    match x.cur, x.sync with
    | some j, none =>
      if j.req.purpose = 1 ∨ j.req.count ≤ j.next then s
      else
        let l := syncMarks s j
        match bestMark l with
        | some b => setFlume flume { x with sync := some (syncTaken s j l b) } s
        | none =>
          if s.on DP_SYNC.bridge then setFlume flume { x with sync := some { noSync with pos := (syncPredicted s j).toNat, bridged := true } } s
          else syncMissed flume j s
    | _, _ => s)

/-- Bits lo to hi of b, the others of a. -/
def mergeBits (a b lo hi : Nat) : Nat :=
  a % 2 ^ lo + b / 2 ^ lo % 2 ^ (hi + 1 - lo) * 2 ^ lo + a / 2 ^ (hi + 1) * 2 ^ (hi + 1)

/-- A record word after a write-back: what adapts comes from the working copy; target, alignment and verify taps stay, and
with one reader the reader B values stay (R113, R126, R128). -/
def adaptedWord (readers mse us w old new : Nat) : Nat :=
  if w = 0 then
    let v := mergeBits old new 24 55
    let v := if readers = 1 then v else mergeBits v new 16 23
    v / 2 ^ 16 * 2 ^ 16 + min mse 65535
  else if w ≤ 4 then mergeBits old new 0 59
  else if w ≤ 8 then (if readers = 1 then old else mergeBits old new 0 59)
  else if w = 9 then (if readers = 1 then mergeBits old new 52 63 else mergeBits old new 40 63)
  else if w = 11 ∨ w = 12 ∨ w = 13 then new % 2 ^ 64
  else if w = 15 then us % 2 ^ 32 * 2 ^ 32 + min (old % 2 ^ 32 + 1) (2 ^ 32 - 1)
  else old

/-- Write the working copy back into the record held by a job (R126, R128). -/
def writeBack (j : FlumeJob) (mse : Nat) (words : List Nat) (s : State) : State :=
  let rec_ := calRecord j.req
  let readers := s.get HL_HEAD_CFG.readers j.req.head
  s.each (List.range 16) (fun w t => t.upd DP_CAL.word (16 * rec_ + w) (fun o => adaptedWord readers mse t.us w o (words.getD w 0)))

/-- Add a code word's soft values to a flume's sums, from nothing for acc 1 (R104, R166). -/
def addSums (f acc : Nat) (soft : List Int) (s : State) : State :=
  let old := if acc = 1 then [] else KV.getD s.dpSums f []
  { s with dpSums := KV.put natLt s.dpSums f ((List.range soft.length).map (fun n => satAdd8 (old.getD n 0) (soft.getD n 0))) }

/-- What the decoder is given: the code word's own soft values, or for acc 3 the running sum (R104; for acc 1 and 2 log entry 107). -/
def accumulate (f acc : Nat) (soft : List Int) (s : State) : List Int × State :=
  if acc = 0 then (soft, s)
  else
    let s := addSums f acc soft s
    (if acc = 3 then KV.getD s.dpSums f [] else soft, s)

/-- The sector's sync information with what its samples show (R118). -/
def syncFinal (s : State) (j : FlumeJob) (y : SyncInfo) : SyncInfo := { y with erased := (sectorSamples s j).any (fun m => m.erased) }

/-- The signal chain over the sector, with the adaptation that runs in it (R112 to R115, R128). -/
def sectorChain (s : State) (j : FlumeJob) (y : SyncInfo) : Chain := chainOf s j (adapts s j (syncFinal s j y))

/-- The mean square error of the sector (R132). -/
def sectorMse (s : State) (j : FlumeJob) (y : SyncInfo) : Nat :=
  let smp := sectorSamples s j
  chainMse (sectorChain s j y) smp (chainRun (sectorChain s j y) smp)

/-- The soft values of the sector's code word (R115, R116). -/
def sectorSoft (s : State) (j : FlumeJob) (y : SyncInfo) : List Int :=
  let smp := sectorSamples s j
  ((softValues (sectorChain s j y) smp (chainRun (sectorChain s j y) smp)).drop (y.pos + 40)).take codeBits

/-- A received sector's samples leave the front half's buffer, and the sector is counted. -/
def sectorTake (f : Nat) (j : FlumeJob) (s : State) : State :=
  let h := j.req.head
  let s := { s with samples := kset [] s.samples h ((KV.getD s.samples h []).drop (s.get DP_BAND_LAYOUT.slot (layoutIx s j.req))) }
  s.incWrap DP_FLUME_STATUS.sectors f

/-- The working copy is written back at or below mse_guard where adaptation ran (R128). -/
def sectorAdapt (j : FlumeJob) (y : SyncInfo) (s₀ s : State) : State :=
  let c := sectorChain s₀ j y
  let mse := sectorMse s₀ j y
  if c.adapt && decide (mse ≤ s.get DP_ADAPT.mse_guard) then
    writeBack j mse (workWords c.rec_ (chainRun c (sectorSamples s₀ j)).work) s
  else s

/-- The sector's code word goes to the decoder, or ends with status 5 where both buffers are full (R116). -/
def sectorDecode (f : Nat) (j : FlumeJob) (y : SyncInfo) (mse : Nat) (soft : List Int) (s : State) : State :=
  let x := flumeOf s f
  let full := decide (2 ≤ x.dec.length)
  let word : DecWord := { job := j, idx := j.next, sync := y, mse := mse, track := headTrack s j.req.head, soft := soft, live := true }
  let s := setFlume f { x with cur := some { j with next := j.next + 1 }, sync := none, dec := if full then x.dec else x.dec ++ [word] } s
  sectorDone f j (if full then postSector j j.next 5 0 y mse 0 s else s)

/-- SECTOR_END: the sector's last sample enters; the code word's soft values go to the decoder, or it is not attempted when both buffers
are full; the working copy is written back at or below mse_guard (R115, R116, R118, R128, R132). -/
def execSectorEnd (flume : Nat) (s : State) : Res :=
  run (okFlume flume) s (fun s =>
    match (flumeOf s flume).cur, (flumeOf s flume).sync with
    | some j, some y =>
      let p := accumulate flume j.req.acc (sectorSoft s j y) (sectorAdapt j y s (sectorTake flume j s))
      sectorDecode flume j (syncFinal s j y) (sectorMse s j y) p.1 p.2
    | _, _ => s)

/-- The user bytes of a decoded code word (R110). -/
def decodedUser (d : Decoded) : List Byte := (bitsBytes 4104 d.info).take 4096

/-- The context, zone and position of a sector that a job reads: on the head's surface, the track and the sector, of its operation or the
one its recovery attempt serves (R266, R173). -/
def jobPos (s : State) (j : FlumeJob) (sector track : Nat) : Option (Nat × Nat × Nat) :=
  match KV.get s.sqOps (thrNo j.seq j.thr) with
  | none => none
  | some o =>
    let o := if o.kind = 8 then ((s.ladders.find? (fun l => l.id == o.aux)).map (fun l => l.op)).getD o else o
    let m := s.image
    let home := (m.comb (m.group (groupIx m o.zone)).comb).act
    if o.kind ≠ 0 ∧ o.kind ≠ 7 then none
    else (((List.range o.count).map (fun n => o.pos + n)).find? (fun p =>
      m.surf (16 * home + posSlot m o.zone p) == m.surf j.req.head && posSector m o.zone p == sector && posTrack m o.zone p == track)).map
        (fun p => (o.job, o.zone, p))

/-- The user bytes of a good sector go on to decryption with its command (R122, R136). -/
def takeSector (j : FlumeJob) (sector track : Nat) (b : List Byte) (s : State) : State :=
  match jobPos s j sector track with
  | some (c, z, p) => { s with fetched := s.fetched.filter (fun f => !(f.ctx == c && f.zone == z && f.pos == p)) ++ [{ ctx := c, zone := z, pos := p, bytes := b }] }
  | none => s

/-- DECODE_DONE: the oldest code word's decoding ends; its tag is checked, its result is posted and a read's user bytes go to the Cistern
(R116, R117, R122, R131). -/
def execDecodeDone (flume : Nat) (s : State) : Res :=
  run (okFlume flume) s (fun s =>
    let x := flumeOf s flume
    match x.dec with
    | [] => s
    | d :: rest =>
      let r := d.job.req
      let out := decodeWord d.soft (if r.iter = 1 then s.get DP_ITER.recovery_max else s.get DP_ITER.inline_max)
      let st := decodeStatus out (s.image.surf r.head) (sectorAt s r d.idx) d.track
      let s := flumeRest flume (flumeShow flume (setFlume flume { x with dec := rest } s))
      if d.live then
        let s := if r.purpose = 0 then s.cisternPut (r.dest + 4096 * d.idx) (decodedUser out) else s
        let s := if r.purpose = 0 ∧ st = 0 then takeSector d.job (sectorAt s r d.idx) d.track (decodedUser out) s else s
        postSector d.job d.idx st out.iterations d.sync d.mse out.unsat s
      else s)

/-- IDLE_RELEASE: idle for idle_release, the flume releases its grant (R103). -/
def execIdleRelease (flume : Nat) (s : State) : Res :=
  run (okFlume flume) s (fun s => if s.get DP_FLUME_STATUS.state flume = 1 then flumeOff flume s else s)

/-- The user bytes of a sector that a flume fault ends: R122 has them written and nothing says what they are (log entry 107). -/
def faultBytes (j : FlumeJob) (i : Nat) (s : State) : State :=
  if j.req.purpose = 0 then (s.cisternPut (j.req.dest + 4096 * i) (openBytes s 4096)).spend else s

/-- A flume enters fault: its sectors end with status 7 and its request with SVC (R106, R133); it is lost (R25, R27). -/
def flumeFail (f : Nat) (s : State) : State :=
  if s.get DP_FLUME_STATUS.state f = 5 then s
  else
    let x := flumeOf s f
    let s := (x.dec.filter (fun d => d.live)).foldl (fun t d => postSector d.job d.idx 7 0 d.sync d.mse 0 (faultBytes d.job d.idx t)) s
    let s := setFlume f { x with dec := [] } s
    let s := match x.cur with
      | some j => if j.req.purpose = 1 then gateOff j.req.head gateAbort s else if j.next < j.req.count then faultBytes j j.next s else s
      | none => s
    let s := flumeEndNow f 7 8 s
    let s := (s.set DP_FLUME_STATUS.state f 5).set X.flume_lost f 1
    (smartEvent (scLoss (.flume f) s)).alarm DP_INT.flume_fault 0 11 f

/-- FLUME_FAULT (R133). -/
def execFlumeFault (flume : Nat) (s : State) : Res := run (okFlume flume) s (flumeFail flume)

/-- CAL_COPY: DP_CAL_COPY.go copies the record of DP_CAL_COPY.index into DP_CAL_BUF and sets done (R126). -/
def execCalCopy (s : State) : Res :=
  run true s (fun s =>
    let k := s.get DP_CAL_COPY.index
    let s := s.each (List.range 16) (fun w t => t.set DP_CAL_BUF.word w (t.get DP_CAL.word (16 * k + w)))
    (s.set DP_CAL_COPY.done 0 1).raise DP_INT.copy_done)

/-- A record is held while a front half uses it (R126). -/
def calHeld (s : State) (rec : Nat) : Bool :=
  (List.range 32).any (fun f => match (flumeOf s f).cur with
    | some j => calRecord j.req == rec
    | none => false)

/-- A record word without its reserved bits, which read as zero; a cross record has no verify taps (R8, R125). -/
def calWordKept (i v : Nat) : Nat :=
  let w := i % 16
  if w = 0 then v / 2 ^ 63 % 2 * 2 ^ 63 + v % 2 ^ 56
  else if w ≤ 8 then v % 2 ^ 60
  else if w = 9 then v / 2 ^ 28 * 2 ^ 28
  else if w = 10 then v % 2 ^ 40
  else if w = 14 ∧ i / 16 % 2 = 1 then 0
  else v

/-- Store a record word that firmware writes: ignored with cal_busy while the record is held, else in force at once with the head stale
(R126, R130). -/
def calStore (core : Nat) (r : Reg) (i : Nat) (part : Fld → Bool) (v : Nat) (s : State) : State :=
  if calHeld s (i / 16) then s.raise DP_INT.cal_busy
  else makeStale (i / 16 / 96) 1 (busStore true core r i part (calWordKept i v) s)

/-- CAL_RECORD_WRITE: a core's write of a record word, in the widths of R7 (R126). -/
def execCalRecordWrite (core addr width value : Nat) (s : State) : Res :=
  run (okCore core) s (fun s =>
    match locateAddr addr with
    | some (r, _, _) =>
      if r.addr ≠ DP_CAL.addr then s else busAccess (calStore core) (fun r i s => (busLoad core r i s, s)) core true addr width value s
    | none => s)

/-- DETACH_NOW: DP_FLUME_CTRL.action 1 ends the current sector with status 6 and the request with ABORT; a handover that waits on it goes
on from the abort (R106, R109). -/
def execDetachNow (flume : Nat) (s : State) : Res :=
  run (okFlume flume) s (fun s =>
    let s := match (flumeOf s flume).cur with
      | some j => if j.req.purpose = 1 then gateOff j.req.head gateAbort s else s
      | none => s
    let x := flumeOf s flume
    match x.cur, x.incoming with
    | some j, some _ => flumeOrphan flume (flumeRefuse 10 j.seq j.thr j.req (some flume) (sectorCut x j 6 s))
    | _, _ => flumeEndNow flume 6 10 s)

/-- CLEAR_ACCUMULATOR: DP_FLUME_CTRL.action 2 (R104). -/
def execClearAccumulator (flume : Nat) (s : State) : Res := run (okFlume flume) s (dropSums flume)

/-- MARK_STALE: DP_HEAD_CTRL.action 1 (R130). -/
def execMarkStale (head : Nat) (s : State) : Res := run (okHead head) s (makeStale head 5)

/-- CLEAR_VALID: DP_HEAD_CTRL.action 2 clears valid in the head's records that are not held (R126). -/
def execClearValid (head : Nat) (s : State) : Res :=
  run (okHead head) s (fun s =>
    s.each (List.range 96) (fun k t =>
      let rec_ := 96 * head + k
      if calHeld t rec_ then t.raise DP_INT.cal_busy else t.clearBitOf DP_CAL.word (16 * rec_) 63))

/-- CLEAR_QUALITY_COUNTERS: DP_HEAD_CTRL.action 3 (R132). -/
def execClearQualityCounters (head : Nat) (s : State) : Res :=
  run (okHead head) s (fun s =>
    s.each (List.range 48) (fun b t => (t.resetReg DP_QUAL_A (48 * head + b)).resetReg DP_QUAL_B (48 * head + b)))

end Sys2Proof.Machine
end

