-- ==== Sys2Proof/Machine/Storage.lean ====
section
/-! DEFINITION. What the zone and extent manager, the media scheduler and the write path keep together: where positions lie
(R266, R275), the zone table (R268), the journal (R269 to R272), writes until they settle (R155), the media queues (R278)
and command contexts (R319). -/

namespace Sys2Proof.Machine

/-! NVMe status values: status code type × 256 + status code (log entry 41). -/
def stOk : Nat := 0x000
def stOpcode : Nat := 0x001
def stField : Nat := 0x002
def stTransfer : Nat := 0x004
def stAborted : Nat := 0x007
def stSqDeleted : Nat := 0x008
def stNamespace : Nat := 0x00B
def stSanitize : Nat := 0x01D
def stRange : Nat := 0x080
def stCapacity : Nat := 0x115
def stNotReady : Nat := 0x082
def stWriteFault : Nat := 0x280
def stUnrecovered : Nat := 0x281
def stAccess : Nat := 0x286
def stZoneBoundary : Nat := 0x1B8
def stZoneFull : Nat := 0x1B9
def stZoneReadOnly : Nat := 0x1BA
def stZoneOffline : Nat := 0x1BB
def stZoneInvalid : Nat := 0x1BC
def stTooManyActive : Nat := 0x1BD
def stTooManyOpen : Nat := 0x1BE
def stZoneTransition : Nat := 0x1BF

/-! The media queues. -/

/-- Heads of an operation. -/
def MsOp.heads (o : MsOp) : List Nat := (bitsOf 16 o.mask).map (fun k => 16 * o.act + k)

/-- An operation can have a tag in the queue of every head it names: 32 tags, some for urgent operations only (R278). -/
def tagsFree (s : State) (o : MsOp) : Bool :=
  let limit := if o.cls = 0 then 32 else 32 - s.get MS_SCHED.urg_tags
  o.heads.all (fun h => decide ((headTags s h).length < limit))

/-- Queue an operation, or hold it in the staging list until its tags are free (R278). -/
def msSubmit (o : MsOp) (s : State) : State :=
  if tagsFree s o then setOps o.act (opsOf s o.act ++ [o]) s
  else { s with msHold := s.msHold ++ [o] }

/-- Move operations of the staging list into the queues where their tags are free, in fetch order within a class. -/
def msRefill (s : State) : State :=
  let held := s.msHold
  (List.range 5).foldl (fun t c => (held.filter (fun o => o.cls == c)).foldl (fun u o => msSubmit o u) t) { s with msHold := [] }

/-- The next tag number. -/
def nextTag (s : State) : Nat := s.get X.ms_tags % 65536

/-- Build and queue an operation of the part's own or of a command. -/
def msNew (kind cls act mask zone pos count job aux : Nat) (covered : Bool) (s : State) : State :=
  let o : MsOp := { tag := nextTag s, kind := kind, cls := cls, act := act, mask := mask, zone := zone, pos := pos, count := count, job := job, since := s.dtime, covered := covered, aux := aux, grp := nextTag s }
  msSubmit o (s.set X.ms_tags 0 (s.get X.ms_tags + 1))

/-! Command contexts. -/

/-- Blocks that a command names: dword 12 bits 15:0, plus one. -/
def cmdBlocks (x : NvmeCmd) : Nat := x.cdw12 % 65536 + 1

/-- A failure of part of a command. -/
def ctxFail (c status : Nat) (s : State) : State := updCtx c (fun x => { x with status := if x.status = 0 then status else x.status }) s

/-- Media work of a read command is outstanding. -/
def ctxBusy (s : State) (c : Nat) : Bool :=
  (allOps s).any (fun o => (o.kind == 0 || o.kind == 2 || o.kind == 5 || o.kind == 6 || o.kind == 7 || o.kind == 8) && o.job == c)
    || s.ladders.any (fun l => l.op.job == c) || s.cxReady.any (fun j => j.kind != 0 && j.job == c) || s.cxRun.any (fun p => p.2.kind != 0 && p.2.job == c)
    || s.cxSusp.any (fun p => p.2.kind != 0 && p.2.job == c)

/-- A Read's outcome, with its data for the host: it fails where its namespace's key slot has become empty (R139, R322). -/
def readOutcome (c : Nat) (x : Ctx) (s : State) : State :=
  let n := x.cmd.nsid - 1
  if x.status ≠ 0 then ctxFinish c x.status s
  else if keyMissing s n then ctxFinish c stAccess s
  else ctxFinish c 0 { s with hostData := ctxBytes s c n x.cmd.slba (cmdBlocks x.cmd) }

/-- A read in media service whose work has all ended has its outcome; a write whose merge failed writes nothing (R302). -/
def ctxCheck (c : Nat) (s : State) : State :=
  match ctxOf s c with
  | some x =>
    if x.stage = 1 ∧ ctxBusy s c = false then
      if x.qid ≠ 0 ∧ x.cmd.opcode = 2 then readOutcome c x s
      else ctxFinish c x.status (if x.status = 0 then s else { s with writes := s.writes.filter (fun w => w.ctx != some c) })
    else s
  | none => s

/-! The journal. -/

/-- Write one copy of a journal position: the next position of its zone, as a class-4 write; a recovery finds it written (R269, R273). -/
def jrnCopy (copy z : Nat) (s : State) : State :=
  let p := (zoneOf s z).next
  let act := writingAct s z p
  let s := updZone z (fun x => { x with next := p + 1 }) s
  let s := { s with mediaZones := kset emptyZone s.mediaZones z { emptyZone with mwp := p + 1 } }
  msNew 3 4 act (2 ^ (posHead s.image act z p % 16)) z p 1 copy 0 false s

/-- The sequence number of the next journal position. -/
def jrnSeq (s : State) : Nat := (match s.jrnPos.getLast? with | some j => j.seq | none => s.get ZX_JRN_STATUS.seq) + 1

/-- Write a journal position with the entries given to both zones of a pair (R269, R270). -/
def jrnWrite (pair : Nat) (es : List JEntry) (s : State) : State :=
  let (za, zb) := jrnZones s pair
  let a := (zoneOf s za).next
  let j : JPos := { seq := jrnSeq s, pair := pair, entries := es, posA := a, posB := if zb = za then a + 1 else (zoneOf s zb).next, passA := false, passB := false }
  let s := { s with jrnPos := s.jrnPos ++ [j] }
  let s := if pair = s.get ZX_JRN_STATUS.active then s.inc ZX_JRN_STATUS.used else s.inc X.zx_ck_used
  jrnCopy 1 zb (jrnCopy 0 za s)

/-- Reset a journal zone of the full pair (R272). -/
def jrnResetZone (z : Nat) (s : State) : State := setZone z emptyZone { s with mediaZones := KV.del s.mediaZones z }

/-- The checkpoint entry. -/
def checkpointEntry : JEntry := { kind := 4, zone := 0, a := 0, b := 0, mwp := 0, hwp := 0, voids := [], job := 0 }

/-- Zones of the image. -/
def imageZones (m : Image) : Nat := m.groups.foldl (fun n g => max n (g.firstZone + g.zoneCount)) 0

/-- The record of a zone in a checkpoint's copy of the zone table: 32 bytes, as an entry has (R269, R272; log entry 116). -/
def tableEntry (s : State) (z : Nat) : JEntry :=
  { kind := 5, zone := z, a := (zoneOf s z).state, b := (zoneOf s z).resv, mwp := (zoneOf s z).mwp, hwp := (zoneOf s z).hwp, voids := [], job := 0 }

/-- The entries of a checkpoint, 126 to a position: the whole zone table, and the mark (R269, R272). -/
def checkpointParts (s : State) : List (List JEntry) :=
  let l := (List.range (imageZones s.image)).map (tableEntry s) ++ [checkpointEntry]
  (List.range ((l.length + 125) / 126)).map (fun i => (l.drop (126 * i)).take 126)

/-- The journal cannot be written: writes stop (R272). -/
def jrnFail (s : State) : State := (s.raise ZX_INT.jrn_fail).set X.zx_stopped 0 1

/-- The active pair is full: a checkpoint goes to the other pair; with no room for it there it cannot be completed (R272). -/
def jrnSwitch (s : State) : State :=
  let pair := 1 - s.get ZX_JRN_STATUS.active
  let (na, nb) := jrnZones s pair
  let parts := checkpointParts s
  if s.on X.zx_ckpt then s
  else if groupPositions s.image (groupIx s.image na) < parts.length ∨ groupPositions s.image (groupIx s.image nb) < parts.length ∨ na = nb then jrnFail s
  else parts.foldl (fun t es => jrnWrite pair es t) ((s.set X.zx_ckpt 0 1).clear X.zx_ck_used)

/-- The checkpoint is durable: its pair becomes active, and the full pair is reset (R272). -/
def jrnSwitched (s : State) : State :=
  let old := s.get ZX_JRN_STATUS.active
  let (za, zb) := jrnZones s old
  let s := (s.set ZX_JRN_STATUS.active 0 (1 - old)).set ZX_JRN_STATUS.used 0 (s.get X.zx_ck_used)
  let s := (s.clear X.zx_ckpt).set X.zx_med_active 0 (1 - old)
  jrnResetZone zb (jrnResetZone za s)

/-- A zone of a pair cannot hold another position. -/
def jrnFull (s : State) (pair : Nat) : Bool :=
  let (za, zb) := jrnZones s pair
  decide (groupPositions s.image (groupIx s.image za) ≤ (zoneOf s za).next) || decide (groupPositions s.image (groupIx s.image zb) ≤ (zoneOf s zb).next)

/-- What a durable entry leaves for a recovery (R273). -/
def mediaApply (m : List (Nat × Zone)) (e : JEntry) : List (Nat × Zone) :=
  let x := KV.getD m e.zone emptyZone
  match e.kind with
  | 0 => kset emptyZone m e.zone { x with resv := e.a }
  | 1 => kset emptyZone m e.zone { x with mwp := max x.mwp e.mwp, hwp := max x.hwp e.hwp, voids := e.voids.foldl (fun l p => insertNat p l) x.voids }
  | 2 => if e.a = 0 then kset emptyZone m e.zone emptyZone else kset emptyZone m e.zone { x with state := e.a, hwp := e.hwp }
  | 3 =>
    let x := if x.reh0.isNone then { x with reh0 := some e.mwp } else { x with reh1 := some e.mwp }
    kset emptyZone m e.zone x
  | _ => m

/-- A zone is overwritten: it is reset, and with the last one the sanitize has completed (R329). -/
def sanZoneDone (z : Nat) (s : State) : State :=
  let s := jrnAdd { kind := 2, zone := z, a := 0, b := 0, mwp := 0, hwp := 0, voids := [], job := 0 } (setZone z emptyZone s)
  if s.writes.any (fun w => w.ns == sanNs) then s else (s.clear X.san_active).set X.san_done 0 1

/-- A write has settled: whoever waits for it goes on (R155). -/
def settleOne (wid : Nat) (s : State) : State :=
  let rec_ := s.writes.find? (fun w => w.wid == wid)
  let s := { s with writes := s.writes.filter (fun w => w.wid != wid) }
  let s := match rec_ with
    | some w => if w.ns = sanNs then sanZoneDone w.zone s else s
    | none => s
  let s := match rec_.bind (fun w => w.ctx) with
    | some c => match ctxOf s c with
      | some x => if x.stage = 2 then ctxFinish c 0 s else s
      | none => s
    | none => s
  let cs := s.ctxs.filter (fun p => p.2.waits.contains wid)
  cs.foldl (fun t p =>
    let t := updCtx p.1 (fun x => { x with waits := x.waits.filter (fun w => w != wid) }) t
    match ctxOf t p.1 with
    | some x => if x.stage = 2 ∧ x.waits.isEmpty then ctxFinish p.1 0 t else t
    | none => t) s

/-- A write that will never settle: a Flush that waits for it fails with it (log entry 60). -/
def waitGone (wid status : Nat) (s : State) : State :=
  (s.ctxs.filter (fun p => p.2.waits.contains wid)).foldl (fun t p =>
    let t := updCtx p.1 (fun x => { x with waits := x.waits.filter (fun w => w != wid), status := if x.status = 0 then status else x.status }) t
    match ctxOf t p.1 with
    | some x => if x.stage = 2 ∧ x.waits.isEmpty then ctxFinish p.1 status t else t
    | none => t) s

/-- A write that will never settle ends all that waits for it with a status: its command, the Flushes, and in the same way the writes it
stands for, to the depth given (R154, R301, R302, R408, log entry 60). -/
def writeGone : Nat → Nat → Nat → State → State
  | 0, _, _, s => s
  | d + 1, wid, status, s =>
    let ctx := (s.writes.find? (fun w => w.wid == wid)).bind (fun w => w.ctx)
    let served := KV.getD s.packs wid []
    let s := { s with writes := s.writes.filter (fun w => w.wid != wid), rewrites := s.rewrites.filter (fun u => u.wid != wid), packs := KV.del s.packs wid,
                            wdata := s.wdata.filter (fun w => w.wid != wid) }
    let s := match ctx with
      | some c => match ctxOf s c with
        | some x => if x.stage = 1 then ctxCheck c (ctxFail c status s) else ctxFinish c status s
        | none => s
      | none => s
    served.foldl (fun t m => writeGone d m status t) (waitGone wid status s)

/-- A write has one share of its data fewer to settle. -/
def writeLess (wid : Nat) (s : State) : State :=
  { s with writes := s.writes.map (fun (w : WriteRec) => if w.wid = wid then { w with left := w.left - 1 } else w) }

/-- A share of a write has settled: with its last one the write settles, and with it a share of each write it serves, to the
depth given (R155, R301, R302). -/
def shareSettled : Nat → Nat → State → State
  | 0, _, s => s
  | d + 1, n, s =>
    let s := writeLess n s
    match s.writes.find? (fun w => w.wid == n) with
    | some w =>
      if w.left = 0 then
        let served := KV.getD s.packs n []
        served.foldl (fun t m => shareSettled d m t) (settleOne n { s with packs := KV.del s.packs n })
      else s
    | none => s

/-- A write has settled; where it packed extents, each serves its host write, which settles with its last one (R155, R301). -/
def writeSettled (wid : Nat) (s : State) : State :=
  let served := KV.getD s.packs wid []
  let s := settleOne wid { s with packs := KV.del s.packs wid }
  served.foldl (fun t n => shareSettled 2 n t) s

/-- The effect of a durable entry on the running part (R155, R270, R271, R276). -/
def entryDurable (s : State) (e : JEntry) : State :=
  let s := { s with mediaZones := mediaApply s.mediaZones e }
  match e.kind with
  | 0 => updZone e.zone (fun x => { x with resv := e.a }) s
  | 1 =>
    let s := { s with mediaExtents := s.mediaExtents.filter (fun x => !(s.extents.any (fun y => y.ns == x.ns && y.chunk == x.chunk && y.zone == e.zone && decide (e.a ≤ y.pos) && decide (y.pos ≤ e.b))))
                        ++ s.extents.filter (fun y => y.zone == e.zone && decide (e.a ≤ y.pos) && decide (y.pos ≤ e.b)) }
    if e.job = 0 then s else writeSettled (e.job - 1) s
  | 2 =>
    let s := if e.a = 0 then { s with mediaExtents := s.mediaExtents.filter (fun x => x.zone != e.zone) } else s
    if e.job = 0 then s else ctxFinish (e.job - 1) 0 s
  | 3 => updZone e.zone (fun x => { x with held := false }) s
  | _ => s

/-- A crypto erase has completed when no reset entry of it waits any more (R329). -/
def sanCheck (s : State) : State :=
  let mine := fun (e : JEntry) => e.kind == 2 && e.job == sanJob
  if s.get X.san_active = 1 ∧ !s.jrnWait.any mine ∧ !s.jrnPos.any (fun j => j.entries.any mine) then (s.clear X.san_active).set X.san_done 0 1 else s

/-- A journal position is durable when both copies have passed (R270). -/
def jrnDurable (s : State) : State :=
  match s.jrnPos with
  | j :: rest =>
    if j.passA && j.passB then
      let s := { s with jrnPos := rest }
      let s := j.entries.foldl entryDurable ((s.set ZX_JRN_STATUS.seq 0 j.seq).set X.zx_med_seq 0 j.seq)
      sanCheck (if j.entries.any (fun e => e.kind == 4) then jrnSwitched s else s)
    else s
  | [] => s

/-- Change the journal position of which a position of a zone is a copy: `f` for copy A, `g` for copy B. -/
def jrnAt (z p : Nat) (f g : JPos → JPos) (s : State) : State :=
  { s with jrnPos := s.jrnPos.map (fun (j : JPos) =>
      let (za, zb) := jrnZones s j.pair
      if z = za ∧ j.posA = p then f j else if z = zb ∧ j.posB = p then g j else j) }

/-- A copy of a journal position has passed. -/
def jrnPassed (z p : Nat) (s : State) : State :=
  let s := jrnAt z p (fun j => { j with passA := true }) (fun j => { j with passB := true }) (updZone z (fun x => x.done p) s)
  s.jrnPos.foldl (fun t _ => jrnDurable t) s

/-- A position of a zone is a copy of a journal position. -/
def jrnCopyOf (s : State) (z p : Nat) (j : JPos) : Bool :=
  let (za, zb) := jrnZones s j.pair
  (z == za && j.posA == p) || (z == zb && j.posB == p)

/-- A copy of a journal position is void: it is written again at the next position. In a full pair its entries wait for the other pair, and a
checkpoint that finds no room cannot be completed (R153, R270, R272). -/
def jrnVoid (z p : Nat) (s : State) : State :=
  let s := updZone z (fun x => x.void p) s
  match s.jrnPos.find? (jrnCopyOf s z p) with
  | none => s
  | some j =>
    let q := (zoneOf s z).next
    if q < groupPositions s.image (groupIx s.image z) then
      jrnCopy (if z = (jrnZones s j.pair).1 then 0 else 1) z (jrnAt z p (fun j => { j with posA := q }) (fun j => { j with posB := q }) s)
    else if j.pair = s.get ZX_JRN_STATUS.active then
      jrnSwitch { s with jrnPos := s.jrnPos.filter (fun k => k.seq != j.seq), jrnWait := j.entries ++ s.jrnWait }
    else jrnFail s

/-! Writes until they settle. -/

/-- A write whose last position has passed asks for its placement entries: one for its own positions and one for each range that its data
was written again to, with what was passed over; the last of them settles it (R155, R269). -/
def writePassed (wid : Nat) (s : State) : State :=
  match s.writes.find? (fun w => w.wid == wid) with
  | none => s
  | some w =>
    let n := w.left - 1
    let placed := decide (n = 0)
    let s := { s with writes := s.writes.map (fun v => if v.wid = wid then { v with left := n, placed := v.placed || placed } else v) }
    if placed && !w.placed then
      let x := zoneOf s w.zone
      let entry := fun (r : Nat × Nat) (job : Nat) => ({ kind := 1, zone := w.zone, a := r.1, b := r.2, mwp := x.mwp, hwp := x.hwp, voids := x.voids.filter (fun p => decide (r.1 ≤ p) && decide (p ≤ r.2)), job := job } : JEntry)
      let parts := (w.first, w.last) :: w.more
      let s := parts.dropLast.foldl (fun t r => jrnAdd (entry r 0) t) s
      jrnAdd (entry (parts.getLastD (w.first, w.last)) (wid + 1)) s
    else s

/-- A unit is being written over a position. -/
def RewriteUnit.over (u : RewriteUnit) (z p : Nat) : Bool := u.out && u.zone == z && decide (u.pos ≤ p) && decide (p < u.pos + u.count)

/-- The write that a position belongs to. -/
def widOf (s : State) (z p : Nat) : Option Nat :=
  match s.rewrites.find? (fun u => u.over z p) with
  | some u => some u.wid
  | none => (s.writes.find? (fun w => w.zone == z && decide (w.first ≤ p) && decide (p ≤ w.last))).map (fun w => w.wid)

/-- A unit has one position fewer to pass. -/
def unitLess (z p : Nat) (s : State) : State :=
  { s with rewrites := (s.rewrites.map (fun (u : RewriteUnit) => if u.over z p then { u with left := u.left - 1 } else u)).filter (fun u => !(u.over z p && u.left == 0)) }

/-- A data position has passed; a unit's write has settled one share when the unit's last position passes (R151, R155). -/
def posPassed (z p : Nat) (s : State) : State :=
  if isJrnZone s z then jrnPassed z p s
  else
    let s := updZone z (fun x => x.done p) s
    match s.rewrites.find? (fun u => u.over z p) with
    | some u =>
      let s := srcRelease z (unitLess z p s)
      if u.left ≤ 1 then writePassed u.wid s else s
    | none =>
      match widOf s z p with
      | some n => writePassed n (srcRelease z s)
      | none => srcRelease z s

/-- A position is void: it is left in place and its data becomes a rewrite unit; where it was itself a rewrite, the attempts
made carry over (R151, R153, R154). -/
def posVoid (z p head : Nat) (s : State) : State :=
  if isJrnZone s z then jrnVoid z p s
  else
    let s := updZone z (fun x => x.void p) s
    match s.rewrites.find? (fun u => u.over z p) with
    | some u =>
      let s := unitLess z p s
      let s := if 1 < u.left then { s with writes := s.writes.map (fun (w : WriteRec) => if w.wid = u.wid then { w with left := w.left + 1 } else w) } else s
      { s with rewrites := s.rewrites ++ [{ u with pos := p, count := 1, left := 1, head := head, out := false }] }
    | none =>
      match widOf s z p with
      | some n =>
        if s.writes.any (fun w => w.wid == n && w.ns == sanNs) then writePassed n s
        else { s with rewrites := s.rewrites ++ [{ wid := n, zone := z, pos := p, count := 1, left := 1, tries := 0, head := head, out := false }] }
      | none => s

/-- Hand an operation back for another head: reads to the twin, writes and reads of a surface without one to the staging list (R283). -/
def requeueTwin (o : MsOp) (s : State) : State :=
  let s := s.raise MS_INT.requeue
  if o.isRead then
    let mask := (bitsOf 16 o.mask).foldl (fun n k => match s.image.twin (16 * o.act + k) with
      | some w => setBit n (w % 16)
      | none => n) 0
    let alone := (bitsOf 16 o.mask).foldl (fun n k => if (s.image.twin (16 * o.act + k)).isNone then setBit n k else n) 0
    let s := if mask = 0 then s else msSubmit { o with act := o.act ^^^ 2, mask := mask } s
    if alone = 0 then s else { s with msHold := s.msHold ++ [{ o with mask := alone }] }
  else { s with msHold := s.msHold ++ [o] }

/-- Void the positions of a write operation that were never judged (R156, R283). -/
def voidRest (o : MsOp) (s : State) : State :=
  if o.isRead then s
  else (List.range o.count).foldl (fun t k =>
    if posDone t o.zone (o.pos + k) then t
    else posVoid o.zone (o.pos + k) (posHead t.image o.act o.zone (o.pos + k)) t) s

/-! The chunk index's pages (R305, R306). -/

/-- Blocks of a namespace. -/
def nsBlocks (s : State) (n : Nat) : Nat := nsZones s n * s.image.zoneSize

/-- Index pages of a namespace: 256 chunks of 16 blocks each. -/
def nsPages (s : State) (n : Nat) : Nat := (nsBlocks s n + 4095) / 4096

/-- Show how much of a namespace's index is cached, and whether a pinned one is wholly resident (R306). -/
def showIndex (n : Nat) (s : State) : State :=
  let c := (s.idxCached.filter (fun p => p.1 == n)).length
  let s := s.set CX_NS_STATUS.cached n c
  s.set CX_NS_STATUS.resident n (b2n (s.on ZX_NS.pin n && s.on ZX_NS.enable n && decide (nsPages s n ≤ c)))

/-- A read has ended with all its sectors: the extent it holds is ready to expand, or an index page is in the cache (R292,
R306). -/
def readDone (o : MsOp) (s : State) : State :=
  if o.kind = 6 ∧ o.aux ≠ 0 then
    match s.idxMedia.find? (fun p => p.2.1 == o.zone && p.2.2 == o.pos) with
    | some p => showIndex p.1.1 { s with idxCached := s.idxCached.filter (fun x => x != p.1) ++ [p.1] }
    | none => s
  else if (o.kind = 0 ∨ o.kind = 7) ∧ o.aux ≠ 0 then
    match s.extents.find? (fun e => e.zone == o.zone && decide (e.pos ≤ o.pos ∧ o.pos < e.pos + e.span) && e.chunk + 1 == o.aux), ctxOf s o.job with
    | some e, some x =>
      let merge := x.cmd.opcode != 2
      let wid := ((s.writes.find? (fun w => w.ctx == some o.job)).map (fun w => w.wid)).getD 0
      if keyMissing s e.ns then ctxFail o.job stAccess s
      else
        let j : CxJob := { kind := if merge then 2 else 1, ns := e.ns, chunk := e.chunk, gen := e.gen, blocks := e.orig / 4096, level := e.level, cls := o.cls, covered := o.covered, since := s.dtime, job := o.job, wid := wid, retried := o.kind == 7, data := extentPlain s e (extentFetched s o.job e) }
        { s with cxReady := s.cxReady ++ [j] }
    | _, _ => s
  else s

/-- A command has failed already; nothing of it is queued again. -/
def ctxFailed (s : State) (c : Nat) : Bool := match ctxOf s c with | some x => x.status != 0 | none => false

/-- The Error Information log takes an entry for a command with an unrecovered sector: the lowest block that the sector at position `p`
holds, or of the chunk whose extent it holds, or of the chunks that the index page it holds lists. Where microcode ended the read
without a recovery result, which sector it was is not known: a free value (R171). -/
def logError (o : MsOp) (p : Option Nat) (s : State) : State :=
  match ctxOf s o.job with
  | none => s
  | some x =>
    let first := (o.zone - s.get ZX_NS.first_zone (x.cmd.nsid - 1)) * s.image.zoneSize
    let lba := if o.kind = 6 then 4096 * (o.aux - 1) else if o.aux ≠ 0 then 16 * (o.aux - 1)
      else
        let p := p.getD (o.pos + s.fresh % max 1 o.count)
        first + p - ((zoneOf s o.zone).voids.filter (fun v => decide (v < p))).length
    let e : ErrEntry := { ctl := x.ctl, qid := x.qid, cid := x.cmd.cid, status := stUnrecovered, lba := lba, nsid := x.cmd.nsid }
    { s.spend with errLog := (e :: s.errLog).take 64 }

end Sys2Proof.Machine
end

