-- ==== Sys2Proof/Machine/ServoMath.lean ====
section
/-! DEFINITION. The servo engine's arithmetic (R183, R184), unit conversions, the position of a servo field (R178), comb
planning (R189, R190), seek limits and prediction (R193, R197). -/

namespace Sys2Proof.Machine

/-- Saturate to w-bit two's complement. -/
def satS (w : Nat) (x : Int) : Int :=
  let hi : Int := 2 ^ (w - 1) - 1
  let lo : Int := -(2 ^ (w - 1))
  if hi < x then hi else if x < lo then lo else x

/-- Clamp to ±m. -/
def clampS (m x : Int) : Int := if m < x then m else if x < -m then -m else x

/-- The shifted product of R183: exact, rounded, arithmetic shift right. -/
def shiftMul (c x : Int) (sh : Nat) : Int := if sh = 0 then c * x else (c * x + 2 ^ (sh - 1)) / 2 ^ sh

/-- Division rounded to the nearest, halves away from zero; 0 for a zero divisor. -/
def divRound (n : Int) (d : Nat) : Int :=
  if d = 0 then 0 else if n < 0 then -((2 * -n + d) / (2 * d)) else (2 * n + d) / (2 * d)

/-- A coefficient register: value and shift. -/
def coefOf (s : State) (c sh : Fld) (i : Nat) : Int × Nat := (s.getS c i, s.get sh i)

/-- One biquad stage: its output before saturation (R184). -/
def biquad (b0 b1 b2 a1 a2 : Int × Nat) (x x1 x2 y1 y2 : Int) : Int :=
  shiftMul b0.1 x b0.2 + shiftMul b1.1 x1 b1.2 + shiftMul b2.1 x2 b2.2 - shiftMul a1.1 y1 a1.2 - shiftMul a2.1 y2 a2.2

/-- Run one stage: the new state and output; a saturated stage sets SV_INT.sat (R183, R184). -/
def runStage (a : Nat) (c sh : Fld) (ci : Nat) (x1f x2f y1f y2f : Fld) (si : Nat) (x : Int) (s : State) : Int × State :=
  let k := fun i => coefOf s c sh (ci + i)
  let zero := (List.range 5).all (fun i => (k i).1 == 0)
  let raw := if zero then 0 else biquad (k 0) (k 1) (k 2) (k 3) (k 4) x (s.getS x1f si) (s.getS x2f si) (s.getS y1f si) (s.getS y2f si)
  let y := satS 32 raw
  let s := if y = raw then s else (s.inc SV_STATUS.sat_count a).raise SV_INT.sat a
  let s := (s.set x2f si (s.get x1f si)).setS x1f si x
  (y, (s.set y2f si (s.get y1f si)).setS y1f si y)

/-- Track pitch in pm. -/
def pitch (s : State) (a : Nat) : Nat := s.get SV_GEOM.pitch_pm a

/-- PU to nm (SV_GEOM.pitch_pm). -/
def puToNm (s : State) (a : Nat) (x : Int) : Int := divRound (x * pitch s a) 256000

/-- Half nm to PU, halves away from zero (R189). -/
def halfNmToPu (s : State) (a : Nat) (x : Int) : Int := divRound (x * 128000) (pitch s a)

/-- nm to MA_CMD units: 32,767 is 1.0 µm (R187). -/
def nmToMa (x : Int) : Int := divRound (x * 32767) 1000

/-- Half nm to MA_CMD units, halves away from zero (R189). -/
def halfNmToMa (x : Int) : Int := divRound (x * 32767) 2000

/-- MA_CMD units to PU with the head's ma_gain (R185). -/
def maToPu (s : State) (h : Nat) (u : Int) : Int :=
  divRound (u * s.get SV_SLOT_CFG.ma_gain h * 256000000) (32767 * 32768 * pitch s (h / 16))

/-- The range limit in MA_CMD units (R187). -/
def rangeMa (s : State) (a : Nat) : Int := min 32767 (nmToMa (s.get SV_MA_LIM.range_nm a))

/-- Move one value toward another by at most a step (R194). -/
def rampTo (step cur aim : Int) : Int := if cur + step < aim then cur + step else if aim < cur - step then cur - step else aim

/-! Sines (R205, R206). -/

/-- sin of a phase in 2⁻³² cycle, in 2⁻⁶²: the power series to its 25th power, exact at the quarter cycles. -/
def sin62 (phase : Nat) : Int :=
  let r := phase % 2 ^ 30
  let f := if phase / 2 ^ 30 % 2 = 1 then 2 ^ 30 - r else r
  -- π/2 × 2⁶² is 7244019458077122842
  let x : Int := (f * 7244019458077122842 / 2 ^ 30 : Nat)
  let p := (List.range 12).foldl (fun (p : Int × Int) k =>
    let t := -(p.2 * x / 2 ^ 62 * x / 2 ^ 62) / (((2 * k + 2) * (2 * k + 3) : Nat) : Int)
    (p.1 + t, t)) (x, x)
  let v : Int := if f = 2 ^ 30 then 2 ^ 62 else p.1
  if phase / 2 ^ 31 % 2 = 1 then -v else v

/-- A value times a number in 2⁻⁶², rounded down or up as the engine rounds it, which the manual does not say; exact where it is whole. -/
def times62 (x v : Int) (phase : Nat) : Int :=
  x * v / 2 ^ 62 + (if x * v % 2 ^ 62 ≠ 0 ∧ Config.sineUp x phase then 1 else 0)

/-- A value × sin(2πφ), and × cos(2πφ), for a phase in 2⁻³² cycle (R205, R206). -/
def timesSin (x : Int) (phase : Nat) : Int := times62 x (sin62 phase) phase
def timesCos (x : Int) (phase : Nat) : Int := times62 x (sin62 (phase + 2 ^ 30)) phase

/-- One step of the 31-bit noise LFSR 1 + x²⁸ + x³¹ (R205). -/
def lfsrStep (x : Nat) : Nat := (2 * x + (if x.testBit 27 != x.testBit 30 then 1 else 0)) % 2 ^ 31

/-- The LFSR after n steps. -/
def lfsrRun (x : Nat) : Nat → Nat
  | 0 => x
  | n + 1 => lfsrStep (lfsrRun x n)

/-! The servo field. -/

/-- The servo address mark (R175). -/
def samBits : Nat := 0xE4

/-- The fields of the 44 servo bits: SAM, wedge number, Gray-coded track ID, parity (R175). -/
def servoSam (code : Nat) : Nat := code / 2 ^ 36 % 2 ^ 8
def servoWedgeNo (code : Nat) : Nat := code / 2 ^ 26 % 2 ^ 10
def servoGray (code : Nat) : Nat := code / 2 ^ 3 % 2 ^ 23
def servoParity (code : Nat) : Nat := code % 8

/-- The number a 23-bit Gray code stands for (R175). -/
def grayNumber (g : Nat) : Nat :=
  let g := Nat.xor g (g / 2 ^ 16)
  let g := Nat.xor g (g / 2 ^ 8)
  let g := Nat.xor g (g / 2 ^ 4)
  let g := Nat.xor g (g / 2 ^ 2)
  Nat.xor g (g / 2)

/-- The parity bits of a Gray code: bit i is the XOR of the bits at positions congruent to i modulo 3, position 0 the least significant
(R175; DEDUCED, log entry 111). -/
def grayParity (g : Nat) : Nat :=
  let p := fun i => (List.range 8).foldl (fun b k => b != g.testBit (3 * k + i)) false
  (if p 0 then 1 else 0) + (if p 1 then 2 else 0) + (if p 2 then 4 else 0)

/-- The track ID of a field and whether its parity holds (R175, R179). -/
def servoTrack (code : Nat) : Nat := grayNumber (servoGray code)
def servoParityOk (code : Nat) : Bool := grayParity (servoGray code) == servoParity code

/-- f of R178 in PU, rounded to the nearest. -/
def burstPu (n1 n2 : Int) : Int :=
  let m := n1.natAbs + n2.natAbs
  if 0 ≤ n2 then divRound (64 * n1) m
  else divRound ((if 0 ≤ n1 then 128 else -128) * (m : Int) - 64 * n1) m

/-- |f| ≤ 0.375 (R179, cause 3). -/
def nearCentre (n1 n2 : Int) : Bool := decide (0 ≤ n2) || decide (n1.natAbs + n2.natAbs ≤ 2 * n1.natAbs)

/-- The measured position: whichever neighbour lies nearest the prediction, the decoded one on a tie (R178). -/
def measuredPos (cyl : Nat) (f pred : Int) : Int :=
  let p : Int := cyl * 256 + f
  let near := fun (q best : Int) => if (q - pred).natAbs < (best - pred).natAbs then q else best
  near (p + 256) (near (p - 256) p)

/-! Comb planning. -/

/-- The required displacement of a slot in nm (R189). -/
def requiredDisp (s : State) (a k : Nat) (nominal : Int) : Int :=
  let h := 16 * a + k
  let r := puToNm s a (s.getS X.sv_rofs h)
  if s.on SV_SLOT_STATE.measured h then r - puToNm s a (s.getS SV_SLOT_OFS.offset h) else nominal + r

/-- The usable half-range (R189). -/
def halfRange (s : State) (a : Nat) : Nat := s.get SV_MA_LIM.range_nm a - s.get SV_COMB.margin_nm a

/-- Insert a slot by displacement; equal ones keep slot order. -/
def insertDisp (x : Nat × Int) : List (Nat × Int) → List (Nat × Int)
  | [] => [x]
  | y :: r => if x.2 < y.2 then x :: y :: r else y :: insertDisp x r

/-- The comb width in force for a map: the smaller of its width and the profile's (R20, R44). -/
def combWidth (s : State) (c : CombMap) : Nat :=
  let w := max 1 (s.get MS_PROFILE.comb_width)
  if c.width = 0 then w else min c.width w

/-- Cut a sorted list into the longest runs that fit and hold at most w slots: each a list of slots with displacements. That a comb wider
than the width in force is split as one beyond the range is, is the model's reading (R44, R190; DEDUCED, log entry 112). -/
def cutRuns (h w : Nat) : List (Nat × Int) → List (List (Nat × Int))
  | [] => []
  | x :: r =>
    match cutRuns h w r with
    | [] => [[x]]
    | _ => (r.foldl (fun (acc : List (List (Nat × Int))) y =>
        match acc with
        | [] => [[y]]
        | g :: gs =>
          match g with
          | [] => [y] :: gs
          | z :: _ => if y.2 - z.2 ≤ 2 * (h : Int) ∧ g.length < w then (g ++ [y]) :: gs else [y] :: g :: gs) [[x]]).reverse

/-- The slot mask and centre, in half nm, of a run (R189). -/
def runCentre (g : List (Nat × Int)) : Nat × Int :=
  let lo := (g.headD (0, 0)).2
  let hi := g.foldl (fun m x => max m x.2) lo
  (g.foldl (fun n x => setBit n x.1) 0, lo + hi)

/-- Take the nearest of a list to a point, the lower centre on a tie, then the rest by distance from it (R190). -/
def orderRuns (point : Int) (l : List (Nat × Int)) : List (Nat × Int) :=
  let better := fun (p : Int) (x y : Nat × Int) =>
    decide ((x.2 - p).natAbs < (y.2 - p).natAbs) || ((x.2 - p).natAbs == (y.2 - p).natAbs && decide (x.2 < y.2))
  let pick := fun (p : Int) (m : List (Nat × Int)) => m.foldl (fun b x => match b with
    | none => some x
    | some y => if better p x y then some x else some y) none
  match pick point l with
  | none => []
  | some f =>
    let rest := (l.erase f).foldl (fun (acc : List (Nat × Int)) x =>
      acc.takeWhile (fun y => better f.2 y x) ++ [x] ++ acc.dropWhile (fun y => better f.2 y x)) []
    f :: rest

/-- The plan of a comb request: sub-combs in running order, none wider than the comb width in force, each a slot mask and centre in half
nm (R44, R189, R190). A width that a commit changes meets the next request (R65). -/
def combPlan (s : State) (a desc : Nat) : List (Nat × Int) :=
  let c := s.image.comb (desc / 2 ^ 39 % 64)
  let slots := bitsOf 16 (desc % 65536)
  let ds := slots.foldl (fun l k => insertDisp (k, requiredDisp s a k (c.offsets.getD k 0)) l) []
  let ref : Int := (desc / 2 ^ 16 % 2 ^ 23) * 256
  let arm := 2 * puToNm s a ((s.get X.sv_pos a / 256 : Nat) - ref)
  orderRuns arm ((cutRuns (halfRange s a) (combWidth s c) ds).map runCentre)

/-! Seeks. -/

/-- The first seek-table entry whose distance covers d; 32 for none (R197). -/
def seekEntry (s : State) (a d : Nat) : Nat :=
  ((List.range 32).find? (fun i => decide (d ≤ s.get SV_SEEK_TAB.dist (32 * a + i)))).getD 32

/-- The predicted time of an entry (R197). -/
def entryTime (s : State) (a i : Nat) : Nat := if i < 32 then s.get SV_SEEK_TAB.time_us (32 * a + i) else 65535

/-- Servo states (SV_STATUS.state). -/
def svOff : Nat := 0
def svParked : Nat := 1
def svAcquiring : Nat := 2
def svSeeking : Nat := 3
def svSettling : Nat := 4
def svTracking : Nat := 5
def svParking : Nat := 6
def svHolding : Nat := 7

/-- The servo state of an actuator. -/
def svState (s : State) (a : Nat) : Nat := s.get SV_STATUS.state a

/-- Predicted seek time for a distance in tracks; 0 for distance 0 while tracking (R197). -/
def seekTime (s : State) (a d : Nat) : Nat :=
  if d = 0 ∧ svState s a = svTracking then 0 else entryTime s a (seekEntry s a d)

/-- Distance of a target from the seek reference in tracks, rounded up (R197). -/
def seekDist (s : State) (a target : Nat) : Nat :=
  let d := ((target : Int) * 256 - (s.get X.sv_pos a : Nat)).natAbs
  (d + 65535) / 65536

/-- Loops, seeks and loads are barred: pitch or a seek limit is 0 (R188). -/
def svBarred (s : State) (a : Nat) : Bool :=
  pitch s a == 0 || s.get SV_SEEK_LIM.j_max a == 0 || s.get SV_SEEK_LIM.a_max a == 0 || s.get SV_SEEK_LIM.v_max a == 0

/-- Acceleration and jerk limits in force, in 1/256 PU: seek_pct scales both for a non-urgent seek (R193). -/
def seekLimits (s : State) (a : Nat) : Int × Int :=
  let pct := if s.on X.sv_urgent a then 100 else s.get MS_PROFILE.seek_pct
  ((s.get SV_SEEK_LIM.a_max a * 16 * pct / 100 : Nat), (s.get SV_SEEK_LIM.j_max a * pct / 100 : Nat))

/-- The arm can stop from velocity v within distance d: ramping the deceleration at j up to a_max and down again, or, where a_max is not
reached, at j alone (R193; all in 1/256 PU and wedges). -/
def stopsWithin (am jm v d : Nat) : Bool :=
  if v * jm ≤ am * am then decide (v * v * v ≤ d * d * jm) else decide (v * (v * jm + am * am) ≤ 2 * d * am * jm)

/-- The highest velocity from which the arm can still stop within a distance, up to a bound: found bit by bit (R193). -/
def brakeVelocity (am jm d vm : Nat) : Nat :=
  (List.range 40).foldl (fun v i =>
    let w := v + 2 ^ (39 - i)
    if w ≤ vm ∧ stopsWithin am jm w d then w else v) 0

/-- Advance the seek reference by one wedge. A stop at the target, or the last step to it, that the limits admit is taken. Otherwise the
generator moves the acceleration toward the value that reaches the highest velocity from which it can still stop at the target, by a free
amount within j_max, since the manual bounds the change and does not give it (R193, R194). -/
def seekAdvance (a : Nat) (s : State) : State :=
  let (am, jm) := seekLimits s a
  let vm := s.get SV_SEEK_LIM.v_max a * 256
  let p : Int := (s.get X.sv_pos a : Nat)
  let v := s.getS X.sv_vel a
  let acc := s.getS X.sv_acc a
  let aim : Int := (s.get X.sv_target a : Nat) * 256
  let last := aim - p
  let direct := last - v
  if p = aim ∧ v.natAbs ≤ am.natAbs ∧ (-v - acc).natAbs ≤ jm.natAbs then (s.setS X.sv_acc a (-v)).setS X.sv_vel a 0
  else if direct.natAbs ≤ am.natAbs ∧ (direct - acc).natAbs ≤ jm.natAbs ∧ last.natAbs ≤ am.natAbs ∧ (-last - direct).natAbs ≤ jm.natAbs then
    ((s.set X.sv_pos a aim.toNat).setS X.sv_vel a last).setS X.sv_acc a direct
  else
    let speed : Int := brakeVelocity am.natAbs jm.natAbs last.natAbs vm
    let want := clampS am ((if 0 ≤ last then speed else -speed) - v)
    let step : Int := (s.fresh % (min jm.natAbs (want - acc).natAbs + 1) : Nat)
    let acc := clampS am (rampTo step acc want)
    let v := clampS vm (v + acc)
    (((s.spend.setS X.sv_acc a acc).setS X.sv_vel a v).set X.sv_pos a (p + v).toNat)

end Sys2Proof.Machine
end

