-- ==== Sys2Proof/Machine/Rotation.lean ====
section
/-! DEFINITION. Where a track's sectors stand under a head, and the predictions that rest on it: the rotational wait, the access time of an
operation, the end of a recovery attempt (05_detection.md R111, R116; 07_read_recovery.md R168; 12_zones_scheduling.md R279, R280). Times
are in ps unless a name says otherwise. -/

namespace Sys2Proof.Machine

/-- A revolution. -/
def revPs (s : State) : Nat := 1000 * s.image.revNs

/-- The wedge period (R478). -/
def wedgePs (s : State) : Nat := revPs s / max 1 s.image.wedges

/-- The channel bits of a band in time, its rate being in Mbit/s. -/
def bitsPs (s : State) (h b n : Nat) : Nat := n * 1000000 / max 1 (bandOf s h b).rate

/-- The time, from the wedge gap that begins sector 0's span, of a channel bit of sector k of a head and band: the spans before it, the bits
before it in its span, and the wedge gaps of 200 ns among them (R111). -/
def sectorBitPs (s : State) (h b k bit : Nat) : Nat :=
  let i := 48 * s.image.surf h + b
  let n := max 1 (s.get DP_BAND_LAYOUT.span_sectors i)
  let x := bitsPs s h b (k % n * s.get DP_BAND_LAYOUT.slot i + bit)
  k / n * s.get DP_BAND_LAYOUT.span_wedges i * wedgePs s + x + 200000 * (1 + x / max 1 (wedgePs s - 200000))

/-- The time of the wedge gap of wedge 0 under a head, by its last good field: the gap begins 10.4 ns of guard and 16 preamble bits before
the SAM (R175, R478); none where no field of the head has been seen. -/
def headZero (s : State) (h : Nat) : Option Int :=
  if s.get X.sv_next h = 0 then none
  else some ((s.get X.sv_next h : Int) - ((s.get X.sv_wn h + 1) * wedgePs s : Nat) - 36000)

/-- The rotational wait in ns from a DTIME until a sector begins under a head; up to a revolution, a free value, where the head's timing is
not known. -/
def rotWaitNs (s : State) (h b k t : Nat) : Nat :=
  match headZero s h with
  | some z => ((z + (sectorBitPs s h b k 0 : Nat) - (1000 * t : Nat)) % (max 1 (revPs s) : Nat)).toNat / 1000
  | none => s.fresh % max 1 s.image.revNs

/-- The seek time in ns to a track from the seek table (R197). -/
def seekNs (s : State) (a track : Nat) : Nat := 1000 * seekTime s a (seekDist s a (track * 256))

/-- The predicted access time in ns to a sector of a track under a head: seek-table time and rotational wait (R279, R280). -/
def accessNs (s : State) (h track b k : Nat) : Nat :=
  let seek := seekNs s (h / 16) track
  seek + rotWaitNs s h b k (s.dtime + seek)

/-- The span in ns of sectors lo to hi of a track (R168). -/
def spanNs (s : State) (h b lo hi : Nat) : Nat :=
  let slot := s.get DP_BAND_LAYOUT.slot (48 * s.image.surf h + b)
  (sectorBitPs s h b hi slot - sectorBitPs s h b lo 0) / 1000

/-- The worst-case decode in ns at the recovery limit, in the slowest DCLK group: 250 ns and n × 320 + 64 cycles (R116, R168). -/
def decodeNs (s : State) : Nat :=
  let khz := (List.range 4).foldl (fun n g => let c := s.image.clocks.getD (9 + g) 0; if c = 0 then n else if n = 0 then c else min n c) 0
  250 + (s.get DP_ITER.recovery_max * 320 + 64) * 1000000 / max 1 khz

/-- The DTIME at which the last result of an attempt at sectors lo to hi of a track is predicted (R168). -/
def attemptEnd (s : State) (h track b lo hi : Nat) : Nat := s.dtime + accessNs s h track b lo + spanNs s h b lo hi + decodeNs s

/-- The predicted access time in ns to a position on an actuator (R279, R280). -/
def posAccessNs (s : State) (act z p : Nat) : Nat :=
  let m := s.image
  accessNs s (posHead m act z p) (posTrack m z p) (m.group (groupIx m z)).band (posSector m z p)

end Sys2Proof.Machine
end

