-- ==== Sys2Proof/Machine/Arm.lean ====
section
/-! DEFINITION. What moves an arm: retract and unload (R239), park and load (R202), seeks (R193, R194), combs and read
offsets (R189, R194, R250). -/

namespace Sys2Proof.Machine

/-- A slot leaves the comb with its loop open and command 0 (R187). -/
def dropMember (h : Nat) (s : State) : State := (openLoop h (s.clear SV_SLOT_STATE.member h)).clear SV_SLOT_STATE.ready h

/-- The comb of an actuator ends: members leave, the plan is gone (R202, R203). -/
def endComb (a : Nat) (s : State) : State :=
  let s := s.each (List.range 16) (fun k t => dropMember (16 * a + k) t)
  let s := { s with combPlans := KV.del s.combPlans a }
  (((s.clear X.sv_plan_req a).clear X.sv_plan_ok a).clear X.sv_sub a).clear X.sv_rem a

/-- A park or a reset ends an injection (R205). -/
def endInjection (a : Nat) (s : State) : State := (s.clear X.sv_inj a).clear X.sv_inj_val a

/-- The arm stops following: seeks and combs are cancelled and the sequencer is told (R202). -/
def cancelArm (a : Nat) (s : State) : State :=
  let s := endInjection a (endComb a s)
  raisePark a ((s.clear X.sv_seeking a).clear X.sv_rdy_arm a)

/-- The velocity phase of an unload or retract begins (R239); with VCMa_FLT_N asserted it waits for the flag to clear
(R224, R241). -/
def vcmRetract (a : Nat) (s : State) : State :=
  let s := (s.set MC_VCM_STATUS.mode a (if s.on X.vcm_flt a then 4 else 2)).clear MC_VCM_STATUS.parked a
  let s := ((s.set X.vcm_phase a 2).clear X.sv_park_seek a).clear X.sv_setpoint a
  s.set SV_STATUS.state a svParking

/-- An arm off the ramp, or on its way. -/
def armOut (s : State) (a : Nat) : Bool := s.on MC_VCM_STATUS.loaded a || s.get X.vcm_phase a == 1

/-- Retract an actuator that is loaded or loading; a retract in progress goes on (R239, R242). -/
def retract (a : Nat) (s : State) : State :=
  if s.get X.vcm_phase a = 2 ∨ s.get X.vcm_phase a = 3 then s
  else if armOut s a then
    let s := s.each (s.image.actHeads a) (fun h t => (t.set SV_SLOT_STATE.unsafeBit h 1))
    vcmRetract a (cancelArm a s)
  else s

/-- A trace trigger fires: the next sample time is the trigger's; with no sample times to follow, recording stops (R204). -/
def traceFire (a : Nat) (s : State) : State :=
  if s.get SV_TRACE_STATUS.state a = 1 then
    let s := (s.set SV_TRACE_STATUS.trig_index a (s.get X.sv_tr_n a * 2 ^ s.get SV_TRACE_CTRL.nodes a)).clear X.sv_tr_post a
    if s.get SV_TRACE_CTRL.post a = 0 then (s.set SV_TRACE_STATUS.state a 3).raise SV_INT.trace_done a
    else s.set SV_TRACE_STATUS.state a 2
  else s

/-- A trace trigger of a kind: 1 seek start, 2 write-unsafe bit set, 3 bad wedge, 4 head opened, 5 switchover, 6 injection
start (R204). -/
def traceTrig (a kind : Nat) (s : State) : State := if s.get SV_TRACE_CTRL.trigger a = kind then traceFire a s else s

/-- Start a seek of the arm's reference to a position in PU, from its present velocity and acceleration (R193, R194,
R197). -/
def startSeek (a target : Nat) (urgent : Bool) (s : State) : State :=
  let d := seekDist s a target
  let here : Bool := d == 0 && svState s a == svTracking
  let e := if here then 32 else seekEntry s a d
  let s := (s.set X.sv_t0 a s.dtime).set X.sv_pred a (seekTime s a d)
  let s := (s.set X.sv_target a target).set X.sv_urgent a (b2n urgent)
  let s := (s.set X.sv_entry a e).set X.sv_seeking a 1
  let s := s.each (List.range 16) (fun k t => t.clear SV_SLOT_STATE.ready (16 * a + k))
  traceTrig a 1 ((s.clear X.sv_rdy_arm a).set SV_STATUS.state a svSeeking)

/-- The highest position a track ID names, exclusive (R174). -/
def maxPosition : Nat := 8388608 * 256

/-- Some head of the actuator has feedback. -/
def anyFeedback (s : State) (a : Nat) : Bool := (List.range 16).any (fun k => s.on SV_SLOT_STATE.feedback (16 * a + k))

/-- A seek request of firmware or a sequencer: refused beyond the track range, under R188, or while parking, parked,
acquiring or holding (R174, R188, R202). -/
def seekRequest (a target : Nat) (urgent : Bool) (s : State) : State :=
  let st := svState s a
  if maxPosition ≤ target ∨ svBarred s a ∨ ¬ (st = svSeeking ∨ st = svSettling ∨ st = svTracking) then s.raise SV_INT.refused a
  else startSeek a target urgent s

/-- Park an actuator: a seek to park_track and unload if it is tracking or seeking with feedback, otherwise, and where
R188 allows no seek, a retract at once; a faulted channel retracts (R188, R202, R241). -/
def parkArm (a : Nat) (s : State) : State :=
  let st := svState s a
  if st = svOff ∨ st = svParked ∨ st = svParking then s
  else if (st = svTracking ∨ st = svSeeking ∨ st = svSettling) ∧ anyFeedback s a ∧ s.get MC_VCM_STATUS.mode a = 1 ∧ ¬ svBarred s a then
    let s := cancelArm a s
    let s := startSeek a (s.get SV_PARK.park_track a * 256) true s
    ((s.clear X.sv_seeking a).set X.sv_park_seek a 1).set SV_STATUS.state a svParking
  else if armOut s a then retract a s
  else s.set SV_STATUS.state a svParked

/-- Park every actuator. -/
def parkAll (s : State) : State := s.each (List.range 4) parkArm

/-- An actuator is parked, or was never off its ramp. -/
def isParked (s : State) (a : Nat) : Bool := !armOut s a && s.get X.vcm_phase a == 0

/-- The speed of the spindle in rpm. -/
def spinRpm (s : State) : Nat := s.get MC_SPIN_STATUS.speed / 16

/-- Load an actuator from the ramp, unless parking, under R188, below flying speed, or motor control cannot drive the
channel in current mode (R188, R202, R233, R237, R481). While the park latch is set the request has no effect (R456). -/
def loadArm (a : Nat) (s : State) : State :=
  let st := svState s a
  if s.get MP_PARK_STATUS.latch ≠ 0 then s
  else if st = svParking ∨ s.get X.vcm_phase a ≥ 2 ∨ svBarred s a ∨ spinRpm s < s.get MC_SPIN_CFG.fly_rpm ∨ s.get MC_CTRL.enable = 0
      ∨ s.get MC_VCM_CFG.fs_ma a = 0 ∨ s.get MC_VCM_STATUS.mode a = 4 then s.raise SV_INT.refused a
  else if st = svOff ∨ st = svParked then
    let s := (s.set MC_VCM_STATUS.mode a 2).clear MC_VCM_STATUS.parked a
    let s := (s.set X.vcm_phase a 1)
    s.set SV_STATUS.state a svAcquiring
  else s

/-- Set the read offset of a slot; the displacement follows by ramping (R164, R194). -/
def setReadOffset (h : Nat) (ofs : Int) (s : State) : State :=
  let a := h / 16
  let old := s.getS X.sv_rofs h
  let s := (s.setS X.sv_rofs h ofs).clear X.sv_near h
  let d := puToNm s a (ofs - old)
  let s := if s.on SV_SLOT_STATE.member h then s.setS SV_SLOT_OFS.disp_nm h (s.getS SV_SLOT_OFS.disp_nm h + d) else s
  s.setS X.sv_disp h (s.getS X.sv_disp h + nmToMa d)

/-- Zero the stage states of a head's loop (R187). -/
def zeroStages (h : Nat) (s : State) : State :=
  (List.range 4).foldl (fun t i =>
    let j := 4 * h + i
    (((t.clear X.sv_mx1 j).clear X.sv_mx2 j).clear X.sv_my1 j).clear X.sv_my2 j) (s.clear X.sv_u h)

/-- Close a member's loop from zero states, or refuse to under R188 (R187, R188). -/
def closeLoop (h : Nat) (s : State) : State :=
  if svBarred s (h / 16) then s.raise SV_INT.refused (h / 16) else (zeroStages h s).set SV_SLOT_STATE.closed h 1

/-- Take the next sub-comb of the plan: its slots become members with their loops closed where allowed, and the arm moves
to its centre (R187, R189, R190, R200, R247). Answers the slot mask, 0 when the plan is exhausted. -/
def nextSub (a : Nat) (urgent : Bool) (s : State) : Nat × State :=
  match KV.getD s.combPlans a [] with
  | [] => (0, s.clear X.sv_rem a)
  | (mask, c) :: rest =>
    let s := { s with combPlans := kset [] s.combPlans a rest }
    let desc := s.get X.sv_plan_desc a
    let comb := s.image.comb (desc / 2 ^ 39 % 64)
    let ref := desc / 2 ^ 16 % 2 ^ 23 * 256
    let s := s.each (List.range 16) (fun k t =>
      let h := 16 * a + k
      if mask.testBit k && !t.on X.sv_barred h && !t.on X.head_lost h && t.get MS_HEAD_SVC.in_service h == 1 then
        let d := 2 * requiredDisp t a k (comb.offsets.getD k 0) - c
        let t := (t.set SV_SLOT_STATE.member h 1).setS X.sv_disp h (halfNmToMa d)
        let t := t.setS SV_SLOT_OFS.disp_nm h (d.tdiv 2)
        if (t.get SV_LOOP.ma_closed a).testBit k && !t.on SV_SLOT_STATE.closed h then closeLoop h t else t
      else dropMember h t)
    let s := (s.set X.sv_sub a mask).clear X.sv_rem a
    let centre := halfNmToPu s a c
    let s := (s.setS X.sv_centre a centre).set X.sv_ref a ref
    let target := ((ref : Int) + centre).toNat
    (mask, if svBarred s a then s.raise SV_INT.refused a
      else if svState s a = svTracking ∨ svState s a = svSeeking ∨ svState s a = svSettling then startSeek a target urgent s else s)

/-- Release the comb and the read offsets of the slots named (R194, R247). -/
def releaseComb (a ofsMask : Nat) (s : State) : State :=
  let s := s.each (bitsOf 16 ofsMask) (fun k t => setReadOffset (16 * a + k) 0 t)
  endComb a s

/-- Remove a member on range or feedback loss: it joins no comb until it rejoins, and the sequencer sees REM (R192, R198,
R200, R250). -/
def removeMember (h : Nat) (s : State) : State := (((dropMember h s).set X.sv_barred h 1).set X.sv_rem (h / 16) 1).clearBitOf X.sv_sub (h / 16) (h % 16)

end Sys2Proof.Machine
end

