-- ==== Sys2Proof/Machine/WriteRun.lean ====
section
/-! DEFINITION. Write runs: the sectors of a run, the results of its positions, and its end (R151, R152, R157, R253). -/

namespace Sys2Proof.Machine

/-- A run that is open: a sector of it has not gone by (R253). -/
def WRun.opened (r : WRun) : Bool := decide (r.idx < r.count)

/-- A thread has an open write run. -/
def runsOpen (s : State) (q t : Nat) : Bool := s.wruns.any (fun p => p.2.seq == q && p.2.thr == t && p.2.opened)

/-- A thread has a write run that is open or whose verify results are not all posted (R248, WRDONE). -/
def runsLeft (s : State) (q t : Nat) : Bool := s.wruns.any (fun p => p.2.seq == q && p.2.thr == t)

/-- Store a head's run, and show whether its thread has an open one; a run that is closed and judged is gone. -/
def setRun (h : Nat) (r : WRun) (s : State) : State :=
  let s := { s with wruns := if r.count ≤ r.idx ∧ r.count ≤ r.judged then KV.del s.wruns h else KV.put natLt s.wruns h r }
  s.set SQ_THR_STATE.write_run (thrNo r.seq r.thr) (b2n (runsOpen s r.seq r.thr))

/-- The zone position that a head writes at a sector: that of its thread's operation on the head's surface, the comb's track
and the sector (R266). -/
def runPos (s : State) (h seq thr sector : Nat) : Option (Nat × Nat) :=
  match KV.get s.sqOps (thrNo seq thr) with
  | none => none
  | some o =>
    let m := s.image
    let home := (m.comb (m.group (groupIx m o.zone)).comb).act
    let track := s.get X.sv_ref (h / 16) / 256
    ((List.range o.count).map (fun n => o.pos + n)).find? (fun p =>
      m.surf (16 * home + posSlot m o.zone p) == m.surf h && posSector m o.zone p == sector && posTrack m o.zone p == track)
    |>.map (fun p => (o.zone, p))

/-- The verify result word of R152. -/
def verifyWord (sector vstatus bitErr : Nat) (warn : Bool) : Nat :=
  sector % 4096 * 2 ^ 52 + vstatus * 2 ^ 48 + min bitErr 65535 * 2 ^ 32 + b2n warn * 2 ^ 31

/-- Judge the oldest sector of a run that is not judged: its result is posted, it passes or becomes void (R151, R152). -/
def judgeSector (h vstatus bitErr : Nat) (s : State) : State :=
  match KV.get s.wruns h with
  | none => s
  | some r =>
    let sector := (r.first + r.judged) % trackSectors s h r.band
    let warn := vstatus == 0 && decide (s.get WP_VERIFY.warn_err < bitErr)
    let pos := runPos s h r.seq r.thr sector
    let s := setRun h { r with judged := r.judged + 1, marks := r.marks.drop 1 } s
    let s := postVres r.seq r.thr (h % 16) (verifyWord sector vstatus bitErr warn) s
    let s := if vstatus = 0 then
        let s := s.inc WP_HEAD_VCNT.verified h
        if warn then s.inc WP_HEAD_VCNT.warned h else s
      else (s.inc WP_HEAD_STATE.void h).raise WP_INT.verify_fail
    match pos with
    | some (z, p) => if vstatus = 0 then posPassed z p s else posVoid z p h s
    | none => s

/-- Judge the oldest sectors whose result is known without the verify detector: those of the marks given. -/
def judgeMarks (h : Nat) : List Nat → State → State
  | [], s => s
  | m :: r, s => if m = 0 then s else judgeMarks h r (judgeSector h m 0 s)

/-- Judge what can be judged of a head's run. -/
def judgeKnown (h : Nat) (s : State) : State :=
  match KV.get s.wruns h with
  | some r => judgeMarks h r.marks s
  | none => s

/-- A run ends early: the sector whose gate was removed in it fails with vstatus 4, and the positions it has not reached are not written,
vstatus 7 (R143, R151, R253). -/
def runFail (h : Nat) (s : State) : State :=
  match KV.get s.wruns h with
  | none => s
  | some r =>
    let cut := s.on X.wp_ended h && r.opened
    let left := List.replicate (r.count - r.idx - b2n cut) 7
    let s := setRun h { r with armed := false, idx := r.count, marks := r.marks ++ (if cut then 4 :: left else left) } (s.clear X.wp_ended h)
    judgeKnown h s

/-- A run is aborted: at once, the sector being written failing, or at the end of that sector (R147, R253). -/
def runAbort (immediate : Bool) (h : Nat) (s : State) : State :=
  match KV.get s.wruns h with
  | none => s
  | some r =>
    if immediate || !writing s h then runFail h (gateOff h gateAbort s)
    else gateOffAtEnd h gateAbort (setRun h { r with armed := false } s)

end Sys2Proof.Machine
end

