-- ==== Sys2Proof/Machine/HeadLink.lean ====
section
/-! DEFINITION. The head link (04_head_link.md, R67 to R99, R479, R480): groups, lanes, keepalive, frames, control
messages, loss and retraining. -/

namespace Sys2Proof.Machine

/-- Group states (HL_GROUP_STATUS.state). -/
def grpOff : Nat := 0
def grpDetect : Nat := 1
def grpCapx : Nat := 2
def grpSettle : Nat := 3
def grpTrain : Nat := 4
def grpActive : Nat := 5
def grpFailed : Nat := 7

/-- Lane states (HL_ULANE_STATUS.state). -/
def laneOff : Nat := 0
def laneTrain : Nat := 1
def laneActive : Nat := 2
def laneRecover : Nat := 3
def laneFailed : Nat := 4
def laneSleep : Nat := 5

/-- The state of a group. -/
def grpState (s : State) (y : Nat) : Nat := s.get HL_GROUP_STATUS.state y

/-- The state of a lane. -/
def laneState (s : State) (x : Nat) : Nat := s.get HL_ULANE_STATUS.state x

/-- The group of a lane: that of the head it carries (R67). -/
def laneGroup (s : State) (x : Nat) : Nat := (s.image.groupOf (s.image.headOf x)).getD (4 * (x / 16))

/-- The group no longer carries CT: the messages that wait for an answer are held again, in order and before the others, with the
sends they have had (R479; DEDUCED, log entry 106). -/
def ctRecall (y : Nat) (s : State) : State :=
  { s with ctHeld := kset [] s.ctHeld y (KV.getD s.ctSent y [] ++ KV.getD s.ctHeld y []), ctSent := KV.del s.ctSent y }

/-- Send the held messages of a group that now carries CT, in order (R479). -/
def ctFlush (y : Nat) (s : State) : State :=
  let held := KV.getD s.ctHeld y []
  held.foldl (fun t m => ctQueue y m t) { s with ctHeld := KV.del s.ctHeld y }

/-- The bit of a write-set message in X.wp_set_wait. -/
def writeSetBit (op : Nat) : Option Nat := if op = 0x80 then some 0 else if op = 0x40 then some 1 else if op = 0x41 then some 2 else none

/-- A write-set message of a head has failed or was refused: the set stays unsent, set_fail is set and the run ends with vstatus 7 (R143). -/
def writeSetFailed (h : Nat) (s : State) : State :=
  if s.get X.wp_set_wait h = 0 then s
  else
    let s := (s.clear X.wp_set_wait h).set X.wp_set_failed h 1
    runFail h ((s.set WP_HEAD_STATE.unsent h 1).alarm WP_INT.set_fail 0 12 h)

/-- Discard the messages of a group that enters OFF or FAILED (R479). -/
def ctDiscard (y : Nat) (s : State) : State :=
  let all := KV.getD s.ctHeld y [] ++ KV.getD s.ctSent y []
  let s := { s with ctHeld := KV.del s.ctHeld y, ctSent := KV.del s.ctSent y }
  let s := if all.any (fun m => m.fw) then s.raise HL_INT.ct_fail else s
  all.foldl (fun t m => if (writeSetBit m.op).isSome && !m.fw then writeSetFailed (16 * (y / 4) + m.slot) t else t) s

/-- Show the head entry of a group's receive queue. -/
def ctShow (y : Nat) (s : State) : State :=
  match KV.getD s.ctRx y [] with
  | [] => (s.clear HL_CT_RXLO.bytes y).clear HL_CT_RXHI.bytes y
  | (lo, hi) :: _ => (s.set HL_CT_RXLO.bytes y lo).set HL_CT_RXHI.bytes y hi

/-- Add an entry to a group's 32-entry receive queue (R79); a full queue takes no more (log entry 15). -/
def ctReceive (y lo hi : Nat) (s : State) : State :=
  let q := KV.getD s.ctRx y []
  if 32 ≤ q.length then s
  else (ctShow y { s with ctRx := kset [] s.ctRx y (q ++ [(lo, hi)]) }).raise HL_INT.ct_rx

/-- The front-end enters its safe state: what it holds of the write sets of the group's heads counts as unsent (R88, R143). -/
def feSafe (y : Nat) (s : State) : State :=
  s.each (s.image.groupHeads y) (fun h t => t.set WP_HEAD_STATE.unsent h 1) |>.clear X.hl_resumed y

/-- A lane fails: its head is lost and a record written (R86, R92). -/
def laneFail (x : Nat) (s : State) : State :=
  let s := (s.set HL_ULANE_STATUS.state x laneFailed).clear X.hl_lane_ok x
  loseHead (s.image.headOf x) s

/-- A group fails with a cause: keepalive stops, its messages are discarded, its heads are lost (R85, R92). -/
def groupFail (y cause : Nat) (s : State) : State :=
  let s := ((s.set HL_GROUP_STATUS.state y grpFailed).set HL_GROUP_STATUS.cause y cause).clear HL_GROUP_STATUS.ka_active y
  let s := (s.clear X.hl_asked y).clear X.hl_go y
  let s := ctDiscard y (feSafe y s)
  let s := s.each (s.image.groupLanes y) laneFail
  if cause = 3 then s.alarm HL_INT.mismatch 0 10 y else s.event 10 y 0xFF

/-- Every group of an actuator is OFF. -/
def allOff (s : State) (a : Nat) : Bool := (List.range 4).all (fun j => grpState s (4 * a + j) == grpOff)

/-- Return a group and its lanes to OFF (R85); the lane-group port is released when the last group is OFF (log entry 16). -/
def groupOff (y : Nat) (s : State) : State :=
  let s := ((s.set HL_GROUP_STATUS.state y grpOff).clear HL_GROUP_STATUS.cause y).clear HL_GROUP_STATUS.ka_active y
  let s := ((s.clear X.hl_asked y).clear X.hl_go y).clear X.hl_down_lost y
  let s := ctDiscard y (feSafe y (s.clear X.hl_by_action y))
  let s := s.each (s.image.groupLanes y) (fun x t => (gateOff (t.image.headOf x) gateLane t).set HL_ULANE_STATUS.state x laneOff)
  if allOff s (y / 4) then
    match s.image.portOf 5 (y / 4) with
    | some p => hgRelease p holderLink s
    | none => s
  else s

/-- Ask a group to come up: it waits for its lane-group grant, which is requested if none is held (R480). Only HL_GROUP_CTRL.action 1
takes a group out of FAILED (R85). -/
def groupAsk (byAction : Bool) (y : Nat) (s : State) : State :=
  if s.image.groupUsed y && (grpState s y == grpOff || (byAction && grpState s y == grpFailed)) then
    let s := s.set X.hl_by_action y (b2n byAction)
    let s := s.set X.hl_asked y 1
    match s.image.portOf 5 (y / 4) with
    | some p => if hasGrant s p then s else hgRequest p 0 false holderLink false s
    | none => s
  else s

/-- Enter DETECT: PART_CAP with keepalives on the downstream lane, nothing known of the front-end (R81, R85). The cause of an earlier
loss is cleared, which the spec leaves open (DESIGN CHOICE, log entry 106). -/
def enterDetect (y : Nat) (s : State) : State :=
  let s := (s.set HL_GROUP_STATUS.state y grpDetect).clear HL_GROUP_STATUS.cause y
  let s := s.set HL_GROUP_STATUS.ka_active y (1 - s.get HL_GROUP_CTRL.ka_stop y)
  let s := ((s.clear X.hl_asked y).clear X.hl_go y).clear X.hl_locked y
  let s := ctRecall y (feSafe y (s.clear X.hl_down_lost y))
  let s := s.set X.hlref (y / 4) 1
  let s := s.each (s.image.groupLanes y) (fun x t =>
    let t := ((t.set HL_ULANE_STATUS.state x laneOff).clear X.hl_lane_ok x).clear X.hl_acked x
    let t := (t.clear X.hl_width (t.image.headOf x)).clear X.hl_clk (t.image.headOf x)
    { t with feCap := KV.del t.feCap x })
  sendNeg y (partCap y) s

/-- GROUP_BRING_UP: HL_GROUP_CTRL.action 1 (R85, R480). -/
def execGroupBringUp (group : Nat) (s : State) : Res := run (okGroup group) s (groupAsk true group)

/-- GROUP_TO_OFF: HL_GROUP_CTRL.action 3 (R85). -/
def execGroupToOff (group : Nat) (s : State) : Res := run (okGroup group) s (groupOff group)

/-- HL_CTRL_WRITE: the settings, and every used group up or down by enable (R85). -/
def execHlCtrlWrite (value : Nat) (s : State) : Res :=
  run true s (fun s =>
    let was := s.get HL_CTRL.enable
    let s := writeReg HL_CTRL 0 (fun _ => true) value s
    let now := s.get HL_CTRL.enable
    if was = 0 ∧ now = 1 then s.each (List.range 16) (groupAsk false)
    else if was = 1 ∧ now = 0 then s.each (List.range 16) groupOff
    else s)

/-- DETECT_ENTRY: with the grant held, a waiting group leaves OFF or FAILED; from FAILED the attempt count clears (R85,
R480). -/
def execDetectEntry (group : Nat) (s : State) : Res :=
  run (okGroup group) s (fun s =>
    let st := grpState s group
    if s.on X.hl_asked group && (st == grpOff || st == grpFailed) && hasGrantFor s 5 (group / 4)
        && !(s.get CR_ACT_STATUS.in_reset).testBit (group / 4) then
      let s := if st = grpFailed then s.clear HL_GROUP_STATUS.attempts_used group else s
      enterDetect group s
    else s)

/-- DETECT_TIMEOUT: 50 ms in DETECT (R85). -/
def execDetectTimeout (group : Nat) (s : State) : Res :=
  run (okGroup group) s (fun s => if grpState s group = grpDetect then groupFail group 1 s else s)

/-- The highest rate code a list of rates allows at or below a cap: bit c − 1 of the list stands for code c (R82, R83). -/
def bestRate (list cap : Nat) : Nat :=
  if 3 ≤ cap ∧ list.testBit 2 then 3
  else if 2 ≤ cap ∧ list.testBit 1 then 2
  else if 1 ≤ cap ∧ list.testBit 0 then 1
  else 0

/-- The downstream rate of a group: both sides list 28.125 and 56.25 or one of them, no higher than lane_opt and
down_rate_limit (R83). -/
def downRate (s : State) (y list : Nat) : Nat :=
  bestRate (list / 2 * 2) (min (s.image.laneOpt.getD (64 + y) 0 % 4) (s.get HL_GROUP_CTRL.down_rate_limit y))

/-- The upstream rate of a lane (R83). -/
def upRate (s : State) (x list : Nat) : Nat :=
  bestRate list (min (s.image.laneOpt.getD x 0 % 4) (s.get HL_ULANE_CTRL.rate_limit x))

/-- The sample widths that any band of a head's surface uses, in either set: bit 0 for 5, bit 1 for 6 (R83). -/
def widthsOf (s : State) (h : Nat) : Nat :=
  let su := s.image.surf h
  let bands := (s.image.bandTables.filter (fun t => t.surface == su)).flatMap (fun t => t.bands)
  (if bands.any (fun b => b.sampleBits == 5) then 1 else 0) + (if bands.any (fun b => b.sampleBits == 6) then 2 else 0)

/-- A slot meets the conditions of R83: its own slot, populated, a common rate, the widths, readers A and V, and B for
layout 0. -/
def slotOk (s : State) (x : Nat) (c : FeCapMsg) : Bool :=
  let h := s.image.headOf x
  let w := widthsOf s h
  c.slot == h % 16 && c.readers != 0 && upRate s x c.upRates != 0 && (c.widths &&& w) == w
    && c.readers.testBit 0 && c.readers.testBit 2
    && (s.get HL_HEAD_CFG.readers h != 2 || c.readers.testBit 1)

/-- Narrow the assist window in force to the front-end's, with a record where it changes (R46, R83). -/
def narrowWindow (y : Nat) (c : FeCapMsg) (s : State) : State :=
  let lo := s.getS TH_WIN.assist_min
  let hi := s.getS TH_WIN.assist_max
  let flo := signed 16 c.assistMin
  let fhi := signed 16 c.assistMax
  if flo ≤ lo ∧ hi ≤ fhi then s
  else ((s.setS TH_WIN.assist_min 0 (max lo flo)).setS TH_WIN.assist_max 0 (min hi fhi)).event 10 y 0xFF

/-- Move from CAPX to SETTLE: settle each reporting lane, fail the silent and unfit ones, send SET (R83, R85). -/
def enterSettle (y : Nat) (s : State) : State :=
  let lanes := s.image.groupLanes y
  let s := s.each lanes (fun x t =>
    match KV.get t.feCap x with
    | none => laneFail x t
    | some c =>
      if slotOk t x c then
        let h := t.image.headOf x
        let t := (t.set HL_ULANE_STATUS.rate x (upRate t x c.upRates)).set HL_ULANE_STATUS.widths x (widthsOf t h)
        let t := t.set HL_ULANE_STATUS.layout x (if t.get HL_HEAD_CFG.readers h = 2 then 0 else 1)
        t.set X.hl_lane_ok x 1
      else (laneFail x t).alarm HL_INT.mismatch 0 10 x)
  if lanes.any (fun x => s.on X.hl_lane_ok x) then
    let s := s.set HL_GROUP_STATUS.state y grpSettle
    sendNeg y (setMessage s y) s
  else groupFail y 3 s

/-- FE_CAP: the first message of a group moves it to CAPX or fails it; when every used lane has reported the group settles
(R82, R83, R85). -/
def execFeCap (lane : Nat) (payload : List Byte) (s : State) : Res :=
  run (okLane lane && okPayload 1 payload) s (fun s =>
    let y := laneGroup s lane
    let cap := feCapOf payload
    if !(s.image.groupLanes y).contains lane then s
    else if grpState s y = grpDetect then
      let s := ({ s with feCap := KV.put natLt s.feCap lane cap }).set HL_ULANE_STATUS.slot lane cap.slot
      let s := (s.set HL_GROUP_STATUS.fe_id y cap.ident).set HL_GROUP_STATUS.fe_rev y cap.rev
      if cap.assist ≠ s.image.assistType ∨ downRate s y cap.downRates = 0 then groupFail y 3 s
      else
        let s := narrowWindow y cap s
        let s := (s.set HL_GROUP_STATUS.state y grpCapx).set HL_GROUP_STATUS.assist y cap.assist
        let s := s.set HL_GROUP_STATUS.down_rate y (downRate s y cap.downRates)
        if (s.image.groupLanes y).all (fun x => (KV.get s.feCap x).isSome) then enterSettle y s else s
    else if grpState s y = grpCapx then
      let s := ({ s with feCap := KV.put natLt s.feCap lane cap }).set HL_ULANE_STATUS.slot lane cap.slot
      if (s.image.groupLanes y).all (fun x => (KV.get s.feCap x).isSome) then enterSettle y s else s
    else s)

/-- CAPX_TIMEOUT: 1 ms in CAPX; silent lanes fail (R85). -/
def execCapxTimeout (group : Nat) (s : State) : Res :=
  run (okGroup group) s (fun s => if grpState s group = grpCapx then enterSettle group s else s)

/-- Byte 1 of ACK_SET: 0 accepted, else the reason of a refusal (R82). -/
def ackSetCode (payload : List Byte) : Nat := (payload.getD 1 0).toNat

/-- Bytes 2 to 15 of ACK_SET are a copy of SET bytes 1 to 14 (R82). -/
def ackSetCopies (s : State) (y : Nat) (payload : List Byte) : Bool :=
  ((payload.map (fun b => b.toNat)).drop 2).take 14 == (setMessage s y).drop 1

/-- ACK_SET: a lane accepts or refuses SET; when every remaining lane has accepted GO is sent, in 4 consecutive frames (R81, R82, R85). An
ACK_SET whose copy is not the SET sent is ignored, which the spec leaves open (DESIGN CHOICE, log entry 106). -/
def execAckSet (lane : Nat) (payload : List Byte) (s : State) : Res :=
  run (okLane lane && okPayload 4 payload) s (fun s =>
    let y := laneGroup s lane
    if grpState s y = grpSettle ∧ s.on X.hl_lane_ok lane ∧ ackSetCopies s y payload then
      let s := if ackSetCode payload = 0 then s.set X.hl_acked lane 1 else (laneFail lane s).alarm HL_INT.mismatch 0 10 lane
      let left := (s.image.groupLanes y).filter (fun x => s.on X.hl_lane_ok x)
      if left.isEmpty then groupFail y 3 s
      else if left.all (fun x => s.on X.hl_acked x) then (s.set X.hl_go y 1).each (List.range 4) (fun _ t => sendNeg y goMessage t)
      else s
    else s)

/-- SETTLE_TIMEOUT: 1 ms in SETTLE without acceptance (R85). -/
def execSettleTimeout (group : Nat) (s : State) : Res :=
  run (okGroup group) s (fun s =>
    if grpState s group = grpSettle ∧ s.get X.hl_go group = 0 then groupFail group 3 s else s)

/-- The packed value of HL_ULANE_EQ. -/
def eqWord (s : State) (x : Nat) : Nat :=
  s.get HL_ULANE_EQ.ctle x + s.get HL_ULANE_EQ.vga x * 2 ^ 4 + s.get HL_ULANE_EQ.dfe x * 2 ^ 8 + s.get HL_ULANE_EQ.tx_pre x * 2 ^ 56
    + s.get HL_ULANE_EQ.tx_post x * 2 ^ 59

/-- The receiver's values of HL_ULANE_EQ from a packed value. -/
def setEq (x v : Nat) (s : State) : State :=
  ((s.set HL_ULANE_EQ.ctle x v).set HL_ULANE_EQ.vga x (v / 2 ^ 4)).set HL_ULANE_EQ.dfe x (v / 2 ^ 8)

/-- A lane's receiver starts afresh: it hunts for frames and knows nothing of those before (R76). -/
def rxReset (x : Nat) (s : State) : State :=
  ((s.clear X.hl_lock_n x).clear X.hl_seq_known x).clear X.hl_badhist x |>.clear X.hl_consec x

/-- A lane's training starts: from HL_ULANE_EQ as firmware has written it where seed_eq is set, else from the preset; the receiver hunts for
frames (R76, R96). -/
def startTraining (x : Nat) (s : State) : State :=
  let s := rxReset x s
  if s.on HL_ULANE_CTRL.seed_eq x then s
  else ((setEq x Config.eqPreset s).set HL_ULANE_EQ.tx_pre x (Config.eqPreset / 2 ^ 56)).set HL_ULANE_EQ.tx_post x (Config.eqPreset / 2 ^ 59)

/-- Steer the front-end transmitter of a lane with TXEQ_REQ: the steps HL_ULANE_EQ starts from where seeded, else steps that the part's
adaptation chooses, a free value (R84, R96). -/
def sendTxeq (x : Nat) (s : State) : State :=
  let n := s.fresh
  let p := if s.on HL_ULANE_CTRL.seed_eq x then (s.get HL_ULANE_EQ.tx_pre x, s.get HL_ULANE_EQ.tx_post x) else (n % 8, n / 8 % 16)
  ctPart (laneGroup s x) (s.image.headOf x % 16) 0x06 [p.1, p.2] s.spend

/-- TRAIN_ENTRY: after the last GO frame both sides send TRAIN frames at the settled rates; held messages are sent (R84,
R479). -/
def execTrainEntry (group : Nat) (s : State) : Res :=
  run (okGroup group) s (fun s =>
    if grpState s group = grpSettle ∧ s.on X.hl_go group then
      let s := (s.set HL_GROUP_STATUS.state group grpTrain).clear X.hl_go group
      let s := s.each ((s.image.groupLanes group).filter (fun x => s.on X.hl_lane_ok x))
        (fun x t => startTraining x (t.set HL_ULANE_STATUS.state x laneTrain))
      let n := s.fresh
      let s := sendTrain group (s.on HL_GROUP_STATUS.ka_active group) [] (s.spend.set X.hl_prbs group n)
      ctFlush group s
    else s)

/-- TELEM_REQ for a head's item, with its period in 50 µs units at the rate in force (R356). -/
def sendTelem (h item : Nat) (s : State) : State :=
  let rate := max 1 (if item = 1 && s.on TH_HEAD.near h then s.get TH_RATE.rate_near else s.get TH_RATE.rate_normal)
  match s.image.groupOf h with
  | some y => ctPart y (h % 16) 0x07 [item, min 255 ((40000 + rate) / (2 * rate))] s
  | none => s

/-- The group becomes ACTIVE and sends RESUME; telemetry is asked for of every head in service (R84, R356). -/
def groupActive (y : Nat) (s : State) : State :=
  let s := ctPart y 0xFF 0x01 [] (s.set HL_GROUP_STATUS.state y grpActive)
  s.each ((s.image.groupHeads y).filter (fun h => s.get MS_HEAD_SVC.in_service h == 1)) (fun h t => sendTelem h 1 (sendTelem h 0 t))

/-- The eye figures meet HL_EYE_MIN (R84, R97). -/
def eyeOk (s : State) (h w : Nat) : Bool := decide (s.get HL_EYE_MIN.h_min ≤ h) && decide (s.get HL_EYE_MIN.w_min ≤ w)

/-- The receiver has adapted: HL_ULANE_EQ holds what it reached from the values it had (R96). -/
def adaptEq (x : Nat) (s : State) : State := setEq x (Config.eqAdapted (eqWord s x) s.freeCtr) s.spend

/-- Eye height h = d − 14 e_rms, in 1/256 of full scale; a closed eye has height 0, an open one 255 at most (R97, log entry 106). -/
def eyeHeight (d e : Nat) : Nat := min 255 (d - 14 * e)

/-- Eye width w = 128 − 14 t_rms, in 1/128 UI; a closed eye has width 0 (R97, log entry 106). -/
def eyeWidth (t : Nat) : Nat := 128 - 14 * t

/-- Record eye figures from the inner level spacing and the RMS errors, as the adapted receiver has them (R96, R97). -/
def setEye (x d e t : Nat) (s : State) : State :=
  let s := adaptEq x s
  let s := ((s.set HL_ULANE_EYE.eye_h x (eyeHeight d e)).set HL_ULANE_EYE.eye_w x (eyeWidth t)).set HL_ULANE_EYE.e_rms x (min e 255)
  s.set HL_ULANE_EYE.marginal x (b2n (!eyeOk s (eyeHeight d e) (eyeWidth t)))

/-- A lane starts ACTIVE: its sample times are counted from here (R71), and its eye figures are not yet refreshed. -/
def laneFresh (x : Nat) (s : State) : State :=
  let s := (s.clear X.hl_sidx x).clear HL_ULANE_EYE.valid x
  let s := (s.set HL_ULANE_STATUS.state x laneActive).clear HL_ULANE_STATUS.attempts_used x
  ((s.clear X.hl_dok0 x).clear X.hl_waking x).clear X.sv_fb_lost (s.image.headOf x)

/-- Send a lane into RECOVER with its first attempt: RETRAIN for its slot (R86). -/
def laneRecoverStart (x : Nat) (s : State) : State :=
  let s := startTraining x ((s.set HL_ULANE_STATUS.state x laneRecover).set HL_ULANE_STATUS.attempts_used x 1)
  ctPart (laneGroup s x) (s.image.headOf x % 16) 0x09 [] s

/-- Settle a lane's rate and layout again for a retrain, from the limits now set (R98). -/
def resettle (x : Nat) (s : State) : State :=
  match KV.get s.feCap x with
  | none => s
  | some c =>
    let h := s.image.headOf x
    (s.set HL_ULANE_STATUS.rate x (upRate s x c.upRates)).set HL_ULANE_STATUS.layout x (if s.get HL_HEAD_CFG.readers h = 2 then 0 else 1)

/-- A lane retrains alone, at the limits now set (R86, R98). -/
def laneRetrain (x : Nat) (s : State) : State := laneRecoverStart x (resettle x (s.clear X.hl_redo x))

/-- A suspension for a FAULT message ends with this activation of a lane: after a retrain that firmware asked for, or in a bring-up asked
for by HL_GROUP_CTRL.action 1 (R93). An ACT reset ends it by resetting HL_HEAD_CFG. -/
def endsFault (s : State) (x st : Nat) : Bool :=
  (st == laneRecover && s.get X.hl_fw_retrain x == 1) || (st == laneTrain && s.on X.hl_by_action (laneGroup s x))

/-- LANE_ACTIVE: a training lane's eye meets HL_EYE_MIN. The calibration of a suspended head becomes stale, as does that of any head
whose lane had been ACTIVE; a suspended head resumes after its validation pass (R84, R86, R92, R93, R130). -/
def execLaneActive (lane spacing eRms tRms : Nat) (s : State) : Res :=
  run (okLane lane) s (fun s =>
    let st := laneState s lane
    let y := laneGroup s lane
    let h := s.image.headOf lane
    if (st == laneTrain || st == laneRecover) && eyeOk s (eyeHeight spacing eRms) (eyeWidth tRms) then
      let ends5 := endsFault s lane st
      let s := setEye lane spacing eRms tRms (laneFresh lane s)
      let s := if s.on HL_HEAD_CFG.suspended h || st == laneRecover || s.on X.hl_was_up lane then
          let s := if s.get HL_HEAD_CFG.susp_cause h = 5 ∧ ends5 then s.set HL_HEAD_CFG.susp_cause h 1 else s
          (makeStale h 2 s).alarm HL_INT.lane_recovered 0 10 lane
        else s
      let s := (s.clear X.hl_fw_retrain lane).set X.hl_was_up lane 1
      if s.on X.hl_redo lane then laneRetrain lane (makeStale h 2 (suspend h 1 s))
      else
        let s := if st = laneRecover then ctPart y (h % 16) 0x0A [] s else s
        if grpState s y = grpTrain ∧ (s.image.groupLanes y).all (fun x =>
          laneState s x == laneActive || laneState s x == laneFailed) then groupActive y s
      else s
    else s)

/-- TRAIN_TIMEOUT: 5 ms in TRAIN; lanes not ACTIVE fail (R85). -/
def execTrainTimeout (group : Nat) (s : State) : Res :=
  run (okGroup group) s (fun s =>
    if grpState s group = grpTrain then
      let s := s.each ((s.image.groupLanes group).filter (fun x => laneState s x == laneTrain))
        (fun x t => (laneFail x t).event 10 x 0xFF)
      if (s.image.groupLanes group).any (fun x => laneState s x == laneActive) then groupActive group s
      else groupFail group 4 s
    else s)

/-- ATTEMPT_COUNT_CLEAR: 1 s of continuous ACTIVE (R85). -/
def execAttemptCountClear (group : Nat) (s : State) : Res :=
  run (okGroup group) s (fun s =>
    if grpState s group = grpActive then s.clear HL_GROUP_STATUS.attempts_used group else s)

/-- A frame with ka set, in the form of the group's state: in handshake mode the current negotiation message again (R73, R81, R87). -/
def sendKeepalive (y : Nat) (s : State) : State :=
  let st := grpState s y
  if st = grpSettle then sendNeg y (if s.on X.hl_go y then goMessage else setMessage s y) s
  else if st = grpDetect ∨ st = grpCapx then sendNeg y (partCap y) s
  else sendCt y true [] s

/-- KEEPALIVE: the interval expires in DETECT to ACTIVE; a stopped generator issues none. It runs in the actuator's SCLK domain, which
stops where the sequencers are power-gated in STANDBY (R87, R372). -/
def execKeepalive (group : Nat) (s : State) : Res :=
  run (okGroup group) s (fun s =>
    let st := grpState s group
    if 1 ≤ st ∧ st ≤ 5 ∧ s.get HL_GROUP_CTRL.ka_stop group = 0 ∧ s.get X.hl_down_lost group = 0
        ∧ (s.get CR_ACT_STATUS.in_reset).testBit (group / 4) = false ∧ gated s = false then
      sendKeepalive group ((s.set HL_GROUP_STATUS.ka_active group 1).set X.hl_ka_last group s.dtime)
    else s.clear HL_GROUP_STATUS.ka_active group)

/-- The downstream lane is declared lost: the group's writers are gated, its heads suspended, ka stops (R94). -/
def downLoss (y cause : Nat) (s : State) : State :=
  if grpState s y = grpActive ∧ s.get X.hl_down_lost y = 0 then
    let s := s.each (s.image.groupHeads y) (fun h t => suspend h 2 (gateOff h gateLane t))
    let s := (s.set HL_GROUP_STATUS.cause y cause).clear HL_GROUP_STATUS.ka_active y
    let s := feSafe y (s.set X.hl_down_lost y 1)
    (scLoss (.downLane y) s).alarm HL_INT.lane_lost 0 10 y
  else s

/-- Loss of an ACTIVE upstream lane: gate, feedback, suspension, then RECOVER, or FAILED at once where no attempt is
allowed (R86, R90). -/
def laneLoss (x : Nat) (s : State) : State :=
  if laneState s x = laneActive then
    let h := s.image.headOf x
    let s := flumeLaneLost h (suspend h 1 (feedbackLost h (gateOff h gateLane s)))
    let s := s.alarm HL_INT.lane_lost 0 10 x
    let s := scLoss (.upLane x) s
    if s.get HL_CTRL.auto_retrain = 0 ∨ s.get HL_CTRL.attempts = 0 then laneFail x s
    else laneRetrain x s
  else s

/-- LOCK_LOSS: clock recovery has lost lock (R76, R90). -/
def execLockLoss (lane : Nat) (s : State) : Res :=
  run (okLane lane) s (fun s =>
    if laneState s lane = laneActive then laneLoss lane (s.inc HL_ULANE_ERR.lock_loss lane) else s)

/-- RETRAIN_ATTEMPT_TIMEOUT: 2 ms of an attempt pass; another starts or the lane fails (R86). -/
def execRetrainAttemptTimeout (lane : Nat) (s : State) : Res :=
  run (okLane lane) s (fun s =>
    if laneState s lane = laneRecover then
      let max_ := max (s.get HL_CTRL.attempts) (min 1 (s.get X.hl_fw_retrain lane))
      if s.get HL_ULANE_STATUS.attempts_used lane < max_ then
        let s := startTraining lane (s.inc HL_ULANE_STATUS.attempts_used lane)
        ctPart (laneGroup s lane) (s.image.headOf lane % 16) 0x09 [] s
      else laneFail lane (s.clear X.hl_fw_retrain lane)
    else s)

/-- DOWNSTREAM_LANE_LOSS with one of the causes 5, 7, 8, 9 (R94). -/
def execDownstreamLaneLoss (group cause : Nat) (s : State) : Res :=
  run (okGroup group) s (fun s =>
    if cause = 5 ∨ cause = 7 ∨ cause = 8 ∨ cause = 9 then downLoss group cause s else s)

/-- TRANSMITTER_PLL_UNLOCK (R94). -/
def execTransmitterPllUnlock (group : Nat) (s : State) : Res := run (okGroup group) s (downLoss group 5)

/-- DOWNSTREAM_REBRING_UP: 10 µs after the loss, bring-up runs again if auto_retrain and attempts allow, otherwise the
group fails with the loss's cause (R85, R94). -/
def execDownstreamRebringUp (group : Nat) (s : State) : Res :=
  run (okGroup group) s (fun s =>
    if s.on X.hl_down_lost group then
      if s.on HL_CTRL.auto_retrain && decide (s.get HL_GROUP_STATUS.attempts_used group < s.get HL_CTRL.attempts) then
        enterDetect group ((s.inc HL_GROUP_STATUS.attempts_used group).clear X.hl_by_action group)
      else groupFail group (s.get HL_GROUP_STATUS.cause group) (s.clear X.hl_down_lost group)
    else s)

/-- Take the oldest sent message of a group that an answer matches. -/
def ctTake (y slot op : Nat) (s : State) : Option CtMsg × State :=
  let q := KV.getD s.ctSent y []
  match q.find? (fun m => m.slot == slot && m.op == op) with
  | none => (none, s)
  | some m => (some m, { s with ctSent := kset [] s.ctSent y (q.erase m) })

/-- The heads that a message's slot byte names: one, or every head of the group for 0xFF (R77). -/
def slotHeads (s : State) (lane slot : Nat) : List Nat :=
  if slot = 0xFF then s.image.groupHeads (laneGroup s lane) else if slot < 16 then [16 * (lane / 16) + slot] else []

/-- What the acknowledgement of a message does: write-set messages count toward the set, CLK is in force, SLEEP and WAKE move the lane, a
retraining lane's transmitter is steered, RESUME ends the safe state (R78, R79, R84, R88, R99, R143). -/
def ackEffect (lane : Nat) (m : CtMsg) (result : Nat) (s : State) : State :=
  let y := laneGroup s lane
  let h := 16 * (lane / 16) + m.slot % 16
  let op := m.op
  match if m.slot < 16 then writeSetBit op else none with
  | some b =>
    if m.fw then s
    else if result = 0 then
      let w := clearBit (s.get X.wp_set_wait h) b
      let s := s.set X.wp_set_wait h w
      if w = 0 then (s.clear WP_HEAD_STATE.unsent h).set WP_HEAD_STATE.sent_band h (s.get X.wp_set_band h) else s
    else writeSetFailed h s
  | none =>
    if result ≠ 0 then s
    else if op = 0x01 then s.set X.hl_resumed y 1
    else if op = 0x42 then s.each (slotHeads s lane m.slot) (fun k t => (t.set X.hl_width k (m.data.getD 0 0)).set X.hl_clk k (msgNat m.data 2 4))
    else match if m.slot < 16 then s.image.laneOf h else none with
      | none => s
      | some x =>
        if op = 0x03 then rxReset x (s.set HL_ULANE_STATUS.state x laneSleep)
        else if op = 0x04 then s.set X.hl_waking x 1
        else if op = 0x09 ∧ laneState s x = laneRecover then sendTxeq x s
        else s

/-- An ACK message; one for a message that firmware sent also enters the receive queue (R79). -/
def ackMsg (lane slot op result : Nat) (s : State) : State :=
  let y := laneGroup s lane
  match ctTake y slot op s with
  | (none, s) => s
  | (some m, s) =>
    let s := if m.fw then ctReceive y (0x11 + slot * 2 ^ 8 + op * 2 ^ 16 + result * 2 ^ 24) 0 s else s
    ackEffect lane m result s

/-- ACK: an answer to an acknowledged message (R79). -/
def execAck (lane slot op result : Nat) (s : State) : Res := run (okLane lane) s (ackMsg lane slot op result)

/-- A TXEQ_ACK message: the steps the front-end applied (R79, R84). -/
def txeqAckMsg (lane slot pre post : Nat) (s : State) : State :=
  let s := (ctTake (laneGroup s lane) slot 0x06 s).2
  (s.set HL_ULANE_EQ.tx_pre lane pre).set HL_ULANE_EQ.tx_post lane post

/-- TXEQ_ACK (R79, R84). -/
def execTxeqAck (lane slot pre post : Nat) (s : State) : Res := run (okLane lane) s (txeqAckMsg lane slot pre post)

/-- A STATUS message: the front-end's flags and the cause of its last safe entry. The safe flag while the part sends keepalives declares
downstream loss; the locked flag in training starts the steering of the transmitters; lost write data fails the sector; an assist outside
its window gates the head (R79, R84, R89, R94, R145). -/
def statusMsg (lane slot flags cause : Nat) (s : State) : State :=
  let y := laneGroup s lane
  let heads := slotHeads s lane slot
  let s := s.set HL_GROUP_STATUS.fe_safe y (b2n (flags.testBit 0))
  let s := s.each heads (fun h t => (t.set X.fe_flags h flags).set X.fe_cause h cause)
  let s := if flags.testBit 1 && !s.on X.hl_locked y then
      let s := s.set X.hl_locked y 1
      if grpState s y = grpTrain then
        s.each ((s.image.groupLanes y).filter (fun x => laneState s x == laneTrain)) sendTxeq
      else s
    else s
  let s := if flags.testBit 2 then s.each (heads.filter (fun h => writing s h)) (fun h t => if t.on X.wp_vfail h then t else t.set X.wp_vfail h 5) else s
  let s := s.each heads (fun h t => t.set X.fe_window h (b2n (flags.testBit 3)))
  let s := if flags.testBit 3 then
      s.each heads (fun h t => gateOff h gateWindow (t.set WP_HEAD_STATE.out_of_window h 1)) else s
  if flags.testBit 0 then
    let s := feSafe y s
    if s.on HL_GROUP_STATUS.ka_active y then downLoss y 9 s else s
  else s

/-- STATUS (R79, R94). -/
def execStatus (lane slot flags cause : Nat) (s : State) : Res := run (okLane lane && okByte cause) s (statusMsg lane slot flags cause)

/-- A REG_DATA message enters the receive queue (R79). -/
def regDataMsg (lane slot regAddr data : Nat) (s : State) : State :=
  let y := laneGroup s lane
  let s := (ctTake y slot 0x08 s).2
  ctReceive y (0x51 + slot * 2 ^ 8 + regAddr % 65536 * 2 ^ 16 + data % 2 ^ 32 * 2 ^ 32) 0 s

/-- REG_DATA (R79). -/
def execRegData (lane slot regAddr data : Nat) (s : State) : Res := run (okLane lane) s (regDataMsg lane slot regAddr data)

/-- A FAULT message enters the receive queue and suspends the head with cause 5 (R79, R93). -/
def faultMsg (lane slot code detail : Nat) (s : State) : State :=
  let y := laneGroup s lane
  let s := ctReceive y (0x52 + slot * 2 ^ 8 + code % 256 * 2 ^ 16 + detail % 2 ^ 32 * 2 ^ 32) 0 s
  let s := s.each (slotHeads s lane slot) (fun h t => suspend h 5 (gateOff h gateLane t))
  s.alarm HL_INT.fe_fault 0 10 lane

/-- FAULT (R79, R93). -/
def execFault (lane slot code detail : Nat) (s : State) : Res := run (okLane lane) s (faultMsg lane slot code detail)

/-- An EYE_DS message: the downstream eye and bad frames (R79). -/
def eyeDsMsg (lane height width bad : Nat) (s : State) : State :=
  let y := laneGroup s lane
  ((s.set X.ds_eye_h y height).set X.ds_eye_w y width).set HL_GROUP_STATUS.dcrc y (min bad 65535)

/-- EYE_DS (R79). -/
def execEyeDs (lane height width bad : Nat) (s : State) : Res :=
  run (okLane lane && okByte height && okByte width) s (eyeDsMsg lane height width bad)

/-- CT_ANSWER_TIMEOUT: no answer has come to one of the unanswered messages of a group, named by its place among them. It is resent, up to
3 times; then it has failed and the downstream lane is lost with cause 8 (R80, R94). -/
def execCtAnswerTimeout (group message : Nat) (s : State) : Res :=
  run (okGroup group) s (fun s =>
    let q := KV.getD s.ctSent group []
    match q[message]? with
    | none => s
    | some m =>
      if m.tries < 4 then ctEmit group m { s with ctSent := kset [] s.ctSent group (q.set message { m with tries := m.tries + 1 }) }
      else
        let s := { s with ctSent := kset [] s.ctSent group (q.eraseIdx message) }
        let s := if (writeSetBit m.op).isSome && !m.fw then writeSetFailed (16 * (group / 4) + m.slot) s else s
        downLoss group 8 (s.alarm HL_INT.ct_fail 0 10 group))

/-- CT_MESSAGE_QUEUE: a write of HL_CT_TXHI queues the message in HL_CT_TXLO and the written word, or sets tx_drop when 32
firmware messages are pending (HL_CT_TXHI, R77, R479). -/
def execCtMessageQueue (group hi : Nat) (s : State) : Res :=
  run (okGroup group) s (fun s =>
    let held := (KV.getD s.ctHeld group []).filter (fun m => m.fw)
    if 32 ≤ held.length then s.raise HL_INT.tx_drop
    else
      let lo := s.get HL_CT_TXLO.bytes group
      let bytes := (leBytes lo 8 ++ leBytes hi 8).map (fun b => b.toNat)
      let op := lo % 256
      let len := if op / 64 = 0 then 4 else if op / 64 = 1 then 8 else 16
      ctQueue group { slot := lo / 256 % 256, op := op, data := (bytes.take len).drop 2, fw := true, tries := 0 } s)

/-- CT_RECEIVE_DEQUEUE: a read of HL_CT_RXHI removes the head entry. -/
def execCtReceiveDequeue (group : Nat) (s : State) : Res :=
  run (okGroup group) s (fun s =>
    ctShow group { s with ctRx := kset [] s.ctRx group ((KV.getD s.ctRx group []).drop 1) })

/-- LANE_RETRAIN: firmware retrains a lane of an ACTIVE group; an ACTIVE lane's head is suspended meanwhile (R86, R93,
R98). -/
def execLaneRetrain (lane : Nat) (s : State) : Res :=
  run (okLane lane) s (fun s =>
    let st := laneState s lane
    let h := s.image.headOf lane
    if grpState s (laneGroup s lane) = grpActive ∧ (st = laneActive ∨ st = laneFailed) then
      let s := suspend h 1 (gateOff h gateLane s)
      let s := if st = laneActive then s.raise HL_INT.lane_lost else s
      laneRetrain lane (s.set X.hl_fw_retrain lane 1)
    else s)

/-- Put a lane to sleep: SLEEP for its slot, the head suspended with the cause given. A lane that trains or retrains is put to sleep
likewise, so that it does not go on without its grant (R93, R99). -/
def laneToSleep (cause lane : Nat) (s : State) : State :=
  let st := laneState s lane
  if st = laneActive ∨ st = laneTrain ∨ st = laneRecover then
    let h := s.image.headOf lane
    let s := suspend h cause (gateOff h gateLane s)
    ctPart (laneGroup s lane) (h % 16) 0x03 [] s
  else s

/-- LANE_SLEEP: HL_ULANE_CTRL.action 2 (R99). -/
def execLaneSleep (lane : Nat) (s : State) : Res := run (okLane lane) s (laneToSleep 3 lane)

/-- WAKE for a sleeping lane, only with the slot's reader-digitiser grant (R99). -/
def laneWake (lane : Nat) (s : State) : State :=
  let h := s.image.headOf lane
  if laneState s lane = laneSleep ∧ hasGrantFor s 4 h then ctPart (laneGroup s lane) (h % 16) 0x04 [] s else s

/-- LANE_WAKE: HL_ULANE_CTRL.action 3 (R99). -/
def execLaneWake (lane : Nat) (s : State) : Res := run (okLane lane) s (laneWake lane)

/-- CLEAR_LANE_ERR: HL_ULANE_CTRL.action 4 clears HL_ULANE_ERR. -/
def execClearLaneErr (lane : Nat) (s : State) : Res :=
  run (okLane lane) s (fun s =>
    ((s.clear HL_ULANE_ERR.lock_loss lane).clear HL_ULANE_ERR.seq_gap lane).clear HL_ULANE_ERR.crc_err lane)

/-- WAKE_ADAPT_DONE: 20 µs of adaptation end; the lane is ACTIVE with valid calibration, or retrains and goes stale
(R99). -/
def execWakeAdaptDone (lane spacing eRms tRms : Nat) (s : State) : Res :=
  run (okLane lane) s (fun s =>
    let h := s.image.headOf lane
    if laneState s lane = laneSleep ∧ s.on X.hl_waking lane then
      if eyeOk s (eyeHeight spacing eRms) (eyeWidth tRms) ∧ s.get X.hl_redo lane = 0 then
        let s := setEye lane spacing eRms tRms (laneFresh lane s)
        if s.get HL_HEAD_CFG.susp_cause h = 3 ∨ s.get HL_HEAD_CFG.susp_cause h = 4 then resumeHead h s else s
      else
        let s := makeStale h 2 (suspend h 1 (s.clear X.hl_waking lane))
        laneRetrain lane (s.set X.hl_fw_retrain lane 2)
    else s)

/-- EYE_REFRESH: every 1 ms in ACTIVE; a lane below HL_EYE_MIN is marginal (R97). -/
def execEyeRefresh (lane spacing eRms tRms : Nat) (s : State) : Res :=
  run (okLane lane) s (fun s =>
    if laneState s lane = laneActive then
      let s := (setEye lane spacing eRms tRms s).set HL_ULANE_EYE.valid lane 1
      if eyeOk s (eyeHeight spacing eRms) (eyeWidth tRms) then s else s.alarm HL_INT.marginal 0 10 lane
    else s)

/-- HLREF_STOP: 10 µs after every group of the actuator is OFF its HLREF output stops (R469). -/
def execHlrefStop (act : Nat) (s : State) : Res :=
  run (okAct act) s (fun s => if allOff s act then s.clear X.hlref act else s)

end Sys2Proof.Machine
end

