-- ==== Sys2Proof/Machine/WritePath.lean ====
section
/-! DEFINITION. The write path (06_write_path.md): key slots, write sets, write gate, verification, rewrites. -/

namespace Sys2Proof.Machine

/-! Key slots. -/

/-- The load or zeroise that was asked for takes effect; a load clears the key data (R138, R139). -/
def keyDone (s : State) : State :=
  let k := s.get X.key_slot
  let s := if s.get X.key_act = 1 then
      let key := (List.range 8).foldl (fun n i => n + s.get X.key_word i * 2 ^ (64 * i)) 0
      let s := { s with keys := KV.put natLt s.keys k key }
      (s.each (List.range 8) (fun i t => t.clear X.key_word i)).setBitOf WP_XTS_SLOTS.loaded 0 k
    else { s with keys := KV.del s.keys k }.clearBitOf WP_XTS_SLOTS.loaded 0 k
  ((s.clear WP_XTS_KEY_CTRL.busy).set WP_XTS_KEY_CTRL.done 0 1).clear X.key_act

/-- A key action of the security core: on a slot that data units use it waits, busy, and on another it takes effect; from another core it
is ignored (R138, R139). -/
def keyAction (core act : Nat) (s : State) : State :=
  if core ≠ secCore then s.raise WP_INT.key_denied
  else if s.on WP_XTS_KEY_CTRL.busy then s
  else
    let k := s.get WP_XTS_KEY_CTRL.slot
    let s := (s.set X.key_act 0 act).set X.key_slot 0 k
    if slotInUse s k then (s.set WP_XTS_KEY_CTRL.busy 0 1).clear WP_XTS_KEY_CTRL.done else keyDone s

/-- KEY_LOAD: WP_XTS_KEY_CTRL.action 1 (R138, R139). -/
def execKeyLoad (core : Nat) (s : State) : Res := run (okCore core) s (keyAction core 1)

/-- KEY_ZEROISE: WP_XTS_KEY_CTRL.action 2 (R138, R139). -/
def execKeyZeroise (core : Nat) (s : State) : Res := run (okCore core) s (keyAction core 2)

/-- KEY_ACTION_COMPLETE: the waiting load or zeroise takes effect once no data unit uses its slot (R139). -/
def execKeyActionComplete (s : State) : Res :=
  run true s (fun s => if s.on WP_XTS_KEY_CTRL.busy && !slotInUse s (s.get X.key_slot) then keyDone s else s)

/-! Write sets. -/

/-- The instance of a head's write set of a band. -/
def wsetIx (h b : Nat) : Nat := 48 * h + b

/-- The bytes of a number, little-endian, as the data of a message. -/
def msgBytes (v n : Nat) : List Nat := (leBytes v n).map (fun b => b.toNat)

/-- Send WRITE_SET, HEAT and ASSIST_PWR of a head and band; a write set that is not valid ends the run (R78, R143). -/
def sendWriteSet (h b : Nat) (s : State) : State :=
  let w := wsetIx h b
  if s.get WP_WSET2.valid w = 0 then runFail h (s.alarm WP_INT.set_fail 0 12 h)
  else
    match s.image.groupOf h with
    | none => s
    | some y =>
      let k := h % 16
      let set := msgBytes (s.get WP_WSET0.precomp w) 8 ++ msgBytes (s.get WP_WSET1.writer_cur w) 2 ++ [s.get WP_WSET1.os_amp w, s.get WP_WSET1.os_dur w]
      let heat := msgBytes (s.get WP_WSET2.read_heat w) 2 ++ msgBytes (s.get WP_WSET1.write_heat w) 2
      let pwr := msgBytes (s.get WP_WSET1.assist_on w) 2 ++ msgBytes (s.get WP_WSET1.assist_idle w) 2
      let s := ((s.set X.wp_set_wait h 7).set X.wp_set_band h b).clear X.wp_set_failed h
      ctPart y k 0x41 pwr (ctPart y k 0x40 heat (ctPart y k 0x80 set s))

/-- The front-end does not hold a head's values of a band (R143). -/
def needsSet (s : State) (h b : Nat) : Bool := s.on WP_HEAD_STATE.unsent h || s.get WP_HEAD_STATE.sent_band h != b

/-- Firmware has written a word of a head's write set of a band: of the band in use, the values become unsent; a set on its way is sent again
(R143). -/
def writeSetWritten (h b : Nat) (s : State) : State :=
  if s.get X.wp_set_wait h ≠ 0 ∧ s.get X.wp_set_band h = b then sendWriteSet h b s
  else if s.get WP_HEAD_STATE.sent_band h = b then s.set WP_HEAD_STATE.unsent h 1
  else s

/-! Runs. -/

/-- A thread's write request for a head: waiting, granted, or incoming. -/
def writeReq (s : State) (q t h : Nat) : Option FlumeReq :=
  let mine := fun (r : FlumeReq) => r.purpose == 1 && r.head == h
  match s.flumeReqs.find? (fun w => w.seq == q && w.thr == t && mine w.req) with
  | some w => some w.req
  | none =>
    ((List.range 32).flatMap (fun f =>
      let x := flumeOf s f
      (x.cur.toList ++ x.incoming.toList).filter (fun j => j.seq == q && j.thr == t && mine j.req))).head?.map (fun j => j.req)

/-- Permit write gate for the write request of a slot: its run opens, and the front-end is given the band's values where it
does not hold them (R143, R253). -/
def runArm (q t slot : Nat) (s : State) : State :=
  let h := 16 * q + slot
  match KV.get s.wruns h with
  | some _ => s
  | none =>
    match writeReq s q t h with
    | none => s
    | some r =>
      let s := setRun h { seq := q, thr := t, band := r.band, first := r.first, count := r.count, armed := true, idx := 0, judged := 0, marks := [] } (s.clear X.wp_ended h)
      if needsSet s h r.band then sendWriteSet h r.band s else s

/-- The flume that encodes a head's run. -/
def writeFlume (s : State) (h : Nat) : Option Nat :=
  (flumeAt s h).filter (fun f => match (flumeOf s f).cur with | some j => j.req.purpose == 1 | none => false)

/-- Drive air and the head lie within their windows (R146). -/
def tempsOk (s : State) (h : Nat) : Bool := s.get TH_STATUS.air_out == 0 && s.get WP_HEAD_STATE.out_of_window h == 0

/-- The other conditions of R146 for a head with a run. -/
def gateOk (s : State) (h : Nat) (r : WRun) : Bool :=
  let a := h / 16
  let lane := match s.image.laneOf h with
    | some x => s.get HL_ULANE_STATUS.state x == laneActive && grpState s (laneGroup s x) == grpActive
        && s.get HL_GROUP_STATUS.fe_safe (laneGroup s x) == 0 && s.on X.hl_resumed (laneGroup s x)
    | none => false
  let home := match runPos s h r.seq r.thr ((r.first + r.idx) % trackSectors s h r.band) with
    | some (z, p) => writingAct s z p == a
    | none => false
  s.on WP_CTRL.enable && r.armed && r.opened && (writeFlume s h).isSome
    && s.get MS_HEAD_SVC.in_service h == 1 && s.get HL_HEAD_CFG.suspended h == 0 && s.get DP_HEAD_STATE.stale h == 0 && s.get X.head_lost h == 0
    && lane && hasGrantFor s 3 h && decide (s.get WP_WU.settle_wedges ≤ s.get X.sv_clean h)
    && s.get X.wp_hold_off == 0 && s.get X.hg_trip 0 == 0 && s.get X.hg_trip 1 == 0
    && s.get TH_STATUS.shutdown == 0 && (s.get MP_PARK_STATUS.latch).testBit 0 == false
    && s.get WP_HEAD_STATE.unsent h == 0 && s.get WP_HEAD_STATE.sent_band h == r.band && s.get X.wp_set_wait h == 0 && home

/-- The bits of the sector that a head's run is at: its position's data with tag and parity, preamble, sync mark, postamble and pad (R110,
R117, R140). -/
def runBits (s : State) (h : Nat) (r : WRun) : List Bool :=
  let sector := (r.first + r.idx) % trackSectors s h r.band
  let i := 48 * s.image.surf h + r.band
  match runPos s h r.seq r.thr sector with
  | some (z, p) =>
    sectorBits (s.get DP_BAND_LAYOUT.slot i) (s.get DP_BAND_LAYOUT.preamble i) (s.get DP_SYNC_PATTERN.pattern)
      (codeWord (srcBytes s z p) (s.image.surf h) sector (posTrack s.image z p))
  | none => []

/-- One downstream frame time of a group in 1/225 ns, in which each of R68's is a whole number. -/
def frameTicks (s : State) (y : Nat) : Nat := match s.get HL_GROUP_STATUS.down_rate y with | 1 => 16384 | 2 => 8192 | 3 => 4096 | _ => 147456

/-- The front-end's declared latencies for a head, ae and wr, in ns (R82). -/
def headLatency (s : State) (h : Nat) : Nat × Nat :=
  match (s.image.laneOf h).bind (fun x => KV.get s.feCap x) with
  | some c => (c.aeLatency, c.wrLatency)
  | none => (0, 0)

/-- Frames by which the frame with ae precedes the first with wg, such that the lead lies between lead_ns and one frame time more (R144). -/
def leadFrames (s : State) (h y : Nat) : Int :=
  let want : Int := 225 * ((s.get WP_ASSIST.lead_ns : Int) + (headLatency s h).1 - (headLatency s h).2)
  let floor : Int := (0 - want) / (frameTicks s y : Int)
  0 - floor

/-- WR bits of one slot in a frame: at most 255, and a share of the 928 bits that the count word leaves (R75). -/
def wrShare (s : State) (y : Nat) : Nat := min 255 (928 / max 1 ((s.image.groupHeads y).filter (writing s)).length)

/-- Send the next bits of a head's sector (R141). -/
def sendBits (h n : Nat) (bits : List Bool) (s : State) : State :=
  let k := s.get X.wp_sent h
  sendWr h ((bits.drop k).take n) (s.set X.wp_sent h (min bits.length (k + n)))

/-- Assert write gate: frames with wg 0 prefill the write FIFO with at least 512 bits of filler, ae leads wg by the frames that R144 asks for,
and the first frame with wg 1 carries the sector's first bits. The times of the first energised bit and of the assist are kept in ns
(R141, R144; log entry 110). -/
def assertGate (h : Nat) (r : WRun) (s : State) : State :=
  let y := (s.image.groupOf h).getD 0
  let k := leadFrames s h y
  let n := max 1 (wrShare s y)
  let fill := (512 + n - 1) / n
  let before := max fill k.toNat
  let s := s.each (List.range before) (fun i t =>
    let t := if ((before - i : Nat) : Int) = k then t.set WP_HEAD_STATE.ae h 1 else t
    sendWr h (if before ≤ i + fill then padBits n else []) t)
  let s := ((s.set WP_HEAD_STATE.gate h 1).set X.wp_queued h (fill * n + n)).clear X.wp_sent h
  let s := sendBits h n (runBits s h r) (if k = 0 then s.set WP_HEAD_STATE.ae h 1 else s)
  let s := s.each (List.range (-k).toNat) (fun i t => sendBits h n (runBits t h r) (if i + 1 = (-k).toNat then t.set WP_HEAD_STATE.ae h 1 else t))
  let first := s.dtime + (headLatency s h).2
  let lead := (k * (frameTicks s y : Int)) / 225 + ((headLatency s h).2 : Int) - (headLatency s h).1
  (s.set X.wp_first_bit h first).set X.wp_assist_on h ((first : Int) - lead).toNat

/-- Written sectors of a head's run that wait for the verify detector. -/
def toVerify (r : WRun) : Nat := (r.marks.filter (fun m => m == 0)).length

/-- Reader V's samples of the sectors that wait for the detector, filled up to whole slots where the gate cut them off, before the gate is
asserted anew (R150). -/
def alignVerify (h : Nat) (r : WRun) (s : State) : State :=
  let n := toVerify r * s.get DP_BAND_LAYOUT.slot (48 * s.image.surf h + r.band)
  let l := ((KV.getD s.samples h []).filter (fun x => x.v)).take n
  { s with samples := kset [] s.samples h (l ++ List.replicate (n - l.length) { v := true, erased := true, a := 0, b := 0 }) }

/-- WRITE_GATE_ASSERT: write gate and assist for a head whose run is permitted, while every condition of R146 holds; a
refusal on a temperature window is reported (R141, R144, R146, R148). -/
def execWriteGateAssert (head : Nat) (s : State) : Res :=
  run (okHead head) s (fun s =>
    match KV.get s.wruns head with
    | none => s
    | some r =>
      if writing s head || s.on X.wp_ended head then s
      else if r.armed && r.opened && needsSet s head r.band then (if s.get X.wp_set_wait head = 0 then sendWriteSet head r.band s else s)
      else if !gateOk s head r then s
      else if !tempsOk s head then s.raise WP_INT.window
      else
        let s := assertGate head r (alignVerify head r s)
        (s.clear X.wp_peak head).set X.wp_first_sector head ((r.first + r.idx) % trackSectors s head r.band))

/-- The bit of the sector a head writes at which the actuator's last wedge gap falls (R111). -/
def gapBit (s : State) (h : Nat) (r : WRun) : Nat :=
  let i := 48 * s.image.surf h + r.band
  let w := max 1 (s.get DP_BAND_LAYOUT.span_wedges i)
  let n := max 1 (s.get DP_BAND_LAYOUT.span_sectors i)
  let slot := s.get DP_BAND_LAYOUT.slot i
  let before := (slot * n + s.get DP_BAND_LAYOUT.span_pad i) * (s.get SV_STATUS.wedge (h / 16) % w) / w
  min slot (before - (r.first + r.idx) % trackSectors s h r.band % n * slot)

/-- A writing head reaches a wedge gap: its gate drops while the assist stays (R140, R144). -/
def gapBegin (h : Nat) (s : State) : State :=
  if s.on WP_HEAD_STATE.gate h then sendWr h [] ((s.clear WP_HEAD_STATE.gate h).set X.wp_gap h 1) else s

/-- After a wedge gap the sector that it split goes on, where every condition of R146 still holds; else the gate stays off (R140, R146,
R148). -/
def gapEnd (h : Nat) (s : State) : State :=
  if !s.on X.wp_gap h then s
  else match KV.get s.wruns h with
    | some r =>
      if gateOk s h r && tempsOk s h then
        let s := ((s.clear X.wp_gap h).set WP_HEAD_STATE.gate h 1).set X.wp_sent h (gapBit s h r)
        sendBits h (wrShare s ((s.image.groupOf h).getD 0)) (runBits s h r) s
      else sendImm h ((gateClear h s).set X.wp_ended h 1)
    | none => sendImm h (gateClear h s)

/-- SHOCK_TRIP: every writing head's gate is removed and holdoff begins (R146, R147). -/
def execShockTrip (s : State) : Res :=
  run true s (fun s =>
    if s.on WP_SHOCK.enable then ((gateOffAll gateShock s).set X.wp_hold_off 0 1).raise WP_INT.shock else s)

/-- SHOCK_HOLDOFF_END: the gate may be asserted again (R146). -/
def execShockHoldoffEnd (s : State) : Res := run true s (fun s => s.clear X.wp_hold_off)

/-- The status a sector of a run is known to have as its last bit passes: 0 where the verify detector decides (R151). -/
def sectorMark (s : State) (h : Nat) : Nat :=
  if !writing s h && !s.on X.wp_ended h then 7
  else if s.on WP_HEAD_STATE.out_of_window h then 6
  else if !writing s h then 4
  else s.get X.wp_vfail h

/-- A removal ends a head's run, its later positions staying unwritten: in a comb write every removal, which takes the head out of the comb
for the track, and in a run of one head every removal but one for position error, after which it resumes at the next sector (R148,
R157). -/
def runOver (s : State) (h : Nat) : Bool := decide (1 < popCount 16 (s.get X.sv_sub (h / 16))) || s.get WP_HEAD_STATE.last_removal h != gatePosition

/-- The flume of a write run has encoded a sector; a flume that leaves its request does so now (R65, R103, R140). -/
def flumeWrote (h : Nat) (s : State) : State :=
  match writeFlume s h with
  | none => s
  | some f =>
    let x := flumeOf s f
    match x.cur with
    | none => s
    | some j =>
      let s := setFlume f { x with cur := some { j with next := j.next + 1 } } (s.incWrap DP_FLUME_STATUS.sectors f)
      let c := s.get X.dp_leave f
      if c = 0 then s
      else
        let s := gateOffAtEnd h gateAbort s
        flumeDetach f (if c = 15 then s else flumeRefuse c j.seq j.thr j.req (some f) s)

/-- A removal that waited for the end of the sector takes effect, with the sector complete (R147). -/
def endRemoval (h : Nat) (s : State) : State :=
  let c := s.get X.wp_remove h
  if c ≠ 0 ∧ writing s h then gateCause h c (gateEnd h s) else s.clear X.wp_remove h

/-- WRITE_SECTOR_END: the last bit of a sector of the head's run has passed the head (R140, R144, R147, R148, R151, R157). -/
def execWriteSectorEnd (head : Nat) (s : State) : Res :=
  run (okHead head) s (fun s =>
    match KV.get s.wruns head with
    | none => s
    | some r =>
      if r.opened then
        let mark := sectorMark s head
        let ended := s.on X.wp_ended head || s.get X.wp_remove head != 0
        let s := flumeWrote head s
        let s := ((endRemoval head s).clear X.wp_ended head).clear X.wp_vfail head
        let s := if r.count ≤ r.idx + 1 then gateEnd head s else s.clear X.wp_sent head
        let gone := !r.armed || (ended && runOver s head)
        let s := setRun head { r with idx := r.idx + 1, marks := r.marks ++ [mark], armed := !gone } s
        if gone || (writeFlume s head).isNone then runFail head s else judgeKnown head s
      else s)

/-! Verification (R150). -/

/-- The 8 verify taps of a head's native record of a band, tap i in bits 8i + 7 to 8i of word 14 (R125; log entry 107). -/
def verifyTaps (s : State) (h b : Nat) : List Int :=
  let w := s.get DP_CAL.word (16 * (2 * (48 * h + b)) + 14)
  (List.range 8).map (fun i => sfield w (8 * i) 8)

/-- Reader V's samples, equalised with the verify taps, as bits (R112, R150). -/
def verifyBits (s : State) (h b : Nat) (l : List Smp) : List Bool :=
  let x := l.map (fun v => if v.erased then 0 else scale6 (s.get X.hl_width h) v.a)
  let t := verifyTaps s h b
  let y := (List.range l.length).map (fun (n : Nat) => (List.range 8).foldl (fun y i => y + t.getD i 0 * sampleAt x ((n : Int) - (i : Nat))) 0)
  (List.range l.length).map (Config.verifyBit y)

/-- The detector's finding for the oldest written sector of a run: vstatus and bit errors. A bit with no sample counts as an error (R150,
R151; log entry 107). -/
def verifyFinding (s : State) (h : Nat) (r : WRun) : Nat × Nat :=
  let sector := (r.first + r.judged) % trackSectors s h r.band
  let i := 48 * s.image.surf h + r.band
  let slot := s.get DP_BAND_LAYOUT.slot i
  let delay := s.get WP_WSET2.vdelay (wsetIx h r.band)
  let l := ((KV.getD s.samples h []).filter (fun x => x.v)).take (slot + delay)
  let bits := verifyBits s h r.band l
  let predicted : Int := s.get DP_BAND_LAYOUT.preamble i + delay
  let sent := match runPos s h r.seq r.thr sector with
    | some (z, p) => codeWord (srcBytes s z p) (s.image.surf h) sector (posTrack s.image z p)
    | none => []
  if (l.drop delay).any (fun x => x.erased) then (3, 0)
  else match bestMark (markSearch bits (s.get DP_SYNC_PATTERN.pattern) predicted (s.get WP_VERIFY.window) (s.get DP_SYNC.threshold)) with
    | none => (2, 0)
    | some m =>
      let got := (bits.drop ((predicted + m.1).toNat + 40)).take codeBits
      let err := hamming got sent + (sent.length - got.length)
      (if s.get WP_VERIFY.max_err < err then 1 else 0, err)

/-- Reader V's samples of a judged sector are done with. -/
def verifyDrop (h : Nat) (r : WRun) (s : State) : State :=
  let n := s.get DP_BAND_LAYOUT.slot (48 * s.image.surf h + r.band)
  { s with samples := kset [] s.samples h (((KV.getD s.samples h []).filter (fun x => x.v)).drop n) }

/-- VERIFY_RESULT: the verify detector's result for the oldest written sector of the head's run (R150 to R152). -/
def execVerifyResult (head : Nat) (s : State) : Res :=
  run (okHead head) s (fun s =>
    match KV.get s.wruns head with
    | none => s
    | some r =>
      match r.marks with
      | 0 :: _ =>
        let v := verifyFinding s head r
        judgeKnown head (judgeSector head v.1 v.2 (verifyDrop head r s))
      | _ => s)

/-! Rewrites. -/

/-- A write cannot be completed: its command ends with Write Fault, the head of the last failure counts it, and a record is
written (R154). -/
def writeFault (u : RewriteUnit) (s : State) : State :=
  ((srcRelease u.zone (writeGone 3 u.wid stWriteFault s)).inc WP_HEAD_STATE.wfail u.head).alarm WP_INT.rewrite_fail 0 12 u.head [u.zone, u.pos]

/-- A zone's spare is exhausted: it becomes Full (R154, R267, ZX_INT). -/
def zoneSpent (z : Nat) (s : State) : State :=
  let x := zoneOf s z
  if x.state = 4 then s
  else (jrnAdd { kind := 2, zone := z, a := 4, b := 0, mwp := x.mwp, hwp := x.hwp, voids := [], job := 0 }
    (updZone z (fun y => { y with state := 4 }) s)).raise ZX_INT.spare_full

/-- Replace a unit of the list. -/
def putUnit (i : Nat) (u : RewriteUnit) (s : State) : State := { s with rewrites := s.rewrites.set i u }

/-- A write of a zone has part of its positions only: its next piece takes those at the write pointer (R268, R280). -/
def partDispatched (s : State) (z : Nat) : Bool :=
  (s.msQueue.flatMap (fun p => p.2) ++ s.msHold).any (fun o => o.kind == 1 && o.zone == z && s.writes.any (fun w => w.wid == o.job && decide (w.first ≤ w.last)))

/-- Write a unit again from the first position at or after the write pointer that its comb can still reach, the positions passed over
becoming void and empty; how many those are is a free value below one revolution of rows. Where the zone's positions are exhausted its
command fails; a compressed unit whose chunks have been overwritten since has passed (R153, R154). -/
def rewriteSend (unit : Nat) (u : RewriteUnit) (s : State) : State :=
  let g := groupIx s.image u.zone
  let w := groupWidth s.image g
  let skip := s.fresh % (w * groupSectors s.image g)
  let s := s.spend
  let first := (zoneOf s u.zone).next + skip
  let es := s.extents.filter (fun e => e.touches u.zone u.pos u.count)
  let compressed := s.extents.any (fun e => e.zone == u.zone)
  let units := es.foldl (fun n e => n + e.len16) 0
  let n := if compressed then (units + 255) / 256 else 1
  if compressed && es.isEmpty then
    writePassed u.wid { s with rewrites := s.rewrites.eraseIdx unit }
  else if groupPositions s.image g < first + n then
    writeFault u (zoneSpent u.zone s)
  else
    let range := ((zoneOf s u.zone).next, first + n - 1)
    let s := { s with writes := s.writes.map (fun (w : WriteRec) => if w.wid = u.wid then { w with more := w.more ++ [range] } else w) }
    let s := (List.range skip).foldl (fun t i => updZone u.zone (fun x => x.void ((zoneOf s u.zone).next + i)) t) s
    let s := updZone u.zone (fun x => { x with next := first + n }) s
    let placed := layExtents first es 0
    let bytes := if compressed then es.flatMap (extentCipher s) else srcBytes s u.zone u.pos
    let lba := if compressed then 0 else ((s.source.find? (fun x => x.zone == u.zone && x.pos == u.pos)).map (fun x => x.lba)).getD 0
    let s := if compressed then
        { s with extents := s.extents.map (fun (e : Extent) => (placed.find? (fun (x : Extent) => x.ns == e.ns && x.chunk == e.chunk)).getD e) }
      else s
    let s := s.each (List.range n) (fun i t => srcPut u.zone (first + i) lba (blockAt bytes i) t)
    let s := putUnit unit { u with pos := first, count := n, left := n, tries := u.tries + 1, out := true } s
    let s := srcRelease u.zone s
    let act := writingAct s u.zone first
    msNew 4 4 act (combMask s.image u.zone act) u.zone first n u.wid 0 false s

/-- REWRITE: a failed unit is written again; its command fails where its attempts are exhausted (R153, R154). -/
def execRewrite (unit : Nat) (s : State) : Res :=
  run true s (fun s =>
    match s.rewrites[unit]? with
    | none => s
    | some u =>
      if u.out || partDispatched s u.zone then s
      else if s.get WP_REWRITE.max ≤ u.tries then writeFault u s
      else rewriteSend unit u s)

end Sys2Proof.Machine
end

