-- ==== Sys2Proof/Machine/Ladder.lean ====
section
/-! DEFINITION. The read recovery ladder (07_read_recovery.md, R158 to R173), which the media scheduler holds: rungs, attempts, best
settings, limits, outcomes; and what the scheduler does with an operation that a sequencer ends (R283). The scheduler builds each
attempt as an operation of kind 8 in the attempting head's media queue (R173, log entry 96). -/

namespace Sys2Proof.Machine

/-! Results. -/

/-- Status of a result word (R122). -/
def wordStatus (w : Nat) : Nat := w / 2 ^ 48 % 16

/-- Sector of a result word. -/
def wordSector (w : Nat) : Nat := w / 2 ^ 52 % 4096

/-- unsat of a result word. -/
def wordUnsat (w : Nat) : Nat := w % 256

/-- What the media scheduler does with a recovery result: it keeps it while the command lasts, counts by outcome under the final head, sets
MS_RL_INT and writes an event record. Of the part's own reads it keeps the last 64 (R170; log entry 113). -/
def recoveryResult (o : MsOp) (word track : Nat) (s : State) : State :=
  let key := if o.kind = 5 ∨ (ctxOf s o.job).isNone then 0 else 1 + o.job
  let same := s.recResults.filter (fun r => r.1 == key)
  let kept := if key = 0 ∧ 64 ≤ same.length then s.recResults.erase (same.headD (0, (0, 0))) else s.recResults
  let s : State := { s with recResults := kept ++ [(key, (track, word))] }
  let head : Nat := word / 2 ^ 46 % 64
  let rung : Nat := word / 2 ^ 43 % 8
  let outcome : Nat := word / 2 ^ 40 % 8
  let s : State := match outcome with
    | 0 =>
      let s := if 1 ≤ rung then s.raise MS_RL_INT.recovered else s
      (match rung with
      | 1 => s.inc MS_RL_HEAD_CNT0.rung1 head
      | 2 => s.inc MS_RL_HEAD_CNT0.rung2 head
      | 3 => s.inc MS_RL_HEAD_CNT1.rung3 head
      | 4 => s.inc MS_RL_HEAD_CNT1.rung4 head
      | 5 => s.inc MS_RL_HEAD_CNT1.rung5 head
      | 6 => s.inc MS_RL_HEAD_CNT1.rung6 head
      | _ => s)
    | 3 => ((s.inc MS_RL_HEAD_CNT2.urgent_stops head).raise MS_RL_INT.urgent_stop).raise MS_RL_INT.unrecovered
    | _ => (s.inc MS_RL_HEAD_CNT2.unrecovered head).raise MS_RL_INT.unrecovered
  if s.get MS_RL_CTRL.log_rung ≤ rung ∨ outcome ≠ 0 then s.event 2 head (if outcome = 0 then 0 else if outcome = 3 then 2 else 1) [word, track] else s

/-- The recovery result of a sector (R170). -/
def ladWord (l : Ladder) (x : LadSec) (outcome : Nat) (s : State) : Nat :=
  x.sector % 4096 * 2 ^ 52 + x.head % 64 * 2 ^ 46 + l.rung % 8 * 2 ^ 43 + outcome % 8 * 2 ^ 40 + min x.tries 255 * 2 ^ 32
    + wordStatus x.word * 2 ^ 28 + min x.best 255 * 2 ^ 20 + min ((s.dtime - x.since) / 1000) (2 ^ 20 - 1)

/-- The lowest of the positions lost. -/
def lostMin (l : Option Nat) (p : Nat) : Option Nat := some (match l with | some q => min q p | none => p)

/-- A sector leaves the ladder with an outcome; one that never entered and is now read leaves no result (R159, R169, R170). -/
def ladEnd (x : LadSec) (outcome : Nat) (p : Ladder × State) : Ladder × State :=
  let l := { p.1 with secs := p.1.secs.filter (fun y => y.sector != x.sector), lost := if outcome = 0 then p.1.lost else lostMin p.1.lost x.pos }
  (l, if x.entered || outcome != 0 then recoveryResult p.1.op (ladWord p.1 x outcome p.2) p.1.track p.2 else p.2)

/-- Some of the sectors leave with one outcome. -/
def ladEndAll (xs : List LadSec) (outcome : Nat) (p : Ladder × State) : Ladder × State := xs.foldl (fun q x => ladEnd x outcome q) p

/-! Heads. -/

/-- The other head of the surface (R161). -/
def ladOther (s : State) (l : Ladder) : Option Nat := s.image.twin l.head0

/-- The head that makes the attempts of a rung (R160, R161). -/
def ladHead (s : State) (l : Ladder) : Nat :=
  if l.rung ≤ 1 then l.head0
  else match l.recHead with
    | some h => h
    | none => if l.rung = 2 then (ladOther s l).getD l.head0 else l.head0

/-- Sum of unsat over the remaining sectors in a head's last attempt of a kind at each; 255 for a sector without one, none where no sector
has one (R161, R165). -/
def ladSumOf (l : Ladder) (h : Nat) (p : LadRead → Bool) : Option Nat :=
  let last := fun (k : Nat) => (l.tried.find? (fun e => e.head == h && e.sector == k && p e)).map (fun e => e.unsat)
  if l.secs.any (fun x => (last x.sector).isSome) then some (l.secs.foldl (fun n x => n + (last x.sector).getD 255) 0) else none

/-- Sum of unsat over the remaining sectors in a head's last attempt; none where it has made none (R161). -/
def ladSum (l : Ladder) (h : Nat) : Option Nat := ladSumOf l h (fun _ => true)

/-- The recovery head: of the two, the one with the lower sum, on a tie the one whose actuator wrote the data; the rung-0 head where
rung 2 was skipped (R161). -/
def ladRec (s : State) (l : Ladder) : Nat :=
  match ladOther s l with
  | none => l.head0
  | some w =>
    match ladSum l l.head0, ladSum l w with
    | some a, some b =>
      if a < b then l.head0 else if b < a then w
      else if w / 16 = writingAct s l.op.zone l.op.pos then w else l.head0
    | none, some _ => w
    | _, none => l.head0

/-- The recovery head is chosen (R161). -/
def ladSeed (s : State) (l : Ladder) : Ladder := { l with recHead := some (l.recHead.getD (ladRec s l)) }

/-- An attempt made with offset, target and weights all 0. -/
def zeroRead (e : LadRead) : Bool := e.set.off == 0 && e.set.alt == 0 && e.set.weight == 0 && e.set.acc == 0

/-- The values of a setting that a head's attempts of a rung used, in order. -/
def triedAt {α : Type} [BEq α] (l : Ladder) (h rung : Nat) (v : LadTry → α) : List α :=
  ((l.tried.reverse.filter (fun e => e.head == h && e.rung == rung)).map (fun e => v e.set)).eraseDups

/-- The value of a setting that gave the lowest sum of unsat on a head: 0, as the last attempt without settings gave it, or one tried at the
rung; on a tie the earlier (R165). -/
def bestAt {α : Type} [BEq α] (l : Ladder) (h rung : Nat) (zero : α) (v : LadTry → α) : α :=
  let big := 100000000
  ((triedAt l h rung v).foldl (fun (b : Nat × α) x =>
    let n := (ladSumOf l h (fun e => e.rung == rung && v e.set == x)).getD big
    if n < b.1 then (n, x) else b) ((ladSumOf l h zeroRead).getD big, zero)).2

/-- The best offset, target and weights found so far on a head (R165). -/
def bestOff (l : Ladder) (h : Nat) : Int := bestAt l h 3 0 (fun t => t.off)
def bestAlt (l : Ladder) (h : Nat) : Nat := bestAt l h 4 0 (fun t => t.alt)
def bestWeight (l : Ladder) (h : Nat) : Nat := bestAt l h 5 0 (fun t => t.weight)

/-! Attempts. -/

/-- An attempt with every field zero but iter. -/
def plainTry : LadTry := { iter := 1, shift := 0, alt := 0, weight := 0, acc := 0, off := 0, only := [], runner := false, combine := 0 }

/-- The calibration record of a head and band that a ladder's attempt names: native where the head's actuator wrote the data (R160). -/
def ladRecord (s : State) (l : Ladder) (h : Nat) : Nat :=
  2 * (48 * h + l.band) + b2n (h / 16 != writingAct s l.op.zone l.op.pos)

/-- Rung 2 can be made: the other head is available and not refused with CAL or BAND (R162). -/
def ladTwinOk (s : State) (l : Ladder) : Bool :=
  match ladOther s l with
  | none => false
  | some w => headUp s w && calValid s (ladRecord s l w) && s.get DP_BAND_LAYOUT.unfit (48 * s.image.surf w + l.band) == 0

/-- The comb offset of a head in nm: the measured one once it exists, else that of the comb map which the attempt names, 0 for a slot outside
it (R162, R189, R250, R275). -/
def combOffset (s : State) (l : Ladder) (h : Nat) : Int :=
  if s.on SV_SLOT_STATE.measured h then - puToNm s (h / 16) (s.getS SV_SLOT_OFS.offset h)
  else (s.image.comb (combFor s.image l.op.zone (h / 16))).offsets.getD (h % 16) 0

/-- A read offset keeps the head's displacement within ±1,000 nm (R162). -/
def offsetFits (s : State) (l : Ladder) (h : Nat) (off : Int) : Bool := decide ((combOffset s l h + puToNm s (h / 16) off).natAbs ≤ 1000)

/-- The rung-6 attempt at one sector: one operation that reads it n_combine times on the flume it keeps, at the best settings of the head,
the first read with acc 1 and the later ones with acc 3 (R160, R166; log entry 113). -/
def combineTry (s : State) (l : Ladder) (h sector : Nat) : LadTry :=
  { plainTry with off := bestOff l h, alt := bestAlt l h, weight := bestWeight l h, acc := 1, only := [sector],
                  combine := s.get MS_RL_CLASS.n_combine l.op.cls }

/-- The attempts of a rung, in order (R160, R162, R163, R165, R166). -/
def ladPlan (s : State) (l : Ladder) : List LadTry :=
  let c := l.op.cls
  let h := ladHead s l
  match l.rung with
  | 1 => List.replicate (s.get MS_RL_CLASS.r1_tries c) plainTry
      ++ (if s.get MS_RL_CLASS.runner_up c = 1 then [{ plainTry with runner := true }] else [])
      ++ (List.range (min 4 (s.get MS_RL_CLASS.r1_shifts c))).map (fun i => { plainTry with shift := s.get MS_RL_SHIFT.shifts / 2 ^ (8 * i) % 64 })
  | 2 => if ladTwinOk s l then [plainTry] else []
  | 3 => (((List.range (min 4 (s.get MS_RL_CLASS.n_offsets c))).map (fun i => signed 8 (s.get MS_RL_OFFSET.offsets / 2 ^ (8 * i)))).filter
      (offsetFits s l h)).map (fun o => { plainTry with off := o })
  | 4 => ((List.range (min 8 (s.get MS_RL_CLASS.n_targets c))).filter (fun i => s.get DP_ALT_TARGET.target i != 0)).map
      (fun i => { plainTry with alt := i + 1 })
  | 5 => if s.get HL_HEAD_CFG.readers h = 1 then []
      else (List.range (min 4 (s.get MS_RL_CLASS.n_weights c))).map (fun i =>
        { plainTry with off := bestOff l h, alt := bestAlt l h, weight := s.get MS_RL_WEIGHT.weights / 2 ^ (4 * i) % 16 })
  | 6 => if s.get MS_RL_CLASS.n_combine c = 0 then [] else l.secs.map (fun x => combineTry s l h x.sector)
  | _ => []

/-- An attempt as another head makes it: rungs 5 and 6 use the best settings of that head (R165, R172). -/
def retarget (l : Ladder) (h : Nat) (t : LadTry) : LadTry :=
  if l.rung = 5 then { t with off := bestOff l h, alt := bestAlt l h }
  else if l.rung = 6 then { t with off := bestOff l h, alt := bestAlt l h, weight := bestWeight l h }
  else t

/-- The re-reads at the runner-up mark: once for each distinct sync_off2 among the sectors whose last result had status 1 and
sync_dist2 below 15 (R163). -/
def runnerTries (l : Ladder) : List LadTry :=
  let l := l.secs.filter (fun x => wordStatus x.word == 1 && decide (x.word / 2 ^ 20 % 16 < 15))
  let offs := (l.map (fun x => x.word / 2 ^ 28 % 64)).eraseDups
  offs.map (fun o => { plainTry with shift := o, only := (l.filter (fun x => x.word / 2 ^ 28 % 64 == o)).map (fun x => x.sector) })

/-! Limits (R167, R168). -/

/-- The highest rung of a read: Limited Retry climbs no higher than lr_rung (R167). -/
def ladTop (s : State) (o : MsOp) : Nat :=
  let m := s.get MS_RL_CLASS.max_rung o.cls
  match ctxOf s o.job with
  | some x => if o.cls < 4 && x.cmd.cdw12.testBit 31 then min m (s.get MS_RL_CLASS.lr_rung o.cls) else m
  | none => m

/-- The time limit in ms, 0 for none: for classes 1 to 3 the smaller of the class's and that of the Error Recovery feature, which
counts in units of 100 ms (R167). -/
def ladLimit (s : State) (o : MsOp) : Nat :=
  let a := s.get MS_RL_CLASS.time_limit_ms o.cls
  if o.cls = 0 then 0
  else if 4 ≤ o.cls then a
  else match ctxOf s o.job with
    | some x =>
      let b := KV.getD s.feats (x.ctl, 5) 0 % 65536 * 100
      if a = 0 then b else if b = 0 then a else min a b
    | none => a

/-- A sector has spent its time limit in the ladder (R167). -/
def ladExpired (s : State) (o : MsOp) (x : LadSec) : Bool :=
  x.entered && ladLimit s o != 0 && decide (ladLimit s o * 1000000 ≤ s.dtime - x.since)

/-- DTIME after which an urgent read's results may not be posted: the doorbell, plus 45 ms, or 60 ms where a surface that the read touches
is single-served, less margin_us (R168, R287). -/
def urgentBy (s : State) (x : Ctx) (heads : List Nat) : Nat :=
  x.doorbell + (if (heads ++ x.heads).any (singleServed s) then 60000000 else 45000000) - 1000 * s.get MS_RL_URG.margin_us

/-- The same of a ladder's command (R168). -/
def ladDeadline (s : State) (l : Ladder) : Nat :=
  match ctxOf s l.op.job with
  | some x => urgentBy s x [l.head0]
  | none => 0

/-! Climbing. -/

/-- The first sector, and the number of sectors from it to the last, that an attempt reads in its one pass. -/
def trySpan (l : Ladder) (t : LadTry) : Nat × Nat :=
  let ks := (l.secs.map (fun x => x.sector)).filter (fun k => t.only.isEmpty || t.only.contains k)
  let lo := ks.foldl min (ks.headD 0)
  let hi := ks.foldl max 0
  (lo, hi - lo + 1)

/-- The sectors of a ladder that an attempt reads. -/
def trySecs (l : Ladder) (t : LadTry) : List LadSec := l.secs.filter (fun x => t.only.isEmpty || t.only.contains x.sector)

/-- R168 admits another attempt of an urgent read: its last result is predicted no later than the deadline. -/
def ladAdmits (s : State) (l : Ladder) (t : LadTry) (h : Nat) : Bool :=
  let n := trySpan l t
  l.op.cls != 0 || decide (attemptEnd s h l.track l.band n.1 (n.1 + n.2 - 1) ≤ ladDeadline s l)

/-- Store a ladder. -/
def putLadder (l : Ladder) (s : State) : State :=
  if s.ladders.any (fun y => y.id == l.id) then { s with ladders := s.ladders.map (fun y => if y.id = l.id then l else y) }
  else { s with ladders := s.ladders ++ [l] }

/-- The position of the operation that a sector of a head's track holds; its first where none does. -/
def sectorPos (s : State) (o : MsOp) (h sector : Nat) : Nat :=
  (((List.range o.count).map (fun n => o.pos + n)).find? (fun p =>
    posSector s.image o.zone p == sector
      && s.image.surf (16 * (s.image.comb (s.image.group (groupIx s.image o.zone)).comb).act + posSlot s.image o.zone p) == s.image.surf h)).getD o.pos

/-- Queue an attempt as an operation of the attempting head's media queue (R173). -/
def ladSubmit (l : Ladder) (t : LadTry) (h : Nat) (s : State) : State :=
  let s := putLadder { l with cur := t, curHead := h } s
  msNew 8 l.op.cls (h / 16) (2 ^ (h % 16)) l.op.zone (sectorPos s l.op l.head0 (trySpan l t).1) (trySecs l t).length l.op.job l.id l.op.covered s

/-- A read of the media has lost a sector for good, at a position where it is known; a command that waits for an index page has no other
work (R171, R283, R306). -/
def readLost (o : MsOp) (p : Option Nat) (s : State) : State :=
  if o.kind = 5 then s.set X.dst_result 0 7
  else if o.kind = 6 then ctxFinish o.job stUnrecovered (logError o p s)
  else ctxFail o.job stUnrecovered (logError o p s)

/-- Parts of a read are still to end: queued, with a thread, held, or in the ladder. -/
def partsLeft (s : State) (o : MsOp) : Bool :=
  (allOps s).any (fun x => x.kind == o.kind && x.grp == o.grp) || s.ladders.any (fun l => l.op.kind == o.kind && l.op.grp == o.grp)

/-- A ladder has no sector left: with the last of its operation the read has ended (R169, R171). -/
def ladFinish (l : Ladder) (s : State) : State :=
  let s := { s with ladders := s.ladders.filter (fun y => y.id != l.id) }
  if l.lost.isSome then readLost l.op l.lost s
  else if partsLeft s l.op || ctxFailed s l.op.job then s
  else readDone l.op s

/-- The sectors go on under the other head: below rung 2 at rung 2, at rung 2 and above at the same rung with it as the recovery head,
rung 6 from its start; none where the other head is unavailable too (R172). -/
def ladMoved (t : LadTry) (l : Ladder) (s : State) : Option Ladder :=
  let h := ladHead s l
  match s.image.twin h with
  | none => none
  | some w =>
    if !headAvail s w then none
    else if l.rung < 2 then some { l with rung := 2, plan := [plainTry] }
    else
      let m := { l with recHead := some w }
      if l.rung = 6 then some { m with plan := ladPlan s m } else some { m with plan := (t :: m.plan).map (retarget m w) }

/-- Make the next attempt that the rungs, the skips and the limits allow, or end what remains (R160 to R169, R172). The number bounds
the steps taken; `ladSteps` is enough for every ladder. -/
def ladAdvance : Nat → Ladder → State → State
  | 0, l, s =>
    let p := ladEndAll l.secs 1 (l, s)
    ladFinish p.1 p.2
  | n + 1, l, s =>
    if l.secs.isEmpty then ladFinish l s
    else
      match l.plan.dropWhile (fun t => (trySecs l t).isEmpty) with
      | [] =>
        if ladTop s l.op ≤ l.rung then
          let p := ladEndAll l.secs 1 (l, s)
          ladFinish p.1 p.2
        else
          let m := { l with rung := l.rung + 1 }
          let m := if m.rung = 3 then ladSeed s m else m
          ladAdvance n { m with plan := ladPlan s m } s
      | t :: rest =>
        let l := { l with plan := rest }
        if t.runner then ladAdvance n { l with plan := runnerTries l ++ rest } s
        else
          let h := ladHead s l
          if !headAvail s h then
            match ladMoved t l s with
            | some m => ladAdvance n m s
            | none =>
              let p := ladEndAll l.secs 4 (l, s)
              ladFinish p.1 p.2
          else
            let late := (trySecs l t).filter (ladExpired s l.op)
            if !late.isEmpty then
              let p := ladEndAll late 2 (l, s)
              ladAdvance n { p.1 with plan := t :: rest } p.2
            else if !ladAdmits s l t h then
              let p := ladEndAll (trySecs l t) 3 (l, s.spend)
              ladAdvance n p.1 p.2
            else ladSubmit l t h (if l.op.cls = 0 then s.spend else s)

/-- Steps that reach an attempt from anywhere in a ladder: rungs, runner-up plans and moves to the other head, and as many more as sectors
can leave it. -/
def ladSteps (l : Ladder) : Nat := 64 + 2 * l.secs.length

/-- Go on with a ladder that an attempt could not be made for under its head (R172). -/
def ladElsewhere (t : LadTry) (l : Ladder) (s : State) : State :=
  match ladMoved t l s with
  | some m => ladAdvance (ladSteps m) m s
  | none =>
    let p := ladEndAll l.secs 4 (l, s)
    ladFinish p.1 p.2

/-! The original read. -/

/-- A failed result (R158). -/
def ladFails (w : Nat) : Bool := decide (1 ≤ wordStatus w) && decide (wordStatus w ≤ 4)

/-- A sector cut off with status 6 goes on as R172 says: its head is not available, or its actuator was reset and the head is to be
validated; otherwise the sequencer aborted it (R159). -/
def ladGoesOn (s : State) (h : Nat) : Bool := !headUp s h || (s.get CR_ACT_STATUS.in_reset).testBit (h / 16)

/-- A result of a read whose sector goes on to the ladder or is read again: failed, not attempted, flume fault, or cut off by a loss or an
ACT reset (R158, R159, R172). -/
def ladTakes (s : State) (n : LadNote) : Bool :=
  ladFails n.word || wordStatus n.word == 5 || wordStatus n.word == 7 || (wordStatus n.word == 6 && ladGoesOn s n.head)

/-- A sector that the sequencer aborted (R159). -/
def ladAborted (s : State) (n : LadNote) : Bool := wordStatus n.word == 6 && !ladGoesOn s n.head

/-- A sector as it comes from the original read, which counts as its first attempt where it failed; its time in the ladder runs from that
result (R158, R160, R170). -/
def ladSecOf (n : LadNote) : LadSec :=
  let f := ladFails n.word
  { sector := wordSector n.word, word := n.word, tries := if f then 1 else 0, best := if f then wordUnsat n.word else 255, head := n.head, since := n.time,
    entered := f, pos := n.pos }

/-- The ladder of one head's failed sectors on one track (R158). -/
def ladOf (s : State) (o : MsOp) (h track id : Nat) (ns : List LadNote) : Ladder :=
  let secs := ns.map ladSecOf
  let again := (secs.filter (fun x => decide (5 ≤ wordStatus x.word))).map (fun x => x.sector)
  { id := id, op := o, head0 := h, track := track, band := (s.image.group (groupIx s.image o.zone)).band, rung := 0,
    plan := if again.isEmpty then [] else [{ plainTry with iter := 0, only := again }],
    cur := plainTry, curHead := h, recHead := none,
    tried := (ns.filter (fun n => ladFails n.word)).map (fun n => { head := n.head, sector := wordSector n.word, rung := 0, set := { plainTry with iter := 0 }, unsat := wordUnsat n.word }),
    secs := secs, lost := none }

/-- The failed sectors of a read whose parts have all ended, grouped by head and track, begin to climb; with MS_RL_CTRL.enable 0 a failed
sector ends at once with outcome 1 (R158, R159). -/
def ladStart (o : MsOp) (notes : List LadNote) (s : State) : State :=
  let key := fun (n : LadNote) => (n.head, posTrack s.image o.zone n.pos)
  let keys := (notes.map key).eraseDups
  let base := s.ladders.foldl (fun n l => max n l.id) 0
  let ls := (List.range keys.length).map (fun i =>
    let k := keys.getD i (0, 0)
    ladOf s o k.1 k.2 (base + 1 + i) (notes.filter (fun n => key n == k)))
  let s := { s with ladders := s.ladders ++ ls }
  ls.foldl (fun t l =>
    if s.on MS_RL_CTRL.enable then ladAdvance (ladSteps l) l t
    else
      let p := ladEndAll (l.secs.filter (fun x => x.entered)) 1 (l, t)
      ladAdvance (ladSteps l) p.1 p.2) s

/-! Attempts that end. -/

/-- The attempt that an operation of kind 8 makes: as planned; where its head's queue moved to the twin, the one attempt of rung 2 below rung
2, and above it the attempt with that head's best settings (R165, R172). -/
def ladTryOf (l : Ladder) (o : MsOp) : LadTry :=
  let h := o.heads.headD 0
  if h = l.curHead then l.cur
  else if l.rung < 2 then { plainTry with only := l.cur.only }
  else retarget l h l.cur

/-- The ladder as an attempt that was made under another head than planned leaves it (R172). -/
def ladUnder (l : Ladder) (h : Nat) : Ladder :=
  if h = l.curHead then l
  else if l.rung < 2 then { l with rung := 2, plan := [], cur := { plainTry with only := l.cur.only }, curHead := h }
  else
    let m := { l with recHead := some h, curHead := h }
    { m with cur := retarget m h l.cur, plan := l.plan.map (retarget m h) }

/-- A sector after an attempt that is charged (R159, R170). -/
def ladCharge (n : LadNote) (x : LadSec) : LadSec :=
  if x.entered then { x with word := n.word, tries := min 255 (x.tries + n.reads), best := min x.best n.low, head := n.head }
  else if ladFails n.word then { x with word := n.word, tries := n.reads, best := n.low, head := n.head, since := n.time, entered := true }
  else { x with word := n.word, head := n.head }

/-- What an attempt under a head noted of a sector; nothing noted stands for a sector not attempted. -/
def ladNoteOf (notes : List LadNote) (h : Nat) (x : LadSec) : LadNote :=
  (notes.find? (fun n => n.head == h && wordSector n.word == x.sector)).getD
    { head := h, word := 5 * 2 ^ 48, time := 0, reads := 0, low := 255, run := 0, pos := x.pos }

/-- Judge the results of an attempt: reads that were charged count, a decoded sector leaves, one not attempted, hit by a flume fault or whose
reads were not all made on one sum is read again at the same attempt, one cut off by a loss or a reset goes on as R172 says, and one cut
off otherwise is abandoned (R158, R159, R165, R166, R172). -/
def ladJudge (l : Ladder) (h : Nat) (notes : List LadNote) (s : State) : State :=
  let l := ladUnder l h
  let t := l.cur
  let note := ladNoteOf notes h
  let status := fun (x : LadSec) => wordStatus (note x).word
  let tried := trySecs l t
  let charged := tried.filter (fun x => decide (0 < (note x).reads))
  let good := tried.filter (fun x => status x == 0)
  let cut := tried.filter (fun x => status x == 6 && !ladGoesOn s h)
  let redo := tried.filter (fun x => decide (5 ≤ status x) && !cut.any (fun y => y.sector == x.sector)
    || (status x != 0 && decide (status x ≤ 4) && decide ((note x).run < t.combine)))
  let reads := charged.map (fun x => ({ head := h, sector := x.sector, rung := l.rung, set := { t with only := [] }, unsat := wordUnsat (note x).word } : LadRead))
  let l := { l with tried := reads ++ l.tried,
                    secs := l.secs.map (fun x => if charged.any (fun y => y.sector == x.sector) then ladCharge (note x) x else x),
                    plan := (if redo.isEmpty then [] else [{ t with only := redo.map (fun x => x.sector) }]) ++ l.plan }
  let p := ladEndAll (l.secs.filter (fun x => good.any (fun y => y.sector == x.sector))) 0 (l, s)
  let gone := p.1.secs.filter (fun x => cut.any (fun y => y.sector == x.sector))
  let m := { p.1 with secs := p.1.secs.filter (fun x => !gone.any (fun y => y.sector == x.sector)), lost := gone.foldl (fun b x => lostMin b x.pos) p.1.lost }
  ladAdvance (ladSteps m) m p.2

/-- A recovery attempt ends: its results are judged; one that was not made is queued again, under the other head where its actuator failed
to bring its own there; an aborted one ends the ladder (R172, R283). -/
def ladAttemptEnd (o : MsOp) (status : Nat) (notes : List LadNote) (s : State) : State :=
  let h := o.heads.headD 0
  match s.ladders.find? (fun l => l.id == o.aux) with
  | none => if status = 0x06 then ctxFail o.job stAborted s else s
  | some l =>
    if status = 0x06 then ctxFail o.job stAborted { s with ladders := s.ladders.filter (fun y => y.id != l.id) }
    else if status ≤ 0x01 then ladJudge l h notes s
    else
      let s := s.raise MS_INT.requeue
      if !notes.isEmpty then ladJudge l h notes s
      else
        let l := ladUnder l h
        if headAvail s h = false ∨ (status = 0x05 ∧ (ladMoved l.cur l s).isSome) then ladElsewhere l.cur l s else msSubmit o s

/-- Attempts that wait in an actuator's queue and can no longer be made: their head is not available, their sectors' time is spent, or an
urgent one is no longer predicted before its deadline (R167, R168, R172, R289). -/
def ladRecheck (a : Nat) (s : State) : State :=
  ((opsOf s a).filter (fun o => o.kind == 8)).foldl (fun t o =>
    match t.ladders.find? (fun l => l.id == o.aux) with
    | none => t
    | some l =>
      let h := o.heads.headD 0
      let l := ladUnder l h
      let out := fun (u : State) => setOps a ((opsOf u a).filter (fun x => x.tag != o.tag)) u
      let late := (trySecs l l.cur).filter (ladExpired t l.op)
      if headAvail t h = false then ladElsewhere l.cur l (out t)
      else if !late.isEmpty then
        let p := ladEndAll late 2 (l, out t)
        ladAdvance (ladSteps p.1) { p.1 with plan := l.cur :: p.1.plan } p.2
      else if !ladAdmits t l l.cur h then
        let p := ladEndAll (trySecs l l.cur) 3 (l, out t)
        ladAdvance (ladSteps p.1) p.1 p.2
      else t) s

/-! Parts of a read. -/

/-- The head that takes over a head's part of a read: itself while it is available, else its twin; a suspended one waits where the twin is no
better; none where neither is left (R28, R277, R283). -/
def readHead (s : State) (h : Nat) : Option Nat :=
  if headAvail s h then some h
  else
    match (s.image.twin h).filter (headAvail s) with
    | some w => some w
    | none => if headKept s h then some h else (s.image.twin h).filter (headKept s)

/-- Queue what is left of a read under the heads that now serve it; it is unrecovered where a surface has none (R28, R277, R283). -/
def readMove (o : MsOp) (s : State) : State :=
  let dest := o.heads.map (readHead s)
  let slots := fun (a : Nat) => (dest.filterMap id).foldl (fun n h => if h / 16 = a then setBit n (h % 16) else n) 0
  let put := fun (a : Nat) (t : State) => if slots a = 0 then t else msSubmit { o with act := a, mask := slots a } t
  let s := put (o.act ^^^ 2) (put o.act s)
  if dest.any (fun x => x.isNone) then ctxCheck o.job (readLost o none s) else s

/-- Queued reads that name a head no longer in service (R28, R277). -/
def readRecheck (s : State) : State :=
  let lost := fun (o : MsOp) => o.isRead && o.kind != 8 && !o.heads.all (headKept s)
  let ops := (s.msQueue.flatMap (fun p => p.2) ++ s.msHold).filter lost
  let q := (List.range 4).foldl (fun t a => setOps a ((opsOf t a).filter (fun o => !lost o)) t) s
  ops.foldl (fun t o => readMove o t) { q with msHold := q.msHold.filter (fun o => !lost o) }

/-- The positions of an operation that the heads it names serve. -/
def opPositions (s : State) (o : MsOp) : List Nat :=
  ((List.range o.count).map (fun n => o.pos + n)).filter (fun p => o.heads.contains (posHead s.image o.act o.zone p))

/-- Runs of rising positions: the first, and how many. -/
def runsOf : List Nat → List (Nat × Nat)
  | [] => []
  | p :: r =>
    match runsOf r with
    | (q, n) :: rest => if q = p + 1 then (p, n + 1) :: rest else (p, 1) :: (q, n) :: rest
    | [] => [(p, 1)]

/-- Queue the positions of a read that have no result again, each run as an operation of the same class and age; `there` places it. The
sectors that microcode posts for this are those without a result, since the manual gives POST kind 2 no layout (R254, R283; log entry
113). -/
def readAgain (o : MsOp) (ps : List Nat) (there : MsOp → State → State) (s : State) : State :=
  (runsOf ps).foldl (fun t r =>
    let x := { o with tag := nextTag t, pos := r.1, count := r.2 }
    there x (t.set X.ms_tags 0 (t.get X.ms_tags + 1))) (if ps.isEmpty then s else s.raise MS_INT.requeue)

/-- Hold a read's results until all its parts have ended. -/
def holdRead (h : LadHeld) (s : State) : State := { s with ladHeld := KV.put natLt s.ladHeld h.op.grp h }

/-- What a read's parts have reported so far. -/
def heldRead (s : State) (o : MsOp) : LadHeld := (KV.get s.ladHeld o.grp).getD { op := o, notes := [], lost := none }

/-- Add a part's results to those held: a later result of a position takes the place of an earlier one. -/
def addNotes (h : LadHeld) (ns : List LadNote) : LadHeld :=
  { h with notes := h.notes.filter (fun n => !ns.any (fun m => m.pos == n.pos)) ++ ns }

/-- All parts of a read have ended: sectors lost or abandoned make it fail, failed ones climb, otherwise it has all its sectors (R158, R159,
R171). -/
def readJudge (h : LadHeld) (s : State) : State :=
  let s := { s with ladHeld := KV.del s.ladHeld h.op.grp }
  let lost := (h.notes.filter (ladAborted s)).foldl (fun b n => lostMin b n.pos) h.lost
  let failed := h.notes.filter (ladTakes s)
  if ctxFailed s h.op.job then s
  else if lost.isSome then readLost h.op lost s
  else if !failed.isEmpty then ladStart h.op failed s
  else readDone h.op s

/-- A part of a read ends with an END status (R158, R283). -/
def readEnd (o : MsOp) (status : Nat) (notes : List LadNote) (s : State) : State :=
  let ns := notes.map (fun n => { n with pos := sectorPos s o n.head (wordSector n.word) })
  let back := status != 0x00 && status != 0x01
  let ns := if back then ns.filter (fun n => !ladAborted s n) else ns
  let rest := (opPositions s o).filter (fun p => !ns.any (fun n => n.pos == p))
  let h := addNotes (heldRead s o) ns
  let s := match status with
    | 0x02 | 0xFF => readAgain o rest readMove s
    | 0x04 => readAgain o rest msSubmit s
    | 0x05 => readAgain o rest requeueTwin s
    | _ => s
  if status = 0x06 then ctxFail o.job stAborted { s with ladHeld := KV.del s.ladHeld o.grp }
  else if status = 0x01 then readLost o h.lost { s with ladHeld := KV.del s.ladHeld o.grp }
  else if partsLeft s o then holdRead h s
  else readJudge h s

/-- A recovery result that microcode posts for a sector of its operation: the sector is no longer the scheduler's to climb (R170, R254). -/
def ladPosted (k word track : Nat) (s : State) : State :=
  let sector := word / 2 ^ 52 % 4096
  let head := word / 2 ^ 46 % 64
  let failed := decide (word / 2 ^ 40 % 8 ≠ 0)
  let gone := fun (n : LadNote) => wordSector n.word == sector && (n.head == head || s.image.twin n.head == some head)
  let s := { s with ladNotes := kset [] s.ladNotes k ((KV.getD s.ladNotes k []).filter (fun n => !gone n)) }
  match KV.get s.sqOps k with
  | none => recoveryResult { (default : MsOp) with kind := 5 } word track s
  | some o =>
    if o.kind = 8 then
      let s := { s with ladders := s.ladders.map (fun (l : Ladder) =>
        if l.id = o.aux then
          let mine := l.secs.filter (fun x => x.sector == sector)
          { l with secs := l.secs.filter (fun x => x.sector != sector), lost := if failed then mine.foldl (fun b x => lostMin b x.pos) l.lost else l.lost }
        else l) }
      recoveryResult (((s.ladders.find? (fun l => l.id == o.aux)).map (fun l => l.op)).getD o) word track s
    else
      let h := heldRead s o
      let n : LadNote := { head := head, word := sector * 2 ^ 52, time := s.dtime, reads := 0, low := 255, run := 0, pos := sectorPos s o head sector }
      let h := addNotes { h with lost := if failed then lostMin h.lost n.pos else h.lost } [n]
      recoveryResult o word track (holdRead h s)

/-! The end of an operation. -/

/-- What the scheduler does with an operation that a sequencer ends (R158, R283). `notes` are the results its sectors had. -/
def msEnd (o : MsOp) (status : Nat) (notes : List LadNote) (s : State) : State :=
  let status := if o.isRead && ctxFailed s o.job then 0x06 else status
  let s :=
    if o.kind = 8 then ladAttemptEnd o status notes s
    else if o.isRead then readEnd o status notes s
    else match status with
    | 0x02 => if o.heads.any (fun h => s.on X.head_lost h) then requeueTwin o s else msSubmit o (s.raise MS_INT.requeue)
    | 0x04 => msSubmit o (s.raise MS_INT.requeue)
    | 0x05 => requeueTwin o s
    | 0x03 | 0xFF => voidRest o s
    | _ => s
  if o.isRead then ctxCheck o.job (msRefill s) else msRefill s

end Sys2Proof.Machine
end

