-- ==== Sys2Proof/Machine/Threads.lean ====
section
/-! DEFINITION. The threads of a sequencer: registers, conditions, events, what a thread holds and how it lets go, faults
(R243, R248, R255 to R259). -/

namespace Sys2Proof.Machine

/-- SQ_STATUS.state. -/
def sqEmpty : Nat := 0
def sqLoading : Nat := 1
def sqStopped : Nat := 2
def sqRunning : Nat := 3
def sqHalting : Nat := 4
def sqFaulted : Nat := 5

/-- SQ_THR_STATE.state. -/
def thIdle : Nat := 0
def thReady : Nat := 1
def thWaiting : Nat := 2
def thHandler : Nat := 3
def thFault : Nat := 4

/-- Register gr of a thread; g0 reads as zero (R243). -/
def gr (s : State) (q t r : Nat) : Nat := if r = 0 then 0 else s.get SQ_THR_REG.value (thrReg q t r)

/-- Write register gr; g0 ignores writes (R243). -/
def setGr (q t r v : Nat) (s : State) : State := if r = 0 then s else s.set SQ_THR_REG.value (thrReg q t r) v

/-- A thread's program counter. -/
def pcOf (s : State) (q t : Nat) : Nat := s.get SQ_THR_STATE.pc (thrNo q t)

/-- Set a thread's program counter. -/
def setPc (q t v : Nat) (s : State) : State := s.set SQ_THR_STATE.pc (thrNo q t) v

/-- The state of a thread that can issue: in a handler while events are masked. -/
def readyState (s : State) (q t : Nat) : Nat := if s.on X.sq_masked (thrNo q t) then thHandler else thReady

/-- Make a thread ready to issue. -/
def makeReady (q t : Nat) (s : State) : State :=
  (s.set SQ_THR_STATE.state (thrNo q t) (readyState s q t)).clear SQ_THR_STATE.cond (thrNo q t)

/-- A decoded microword (R246). -/
structure MicroWord where
  op : Nat
  sp : Nat
  cond : Nat
  inv : Bool
  target : Nat
  rd : Nat
  ra : Nat
  rb : Nat
  timeout : Nat
  imm : Nat
  deriving DecidableEq, Repr

/-- The fields of a word from its high and low halves (R246). -/
def microWord (hi lo : Nat) : MicroWord :=
  { op := hi / 2 ^ 58 % 64, sp := hi / 2 ^ 56 % 4, cond := hi / 2 ^ 50 % 64, inv := hi.testBit 49, target := hi / 2 ^ 36 % 8192,
    rd := hi / 2 ^ 32 % 16, ra := hi / 2 ^ 28 % 16, rb := hi / 2 ^ 24 % 16, timeout := hi % 2 ^ 24, imm := lo % 2 ^ 64 }

/-- The word of sequencer q at an address (SQ_CS). -/
def wordAt (s : State) (q w : Nat) : MicroWord :=
  microWord (s.get SQ_CS.bits ((8192 * q + w) * 2 + 1)) (s.get SQ_CS.bits ((8192 * q + w) * 2))

/-- Opcodes of R247. -/
def opDefined (op : Nat) : Bool := decide (op ≤ 0x11) || (decide (0x20 ≤ op) && decide (op ≤ 0x2F))

/-! The arm. -/

/-- A thread holds the arm (R249). -/
def hasArm (s : State) (q t : Nat) : Bool := s.get SQ_STATUS.arm_held q == 1 && s.get SQ_STATUS.arm_owner q == t

/-- The class of a thread's operation; 4 where it holds none. -/
def thrClass (s : State) (q t : Nat) : Nat := match KV.get s.sqOps (thrNo q t) with | some o => o.cls | none => 4

/-- The ladder that a recovery attempt belongs to. -/
def ladderOf (s : State) (o : MsOp) : Option Ladder := if o.kind = 8 then s.ladders.find? (fun l => l.id == o.aux) else none

/-- The read offset of a recovery attempt, once its thread has the arm; it goes with the thread's read offsets (R164, log entry 96). -/
def attemptOffset (q t : Nat) (s : State) : State :=
  match KV.get s.sqOps (thrNo q t) with
  | none => s
  | some o =>
    match ladderOf s o with
    | none => s
    | some l =>
      let off := (ladTryOf l o).off
      if off = 0 then s
      else (bitsOf 16 o.mask).foldl (fun u k => setReadOffset (16 * q + k) off (u.setBitOf X.sq_ofs (thrNo q t) k)) s

/-- Give the arm to a thread. -/
def giveArm (q t : Nat) (s : State) : State :=
  let s := (s.set SQ_STATUS.arm_held q 1).set SQ_STATUS.arm_owner q t
  attemptOffset q t ((s.clear X.sq_want (thrNo q t)).set MS_ACT_STATE.arm_urgent q (b2n (thrClass s q t == 0)))

/-- PREEMPT for the owner of an arm for which an urgent operation waits (R249). -/
def preemptArm (q : Nat) (s : State) : State :=
  if s.get SQ_STATUS.arm_held q = 1 then raiseEvent q (s.get SQ_STATUS.arm_owner q) 4 s else s

/-- The arm becomes free: thread 3 is served first, then the lowest-numbered waiting thread. Where an urgent operation still waits, the new
owner has PREEMPT raised (R249). -/
def freeArm (q : Nat) (s : State) : State :=
  let s := ((s.clear SQ_STATUS.arm_held q).clear SQ_STATUS.arm_owner q).clear MS_ACT_STATE.arm_urgent q
  match [3, 0, 1, 2].find? (fun t => s.on X.sq_want (thrNo q t)) with
  | some t =>
    let s := giveArm q t s
    if (List.range 4).any (fun u => s.on X.sq_want (thrNo q u) && thrClass s q u == 0) then preemptArm q s else s
  | none => s

/-- Release the arm, with the thread's comb and read offsets (R247, R259). -/
def releaseArm (q t : Nat) (s : State) : State :=
  let k := thrNo q t
  if hasArm s q t then freeArm q ((releaseComb q (s.get X.sq_ofs k) s).clear X.sq_ofs k)
  else s.clear X.sq_want k

/-! Conditions. -/

/-- A condition's level (R248). -/
def condHolds (s : State) (q t : Nat) (w : MicroWord) : Bool :=
  let k := thrNo q t
  let a := gr s q t w.ra
  let b := gr s q t w.rb
  match w.cond with
  | 0 => true
  | 1 => (KV.get s.sqArrive k).isSome
  | 2 => hasArm s q t
  | 3 => s.hgReqs.all (fun r => r.holder != 200 + k)
  | 4 => s.sqPwd.any (fun p => p.1 == k)
  | 5 => s.flumeReqs.all (fun f => !(f.seq == q && f.thr == t)) && s.get X.sq_fref k == 0
  | 6 => s.on X.sq_fref k
  | 7 => s.on X.sv_plan_ok q
  | 8 => svState s q == svTracking && s.on X.sv_seeking q
  | 9 => (bitsOf 16 (s.get X.sv_sub q)).all (fun h => s.on SV_SLOT_STATE.ready (16 * q + h))
  | 10 => s.on X.sv_rem q
  | 11 => !(KV.getD s.sqRes k []).isEmpty
  | 12 => !(KV.getD s.sqVres k []).isEmpty
  | 13 => s.flumes.any (fun p => p.2.sync.isSome && (match p.2.cur with | some j => j.seq == q && j.thr == t | none => false))
  | 14 => s.get SV_STATUS.wedge q == w.imm % 1024
  | 15 => s.on X.sv_index q
  | 16 => s.on MC_SPIN_STATUS.full
  | 17 => !runsLeft s q t
  | 18 => svState s q == svParked
  | 19 => a == 0
  | 20 => decide (2 ^ 63 ≤ a)
  | 21 => a == b
  | 22 => decide (a < b)
  | 23 => s.on SQ_THR_STATE.pending k
  | _ => false

/-- A word's condition with its inversion. -/
def wordCond (s : State) (q t : Nat) (w : MicroWord) : Bool := condHolds s q t w != w.inv

/-- Where FREF is evaluated true, g12 holds the refused request's slot (R248). -/
def condEffect (q t : Nat) (w : MicroWord) (s : State) : State :=
  if w.cond = 6 ∧ s.on X.sq_fref (thrNo q t) then
    setGr q t 12 ((bitsOf 16 (s.get X.sq_fref (thrNo q t))).headD 0) s
  else s

/-! Letting go. -/

/-- The heads whose write run a thread has. -/
def runHeads (s : State) (q t : Nat) : List Nat :=
  (s.wruns.filter (fun p => p.2.seq == q && p.2.thr == t)).map (fun p => p.1)

/-- The ports a thread holds or has asked for. -/
def thrPorts (s : State) (k : Nat) : List Nat :=
  (List.range 128).filter (fun p => s.hgReqs.any (fun r => r.port == p && r.holder == 200 + k)
    || s.hgGrants.any (fun g => g.port == p && g.holders.any (fun h => h.holder == 200 + k)) || s.sqPwd.contains (k, p))

/-- A thread holds something that END would release (R258, R259). -/
def holdsAny (s : State) (q t : Nat) : Bool :=
  let k := thrNo q t
  hasArm s q t || runsLeft s q t || !(flumeSlots s q t).isEmpty || !(thrPorts s k).isEmpty
    || !(KV.getD s.sqRes k []).isEmpty || !(KV.getD s.sqVres k []).isEmpty

/-- Release whatever a thread holds, in the order of R259. -/
def letGo (q t : Nat) (s : State) : State :=
  let k := thrNo q t
  let s := (runHeads s q t).foldl (fun u h => if (match KV.get u.wruns h with | some r => r.opened | none => false) then runAbort true h u else u) s
  -- results of closed runs that the verify detector still owes are discarded with the queue
  let s := (runHeads s q t).foldl (fun u h =>
    match KV.get u.wruns h with
    | some r => judgeMarks h (r.marks.map (fun m => if m = 0 then 4 else m)) u
    | none => u) s
  let s := (flumeSlots s q t).foldl (fun u slot => flumeDrop q t slot u) s
  let s := releaseArm q t s
  let s := (thrPorts s k).foldl (fun u p => hgRelease p (200 + k) u) s
  let n := (KV.getD s.sqRes k []).length + (KV.getD s.sqVres k []).length
  let s := s.addSat SQ_THR_STATE.dropped k n
  { s with sqRes := KV.del s.sqRes k, sqVres := KV.del s.sqVres k }.clear X.sq_fref k

/-- A thread's operation is over: it goes back to the media scheduler with an END status (R259, R283). -/
def endOp (q t status : Nat) (s : State) : State :=
  let k := thrNo q t
  let s := ((s.clear X.sq_masked k).clear SQ_THR_STATE.pending k).clear SQ_THR_STATE.tag k
  match KV.get s.sqOps k with
  | some o => msEnd o status (KV.getD s.ladNotes k []) { s with sqOps := KV.del s.sqOps k, ladNotes := KV.del s.ladNotes k }
  | none => s

/-- A thread starts at SQ_VEC entry 0 with an empty call stack. -/
def startThread (q t : Nat) (s : State) : State :=
  let k := thrNo q t
  let s := ((s.clear X.sq_depth k).clear X.sq_sp k).clear X.sq_leave k
  makeReady q t (setPc q t (s.get SQ_VEC.addr (5 * q)) s)

/-- Abandon a thread: its holdings are released, its operation returns with status 0xFF (R259). -/
def abandon (q t : Nat) (s : State) : State := (endOp q t 0xFF (letGo q t s)).raise SQ_INT.abandoned q

/-- A thread rests idle. -/
def idleThread (q t : Nat) (s : State) : State :=
  let k := thrNo q t
  ((s.set SQ_THR_STATE.state k thIdle).clear SQ_THR_STATE.cond k).clear X.sq_leave k

/-- The sequencer has stopped once every thread it was halting is idle or in FAULT (R259). -/
def haltCheck (q : Nat) (s : State) : State :=
  if s.get SQ_STATUS.state q = sqHalting ∧
      (List.range 4).all (fun t => s.get SQ_THR_STATE.state (thrNo q t) == thIdle || s.get SQ_THR_STATE.state (thrNo q t) == thFault) then
    s.set SQ_STATUS.state q sqStopped
  else s

/-- Abandon a thread and leave it idle: halt, or its thread_en bit cleared. A thread whose bit is set again by then starts (R259). -/
def dropThread (q t : Nat) (s : State) : State :=
  let again := s.get X.sq_leave (thrNo q t) == 2 && (s.get SQ_CTRL.thread_en q).testBit t
  let s := haltCheck q (idleThread q t (abandon q t s))
  if again && s.get SQ_STATUS.state q == sqRunning then startThread q t s else s

/-- A thread fault (R247, R252, R255, R259, R260). -/
def threadFault (code q t : Nat) (s : State) : State :=
  let k := thrNo q t
  let s := ((s.set SQ_FAULT.code q code).set SQ_FAULT.thread q t).set SQ_FAULT.pc q (pcOf s q t)
  let s := (abandon q t s).raise SQ_INT.fault q
  haltCheck q (((s.set SQ_THR_STATE.state k thFault).clear SQ_THR_STATE.cond k).clear X.sq_leave k)

/-! Events. -/

/-- The event that a thread takes at a safe point: PARK, ABORT, LOSS, then PREEMPT at a yield point with no write run open
(R256). -/
def eventAt (s : State) (q t sp : Nat) : Option Nat :=
  let k := thrNo q t
  if s.on X.sq_masked k then none
  else
    let p := s.get SQ_THR_STATE.pending k
    [2, 1, 3, 4].find? (fun e => p.testBit (e - 1) && (e != 4 || (sp == 2 && !runsOpen s q t)))

/-- Take an event at the safe-point word a thread stands at (R256, R259). -/
def takeEvent (q t e : Nat) (s : State) : State :=
  let k := thrNo q t
  let v := s.get SQ_VEC.addr (5 * q + e)
  let s := s.clearBitOf SQ_THR_STATE.pending k (e - 1)
  if v = 0 then startThread q t (abandon q t s)
  else
    let s := setGr q t 14 (pcOf s q t) (setGr q t 13 e s)
    let s := (s.set X.sq_masked k 1).clear X.sq_sp k
    makeReady q t (setPc q t v s)

/-! Descriptors. -/

/-- Positions of an operation that a slot of its actuator serves. -/
def slotPositions (m : Image) (o : MsOp) (k : Nat) : List Nat :=
  let home := (m.comb (m.group (groupIx m o.zone)).comb).act
  ((List.range o.count).map (fun n => o.pos + n)).filter (fun p => m.surf (16 * home + posSlot m o.zone p) == m.surf (16 * o.act + k))

/-- g1 of the descriptor (R254). -/
def descKind (o : MsOp) : Nat :=
  let kind := match o.kind with | 1 | 3 | 4 => 1 | 2 => 2 | 8 => 4 | _ => 0
  kind + min o.cls 4 * 2 ^ 8 + Config.routineEntry o.kind % 8192 * 2 ^ 11 + o.tag % 65536 * 2 ^ 32

/-- g2 of a recovery attempt: the fields of its rung, over the span of its sectors (R160, R251). -/
def descTry (s : State) (o : MsOp) (l : Ladder) : Nat :=
  let t := ladTryOf l o
  let n := trySpan l t
  (16 * o.act + (bitsOf 16 o.mask).headD 0) + l.band % 64 * 2 ^ 6 + b2n (writingAct s o.zone o.pos != o.act) * 2 ^ 12 + b2n (o.cls == 0) * 2 ^ 15
    + n.1 % 4096 * 2 ^ 16 + min n.2 4095 * 2 ^ 28 + t.iter % 2 * 2 ^ 40 + t.shift % 64 * 2 ^ 41 + t.alt % 16 * 2 ^ 47 + t.weight % 16 * 2 ^ 51
    + t.acc % 4 * 2 ^ 55

/-- g2: the flume request template of the operation's lowest slot (R251, R254). -/
def descReq (s : State) (o : MsOp) : Nat :=
  match ladderOf s o with
  | some l => descTry s o l
  | none =>
  let m := s.image
  let slot := (bitsOf 16 o.mask).headD 0
  let ps := slotPositions m o slot
  let purpose := match o.kind with | 1 | 3 | 4 => 1 | 2 => 2 | _ => 0
  let writer := if purpose = 0 then b2n (writingAct s o.zone o.pos != o.act) else 0
  (16 * o.act + slot) + (m.group (groupIx m o.zone)).band * 2 ^ 6 + writer * 2 ^ 12 + purpose * 2 ^ 13 + b2n (o.cls == 0) * 2 ^ 15
    + posSector m o.zone (ps.headD o.pos) * 2 ^ 16 + min ps.length 4095 * 2 ^ 28

/-- g3: the comb descriptor (R250, R254). -/
def descComb (s : State) (o : MsOp) : Nat :=
  o.mask % 65536 + posTrack s.image o.zone o.pos % 2 ^ 23 * 2 ^ 16 + combFor s.image o.zone o.act % 64 * 2 ^ 39

/-- A waiting operation is fetched: its descriptor stands in g1 to g4 (R247, R254). The Cistern address is the scheduler's to
choose, so it is a free value. -/
def fetchOp (q t pc : Nat) (o : MsOp) (s : State) : State :=
  let k := thrNo q t
  let s := { s with sqArrive := KV.del s.sqArrive k, sqOps := KV.put natLt s.sqOps k o }
  let s := s.set SQ_THR_STATE.tag k o.tag
  let s := setGr q t 4 (s.fresh % 2 ^ 40) (setGr q t 3 (descComb s o) (setGr q t 2 (descReq s o) (setGr q t 1 (descKind o) s)))
  let entry := gr s q t 1 / 2 ^ 11 % 8192
  makeReady q t (setPc q t (if entry = 0 then pc + 1 else entry) s.spend)

end Sys2Proof.Machine
end

