-- ==== Sys2Proof/Machine/Sequencer.lean ====
section
/-! DEFINITION. The media sequencers (11_media_sequencers.md): every microword, waiting and waking, loading and control. A
microword command names the thread that issues; the word is the one its program counter points at, and a command whose
opcode is not that word's does nothing. -/

namespace Sys2Proof.Machine

/-- Issue the word a thread stands at, if it is one of opcode `code`: reserved encodings, safe points, events and the limits
of R255 come first; then the effect, with the program counter on the next word (R246, R247, R255, R256, R259, R260). -/
def issue (code q t : Nat) (eff : Nat → MicroWord → State → State) (s : State) : State :=
  let k := thrNo q t
  let st := s.get SQ_STATUS.state q
  let th := s.get SQ_THR_STATE.state k
  if gated s || !((st == sqRunning || st == sqHalting) && (th == thReady || th == thHandler)) then s
  else
    let pc := pcOf s q t
    if s.get SQ_VERSION.words q ≤ pc then threadFault 4 q t s
    else
      let w := wordAt s q pc
      if !opDefined w.op || decide (23 < w.cond) || w.sp == 3 then threadFault 2 q t s
      else if w.sp ≠ 0 ∧ s.on X.sq_leave k then dropThread q t s
      else
        match (if w.sp = 0 then none else eventAt s q t w.sp) with
        | some e => takeEvent q t e s
        | none =>
          if w.op ≠ code then s
          else if w.sp = 0 ∧ 64 ≤ s.get X.sq_sp k then threadFault 3 q t s
          else if (w.op = 0x0D ∨ w.op = 0x0E) ∧ w.sp = 0 ∧ w.timeout = 0 then threadFault 5 q t s
          else
            let s := (s.set X.sq_sp k (if w.sp = 0 then s.get X.sq_sp k + 1 else 0)).incWrap SQ_STATUS.issued q
            eff pc w (setPc q t (pc + 1) s)

/-- A microword command. -/
def micro (code seq thread : Nat) (eff : Nat → MicroWord → State → State) (s : State) : Res :=
  run (okSeq seq && okThread thread) s (issue code seq thread eff)

/-- A word that only writes rd. -/
def alu (code q t : Nat) (f : MicroWord → Nat → Nat → Nat) (s : State) : Res :=
  micro code q t (fun _ w s => setGr q t w.rd (f w (gr s q t w.ra) (gr s q t w.rb) % 2 ^ 64) s) s

/-- NOP (R247). -/
def execMwNop (seq thread : Nat) (s : State) : Res := micro 0x00 seq thread (fun _ _ s => s) s

/-- LDI (R247). -/
def execMwLdi (seq thread : Nat) (s : State) : Res := alu 0x01 seq thread (fun w _ _ => w.imm) s

/-- ADD (R247). -/
def execMwAdd (seq thread : Nat) (s : State) : Res := alu 0x02 seq thread (fun w a b => a + b + w.imm) s

/-- SUB (R247). -/
def execMwSub (seq thread : Nat) (s : State) : Res := alu 0x03 seq thread (fun w a b => a + (2 ^ 64 - b) + (2 ^ 64 - w.imm)) s

/-- AND (R247). -/
def execMwAnd (seq thread : Nat) (s : State) : Res := alu 0x04 seq thread (fun w a b => a &&& (b ||| w.imm)) s

/-- OR (R247). -/
def execMwOr (seq thread : Nat) (s : State) : Res := alu 0x05 seq thread (fun w a b => a ||| b ||| w.imm) s

/-- XOR (R247). -/
def execMwXor (seq thread : Nat) (s : State) : Res := alu 0x06 seq thread (fun w a b => a ^^^ b ^^^ w.imm) s

/-- The width of the field that EXT and INS name; 0 means 64 (R247). -/
def fieldWidth (w : MicroWord) : Nat := let n := w.imm / 2 ^ 8 % 64; if n = 0 then 64 else n

/-- The field of a value, extended as EXT says. -/
def extField (w : MicroWord) (a : Nat) : Nat :=
  let n := fieldWidth w
  let v := a / 2 ^ (w.imm % 64) % 2 ^ n
  if w.imm.testBit 14 then toBits 64 (signed n v) else v

/-- EXT (R247). -/
def execMwExt (seq thread : Nat) (s : State) : Res := alu 0x07 seq thread (fun w a _ => extField w a) s

/-- A value with a field replaced, as INS says. -/
def insField (w : MicroWord) (a b : Nat) : Nat :=
  let n := fieldWidth w
  let l := w.imm % 64
  a % 2 ^ l + b % 2 ^ n * 2 ^ l + a / 2 ^ (l + n) * 2 ^ (l + n)

/-- INS (R247). -/
def execMwIns (seq thread : Nat) (s : State) : Res := alu 0x08 seq thread (fun w a b => insField w a b) s

/-- BR (R247). -/
def execMwBr (seq thread : Nat) (s : State) : Res :=
  micro 0x09 seq thread (fun _ w s =>
    let go := wordCond s seq thread w
    let s := condEffect seq thread w s
    if go then setPc seq thread w.target s else s) s

/-- CALL: a fifth push faults with code 6 (R247). -/
def execMwCall (seq thread : Nat) (s : State) : Res :=
  micro 0x0A seq thread (fun pc w s =>
    let k := thrNo seq thread
    let go := wordCond s seq thread w
    let s := condEffect seq thread w s
    if go then
      let d := s.get X.sq_depth k
      if 4 ≤ d then threadFault 6 seq thread (setPc seq thread pc s)
      else setPc seq thread w.target ((s.set X.sq_stk (4 * k + d) (pc + 1)).set X.sq_depth k (d + 1))
    else s) s

/-- RET: popping an empty stack faults with code 6 (R247). -/
def execMwRet (seq thread : Nat) (s : State) : Res :=
  micro 0x0B seq thread (fun pc w s =>
    let k := thrNo seq thread
    let go := wordCond s seq thread w
    let s := condEffect seq thread w s
    if go then
      let d := s.get X.sq_depth k
      if d = 0 then threadFault 6 seq thread (setPc seq thread pc s)
      else setPc seq thread (s.get X.sq_stk (4 * k + d - 1)) (s.set X.sq_depth k (d - 1))
    else s) s

/-- JR: naming g14 also unmasks events (R247, R256). -/
def execMwJr (seq thread : Nat) (s : State) : Res :=
  micro 0x0C seq thread (fun _ w s =>
    let s := setPc seq thread (gr s seq thread w.ra % 8192) s
    if w.ra = 14 then makeReady seq thread (s.clear X.sq_masked (thrNo seq thread)) else s) s

/-- A thread waits at the word it stands at. -/
def waitAt (q t pc cond : Nat) (s : State) : State :=
  let k := thrNo q t
  (setPc q t pc (s.set SQ_THR_STATE.state k thWaiting)).set SQ_THR_STATE.cond k cond

/-- WAIT (R247). -/
def execMwWait (seq thread : Nat) (s : State) : Res :=
  micro 0x0D seq thread (fun pc w s =>
    if wordCond s seq thread w then condEffect seq thread w s else waitAt seq thread pc w.cond s) s

/-- FETCH (R247, R254). -/
def execMwFetch (seq thread : Nat) (s : State) : Res :=
  micro 0x0E seq thread (fun pc _ s =>
    match KV.get s.sqArrive (thrNo seq thread) with
    | some o => fetchOp seq thread pc o s
    | none => waitAt seq thread pc 1 s) s

/-- A waiting thread at a safe point that is to be abandoned or takes an event; none where neither applies (R256, R257,
R259). -/
def interrupted (q t : Nat) (w : MicroWord) (s : State) : Option State :=
  if w.sp = 0 then none
  else if s.on X.sq_leave (thrNo q t) then some (dropThread q t s)
  else (eventAt s q t w.sp).map (fun e => takeEvent q t e s)

/-- WAIT_WAKE: the condition of a waiting thread has become true, or an event interrupts it (R244, R248, R256, R257). -/
def execWaitWake (seq thread : Nat) (s : State) : Res :=
  run (okSeq seq && okThread thread) s (fun s =>
    if s.get SQ_THR_STATE.state (thrNo seq thread) = thWaiting ∧ gated s = false then
      let pc := pcOf s seq thread
      let w := wordAt s seq pc
      match interrupted seq thread w s with
      | some u => u
      | none =>
        if w.op = 0x0E then
          (match KV.get s.sqArrive (thrNo seq thread) with
          | some o => fetchOp seq thread pc o s
          | none => s)
        else if wordCond s seq thread w then makeReady seq thread (setPc seq thread (pc + 1) (condEffect seq thread w s))
        else s
    else s)

/-- WAIT_TIMEOUT: a timed WAIT or FETCH branches to its target (R246, R247). -/
def execWaitTimeout (seq thread : Nat) (s : State) : Res :=
  run (okSeq seq && okThread thread) s (fun s =>
    if s.get SQ_THR_STATE.state (thrNo seq thread) = thWaiting ∧ gated s = false then
      let w := wordAt s seq (pcOf s seq thread)
      match interrupted seq thread w s with
      | some u => u
      | none => if w.timeout = 0 then s else makeReady seq thread (setPc seq thread w.target s)
    else s)

/-- END: status imm[7:0], leftovers released, pc to SQ_VEC entry 0, events unmasked (R247, R256, R259). -/
def execMwEnd (seq thread : Nat) (s : State) : Res :=
  micro 0x0F seq thread (fun _ w s =>
    let held := holdsAny s seq thread
    let s := endOp seq thread (w.imm % 256) (letGo seq thread s)
    let s := if held then s.raise SQ_INT.leftover seq else s
    makeReady seq thread (setPc seq thread (s.get SQ_VEC.addr (5 * seq)) s)) s

/-- POST: kind 1 is a recovery result; kinds 0 and 2 tell the scheduler of progress and of sectors to re-queue, which it does
by the END status (R247, R254, R283). -/
def execMwPost (seq thread : Nat) (s : State) : Res :=
  micro 0x10 seq thread (fun _ w s =>
    if w.imm % 16 = 1 then ladPosted (thrNo seq thread) (gr s seq thread w.ra) (gr s seq thread w.rb) s else s) s

/-- SIG (R247). -/
def execMwSig (seq thread : Nat) (s : State) : Res :=
  micro 0x11 seq thread (fun _ w s =>
    ((s.raise SQ_INT.ucode seq).set SQ_SIG.code seq (w.imm % 256)).set SQ_SIG.thread seq thread) s

/-- ARM_ACQ: granted at once if the arm is free; an urgent operation that waits preempts the owner (R247, R249). -/
def execMwArmAcq (seq thread : Nat) (s : State) : Res :=
  micro 0x20 seq thread (fun _ _ s =>
    if hasArm s seq thread then s
    else if s.get SQ_STATUS.arm_held seq = 0 then giveArm seq thread s
    else
      let s := s.set X.sq_want (thrNo seq thread) 1
      if thrClass s seq thread = 0 then preemptArm seq s else s) s

/-- ARM_REL (R247). -/
def execMwArmRel (seq thread : Nat) (s : State) : Res := micro 0x21 seq thread (fun _ _ s => releaseArm seq thread s) s

/-- A servo word: without the arm it faults with code 7 (R247). -/
def servoWord (code q t : Nat) (eff : MicroWord → State → State) (s : State) : Res :=
  micro code q t (fun pc w s => if hasArm s q t then eff w s else threadFault 7 q t (setPc q t pc s)) s

/-- SEEK (R247, R250). -/
def execMwSeek (seq thread : Nat) (s : State) : Res :=
  servoWord 0x22 seq thread (fun w s => seekRequest seq (gr s seq thread w.ra) (thrClass s seq thread == 0) s) s

/-- COMB (R190, R247, R250). -/
def execMwComb (seq thread : Nat) (s : State) : Res :=
  servoWord 0x23 seq thread (fun w s =>
    ((s.set X.sv_plan_req seq 1).set X.sv_plan_desc seq (gr s seq thread w.ra)).clear X.sv_plan_ok seq) s

/-- SUBC: the slot mask of the next sub-comb (R247). -/
def execMwSubc (seq thread : Nat) (s : State) : Res :=
  servoWord 0x24 seq thread (fun w s =>
    let p := nextSub seq (thrClass s seq thread == 0) s
    setGr seq thread w.rd p.1 p.2) s

/-- OFS: the read offset of a slot (R164, R247). -/
def execMwOfs (seq thread : Nat) (s : State) : Res :=
  servoWord 0x25 seq thread (fun w s =>
    let slot := gr s seq thread w.ra % 16
    setReadOffset (16 * seq + slot) (signed 16 w.imm) (s.setBitOf X.sq_ofs (thrNo seq thread) slot)) s

/-- SPRED: the predicted seek time (R197, R247). -/
def execMwSpred (seq thread : Nat) (s : State) : Res :=
  micro 0x26 seq thread (fun _ w s => setGr seq thread w.rd (seekTime s seq (gr s seq thread w.ra)) s) s

/-- CREL (R247). -/
def execMwCrel (seq thread : Nat) (s : State) : Res :=
  servoWord 0x27 seq thread (fun _ s =>
    (releaseComb seq (s.get X.sq_ofs (thrNo seq thread)) s).clear X.sq_ofs (thrNo seq thread)) s

/-- PWR_REQ: a ninth grant faults with code 7 (R247, R252). -/
def execMwPwrReq (seq thread : Nat) (s : State) : Res :=
  micro 0x28 seq thread (fun pc w s =>
    let k := thrNo seq thread
    let p := gr s seq thread w.ra % 128
    let held := thrPorts s k
    if 8 ≤ held.length ∧ !held.contains p then threadFault 7 seq thread (setPc seq thread pc s)
    else hgRequest p (w.imm % 16384) (thrClass s seq thread == 0) (200 + k) false s) s

/-- PWR_REL (R247). -/
def execMwPwrRel (seq thread : Nat) (s : State) : Res :=
  micro 0x29 seq thread (fun _ w s =>
    let k := thrNo seq thread
    if w.imm.testBit 15 then (thrPorts s k).foldl (fun u p => hgRelease p (200 + k) u) s
    else
      let p := gr s seq thread w.ra % 128
      if (thrPorts s k).contains p then hgRelease p (200 + k) s else s) s

/-- The flume request that FLM_REQ packs (R104, R251). -/
def unpackReq (v dest : Nat) : FlumeReq :=
  { head := v % 64, band := v / 2 ^ 6 % 64, writer := v / 2 ^ 12 % 2, purpose := v / 2 ^ 13 % 4, urgent := v.testBit 15,
    first := v / 2 ^ 16 % 4096, count := v / 2 ^ 28 % 4096, iter := v / 2 ^ 40 % 2, syncShift := v / 2 ^ 41 % 64,
    altTarget := v / 2 ^ 47 % 16, weightSel := v / 2 ^ 51 % 16, acc := v / 2 ^ 55 % 4, handover := v.testBit 57, dest := dest % 2 ^ 40 }

/-- FLM_REQ: a second request for a slot, other than a handover, faults with code 7 (R247, R251). -/
def execMwFlmReq (seq thread : Nat) (s : State) : Res :=
  micro 0x2A seq thread (fun pc w s =>
    let r := unpackReq (gr s seq thread w.ra) (gr s seq thread w.rb)
    if (slotsBusy s seq thread).contains (r.head % 16) && !r.handover then threadFault 7 seq thread (setPc seq thread pc s)
    else flumeAsk seq thread r (s.clearBitOf X.sq_fref (thrNo seq thread) (r.head % 16))) s

/-- Release the flume of a slot: a request that waits is withdrawn, a flume in the middle of its request ends the sector in
progress with status 6, and sectors already in the decoder still post their results (R109, R247). -/
def flumeRelease (q t slot : Nat) (s : State) : State :=
  let mine := fun (r : FlumeReq) => r.head / 16 == q && r.head % 16 == slot
  let s := { s with flumeReqs := s.flumeReqs.filter (fun w => !(w.seq == q && w.thr == t && mine w.req)) }
  let s := s.clearBitOf X.sq_fref (thrNo q t) slot
  s.each (List.range 32) (fun f u =>
    let x := flumeOf u f
    let u := match x.incoming with
      | some j => if j.seq == q && j.thr == t && mine j.req then flumeShow f (setFlume f { x with incoming := none } u) else u
      | none => u
    match (flumeOf u f).cur with
    | some j =>
      if j.seq == q && j.thr == t && mine j.req then
        (let u := if jobBegun u (flumeOf u f) j then sectorCut (flumeOf u f) j 6 u else u
        if (flumeOf u f).incoming.isSome then flumeOrphan f u else flumeDetach f u)
      else u
    | none => u)

/-- FLM_REL (R247). -/
def execMwFlmRel (seq thread : Nat) (s : State) : Res :=
  micro 0x2B seq thread (fun _ w s =>
    if w.imm.testBit 15 then (flumeSlots s seq thread).foldl (fun u slot => flumeRelease seq thread slot u) s
    else flumeRelease seq thread (gr s seq thread w.ra % 16) s) s

/-- All ones. -/
def ones64 : Nat := 2 ^ 64 - 1

/-- RES_GET: the oldest sector result and its slot, or all ones (R247). -/
def execMwResGet (seq thread : Nat) (s : State) : Res :=
  micro 0x2C seq thread (fun _ w s =>
    let k := thrNo seq thread
    match KV.getD s.sqRes k [] with
    | [] => setGr seq thread 12 0xFF (setGr seq thread w.rd ones64 s)
    | (slot, v) :: r => setGr seq thread 12 slot (setGr seq thread w.rd v { s with sqRes := kset [] s.sqRes k r })) s

/-- VRES_GET: the oldest verify result and its slot, or all ones (R247). -/
def execMwVresGet (seq thread : Nat) (s : State) : Res :=
  micro 0x2D seq thread (fun _ w s =>
    let k := thrNo seq thread
    match KV.getD s.sqVres k [] with
    | [] => setGr seq thread 12 0xFF (setGr seq thread w.rd ones64 s)
    | (slot, v) :: r => setGr seq thread 12 slot (setGr seq thread w.rd v { s with sqVres := kset [] s.sqVres k r })) s

/-- WR_ARM (R247, R253). -/
def execMwWrArm (seq thread : Nat) (s : State) : Res :=
  micro 0x2E seq thread (fun _ w s => runArm seq thread (gr s seq thread w.ra % 16) s) s

/-- WR_ABORT (R247, R253). -/
def execMwWrAbort (seq thread : Nat) (s : State) : Res :=
  micro 0x2F seq thread (fun _ w s =>
    let h := 16 * seq + gr s seq thread w.ra % 16
    if (runHeads s seq thread).contains h then runAbort (w.imm.testBit 0) h s else s) s

/-! Control. -/

/-- CS_PARITY: a parity error on a control-store fetch (R261). -/
def execCsParity (seq word : Nat) (s : State) : Res :=
  run (okSeq seq) s (fun s =>
    let st := s.get SQ_STATUS.state seq
    if st = sqRunning ∨ st = sqHalting then
      let s := s.each (List.range 4) (fun t u =>
        let u := abandon seq t u
        ((u.set SQ_THR_STATE.state (thrNo seq t) thFault).clear SQ_THR_STATE.cond (thrNo seq t)).clear X.sq_leave (thrNo seq t))
      let s := ((s.set SQ_FAULT.code seq 1).clear SQ_FAULT.thread seq).set SQ_FAULT.pc seq word
      let s := (s.set SQ_STATUS.state seq sqFaulted).alarm SQ_INT.cs_parity seq 9 seq [word]
      let ops := opsOf s seq
      ops.foldl (fun u o => requeueTwin o u) (setOps seq [] s)
    else s)

/-- SEQUENCER_START: SQ_CTRL.action 1; enabled threads start at SQ_VEC entry 0 (R259). -/
def execSequencerStart (seq : Nat) (s : State) : Res :=
  run (okSeq seq) s (fun s =>
    if s.get SQ_STATUS.state seq = sqStopped then
      (s.set SQ_STATUS.state seq sqRunning).each (bitsOf 4 (s.get SQ_CTRL.thread_en seq)) (fun t u =>
        if u.get SQ_THR_STATE.state (thrNo seq t) = thFault then u else startThread seq t u)
    else s)

/-- A thread is to be abandoned at its next safe point: at once if it is idle in FETCH or in FAULT, or waits at a safe point
(R256, R259). -/
def leaveSoon (q t why : Nat) (s : State) : State :=
  let k := thrNo q t
  let th := s.get SQ_THR_STATE.state k
  let w := wordAt s q (pcOf s q t)
  if th = thIdle then s
  else if th = thFault then (if why = 2 then haltCheck q (idleThread q t s) else s)
  else if th = thWaiting ∧ (w.sp ≠ 0 ∨ w.op = 0x0E) then dropThread q t s
  else if why = 2 ∧ s.on X.sq_leave k then s
  else s.set X.sq_leave k why

/-- SEQUENCER_HALT: SQ_CTRL.action 2 (R259). -/
def execSequencerHalt (seq : Nat) (s : State) : Res :=
  run (okSeq seq) s (fun s =>
    if s.get SQ_STATUS.state seq = sqRunning then
      haltCheck seq ((s.set SQ_STATUS.state seq sqHalting).each (List.range 4) (fun t u => leaveSoon seq t 1 u))
    else s)

/-- BEGIN_LOAD: SQ_CTRL.action 4, from the security core in EMPTY, STOPPED or FAULT (R260). -/
def execBeginLoad (core seq : Nat) (s : State) : Res :=
  run (okCore core && okSeq seq) s (fun s =>
    let st := s.get SQ_STATUS.state seq
    if core = secCore ∧ (st = sqEmpty ∨ st = sqStopped ∨ st = sqFaulted) then s.set SQ_STATUS.state seq sqLoading
    else s.raise SQ_INT.denied seq)

/-- The load ends: SQ_VERSION takes the microcode reference's version and word count (R260). -/
def endLoad (q : Nat) (s : State) : State :=
  let r := s.image.micro.getD q default
  let s := ((s.set SQ_VERSION.version q r.version).set SQ_VERSION.words q r.words).set SQ_VERSION.loaded q 1
  let s := s.each (List.range 4) (fun t u => idleThread q t u)
  s.set SQ_STATUS.state q sqStopped

/-- END_LOAD: SQ_CTRL.action 5, from the security core in LOADING (R260). -/
def execEndLoad (core seq : Nat) (s : State) : Res :=
  run (okCore core && okSeq seq) s (fun s =>
    if core = secCore ∧ s.get SQ_STATUS.state seq = sqLoading then endLoad seq s else s.raise SQ_INT.denied seq)

/-- THREAD_ENABLE_WRITE: a write of SQ_CTRL.thread_en (R259). -/
def execThreadEnableWrite (seq mask : Nat) (s : State) : Res :=
  run (okSeq seq) s (fun s =>
    let old := s.get SQ_CTRL.thread_en seq
    let s := s.set SQ_CTRL.thread_en seq mask
    s.each (List.range 4) (fun t u =>
      if mask.testBit t && !old.testBit t then
        (if u.get SQ_STATUS.state seq = sqRunning ∧ u.get X.sq_leave (thrNo seq t) = 0 then startThread seq t u else u)
      else if !mask.testBit t && old.testBit t then leaveSoon seq t 2 u
      else u))

/-- CONTROL_STORE_WRITE: a half of a word of SQ_CS, from the security core in LOADING (R260). -/
def execControlStoreWrite (core seq word half value : Nat) (s : State) : Res :=
  run (okCore core && okSeq seq) s (fun s =>
    if core = secCore ∧ s.get SQ_STATUS.state seq = sqLoading then
      (if word < 8192 then s.set SQ_CS.bits ((8192 * seq + word) * 2 + half % 2) value else s)
    else s.raise SQ_INT.denied seq)

end Sys2Proof.Machine
end

