-- ==== Sys2Proof/Machine/FlashItems.lean ====
section
/-! DEFINITION. The flash layout, slot marks, signed items, keys and OTP (18_boot_record.md, R380 to R388). -/

namespace Sys2Proof.Machine

/-- A list cut or filled with zero bytes to a length. -/
def fit (n : Nat) (l : List Byte) : List Byte := (l ++ List.replicate n 0).take n

/-- Replace bytes of a list from an offset. -/
def patch (l : List Byte) (o : Nat) (b : List Byte) : List Byte := l.take o ++ b ++ l.drop (o + b.length)

/-- SHA-384 as 48 bytes. -/
def sha (l : List Byte) : List Byte := (sha384 (l.map BitVec.toNat)).map (BitVec.ofNat 8)

/-- A little-endian number at an offset of a list. -/
def numAt (l : List Byte) (o n : Nat) : Nat := leNat ((l.drop o).take n)

/-- Byte access to the flash from a base. -/
def flashRd (s : State) (base : Nat) : Nat → Nat := fun o => (s.flashByte (base + o)).toNat

/-- Byte access to a sparse memory whose unlisted bytes are 0xFF. -/
def cellsRd (m : List Host.Cell) : Nat → Nat := fun o => (memByte m flashErased o).toNat

/-- First flash address of a slot of an item kind: 0 structure image, 1 security, 2 management, 3 application firmware,
4 calibration set (R380, R381). -/
def slotBase (kind slot : Nat) : Nat :=
  match kind with
  | 0 => 0x100000 + 0x400000 * slot
  | 1 => 0xB00000 + 0x100000 * slot
  | 2 => 0xD00000 + 0x100000 * slot
  | 3 => 0x1000000 + 0x1000000 * slot
  | _ => 0x3000000 + 0x800000 * slot

/-- Size of a slot of a kind (R380). -/
def slotSize (kind : Nat) : Nat :=
  match kind with
  | 0 => 0x400000
  | 1 => 0x100000
  | 2 => 0x100000
  | 3 => 0x1000000
  | _ => 0x800000

/-- First address of the microcode area of a slot (R380). -/
def microBase (slot : Nat) : Nat := 0x900000 + 0x100000 * slot

/-! Slot marks. -/

/-- The marks of an item kind (R381). -/
structure SlotMark where
  active : Nat
  pending : Bool
  trial : Bool
  code : Nat
  deriving DecidableEq, Repr

/-- A kind's marks with no valid block: active slot A, nothing pending (R381). -/
def noMark : SlotMark := { active := 0, pending := false, trial := false, code := 0 }

/-- A copy of the slot control block with a good crc: its seq and its marks (R381). -/
def scbRead (s : State) (copy : Nat) : Option (Nat × List SlotMark) :=
  let rd := flashRd s (0x10000 * copy)
  if u32 rd 0 = 0x4243534B ∧ u32 rd 0x3C = crc32c (rdBytes rd 0 0x3C) then
    some (u32 rd 4, (List.range 5).map (fun k =>
      { active := rd (8 + 4 * k) % 2, pending := (rd (9 + 4 * k)).testBit 0, trial := (rd (9 + 4 * k)).testBit 1, code := rd (10 + 4 * k) }))
  else none

/-- The copy in use: the valid one with the higher seq (R381). -/
def scbUse (s : State) : Option (Nat × Nat × List SlotMark) :=
  match scbRead s 0, scbRead s 1 with
  | none, none => none
  | some a, none => some (0, a)
  | none, some b => some (1, b)
  | some a, some b => if a.1 < b.1 then some (1, b) else some (0, a)

/-- The marks of the kinds 0 to 4 (R381). -/
def marks (s : State) : List SlotMark := match scbUse s with | some p => p.2.2 | none => List.replicate 5 noMark

/-- The marks of a kind. -/
def mark (s : State) (k : Nat) : SlotMark := (marks s).getD k noMark

/-- The bytes of a slot control block (R381). -/
def scbBytes (seq : Nat) (l : List SlotMark) : List Byte :=
  let b := leBytes 0x4243534B 4 ++ leBytes seq 4
    ++ l.flatMap (fun m => leBytes m.active 1 ++ leBytes (b2n m.pending + 2 * b2n m.trial) 1 ++ leBytes m.code 1 ++ [0])
    ++ List.replicate 32 0
  b ++ leBytes (crc32c b) 4

/-- Write the marks: into the copy with the lower seq, or the invalid one, with seq one higher (R381). -/
def setMarks (l : List SlotMark) (s : State) : State :=
  let (copy, seq) := match scbUse s with | some (c, q, _) => (1 - c, q + 1) | none => (0, 1)
  (s.flashErase (0x10000 * copy) 0x10000).flashProgram (0x10000 * copy) (scbBytes seq l)

/-- Change the marks of a kind; a block that would not change is not written. -/
def setMark (k : Nat) (m : SlotMark) (s : State) : State := if mark s k = m then s else setMarks ((marks s).set k m) s

/-! The OTP. -/

/-- Burn OTP bits. Whether a burn succeeds is not stated: a free value; a failure is reported (SB_STATUS.otp_fail). Answers
whether it succeeded. -/
def burn (g : Otp → Otp) (s : State) : Bool × State :=
  let ok := s.fresh.testBit 0
  let s := s.spend
  if ok then (true, { s with otp := g s.otp }) else (false, (s.set SB_STATUS.otp_fail 0 1).raise SB_INT.otp_fail)

/-- The public key of a slot of image-signing keys that is programmed and not revoked (R384). -/
def signKey (s : State) (k : Nat) : Option (List Byte) :=
  match s.otp.sign[k]? with
  | some x => if x.programmed && !x.revoked then some (if k = 0 then Config.factoryKey else x.key) else none
  | none => none

/-- The public key of an owner slot that is programmed and not revoked (R384). -/
def ownerKey (s : State) (k : Nat) : Option (List Byte) :=
  match s.otp.owner[k]? with
  | some x => if x.programmed && !x.revoked then some x.key else none
  | none => none

/-- The rollback floor of a kind (R384). -/
def floorOf (s : State) (k : Nat) : Nat := s.otp.floors.getD k 0

/-- Show the floors (SB_FLOOR). -/
def showFloors (s : State) : State :=
  s.set SB_FLOOR.floor 0 ((List.range 5).foldl (fun n k => n + min (floorOf s k) 128 * 256 ^ k) 0)

/-- Keys are derived in a lifecycle state and under a policy (R385, R386). -/
def dakDerived (lifecycle policy : Nat) : Bool := (lifecycle == 1 || lifecycle == 2) && !policy.testBit 1

/-- Core debug over JTAG is open in a lifecycle state under a policy (R384, R385). Boundary scan works in every state. -/
def debugOpen (lifecycle policy : Nat) : Bool := decide (lifecycle ≤ 1) && !policy.testBit 0

/-! Containers. -/

/-- Length of a container's payload (R382). -/
def payLen (rd : Nat → Nat) : Nat := u32 rd 8 - 320

/-- A container's load address (R382). -/
def loadAddr (rd : Nat → Nat) : Nat := u32 rd 0x10 + 2 ^ 32 * u32 rd 0x14

/-- A container's measurement: the SHA-384 of the bytes its signature covers (R382). -/
def contMeas (rd : Nat → Nat) : List Byte := sha (rdBytes rd 0 (u32 rd 8 - 256))

/-- Two ranges overlap. -/
def overlap (a n b m : Nat) : Bool := decide (a < b + m) && decide (b < a + n)

/-- The item in force of a kind. -/
def itemOf (s : State) (k : Nat) : Option BootItem := s.items.find? (fun i => i.kind == k)

/-- The load range of an item does not hold (R383). -/
def rangeBad (s : State) (kind : Nat) (rd : Nat → Nat) : Bool :=
  let n := payLen rd
  let a := loadAddr rd
  match kind with
  | 1 => decide (0x80000 < n)
  | 2 => decide (0x40000 < n)
  | _ => decide (a < 0x10000000) || decide (0x12000000 < a + n) || overlap a n 0x11FC0000 0x40000
      || (match itemOf s (7 - kind) with | some i => overlap a n i.first i.size | none => false)

/-- The checks of R388 on a container, without its erased slot: the first code that fails. -/
def contFail (s : State) (kind floor : Nat) (rd : Nat → Nat) : Option Nat :=
  let len := u32 rd 8
  if !(u32 rd 0 == 0x4D54494B && rd 4 == kind && rd 5 == 1 && len % 16 == 0 && decide (320 ≤ len) && decide (len ≤ slotSize kind)) then some 1
  else if u32 rd 0x3C ≠ crc32c (rdBytes rd 0 0x3C) then some 2
  else if (signatureFail rd (len - 256) (signKey s)).isSome then some 3
  else if u32 rd 0xC < floor then some 4
  else if rangeBad s kind rd then some 5
  else none

/-- The slot's header is erased (R388). -/
def slotErased (rd : Nat → Nat) : Bool := (List.range 64).all (fun i => rd i == 0xFF)

/-- Why a container slot fails, none where it passes (R388). -/
def slotFail (s : State) (kind slot : Nat) : Option Nat :=
  let rd := flashRd s (slotBase kind slot)
  if slotErased rd then some 8 else contFail s kind (floorOf s kind) rd

/-- The microcode container of a reference (R47, R382). -/
def microRd (s : State) (r : MicroRef) : Nat → Nat := flashRd s r.flashOffset

/-- The microcode of a reference fails: 0x16 its signature, its header among it, 0x17 its digest, 0x18 its security_version (R387). -/
def microFail (s : State) (r : MicroRef) : Option Nat :=
  let rd := microRd s r
  let len := u32 rd 8
  let head := u32 rd 0 == 0x4D54494B && rd 4 == 5 && rd 5 == 1 && len == 320 + 16 * r.words && u32 rd 0x3C == crc32c (rdBytes rd 0 0x3C)
  if !head || (signatureFail rd (len - 256) (signKey s)).isSome then some 0x16
  else if contMeas rd ≠ r.digest then some 0x17
  else if u32 rd 0xC < floorOf s 0 then some 0x18
  else none

/-- The checks of a reload: signature and digest (R395). -/
def reloadOk (s : State) (q : Nat) : Bool :=
  match microFail s (s.image.micro.getD q default) with
  | some c => c == 0x18
  | none => true

/-- Write a microcode container's words into a control store and end the load (R260, R382). -/
def loadStore (q : Nat) (s : State) : State :=
  let r := s.image.micro.getD q default
  let rd := microRd s r
  let s := s.each (List.range r.words) (fun w t => t.each [0, 1] (fun h t =>
    t.set SQ_CS.bits ((8192 * q + w) * 2 + h) (leNat (rdBytes rd (64 + 16 * w + 8 * h) 8))))
  endLoad q s

/-- A control store that fails its checks leaves the sequencer in FAULT, with an event record (R395). -/
def reloadFailed (q : Nat) (s : State) : State := (s.set SQ_STATUS.state q 5).alarm SB_INT.reload_fail 0 18 q

/-- Load a sequencer's control store again when its domain is powered again, under the checks of a reload (R261, R374, R395). -/
def repower (q : Nat) (s : State) : State := if reloadOk s q then loadStore q s else reloadFailed q s

end Sys2Proof.Machine
end

