-- ==== Sys2Proof/Machine/BootRecord.lean ====
section
/-! DEFINITION. The boot chapter and its records (18_boot_record.md, R389 to R394). -/

namespace Sys2Proof.Machine

/-- Flash address of record `i` (R380). -/
def recAt (i : Nat) : Nat := 0x5000000 + 512 * i

/-- Slots of the chapter. -/
def chapSlots : Nat := 32768

/-- A record's magic: "KBRC" (R391). -/
def recMagic : Nat := 0x4352424B

/-- The magic of slot `i`. -/
def slotMagic (s : State) (i : Nat) : Nat := leNat (s.flashRead (recAt i) 4)

/-- The bytes of slot `i`. -/
def slotBytes (s : State) (i : Nat) : List Byte := s.flashRead (recAt i) 512

/-- The first slot from `i` on whose magic is erased, 32,768 for none (R392). -/
def nextSlot (s : State) : Nat → Nat → Nat
  | 0, i => i
  | n + 1, i => if slotMagic s i = 0xFFFFFFFF then i else nextSlot s n (i + 1)

/-- The next index (SB_CHAPTER.next). -/
def chapNext (s : State) : Nat := nextSlot s chapSlots 0

/-- The last valid record below a slot (R389). -/
def lastValid (s : State) : Nat → Option Nat
  | 0 => none
  | n + 1 => if slotMagic s n = recMagic then some n else lastValid s n

/-- Void slots below a slot (R392). -/
def voidsBelow (s : State) (n : Nat) : Nat := ((List.range n).filter (fun i => slotMagic s i == 0)).length

/-- The signature of a record's bytes 0x000 to 0x19F: by the DAK of its lifecycle and policy, or zero where no key is derived
(R386, R391). -/
def signRecord (body : List Byte) : List Byte :=
  let lc := numAt body 7 1
  if dakDerived lc (numAt body 0x30 4) then dakSign lc body else List.replicate 96 0

/-- A record's signature holds: it checks under the DAK of its lifecycle, or is zero where no key is derived (R386, R393). -/
def recordOk (r : List Byte) : Bool :=
  let lc := numAt r 7 1
  if dakDerived lc (numAt r 0x30 4) then sigOk (dakPublic lc) (r.take 0x1A0) (r.drop 0x1A0) else r.drop 0x1A0 == List.replicate 96 0

/-- A whole record from its body. -/
def sealed (body : List Byte) : List Byte := let b := fit 0x1A0 body; b ++ signRecord b

/-- Show the chapter's position (SB_CHAPTER). -/
def showChapter (s : State) : State :=
  let n := chapNext s
  (s.set SB_CHAPTER.next 0 n).set SB_CHAPTER.voids 0 (voidsBelow s n)

/-- Make the slots not wholly erased void, from slot `i` on, up to a slot that is (R392). -/
def voidTo (fuel i : Nat) (s : State) : Nat × State :=
  match fuel with
  | 0 => (i, s)
  | n + 1 =>
    if chapSlots ≤ i ∨ (slotBytes s i).all (fun b => b == flashErased) then (i, s)
    else voidTo n (i + 1) (s.flashProgram (recAt i) (List.replicate 4 0))

/-- Find the slot for the next record (R392). -/
def claimSlot (s : State) : Nat × State := let i := chapNext s; voidTo (chapSlots - i) i s

/-- The chapter takes no record: its slots are used up, it is damaged, or the part is BLANK (R385, R393). -/
def chapterShut (s : State) : Bool := s.on SB_STATUS.damaged || s.get SB_STATUS.lifecycle == 0

/-- Set prev_hash: the SHA-384 of the last valid record, zero for the first ever (R391). -/
def prevHash (s : State) : List Byte :=
  match lastValid s (chapNext s) with
  | some i => sha (slotBytes s i)
  | none => List.replicate 48 0

/-- Complete a record's body with its index, DTIME and chain, sign it and program it; answers the record (R391 to R393). -/
def writeRecord (body : List Byte) (s : State) : List Byte × State :=
  let prev := prevHash s
  let body := patch (patch body 0x10 (leBytes s.dtime 8)) 0x40 prev
  if chapterShut s then (sealed (patch body 0x0C (leBytes (chapNext s) 2)), s)
  else
    let (i, s) := claimSlot s
    let body := patch body 0x0C (leBytes i 2)
    if chapSlots ≤ i then
      let flags := numAt body 0x36 2
      let s := (s.set SB_STATUS.chapter_full 0 1).raise SB_INT.chapter_full
      (sealed (patch body 0x36 (leBytes (setBit flags 14) 2)), showChapter s)
    else
      let r := sealed body
      let s := showChapter ((s.flashProgram (recAt i) r).raise SB_INT.record_written)
      (r, if s.get SB_CHAPTER.next = chapSlots then (s.set SB_STATUS.chapter_full 0 1).raise SB_INT.chapter_full else s)

/-- Show the current boot's record: SB_RECORD and always-on SRAM (R392). -/
def showRecord (r : List Byte) (s : State) : State :=
  let s := s.each (List.range 64) (fun w t => t.set SB_RECORD.word w (numAt r (8 * w) 8))
  { s with aoRecord := r }

/-- Present measurements as flags bits 0 to 5 (R391). -/
def measFlags (meas : List (List Byte)) : Nat := (List.range 6).foldl (fun n i => if (meas.getD i []).isEmpty then n else setBit n i) 0

/-- The microcode measurement: the SHA-384 of the four sequencers' measurements, zero for an absent or empty one (R391). -/
def microMeas (l : List (List Byte)) : List Byte := sha ((List.range 4).flatMap (fun q => fit 48 (l.getD q [])))

/-- The measurement of the item in force of a kind, empty for none. -/
def measOf (s : State) (k : Nat) : List Byte := match itemOf s k with | some i => i.meas | none => []

/-- Measurements 0 to 5 of the items in force (R391). -/
def measures (s : State) : List (List Byte) :=
  [measOf s 1, measOf s 0, if s.aoMicro.any (fun m => !m.isEmpty) then microMeas s.aoMicro else [], measOf s 2, measOf s 3, measOf s 4]

/-- The body of this boot's record, without its index, DTIME and chain (R391). -/
def bootBody (fail : List Nat) (flags : Nat) (s : State) : List Byte :=
  let meas := measures s
  leBytes recMagic 4 ++ leBytes 1 2 ++ leBytes 1 1 ++ leBytes (s.get SB_STATUS.lifecycle) 1
    ++ leBytes (s.get SB_BOOT_COUNT.counter) 4 ++ leBytes 0 2 ++ leBytes (s.get CR_RST_CAUSE.cls) 1 ++ leBytes (s.get CR_RST_CAUSE.src) 1
    ++ leBytes 0 8 ++ leBytes Config.deviceId 8 ++ leBytes Config.romVersion 4 ++ fit 12 Config.romDigest
    ++ leBytes (s.get SB_POLICY.policy) 4 ++ leBytes (s.get SB_STATUS.slot) 1 ++ leBytes (s.get SB_STATUS.trial) 1
    ++ leBytes (measFlags meas + 64 * s.get SB_STATUS.seq_loaded + flags) 2
    ++ (List.range 5).flatMap (fun k => leBytes (fail.getD k 0) 1) ++ leBytes 0 3
    ++ List.replicate 48 (0 : Byte) ++ meas.flatMap (fit 48)
    ++ (List.range 5).flatMap (fun k => leBytes (match itemOf s k with | some i => min i.version 0xFFFF | none => 0) 2)
    ++ (List.range 5).flatMap (fun k => leBytes (min (floorOf s k) 128) 1) ++ [(0 : Byte)]

/-! The boot counter. -/

/-- L: the counter of the last valid record whose signature holds (R389). -/
def lastCounter (s : State) : Option Nat :=
  match lastValid s (chapNext s) with
  | some i => if recordOk (slotBytes s i) then some (numAt (slotBytes s i) 8 4) else none
  | none => none

/-- The boot counter of this boot (R389). -/
def bootCounter (s : State) : Nat :=
  match lastCounter s with
  | some l => max (l + 1) (1024 * s.otp.epoch)
  | none => 1024 * (s.otp.epoch + 1)

/-- Burn epoch bits up to `e` (R389). Answers whether a burn failed. -/
def burnEpoch (e : Nat) (s : State) : Bool × State :=
  if s.otp.epoch < e ∧ e ≤ 256 then
    let p := burn (fun o => { o with epoch := e }) s
    (!p.1, p.2)
  else (false, s)

/-- Settle the counter: burn its epoch where it starts one, show it; answers the flags bits 10 and 11 (R389). -/
def setCounter (s : State) : Nat × State :=
  let c := bootCounter s
  let (failed, s) := if c % 1024 = 0 ∧ (c < 262144 ∨ (lastCounter s).isNone) then burnEpoch (c / 1024) s else (false, s)
  let gone := decide (262144 ≤ c)
  let s := (s.set SB_BOOT_COUNT.counter 0 c).set SB_BOOT_COUNT.epochs 0 (min s.otp.epoch 256)
  let s := s.set SB_STATUS.epoch_exhausted 0 (b2n gone)
  (1024 * b2n gone + 2048 * b2n failed, s)

/-! Sealing. -/

/-- Flash address of the seal staging area (R380). -/
def sealArea : Nat := 0x20000

/-- Steps 3 to 5 of a seal: erase the chapter, program the seal record at index 0, erase the staging area (R397). -/
def sealFinish (s : State) : State :=
  let r := s.flashRead sealArea 512
  let s := (s.flashErase (recAt 0) 0x1000000).flashProgram (recAt 0) r
  let s := s.flashErase sealArea 0x10000
  let s := (s.clear SB_STATUS.chapter_full).clear SB_STATUS.damaged
  showChapter (s.raise SB_INT.seal_done)

/-- A boot that finds a valid record in the staging area resumes the seal (R397). -/
def sealResume (s : State) : State :=
  if leNat (s.flashRead sealArea 4) = recMagic then sealFinish s else s

/-- Mark the chapter damaged where its last valid record fails its signature check (R393). -/
def checkChapter (s : State) : State :=
  match lastValid s (chapNext s) with
  | some i => if recordOk (slotBytes s i) then s else s.set SB_STATUS.damaged 0 1
  | none => s

end Sys2Proof.Machine
end

