-- ==== Sys2Proof/Machine/Interrupts.lean ====
section
/-! DEFINITION. The interrupt controller (20_processors_interrupts.md, R426 to R435). -/

namespace Sys2Proof.Machine

/-- Any bit of an interrupt register of an instance is set. -/
def intAny (s : State) (r : Reg) (i : Nat) : Bool := r.flds.any (fun f => s.get f i != 0)

/-- The *_INT registers whose OR is source 32w, w = 0 to 21, in the order of the windows (R426). -/
def windowInts : List (List (Reg × Nat)) :=
  [[(HIF_INT, 1)], [(QE_INT, 1)], [(MS_INT, 1)], [(ZX_INT, 1)], [(CX_INT, 1)], [(BM_INT, 1)], [(RV_INT, 1)], [(AP_INT, 1)], [(IC_INT, 1)],
   [(SQ_INT, 4)], [(HL_INT, 1)], [(DP_INT, 1)], [(WP_INT, 1)], [(SV_INT, 4), (SV_RED_INT, 4)], [(MC_INT, 1)], [(HG_INT, 1)], [(TH_INT, 1)],
   [(ER_INT, 1)], [(SB_INT, 1)], [(MP_INT, 1)], [(CR_INT, 1)], [(SC_INT, 1)]]

/-- The input of a level source (R426); a reserved source has none, and source 0, the claim value for none, is never raised (log entry
61). -/
def sourceInput (s : State) (n : Nat) : Bool :=
  let w := n / 32
  let i := n % 32
  if n = 0 then false
  else if i = 0 then (windowInts.getD w []).any (fun p => (List.range p.2).any (fun k => intAny s p.1 k))
  else if w = 9 ∧ i ≤ 4 then intAny s SQ_INT (i - 1)
  else if w = 13 ∧ i ≤ 4 then intAny s SV_INT (i - 1)
  else if w = 13 ∧ i ≤ 8 then intAny s SV_RED_INT (i - 5)
  else if w = 20 ∧ i = 1 then s.on CR_INT.wdt_stage1
  else false

/-- Software sources: edge (R426). -/
def isEdge (n : Nat) : Bool := decide (960 ≤ n)

/-- Sources in service for a target. -/
def servedBy (s : State) (t : Nat) : List Nat := (List.range 1024).filter (fun n => s.get X.ic_serv n == t + 1)

/-- The running priority of a target (R428). -/
def runningPrio (s : State) (t : Nat) : Nat := (servedBy s t).foldl (fun p n => max p (s.get IC_SRC.priority n)) 0

/-- The core of a target runs, waits for interrupt or is in a handler (R428). The security core runs while the core rails are
up. -/
def targetRuns (s : State) (t : Nat) : Bool :=
  if t < 8 then s.get AP_CORE_STATUS.state t == 2 || s.get AP_CORE_STATUS.state t == 3
  else if t = secCore then true
  else s.on X.mgt_run

/-- A source is pending (R427). -/
def pendingSrc (s : State) (n : Nat) : Bool :=
  if isEdge n then s.on IC_SRC.pending n else s.on X.ic_in n && s.get IC_SRC.in_service n == 0

/-- A source is eligible for a target (R428). -/
def eligible (s : State) (n t : Nat) : Bool :=
  let p := s.get IC_SRC.priority n
  pendingSrc s n && s.on IC_SRC.enable n && (s.get IC_SRC.targets n).testBit t && decide (s.get IC_TGT_CTRL.threshold t < p)
    && decide (runningPrio s t < p) && s.on IC_TGT_CTRL.enable t && targetRuns s t && s.get IC_SRC.in_service n == 0

/-- An offer of a source to a target is held by moderation (R430). -/
def moderated (s : State) (n t : Nat) : Bool :=
  s.get IC_MOD.count t != 0 && s.get IC_TGT_STATUS.idle t == 0 && decide (s.get IC_SRC.priority n < s.get IC_MOD.bypass_prio t)
    && !(s.get X.ic_rel n).testBit t

/-- The targets from the one after `t`, in cyclic order. -/
def cyclic (t : Nat) : List Nat := (List.range 10).map (fun k => (t + 1 + k) % 10)

/-- Targets to which a source may be offered now, in cyclic order after a target (R429). -/
def offerTargets (s : State) (n after : Nat) : List Nat := (cyclic after).filter (fun t => eligible s n t && !moderated s n t)

/-- Offer a source, or withdraw its offer (R429). -/
def offerSrc (s : State) (n : Nat) : State :=
  let ts := offerTargets s n (s.get IC_SRC.last_target n)
  if s.on IC_SRC.offered n && ts.contains (s.get X.ic_to n) then s
  else match ts with
    | t :: _ => (s.set IC_SRC.offered n 1).set X.ic_to n t
    | [] => (s.clear IC_SRC.offered n).clear X.ic_to n

/-- Sources whose offer to a target moderation holds. -/
def heldFor (s : State) (t : Nat) : List Nat :=
  ((List.range 1024).filter (fun n => pendingSrc s n && s.get IC_SRC.offered n == 0)).filter (fun n => eligible s n t && moderated s n t)

/-- Release the offers that moderation holds for a target (R430). -/
def releaseHeld (t : Nat) (s : State) : State := s.each (heldFor s t) (fun n u => u.setBitOf X.ic_rel n t)

/-- Held arrivals of a target have reached its count (R430). -/
def releaseCount (s : State) (t : Nat) : State :=
  let l := heldFor s t
  if !l.isEmpty && decide (s.get IC_MOD.count t ≤ l.foldl (fun k n => k + s.get IC_SRC.count n) 0) then releaseHeld t s else s

/-- Show a target's running priority, depth and idle bit. Whether a core with nothing in service waits for an interrupt is its
firmware's doing: a free value (R430). -/
def showTarget (s : State) (t : Nat) : State :=
  let l := servedBy s t
  let s := (s.set IC_TGT_STATUS.running t (runningPrio s t)).set IC_TGT_STATUS.depth t (min l.length 15)
  let idle := l.isEmpty && targetRuns s t && s.fresh.testBit t
  let s := s.set IC_TGT_STATUS.idle t (b2n idle)
  if t < 8 ∧ targetRuns s t then s.set AP_CORE_STATUS.state t (if idle then 3 else 2) else s

/-- The evaluation of the IC: pending bits, offers, moderation and the external interrupt lines (R427 to R430). -/
def icEval (s : State) : State :=
  let s := (List.range 10).foldl showTarget s
  let s := s.spend
  let s := (List.range 1024).foldl (fun t n => if isEdge n then t else t.set IC_SRC.pending n (b2n (pendingSrc t n))) s
  let live := (List.range 1024).filter (fun n => pendingSrc s n || s.on IC_SRC.offered n)
  let s := live.foldl offerSrc s
  let s := (List.range 10).foldl releaseCount s
  let s := live.foldl offerSrc s
  s.each (List.range 10) (fun t u => u.set IC_TGT_STATUS.line t (b2n (live.any (fun n => u.on IC_SRC.offered n && u.get X.ic_to n == t))))

/-- Count an arrival (R427). -/
def arrive (n : Nat) (s : State) : State := s.set IC_SRC.count n (min 63 (s.get IC_SRC.count n + 1))

/-- SOURCE_ASSERT: a level input is seen at the level its register now gives it, or a latched edge is synchronised (R426,
R427). -/
def execSourceAssert (src : Nat) (level : Bool) (s : State) : Res :=
  run (okSource src) s (fun s =>
    if isEdge src then
      if level && s.on X.ic_latch src then icEval (arrive src ((s.clear X.ic_latch src).set IC_SRC.pending src 1)) else s
    else if sourceInput s src = level then
      let rising := level && s.get X.ic_in src == 0
      let s := s.set X.ic_in src (b2n level)
      icEval (if rising then arrive src s else if level then s else s.clear X.ic_rel src)
    else s)

/-- SOFTWARE_SOURCE_RAISE: a write of IC_SWSET; edges that find the latch holding one count as one (R426, R427). -/
def execSoftwareSourceRaise (src : Nat) (s : State) : Res :=
  run true s (fun s => if 960 ≤ src ∧ src < 1024 then s.set X.ic_latch src 1 else s)

/-- OFFER_TIMEOUT: offer_ns without a claim; the offer moves to the next eligible target (R429). -/
def execOfferTimeout (src : Nat) (s : State) : Res :=
  run (okSource src) s (fun s =>
    if s.on IC_SRC.offered src then
      let was := s.get X.ic_to src
      match (offerTargets s src was).find? (fun t => t != was) with
      | some t => icEval (s.set X.ic_to src t)
      | none => s
    else s)

/-- MODERATION_RELEASE: time_us has passed since the first held arrival (R430). -/
def execModerationRelease (target : Nat) (s : State) : Res := run (okTarget target) s (fun s => icEval (releaseHeld target s))

/-- The source that a claim of a target returns: the highest eligible, ties to the lowest number; 0 for none (R431). -/
def claimed (s : State) (t : Nat) : Nat :=
  ((List.range 1024).filter (fun n => pendingSrc s n && eligible s n t)).foldl (fun b n =>
    if b = 0 ∨ s.get IC_SRC.priority b < s.get IC_SRC.priority n then n else b) 0

/-- CLAIM: a read of IC_CLAIM of a target by a core (R431). -/
def execClaim (core target : Nat) (s : State) : Res :=
  run (okCore core && okTarget target) s (fun s =>
    if core ≠ target then respond core false 0 s
    else
      let n := claimed s target
      if n = 0 then respond core false 0 (s.inc IC_TGT_STATUS.spurious target)
      else
        let k := s.get IC_SRC.count n
        let s := ((s.set IC_SRC.in_service n 1).clear IC_SRC.pending n).set X.ic_serv n (target + 1)
        let s := ((s.clear IC_SRC.count n).set IC_SRC.last_target n target).clear X.ic_rel n
        let s := (s.clear IC_SRC.offered n).clear X.ic_to n
        respond core false (k * 1024 + n) (icEval s))

/-- COMPLETE: a write of a source number to IC_COMPLETE of a target (R431). -/
def execComplete (core target src : Nat) (s : State) : Res :=
  run (okCore core && okTarget target && okSource src) s (fun s =>
    if s.get X.ic_serv src = target + 1 then icEval ((s.clear IC_SRC.in_service src).clear X.ic_serv src)
    else s.raise IC_INT.bad_complete)

/-- An MGT reset takes out of service every source in service for the management core (R435). -/
def icMgtReset (s : State) : State :=
  icEval (s.each (servedBy s mgtCore) (fun n t => (t.clear IC_SRC.in_service n).clear X.ic_serv n))

end Sys2Proof.Machine
end

