-- ==== Sys2Proof/Machine/Caches.lean ====
section
/-! DEFINITION. Accesses to the two data memories (20_processors_interrupts.md, R415 to R420, R424): those of the application cores, through
their caches, write buffers and outstanding misses, and those of every other master. -/

namespace Sys2Proof.Machine

/-- The application core that a requester is: window 7, instances 0 to 7 (R12). -/
def appCoreOf (master : Nat) : Option Nat := if master / 256 % 32 = 7 ∧ master % 256 < 8 then some (master % 256) else none

/-- The kind of a read, as BM_UE_ADDR and RV_UE_ADDR number it. -/
def kindOf (master : Nat) : Nat := master / 8192

/-- An address that caches can hold: the Reservoir or the Cistern (R13, R417). -/
def cacheable (a : Nat) : Bool := inReservoir a || (decide (cisternBase ≤ a) && decide (a < 0x1F0000000))

/-- A region names an address: enabled, and the address lies in its naturally aligned range (R417). -/
def regionHas (s : State) (r a : Nat) : Bool :=
  let size := 2 ^ s.get AP_REGION_CFG.size_log2 r
  s.on AP_REGION_CFG.enable r && s.get AP_REGION_BASE.addr r / size == a / size

/-- The attribute of an address: that of the highest-numbered region that has it, non-cacheable in none (R417). 0 non-cacheable, 1
write-back, 2 write-through, 3 no-allocate. -/
def attrOf (s : State) (a : Nat) : Nat :=
  if cacheable a then
    match (List.range 16).reverse.find? (fun r => regionHas s r a) with
    | some r => s.get AP_REGION_CFG.attr r
    | none => 0
  else 0

/-! Write buffers. -/

/-- Perform a buffered store. A memory that has stopped taking writes drops it. -/
def bufWrite (e : BufStore) (error : Nat) (s : State) : State := (memStore e.master e.addr e.data error s).getD s

/-- The oldest entry of a core's write buffer is written (R418). -/
def drainOne (c error : Nat) (s : State) : State :=
  match KV.getD s.wbufs c [] with
  | [] => s
  | e :: r => bufWrite e error { s with wbufs := kset [] s.wbufs c r }

/-- A core's write buffer is drained (R418). -/
def drainAll (c : Nat) (s : State) : State := (KV.getD s.wbufs c []).foldl (fun t _ => drainOne c 0 t) s

/-- A store enters its core's write buffer; it waits for an entry where the eight are taken (R418). -/
def bufPush (c master a : Nat) (bs : List Byte) (s : State) : State :=
  let s := if 8 ≤ (KV.getD s.wbufs c []).length then drainOne c 0 s else s
  { s with wbufs := kset [] s.wbufs c (KV.getD s.wbufs c [] ++ [{ master := master, addr := a, data := bs }]) }

/-- A core sees its own stores in program order (R415): a line that its write buffer has bytes of is looked up once it has drained. -/
def drainFor (c line : Nat) (s : State) : State :=
  if (KV.getD s.wbufs c []).any (fun e => (linesOf e.addr e.data.length).contains line) then drainAll c s else s

/-! One line of a core's access. -/

/-- How the part of an access that lies in one line ends. -/
inductive PieceEnd where
  /-- Served, with the bytes read. -/
  | served (bytes : List Byte)
  /-- The access takes a precise access fault. -/
  | fault
  /-- It misses, and a fill of its line is requested. -/
  | miss
  deriving DecidableEq, Repr

/-- A core meets a poisoned half in a line of the L2 (R425). -/
def poisonFault (a : Nat) (s : State) : State :=
  let s := (s.inc AP_ERR_CNT.ue).set AP_ERR_ADDR.cache 0 2
  ((s.set AP_ERR_ADDR.core 0 0).set AP_ERR_ADDR.addr 0 a).alarm AP_INT.ue 0 7 0

/-- An access is an instruction fetch. -/
def isFetch (x : CoreAcc) : Bool := !x.isWrite && kindOf x.master == 0

/-- The bytes of an access that lie in its first line. -/
def pieceLen (x : CoreAcc) : Nat := min x.len (64 - x.addr % 64)

/-- A load or fetch of a line that the L2 holds: the L1 takes a copy, but for a no-allocate region and a poisoned line (R415, R417,
R425). -/
def l2Read (attr c : Nat) (x : CoreAcc) (s : State) : PieceEnd × State :=
  let line := x.addr / 64
  let o := x.addr % 64
  let n := pieceLen x
  let s := mergeL1 line s
  match KV.get s.l2 line with
  | none => (.miss, s)
  | some y =>
    if halves o (o + n) &&& y.poison ≠ 0 then (.fault, poisonFault x.addr s)
    else (.served ((y.data.drop o).take n), if attr ≠ 3 ∧ y.poison = 0 then l1Install (isFetch x) c line y.data s else s)

/-- A store to a line that the L2 holds: other data copies are invalidated, and the line becomes dirty, in the core's L1 where that can
hold it; a write-through store updates it and leaves it as clean as it was (R415, R417). A whole line written clears its poison (R425). -/
def lineWrite (attr c : Nat) (x : CoreAcc) (s : State) : PieceEnd × State :=
  let line := x.addr / 64
  let o := x.addr % 64
  let n := pieceLen x
  let bs := x.data.take n
  let s := mergeL1 line s
  let s := { s with l1d := s.l1d.filter (fun p => p.1.2 != line || p.1.1 == c) }
  match KV.get s.l2 line with
  | none => (.miss, s)
  | some y =>
    let poison := if n = 64 then 0 else y.poison
    if halves o (o + n) &&& poison ≠ 0 then (.fault, poisonFault x.addr s)
    else
      let own := (KV.get s.l1d (c, line)).isSome
      let data := overlay o bs y.data
      if attr = 2 ∨ poison ≠ 0 ∨ (attr = 3 ∧ own = false) then
        (.served [], { s with l2 := KV.put natLt s.l2 line { y with data := data, dirty := y.dirty || attr != 2, poison := poison },
                              l1d := s.l1d.map (fun p => if p.1 = (c, line) then (p.1, { p.2 with data := data }) else p) })
      else
        let s := if own then s else l1Install false c line y.data s
        (.served [], { s with l2 := KV.put natLt s.l2 line { y with poison := poison },
                              l1d := s.l1d.map (fun p => if p.1 = (c, line) then (p.1, { p.2 with data := data, dirty := true }) else p) })

/-- A store that is written to memory past the caches: buffered, or at once from a no-allocate region (R417, R418). -/
def storeOut (attr c : Nat) (x : CoreAcc) (s : State) : PieceEnd × State :=
  let bs := x.data.take (pieceLen x)
  if attr = 3 then
    match memStore x.master x.addr bs x.error s with
    | some t => (.served [], t)
    | none => (.fault, s)
  else if (if inReservoir x.addr then decide (x.addr + bs.length ≤ rvEnd) else (cisternGap s x.addr bs.length).isNone) then
    (.served [], bufPush c x.master x.addr bs s)
  else (.fault, s)

/-- A non-cacheable access ignores any cached copy; a load waits for the write buffer (R417, R418). -/
def pastCaches (c : Nat) (x : CoreAcc) (s : State) : PieceEnd × State :=
  if x.isWrite then storeOut 0 c x s
  else
    match memLoad x.master (kindOf x.master) x.addr (pieceLen x) x.error (if isFetch x then s else drainAll c s) with
    | (some bs, t) => (.served bs, t)
    | (none, t) => (.fault, t)

/-- The part of an access that lies in its first line, under an attribute: an L1 hit, an L2 hit, a recall from the victim cache or a
miss (R415, R417, R418, R420). -/
def corePiece (attr c : Nat) (x : CoreAcc) (s : State) : PieceEnd × State :=
  if attr = 0 then pastCaches c x s
  else
    let line := x.addr / 64
    let s := drainFor c line s
    let s := if (KV.get s.l2 line).isSome then s else recallVictim line s
    if x.isWrite then
      match lineWrite attr c x s with
      | (.served b, t) => if attr = 2 then (match storeOut 2 c x t with | (.fault, u) => (.fault, u) | (_, u) => (.served b, u)) else (.served b, t)
      | (.fault, t) => (.fault, t)
      | (.miss, t) => if attr = 1 then (.miss, t) else storeOut attr c x t
    else
      match KV.get (if isFetch x then s.l1i else s.l1d) (c, line) with
      | some y => (.served ((y.data.drop (x.addr % 64)).take (pieceLen x)), s)
      | none => l2Read attr c x s

/-- What is left of an access once its first line is served. -/
def accNext (x : CoreAcc) (bs : List Byte) : CoreAcc :=
  let n := pieceLen x
  { x with addr := x.addr + n, len := x.len - n, data := x.data.drop n, got := x.got ++ bs }

/-- Serve an access line by line, until it completes, faults, misses or waits for the caches to be invalidated (R418, R419). -/
def coreGo : Nat → Nat → CoreAcc → State → State
  | 0, _, x, s => respond x.master false (leNat x.got) s
  | n + 1, c, x, s =>
    if x.len = 0 then respond x.master false (leNat x.got) s
    else
      let attr := attrOf s x.addr
      if attr ≠ 0 ∧ s.on X.cache_inval = true then { s with coreWait := s.coreWait ++ [(c, x)] }
      else
        match corePiece attr c x s with
        | (.served b, t) => coreGo n c (accNext x b) t
        | (.fault, t) => respond x.master true 0 t
        | (.miss, t) => { t with fills := KV.put natLt t.fills c { acc := x, attr := attr, read := none, dma := [] } }

/-- Lines that an access can touch, and one more. -/
def accFuel (x : CoreAcc) : Nat := x.len / 64 + 3

/-- A core is blocked: its miss is outstanding or an access of its waits (R418, R419). -/
def coreBlocked (s : State) (c : Nat) : Bool := (KV.get s.fills c).isSome || s.coreWait.any (fun p => p.1 == c)

/-- An access by an application core; a blocked core's waits (R418). -/
def coreAccess (c : Nat) (x : CoreAcc) (s : State) : State :=
  if coreBlocked s c then { s with coreWait := s.coreWait ++ [(c, x)] } else coreGo (accFuel x) c x s

/-- A core goes on with the accesses that waited, oldest first, until one misses. -/
def coreResume : Nat → Nat → State → State
  | 0, _, s => s
  | n + 1, c, s =>
    if (KV.get s.fills c).isSome || s.on X.cache_inval then s
    else
      match s.coreWait.find? (fun p => p.1 == c) with
      | none => s
      | some p =>
        let rest := s.coreWait.filter (fun q => q.1 == c)
        let others := s.coreWait.filter (fun q => q.1 != c)
        coreResume n c (coreGo (accFuel p.2) c p.2 { s with coreWait := rest.drop 1 ++ others })

/-! Fills. -/

/-- The bytes that a fill reads and the offsets of those that are not delivered. `error` is what the check bits show: 0 none, 1 one
bit, 2 uncorrectable, at address `bad` or, where that lies outside the line, at the access: one byte of the Reservoir, a unit of the
Cistern (R406, R411, R424). -/
def fillRead (f : Fill) (error bad : Nat) (s : State) : List Byte × List Nat :=
  let line := f.acc.addr / 64
  let m := f.read.getD (lineInMemory s line)
  let o := (if bad / 64 = line then bad else f.acc.addr) % 64
  let more := fun (k : Nat) => error == 2 && (if inReservoir (64 * line) then k == o else k / 32 == o / 32)
  (m.1, (List.range 64).filter (fun k => m.2.contains k || more k))

/-- The access needs the byte at an offset of its first line. -/
def needs (x : CoreAcc) (k : Nat) : Bool := decide (x.addr % 64 ≤ k) && decide (k < x.addr % 64 + pieceLen x)

/-- Count and record what a fill's read met: corrected, or each Reservoir byte and each Cistern unit that is not delivered. A Reservoir
byte that no access needed is of kind 3 (R406, R411). -/
def fillErrors (x : CoreAcc) (bad : List Nat) (error : Nat) (s : State) : State :=
  let a := 64 * (x.addr / 64)
  let s :=
    if error = 1 then (if inReservoir a then rvCorrected x.addr s else match deviceOf s a with | some d => correctedRead d s | none => s)
    else s
  if inReservoir a then bad.foldl (fun t k => rvUncorrectable x.master (if needs x k then kindOf x.master else 3) (a + k) t) s
  else
    ([0, 32].filter (fun k => bad.contains k)).foldl (fun t k =>
      match deviceOf t a with | some d => poisonedRead d x.master (kindOf x.master) (a + k) t | none => t) s

/-- A fill ends: the line is installed where its region allocates, and the access that caused it goes on with the filled data. A line with
undelivered bytes is not allocated, and only an access that needs them faults (R406, R411, R417, R418, R424). A line that another core's
fill has installed meanwhile is not installed twice. -/
def fillEnd (c error bad : Nat) (f : Fill) (s : State) : State :=
  let x := f.acc
  let a := 64 * (x.addr / 64)
  let o := x.addr % 64
  let n := pieceLen x
  match (if inReservoir a then none else cisternGap s a 64) with
  | some u => respond x.master true 0 (cisternRefuse x.master (kindOf x.master) u s)
  | none =>
    let m := fillRead f error bad s
    let s := fillErrors x m.2 error { s with freeCtr := s.freeCtr + 64 }
    if m.2.any (needs x) then respond x.master true 0 s
    else
      let bytes := (m.1.drop o).take n
      let out : PieceEnd × State :=
        if (cachedLine s (x.addr / 64)).isSome then corePiece f.attr c x s
        else if m.2 ≠ [] ∨ f.attr = 3 then (if x.isWrite then storeOut 3 c x s else (.served bytes, s))
        else
          let s := l2Install (x.addr / 64) { way := 0, data := m.1, dirty := false, poison := 0 } s
          if x.isWrite then lineWrite f.attr c x s else l2Read f.attr c x s
      match out with
      | (.served b, t) => coreGo (accFuel x) c (accNext x b) t
      | (_, t) => respond x.master true 0 t

/-- A DMA write that came during the fill invalidates the installed line; what it wrote stays in memory (R424). -/
def fillStale (f : Fill) (s : State) : State :=
  let line := f.acc.addr / 64
  if f.dma.isEmpty then s
  else match cachedLine s line with | some y => dropLine line (lineBack line y f.dma s) | none => s

/-! Masters that do not use the caches. -/

/-- What a read by such a master returns of a byte: the caches' copy where they hold the line, else the memory's (R415). -/
def coherentByte (s : State) (a k : Nat) (mem : List Byte) : Byte :=
  match cachedLine s ((a + k) / 64) with
  | some y => y.data.getD ((a + k) % 64) 0
  | none => mem.getD k 0

/-- The line of a read that the caches hold poisoned in a half it touches (R425). -/
def poisonMet (s : State) (a n : Nat) : Option Nat :=
  (linesOf a n).find? (fun line => match cachedLine s line with
    | some y => halves (inLine a n line).1 (inLine a n line).2 &&& y.poison != 0
    | none => false)

/-- A read by a master that does not use the caches: it returns dirty data, and halts where it meets poison in them (R415, R425). -/
def dmaRead (master a n error : Nat) (s : State) : State :=
  match poisonMet s a n with
  | some line => respond master true 0 (poisonFault (64 * line) s)
  | none =>
    if n ≠ 0 ∧ (linesOf a n).all (fun line => (cachedLine s line).isSome) = true ∧ cacheable a = true then
      respond master false (leNat ((List.range n).map (fun k => coherentByte s a k []))) s
    else
      match memLoad master (kindOf master) a n error s with
      | (some bs, t) => respond master false (leNat ((List.range n).map (fun k => coherentByte s a k bs))) t
      | (none, t) => respond master true 0 t

/-- A write by such a master: every cached copy of what it writes is invalidated (R415, R424). -/
def dmaStore (master a : Nat) (data : List Byte) (error : Nat) (s : State) : State :=
  match memStore master a data error s with
  | some _ =>
    let s := dmaWrites a data.length s
    respond master false 0 ((memStore master a data error s).getD s)
  | none => respond master true 0 s

end Sys2Proof.Machine
end

