-- ==== Sys2Proof/Machine/Processors.lean ====
section
/-! DEFINITION. The processor cores, their caches and the maintenance engine (20_processors_interrupts.md, R412 to R425). -/

namespace Sys2Proof.Machine

/-! Codes of AP_CORE_STATUS.state. -/
def coreHeld : Nat := 0
def coreInval : Nat := 1
def coreRuns : Nat := 2
def coreStopped : Nat := 5

/-- Who may write the run bit of an application core: the security core, and for cores 1 to 7 any application core (R414). -/
def mayRun (core target : Nat) : Bool := core == secCore || (target != 0 && decide (core < 8))

/-- An application core starts at an address: it invalidates its caches while the caches of the part do (R414, R419). -/
def coreStart (c addr : Nat) (s : State) : State :=
  let s := (s.set AP_CORE_CTRL.run c 1).set X.ap_start c addr
  s.set AP_CORE_STATUS.state c (if s.on X.cache_inval then coreInval else coreRuns)

/-- Where a core starts when its run bit is set: AP_RESET_VEC, which core 0 ignores for the entry of the application firmware (R414,
AP_RESET_VEC). -/
def startVec (s : State) (target : Nat) : Nat := if target = 0 then s.get X.ap_start 0 else s.get AP_RESET_VEC.addr target

/-- CORE_RUN: AP_CORE_CTRL.run is set and the core starts (R414). Without an image or application firmware the application cores are not
released (R52, R388). -/
def execCoreRun (core target : Nat) (s : State) : Res :=
  run (okCore core && okAppCore target) s (fun s =>
    if mayRun core target && s.get AP_CORE_CTRL.run target == 0 && !imagelessState s && s.get SB_STATUS.app_absent == 0 then
      icEval (coreStart target (startVec s target) s)
    else s)

/-- The time CSR of every core: ticks of XTAL (R412). -/
def timeCsr (s : State) : Nat := s.dtime / 40

/-- A core's machine software interrupt: its bit of AP_MSIP (R412). -/
def softInt (s : State) (c : Nat) : Bool := (s.get AP_MSIP.pending).testBit c

/-- Raise or lower a core's machine timer interrupt by ⌊DTIME ÷ 40⌋ ≥ AP_MTIMECMP (R412). -/
def timerEval (c : Nat) (s : State) : State := s.set X.ap_mtip c (b2n (decide (s.get AP_MTIMECMP.value c ≤ timeCsr s)))

/-- MACHINE_TIMER: the time of a core's compare is reached (R412). -/
def execMachineTimer (core : Nat) (s : State) : Res := run (okAppCore core) s (timerEval core)

/-- CACHE_INVALIDATE_DONE: 4,096 ACLK cycles after the release of internal reset the caches are empty and cacheable accesses
proceed (R419). -/
def execCacheInvalidateDone (s : State) : Res :=
  run true s (fun s =>
    let s := s.clear X.cache_inval
    let s := s.each ((List.range 8).filter (fun c => s.get AP_CORE_STATUS.state c == coreInval)) (fun c t => t.set AP_CORE_STATUS.state c coreRuns)
    icEval (s.each (List.range 8) (fun c t => coreResume (t.coreWait.length + 1) c t)))

/-- L2_LOCK_WRITE: a write that would lock all 16 ways is refused (R421). -/
def l2LockWrite (v : Nat) (s : State) : State :=
  if v % 65536 = 0xFFFF then s.raise AP_INT.lock_refused else s.set AP_L2_LOCK.ways 0 v

/-- L2_LOCK_WRITE (R421). -/
def execL2LockWrite (value : Nat) (s : State) : Res := run true s (l2LockWrite value)

/-- The first line of the range of a maintenance operation (R422). -/
def cmoFirst (s : State) : Nat := s.get AP_CMO_START.addr / 64

/-- How many lines the range holds, the line of AP_CMO_END included (R422). -/
def cmoLines (s : State) : Nat := s.get AP_CMO_END.addr / 64 + 1 - cmoFirst s

/-- A line lies in a locked way (R421, R423). -/
def lineLocked (s : State) (line : Nat) : Bool :=
  match KV.get s.l2 line with | some x => (s.get AP_L2_LOCK.ways).testBit x.way | none => false

/-- The maintenance engine runs an operation (R422). -/
def cmoBegin (op : Nat) (s : State) : State := ((s.set AP_CMO_STATUS.busy 0 1).set AP_CMO_STATUS.result 0 0).set X.cmo_op 0 op

/-- The result and address with which it will end (R422). -/
def cmoEnds (result addr : Nat) (s : State) : State := (s.set X.cmo_end 0 result).set X.cmo_addr 0 addr

/-- A request while the engine is busy is refused with result 2; otherwise the operation starts with no line skipped (R422). -/
def cmoStart (s : State) (g : State → State) : State :=
  if s.on AP_CMO_STATUS.busy then s.set AP_CMO_STATUS.result 0 2 else g (s.clear AP_CMO_STATUS.locked_skipped)

/-- The address that an operation over the whole range reaches. -/
def cmoLast (s : State) : Nat := 64 * (s.get AP_CMO_END.addr / 64)

/-- A line is cleaned: dirty data of the L1, the L2 or the victim cache is written back, with its poison, and stays valid (R422). -/
def cleanLine (line : Nat) (s : State) : State :=
  let s := mergeL1 line s
  match cachedLine s line with
  | some x =>
    let clean := fun (p : Nat × CacheLine) => if p.1 = line then (p.1, { p.2 with dirty := false }) else p
    let s := lineBack line x [] s
    { s with l2 := s.l2.map clean, victim := s.victim.map clean }
  | none => s

/-- A line in a locked way that an invalidate-by-range reaches: its L1 copies go, their dirty data merged, and it is counted (R423). -/
def skipLocked (line : Nat) (s : State) : State := ((dropL1 line (mergeL1 line s)).inc AP_CMO_STATUS.locked_skipped).raise AP_INT.locked_hit

/-- What an operation does to a line: 1 clean, 2 invalidate, 3 clean and invalidate, 5 and 6 as 3 with locked lines removed as well
(R422, R423). -/
def cmoLine (op line : Nat) (s : State) : State :=
  let locked := lineLocked s line
  let s := if op = 2 then s else cleanLine line s
  if op = 1 then s
  else if locked = true ∧ (op = 2 ∨ op = 3) then skipLocked line s
  else dropLine line s

/-- The lines of the L2 and the victim cache from `lo` to before `hi`, ascending. -/
def cachedSpan (s : State) (lo hi : Nat) : List Nat :=
  (((s.l2.map (fun p => p.1)) ++ (s.victim.map (fun p => p.1))).filter (fun l => decide (lo ≤ l) && decide (l < hi))).foldl
    (fun m l => insertNat l m) []

/-- The lowest line from `lo` to before `hi` whose fill is under way (R424). -/
def pendingFill (s : State) (lo hi : Nat) : Option Nat :=
  ((s.fills.map (fun p => p.2.acc.addr / 64)).filter (fun l => decide (lo ≤ l) && decide (l < hi))).foldl
    (fun m l => match m with | some k => some (min k l) | none => some l) none

/-- A line's fill holds the operation (R424). -/
def cmoHold (line : Nat) (s : State) : State :=
  ((s.set X.cmo_held 0 1).set X.cmo_at 0 line).set AP_CMO_STATUS.addr 0 (64 * line)

/-- The operation goes on from a line to the end of its range; a fill that is under way holds it (R422, R424). -/
def cmoGo (op lo hi : Nat) (s : State) : State :=
  let act := fun (a b : Nat) (t : State) => (cachedSpan t a b).foldl (fun u l => cmoLine op l u) t
  match pendingFill s lo hi with
  | some p => cmoHold p (act lo p s)
  | none => act lo hi s

/-- An operation over the range (R422). -/
def cmoRange (op : Nat) (s : State) : State :=
  cmoGo op (cmoFirst s) (cmoFirst s + cmoLines s) (cmoEnds 1 (cmoLast s) (cmoBegin op s))

/-- CLEAN (R422). -/
def execClean (s : State) : Res := run true s (fun s => cmoStart s (cmoRange 1))

/-- INVALIDATE (R422, R423). -/
def execInvalidate (s : State) : Res := run true s (fun s => cmoStart s (cmoRange 2))

/-- CLEAN_AND_INVALIDATE (R422, R423). -/
def execCleanAndInvalidate (s : State) : Res := run true s (fun s => cmoStart s (cmoRange 3))

/-- Place a line in a locked way: moved from another way, recalled or fetched. A line that memory does not deliver whole is not placed
(R406, R411, R422). -/
def lockPlace (way line : Nat) (s : State) : State :=
  match cachedLine s line with
  | some x =>
    let s := mergeL1 line s
    { s with l2 := KV.put natLt s.l2 line { x with way := way }, victim := s.victim.filter (fun p => p.1 != line) }
  | none =>
    let a := 64 * line
    if (inReservoir a || (cisternGap s a 64).isNone) = true ∧ cacheable a = true then
      let m := lineInMemory s line
      let s := { s with freeCtr := s.freeCtr + 64 }
      if m.2 = [] then { s with l2 := KV.put natLt s.l2 line { way := way, data := m.1, dirty := false, poison := 0 } }
      else fillErrors { master := 0x2700, isWrite := false, addr := a, data := [], len := 0, got := [], error := 0 } m.2 0 s
    else s

/-- Place lines in a locked way, ascending, until one maps to the set of a line before it, or to a set whose line of that way is
another's, which is never evicted (R421, R422; the latter by inference, log entry 115). -/
def lockFill (way : Nat) : Nat → Nat → State → State
  | 0, _, s => s
  | n + 1, line, s =>
    if (s.fills.any (fun p => p.2.acc.addr / 64 == line)) = true then cmoHold line s
    else if l2Sets ≤ line - cmoFirst s ∨ (match l2At s line way with | some l => l ≠ line | none => false) = true then cmoEnds 4 (64 * line) s
    else lockFill way n (line + 1) (lockPlace way line s)

/-- Lines that a lock-fill can place before it must conflict, and one more. -/
def lockSpan (s : State) (line : Nat) : Nat := min (l2Sets + 1) (cmoFirst s + cmoLines s - line)

/-- LOCK_FILL: into a way that is not locked it is refused with result 3 (R422). -/
def cmoLockFill (s : State) : State :=
  let way := s.get AP_CMO_CTRL.way
  if (s.get AP_L2_LOCK.ways).testBit way then
    lockFill way (lockSpan s (cmoFirst s)) (cmoFirst s) (cmoEnds 1 (cmoLast s) (cmoBegin 4 s))
  else s.set AP_CMO_STATUS.result 0 3

/-- LOCK_FILL (R422). -/
def execLockFill (s : State) : Res := run true s (fun s => cmoStart s cmoLockFill)

/-- INVALIDATE_INCLUDING_LOCKED: as a clean and invalidate, with lines in locked ways removed (R422). -/
def execInvalidateIncludingLocked (s : State) : Res := run true s (fun s => cmoStart s (cmoRange 5))

/-- Lines that the 40-bit map has. -/
def allLines : Nat := 2 ^ 34

/-- CLEAN_AND_INVALIDATE_ALL: every line of every cache, the range ignored (R422). -/
def cmoAll (s : State) : State := cmoGo 6 0 allLines (cmoEnds 1 0 (cmoBegin 6 s))

/-- CLEAN_AND_INVALIDATE_ALL (R422). -/
def execCleanAndInvalidateAll (s : State) : Res := run true s (fun s => cmoStart s cmoAll)

/-- Start the operation that a write of AP_CMO_CTRL.op names (R422). -/
def cmoOp (op : Nat) (s : State) : State :=
  match op with
  | 4 => cmoStart s cmoLockFill
  | 6 => cmoStart s cmoAll
  | _ => if op = 1 ∨ op = 2 ∨ op = 3 ∨ op = 5 then cmoStart s (cmoRange op) else s

/-- A line is installed or its fill dropped: an operation that waits at it goes on, and acts on the installed line (R424). -/
def cmoResume (line : Nat) (s : State) : State :=
  if s.on X.cmo_held ∧ s.get X.cmo_at = line ∧ s.fills.any (fun p => p.2.acc.addr / 64 == line) = false then
    let s := s.clear X.cmo_held
    match s.get X.cmo_op with
    | 4 => lockFill (s.get AP_CMO_CTRL.way) (lockSpan s line) line s
    | 6 => cmoGo 6 line allLines s
    | op => cmoGo op line (cmoFirst s + cmoLines s) s
  else s

/-- CMO_DONE: the operation reaches the end of its range; one that a fill holds has not (R422, R424). -/
def execCmoDone (s : State) : Res :=
  run true s (fun s =>
    if s.on AP_CMO_STATUS.busy ∧ s.get X.cmo_held = 0 then
      let s := (s.clear AP_CMO_STATUS.busy).set AP_CMO_STATUS.result 0 (s.get X.cmo_end)
      let s := (s.set AP_CMO_STATUS.addr 0 (s.get X.cmo_addr)).clear X.cmo_op
      s.raise AP_INT.cmo_done
    else s)

/-- What a protection error does (R425). `kind`: 0 parity, 1 one bit, 2 several bits of a clean line, 3 several bits of a dirty line,
4 tag parity of a clean line, 5 tag parity of a dirty line, 6 poison. -/
inductive CacheErr where
  | corrected
  | uncorrectable
  | tagLost
  /-- R425 names no such error. -/
  | none
  deriving DecidableEq, Repr

/-- The row of R425's table. `cache`: 0 L1 instruction, 1 L1 data, 2 L2, 3 victim. -/
def cacheErr (cache kind : Nat) : CacheErr :=
  match cache, kind with
  | 0, 0 => .corrected
  | 1, 1 => .corrected
  | 1, 2 => .corrected
  | 1, 3 => .uncorrectable
  | 1, 4 => .corrected
  | 1, 5 => .tagLost
  | 2, 1 => .corrected
  | 2, 2 => .uncorrectable
  | 2, 3 => .uncorrectable
  | 2, 5 => .tagLost
  | 2, 6 => .uncorrectable
  | 3, 1 => .corrected
  | 3, 2 => .uncorrectable
  | 3, 3 => .uncorrectable
  | 3, 6 => .uncorrectable
  | _, _ => .none

/-- Record the place of an uncorrectable error (AP_ERR_ADDR). -/
def errAt (cache core addr : Nat) (s : State) : State :=
  ((s.inc AP_ERR_CNT.ue).set AP_ERR_ADDR.cache 0 cache |>.set AP_ERR_ADDR.core 0 (if cache ≤ 1 then core else 0)).set AP_ERR_ADDR.addr 0 addr

/-- What an error does to the line: an L1 line with a parity error, or several bits wrong while clean, is invalidated, and the next access
refetches it; a dirty L1 line goes to the L2 with both halves poisoned; a line whose dirty tag is lost is dropped; a line of the L2 or the
victim cache has the half poisoned (R425). -/
def errLine (cache core kind addr : Nat) (s : State) : State :=
  let line := addr / 64
  let poisoned := fun (p : Nat × CacheLine) =>
    if p.1 = line then (p.1, { p.2 with poison := p.2.poison ||| halves (addr % 64) (addr % 64 + 1) }) else p
  match cache, kind with
  | 0, 0 => { s with l1i := KV.del s.l1i (core, line) }
  | 1, 2 => { s with l1d := KV.del s.l1d (core, line) }
  | 1, 3 =>
    let s := mergeL1 line s
    { s with l1d := KV.del s.l1d (core, line), l2 := s.l2.map (fun p => if p.1 = line then (p.1, { p.2 with poison := 3, dirty := true }) else p) }
  | 1, 4 => { s with l1d := KV.del s.l1d (core, line) }
  | 1, 5 => { s with l1d := KV.del s.l1d (core, line) }
  | 2, 5 => { dropL1 line s with l2 := KV.del s.l2 line }
  | 2, 2 => { s with l2 := s.l2.map poisoned }
  | 2, 3 => { s with l2 := s.l2.map poisoned }
  | 3, 2 => { s with victim := s.victim.map poisoned }
  | 3, 3 => { s with victim := s.victim.map poisoned }
  | _, _ => s

/-- CACHE_PROTECTION_ERROR (R425). -/
def execCacheProtectionError (cache core kind addr : Nat) (s : State) : Res :=
  run (okAppCore core) s (fun s =>
    let s := errLine cache core kind addr s
    match cacheErr cache kind with
    | .corrected => (s.inc AP_ERR_CNT.ce).raise AP_INT.ce
    | .uncorrectable =>
      let s := (errAt cache core addr s).alarm AP_INT.ue 0 7 (if cache ≤ 1 then core else 0)
      respond core true 0 s
    | .tagLost => (errAt cache core 0 s).alarm AP_INT.tag_lost 0 7 (if cache ≤ 1 then core else 0)
    | .none => s)

/-! Accesses. -/

/-- A core's outstanding miss is served: the line is installed, a DMA write that came meanwhile invalidates it, a maintenance operation
that waits at it goes on, and the core goes on (R418, R424). -/
def fillServed (c error bad : Nat) (f : Fill) (s : State) : State :=
  let line := f.acc.addr / 64
  let s := fillEnd c error bad f { s with fills := KV.del s.fills c }
  let s := cmoResume line (fillStale f s)
  coreResume (s.coreWait.length + 1) c s

/-- A core finishes the accesses that it has outstanding, each miss with its fill, and drains its write buffer (R414, R418). -/
def coreFinish (c : Nat) : Nat → State → State
  | 0, s => drainAll c s
  | n + 1, s =>
    match KV.get s.fills c with
    | some f => coreFinish c n (fillServed c 0 0 f s)
    | none => drainAll c s

/-- A core that stops finishes its outstanding accesses, its L1 data cache is cleaned into the L2, and both its L1 caches are
invalidated (R414). -/
def coreQuiet (c : Nat) (s : State) : State :=
  let s := coreFinish c (s.coreWait.length + (s.coreWait.map (fun p => accFuel p.2)).sum + 1) s
  let s := (s.l1d.filter (fun p => p.1.1 == c)).foldl (fun t p => mergeL1 p.1.2 t) s
  { s with l1d := s.l1d.filter (fun p => p.1.1 != c), l1i := s.l1i.filter (fun p => p.1.1 != c) }

/-- CORE_STOP: AP_CORE_CTRL.run is cleared; the core finishes its accesses, cleans and invalidates its L1 caches and stops
(R414). -/
def execCoreStop (core target : Nat) (s : State) : Res :=
  run (okCore core && okAppCore target) s (fun s =>
    if mayRun core target && s.on AP_CORE_CTRL.run target then
      icEval (((coreQuiet target s).clear AP_CORE_CTRL.run target).set AP_CORE_STATUS.state target coreStopped)
    else s)

/-- An access to one of the two data memories; `mine` tells its addresses (R14, R415, R418). -/
def memAccess (mine : Nat → Bool) (master : Nat) (op : MemOp) (addr : Nat) (data : List Byte) (len error : Nat) (s : State) : State :=
  match op, appCoreOf master with
  | .read, some c =>
    if mine addr then
      coreAccess c { master := master, isWrite := false, addr := addr, data := [], len := len, got := [], error := error } s
    else respond master true 0 s
  | .write, some c =>
    if mine addr then
      coreAccess c { master := master, isWrite := true, addr := addr, data := data, len := data.length, got := [], error := error } s
    else respond master true 0 s
  | .read, none => if mine addr then dmaRead master addr len error s else respond master true 0 s
  | .write, none => if mine addr then dmaStore master addr data error s else respond master true 0 s
  | .fill, some c =>
    match KV.get s.fills c with
    | some f => if mine f.acc.addr then fillServed c error addr f s else s
    | none => s
  | .drain, some c =>
    match KV.getD s.wbufs c [] with
    | e :: _ => if mine e.addr then drainOne c error s else s
    | [] => s
  | .fence instr, some c =>
    let s := drainAll c s
    if instr then { s with l1i := s.l1i.filter (fun p => p.1.1 != c) } else s
  | _, none => s

/-- CISTERN_ACCESS: an unbacked address is a bus error; a lost device's range ends as a poisoned read or a halted write;
otherwise the check-word test corrects, merges or poisons. An application core reaches the Cistern through its caches and write buffer
(R14, R405, R406, R407, R415 to R418, R424). `error` is what the stored bits of the first unit show: 0 none, 1 one bit, 2
uncorrectable. -/
def execCisternAccess (master : Nat) (op : MemOp) (addr : Nat) (data : List Byte) (len error : Nat) (s : State) : Res :=
  run true s (fun s => memAccess (fun a => decide (cisternBase ≤ a)) master op addr data len error s)

/-! Private memories (R413). -/

/-- First local address of a private memory, and its size: 512 KiB for the security core, 256 KiB for the management core. -/
def privBase : Nat := 0x8000000
def privSize (core : Nat) : Nat := if core = secCore then 0x80000 else 0x40000

/-- A local address of the security or the management core lies in its private memory. -/
def inPrivate (core a : Nat) : Bool :=
  (core == secCore || core == mgtCore) && decide (privBase ≤ a) && decide (a < privBase + privSize core)

/-- An access of a core to its private memory, at a local address. Each 32-bit word carries SEC-DED: an uncorrectable one (`error` 2)
gives the core a precise access fault (R413). -/
def privAccess (core : Nat) (isWrite : Bool) (a : Nat) (data : List Byte) (n error : Nat) (s : State) : State :=
  if privBase + privSize core < a + n then respond core true 0 s
  else
    let o := a - privBase
    if isWrite then
      if core = secCore then respond core false 0 { s with secMem := memWrite s.secMem 0 o data }
      else respond core false 0 { s with mgtMem := memWrite s.mgtMem 0 o data }
    else if error = 2 then respond core true 0 s
    else respond core false (leNat (memRead (if core = secCore then s.secMem else s.mgtMem) 0 o n)) s

/-- The security or management core that a requester is: window 7, instances 8 and 9 (R12, R413). -/
def localCoreOf (master : Nat) : Option Nat :=
  if master / 256 % 32 = 7 ∧ (master % 256 = secCore ∨ master % 256 = mgtCore) then some (master % 256) else none

/-- An access of a security or management core to its private memory by RESERVOIR_ACCESS, none for any other access (R413). -/
def privOf (master : Nat) (op : MemOp) (addr : Nat) (data : List Byte) (len error : Nat) (s : State) : Option State :=
  match op, localCoreOf master with
  | .read, some c => if inPrivate c addr then some (privAccess c false addr [] len error s) else none
  | .write, some c => if inPrivate c addr then some (privAccess c true addr data data.length error s) else none
  | _, _ => none

/-- RESERVOIR_ACCESS: per-byte correction; an uncorrectable byte faults the access. An application core reaches the Reservoir through its
caches and write buffer (R409, R410, R411, R415 to R418, R424). `error` is what the stored bits show: 0 none, 1 one bit, 2
uncorrectable. The security and management cores reach their private memories by it at their local addresses (R413). -/
def execReservoirAccess (master : Nat) (op : MemOp) (addr : Nat) (data : List Byte) (len error : Nat) (s : State) : Res :=
  run true s (fun s => (privOf master op addr data len error s).getD (memAccess inReservoir master op addr data len error s))

end Sys2Proof.Machine
end

