-- ==== Sys2Proof/Machine/Boot.lean ====
section
/-! DEFINITION. The boot sequence and the actions of the security and boot block (18_boot_record.md, R387 to R397). -/

namespace Sys2Proof.Machine

/-- The straps as MP_STATUS shows them (R451). -/
def showStraps (s : State) : State :=
  let st := s.get X.straps
  let s := s.set MP_STATUS.bus 0 (b2n (st.testBit 1))
  s.set MP_STATUS.addr 0 (if st.testBit 2 then 0x1E else 0x1D)

/-- An MGT reset: the MP registers marked MGT and the management core; the endpoint ID is kept, requests in progress are lost
(R365, R435, R452, R458). -/
def mgtReset (s : State) : State :=
  let eid := s.get MP_STATUS.eid
  let s := s.resetClasses (fun c => c == 9)
  let s := (showStraps s).set MP_STATUS.eid 0 eid
  let s := s.set MP_STATUS.rails_off 0 (s.get X.core_off)
  icMgtReset { s with mpAsm := [], mpStage := [], mpWait := [] }

/-! Choosing slots. -/

/-- The slots of a kind in the order tried (R51, R387, R390). -/
def tryOrder (m : SlotMark) : List Nat := if m.pending && !m.trial then [1 - m.active, m.active] else [m.active, 1 - m.active]

/-- Try slots in order: the failures, oldest first, and the slot that passes. -/
def trySlots (fail : Nat → Option Nat) : List Nat → List (Nat × Nat) × Option Nat
  | [] => ([], none)
  | x :: r =>
    match fail x with
    | none => ([], some x)
    | some c => let p := trySlots fail r; ((x, c) :: p.1, p.2)

/-- The marks of a kind after its slots have been tried: a pending image or calibration set that passes becomes active, a pending
item of another kind goes on trial, one that fails or was not confirmed loses its mark (R51, R390). -/
def marked (k : Nat) (m : SlotMark) (failed : List (Nat × Nat)) (booted : Option Nat) : SlotMark :=
  if m.trial then { m with pending := false, trial := false, code := 7 }
  else if m.pending then
    if booted = some (1 - m.active) then
      if k = 0 ∨ k = 4 then { m with active := 1 - m.active, pending := false } else { m with trial := true }
    else { m with pending := false, code := ((failed.find? (fun p => p.1 == 1 - m.active)).map (fun p => p.2)).getD m.code }
  else match failed.reverse with
    | p :: _ => { m with code := p.2 }
    | [] => m

/-- The last code of a slot among failures. -/
def codeOf (failed : List (Nat × Nat)) (slot : Nat) : Nat := ((failed.find? (fun p => p.1 == slot)).map (fun p => p.2)).getD 0

/-- The code of the last failure, 0 for none. -/
def lastCode (failed : List (Nat × Nat)) : Nat := match failed.reverse with | p :: _ => p.2 | [] => 0

/-- Put an item in force. -/
def putItem (i : BootItem) (s : State) : State :=
  let l := s.items.filter (fun j => j.kind != i.kind)
  { s with items := l.filter (fun j => decide (j.kind < i.kind)) ++ [i] ++ l.filter (fun j => decide (i.kind < j.kind)) }

/-- A container's payload. -/
def payload (rd : Nat → Nat) : List Byte := rdBytes rd 64 (payLen rd)

/-- A container as an item in force. -/
def contItem (kind slot : Nat) (rd : Nat → Nat) : BootItem :=
  { kind := kind, slot := slot, version := u32 rd 0xC, meas := contMeas rd, first := if kind = 3 ∨ kind = 4 then loadAddr rd else 0,
    size := payLen rd, entry := u32 rd 0x18 + 2 ^ 32 * u32 rd 0x1C }

/-- Load a container's payload where its kind goes (R383). -/
def loadItem (kind slot : Nat) (rd : Nat → Nat) (s : State) : State :=
  let b := payload rd
  let s := match kind with
    | 1 => { s with secMem := memWrite [] 0 0 b }
    | 2 => { s with mgtMem := memWrite [] 0 0 b }
    | _ => s.rvStore (loadAddr rd) b
  putItem (contItem kind slot rd) s

/-- Show how the slots of a kind fared (SB_ITEM_STATUS, SB_STATUS). -/
def showItem (k : Nat) (failed : List (Nat × Nat)) (s : State) : State :=
  let s := (s.set SB_ITEM_STATUS.code_a (k - 1) (codeOf failed 0)).set SB_ITEM_STATUS.code_b (k - 1) (codeOf failed 1)
  match itemOf s k with
  | some i =>
    let s := s.set SB_ITEM_STATUS.loaded (k - 1) 1
    let s := if i.slot = 1 then s.setBitOf SB_STATUS.slot 0 k else s.clearBitOf SB_STATUS.slot 0 k
    if (mark s k).trial then s.setBitOf SB_STATUS.trial 0 k else s
  | none => s

/-- Boot an item of kind 1 to 4: its slots in order, its marks, its load (R387, R390). Answers its last failure. -/
def bootItem (k : Nat) (s : State) : Nat × State :=
  let m := mark s k
  let late := if m.trial then [(1 - m.active, 7)] else []
  let (failed, booted) := trySlots (slotFail s k) (tryOrder m)
  let s := if m.trial then s.raise SB_INT.trial_failed else s
  let s := setMark k (marked k m failed booted) s
  let s := match booted with
    | some x => loadItem k x (flashRd s (slotBase k x)) s
    | none => s
  (lastCode (late ++ failed), showItem k (failed ++ late) s)

/-- Boot the management firmware: at POR, with a pending slot, or when the management core does not run; otherwise the running core
is kept (R387). -/
def bootMgmt (s : State) : Nat × State :=
  if s.get CR_RST_CAUSE.cls = 1 ∨ (mark s 2).pending ∨ s.get X.mgt_run = 0 then
    let s := mgtReset s
    let s : State := { s with items := s.items.filter (fun i => i.kind != 2), mgtMem := [] }
    let (c, s) := bootItem 2 s
    (c, s.set X.mgt_run 0 (b2n (itemOf s 2).isSome))
  else (0, showItem 2 [] s)

/-! The structure image. -/

/-- The sequencers of present actuators whose microcode passes (R387). -/
def microGood (s : State) (m : Image) : List Nat := (List.range 4).filter (fun q => m.hasAct q && (microFail s (m.micro.getD q default)).isNone)

/-- Why an image slot does not pass fully: the code and offset, and whether the image itself passed (R49, R387). -/
def imageSlot (s : State) (x : Nat) : Option (Nat × Nat) × Bool :=
  let rd := flashRd s (slotBase 0 x)
  match imageFail rd x (floorOf s 0) (signKey s) with
  | some f => (some f, false)
  | none =>
    let m := readImage x rd
    (((List.range 4).filter (m.hasAct ·)).findSome? (fun q => (microFail s (m.micro.getD q default)).map (fun c => (c, 0))), true)

/-- The image slot to boot: the first that passes fully, else the first whose image passed; and the failures in the order met
(R51, R387). -/
def chooseImage (s : State) : List (Nat × (Nat × Nat)) × Option Nat :=
  let order := tryOrder (mark s 0)
  let first := order.headD 0
  let second := 1 - first
  match imageSlot s first with
  | (none, _) => ([], some first)
  | (some f, passed) =>
    match imageSlot s second with
    | (none, _) => ([(first, f)], some second)
    | (some g, passed2) => ([(first, f), (second, g)], if passed then some first else if passed2 then some second else none)

/-- Show how the image slots fared (SB_IMAGE_STATUS). -/
def showImage (failed : List (Nat × (Nat × Nat))) (booted : Option Nat) (s : State) : State :=
  let codes := failed.map (fun p => (p.1, p.2.1))
  let s := (s.set SB_IMAGE_STATUS.code_a 0 (codeOf codes 0)).set SB_IMAGE_STATUS.code_b 0 (codeOf codes 1)
  let s := s.set SB_IMAGE_STATUS.booted 0 (booted.getD 3)
  match failed.reverse with
  | p :: _ => (s.set SB_IMAGE_STATUS.code 0 p.2.1).set SB_IMAGE_STATUS.offset 0 p.2.2
  | [] => s

/-- The structure image as an item in force. -/
def imageItem (x : Nat) (rd : Nat → Nat) : BootItem :=
  { kind := 0, slot := x, version := u32 rd 0x10, meas := sha (rdBytes rd 0 (u32 rd 8 - 256)), first := 0, size := 0, entry := 0 }

/-- Put the image of a slot in force: its registers, its fixed power, its microcode, and the training of its Cistern devices
(R31, R260, R353, R387, R401). -/
def loadImage (x : Nat) (s : State) : State :=
  let rd := flashRd s (slotBase 0 x)
  let m := readImage x rd
  let s := putItem (imageItem x rd) { s with img := some m }
  let s := setAll (imageValues m) s
  let s := if (List.range 1536).any (fun i => s.on DP_BAND_LAYOUT.unfit i) then s.raise DP_INT.band_unfit else s
  let s := s.set HIF_PORT_CFG.enable 0 1
  let s := s.set HG_GROUP_STATUS.on 0 (m.looseGroups.foldl setBit 0)
  let s := hgFixedGrants (hgPools s)
  let good := microGood s m
  let s := s.each good (fun q t => (loadStore q t).setBitOf SB_STATUS.seq_loaded 0 q)
  let s := { s with aoMicro := (List.range 4).map (fun q => if good.contains q then (m.micro.getD q default).digest else []) }
  bmEnable (if x = 1 then s.setBitOf SB_STATUS.slot 0 0 else s)

/-! The boot. -/

/-- Show the OTP's fields, and initialise the boot ROM's working area (R383, R385, R410). -/
def bootStart (s : State) : State :=
  let s := s.rvZero 0x11FC0000 0x40000
  let s := s.set SB_STATUS.lifecycle 0 s.otp.lifecycle
  let s := (s.set SB_POLICY.policy 0 s.otp.policy).set SB_ROM_ID.version 0 Config.romVersion
  let s := s.set HIF_PORT_CFG.mode 0 (s.get X.straps)
  showFloors { (s.clear X.boot_wait) with aoMicro := [], aoAct := [] }

/-- The application cores may be released: an image and application firmware are in force (R52, R388, R392). -/
def bootRelease (s : State) : State :=
  match s.img, itemOf s 3 with
  | some _, some i => icEval (coreStart 0 i.entry s)
  | _, _ => icEval s

/-- The boot sequence (R367, R387 to R393). -/
def bootAll (s : State) : State :=
  let s := checkChapter (sealResume (bootStart s))
  let (failed, image) := chooseImage s
  let codes := failed.map (fun p => (p.1, p.2.1))
  let s := showImage failed image (setMark 0 (marked 0 (mark s 0) codes image) s)
  let (f1, s) := bootItem 1 s
  let (f2, s) := bootMgmt s
  let (f3, s) := bootItem 3 s
  let (f4, s) := bootItem 4 s
  let s := s.set SB_STATUS.mgmt_absent 0 (b2n (itemOf s 2).isNone)
  let s := s.set SB_STATUS.app_absent 0 (b2n (itemOf s 3).isNone)
  let s := s.set SB_STATUS.cal_absent 0 (b2n (itemOf s 4).isNone)
  let halt := (itemOf s 1).isNone || ((itemOf s 4).isNone && s.otp.policy.testBit 2)
  let s := match image with
    | some x => if halt then s.set SB_IMAGE_STATUS.booted 0 3 else loadImage x s
    | none => s
  let s := s.set SB_STATUS.state 0 (if halt then 3 else if s.img.isNone then 2 else 1)
  let (cflags, s) := setCounter s
  let kept := codes.filter (fun p => image != some p.1)
  let body := bootBody [lastCode kept, f1, f2, f3, f4] (cflags + 4096 * b2n s.img.isNone + 8192 * b2n halt) s
  let (r, s) := writeRecord body (showChapter s)
  bootRelease (showRecord r s)

/-- BOOT_SEQUENCE: after a POR, WRM or WDG reset (R367, R387). -/
def execBootSequence (s : State) : Res := run true s (fun s => if s.on X.boot_wait then bootAll s else s)

/-! Actions of SB_CTRL: any core but the management core. -/

/-- Every on-trial item becomes active and loses its marks (R390). -/
def confirmMarks (s : State) : State :=
  let l := (marks s).map (fun m => if m.trial then { m with active := 1 - m.active, pending := false, trial := false } else m)
  let s := if l = marks s then s else setMarks l s
  s.clear SB_STATUS.trial

/-- The activation without reset has its ready signal: fetching resumes and the Firmware Commit completes (R328). -/
def activationReady (s : State) : State :=
  if s.on X.fw_act then
    let s := s.clear X.fw_act
    let s := s.each [0, 1] (fun c t => t.clear HIF_CTL_STATUS.fetch_paused c)
    let s := if s.get X.fw_ctx = 0 then s else ctxFinish (s.get X.fw_ctx - 1) 0 s
    (s.clear X.fw_ctx).set X.fw_ready 0 (s.get X.fw_flash)
  else s

/-- SB_CTRL.action 1: the confirm (R390). -/
def confirm (s : State) : State := activationReady (confirmMarks s)

/-- CONFIRM (R390). -/
def execConfirm (core : Nat) (s : State) : Res := run (okCore core) s (fun s => if core = mgtCore then s else confirm s)

/-- The security_version that a floor is raised to: the booted item's, and for floor 0 the least of the image's and its microcode
containers' (R386). -/
def floorVersion (s : State) (k : Nat) (i : BootItem) : Nat :=
  if k = 0 then
    ((List.range 4).filter (s.image.hasAct ·)).foldl (fun v q => min v (u32 (microRd s (s.image.micro.getD q default)) 0xC)) i.version
  else i.version

/-- Raise the floor of a kind whose booted item is the active item and not on trial (R386). -/
def raiseFloor (k : Nat) (s : State) : State :=
  match itemOf s k with
  | none => s
  | some i =>
    let v := min (floorVersion s k i) 128
    if i.slot ≠ (mark s k).active ∨ (mark s k).trial ∨ v ≤ floorOf s k then s
    else
      let (ok, s) := burn (fun o => { o with floors := o.floors.set k v }) s
      if ok then s.raise SB_INT.floor_raised else s

/-- SB_CTRL.action 2: raise floors (R386). -/
def raiseFloors (s : State) : State := showFloors (s.each (List.range 5) raiseFloor)

/-- RAISE_FLOORS (R386). -/
def execRaiseFloors (core : Nat) (s : State) : Res := run (okCore core) s (fun s => if core = mgtCore then s else raiseFloors s)

/-- SB_CTRL.action 3: reload the microcode of SB_CTRL.seq (R260, R395). -/
def reloadMicro (s : State) : State :=
  let q := s.get SB_CTRL.seq
  let st := s.get SQ_STATUS.state q
  if st ≠ 0 ∧ st ≠ 2 ∧ st ≠ 5 then s.raise SQ_INT.denied q
  else if !s.image.hasAct q then s
  else if reloadOk s q then (loadStore q s).raise SB_INT.reload_done
  else reloadFailed q s

/-- RELOAD_MICROCODE (R395). -/
def execReloadMicrocode (core : Nat) (s : State) : Res := run (okCore core) s (fun s => if core = mgtCore then s else reloadMicro s)

/-! Owner commands. -/

/-- The checks of an owner command: the cause of R396's SB_CMD_STATUS, 0 for none. -/
def ownerCause (s : State) (b : List Byte) : Nat :=
  let op := numAt b 4 2
  let p := numAt b 6 2
  let lc := s.get SB_STATUS.lifecycle
  let n := chapNext s
  let torn := decide (n < chapSlots) && (slotBytes s n).any (fun x => x != flashErased)
  let last := if torn then some (slotBytes s n) else if n = 0 then none else some (slotBytes s (n - 1))
  let paramOk := match op with
    | 1 => true
    | 2 => decide (p ≤ 3) && decide (1 ≤ p)
    | 3 => decide (p ≤ 3)
    | 4 => decide (p ≤ 3)
    | 5 => decide (p ≤ 1)
    | _ => false
  let permitted := match lc with
    | 1 => true
    | 2 => op == 1 || op == 2 || op == 3
    | 3 => op == 1
    | _ => false
  let keyOk := match ownerKey s (numAt b 0x14 4) with
    | some k => sigOk k (b.take 0x100) ((b.drop 0x100).take 96)
    | none => false
  let freshSlot := op == 5 && lc == 1 && !((s.otp.owner.getD p default).programmed)
  let targetOk := match op with
    | 4 => !((s.otp.sign.getD p default).programmed)
    | 5 => !((s.otp.owner.getD p default).programmed)
    | _ => true
  if b.length ≠ 352 ∨ numAt b 0 4 ≠ 0x4E574F4B ∨ !paramOk
      ∨ ((op = 1 ∨ op = 2 ∨ op = 3) ∧ (b.drop 0x48).take 96 ≠ List.replicate 96 0) then 1
  else if numAt b 8 8 ≠ Config.deviceId % 2 ^ 64 then 2
  else if numAt b 0x10 4 ≠ s.get SB_BOOT_COUNT.counter then 3
  else if last.map sha ≠ some ((b.drop 0x18).take 48) then 4
  else if !permitted then 6
  else if !(keyOk || freshSlot) ∨ !targetOk then 5
  else if op = 2 ∧ p ≤ s.otp.lifecycle then 6
  else 0

/-- Steps 1 and 2 of a seal: the kind-2 record, signed, in the staging area (R397). -/
def sealStage (b : List Byte) (s : State) : State :=
  let old0 := sha (slotBytes s 0)
  let meas := sha b ++ old0
  let body := patch (patch (patch s.aoRecord 6 [2]) 0x0C [0, 0, 0]) 0x10 (leBytes s.dtime 8)
  let body := patch (patch body 0x40 (prevHash s)) 0x70 meas
  let flags := numAt s.aoRecord 0x36 2
  let body := patch body 0x36 (leBytes (clearBit (setBit (setBit flags 0) 1) 14) 2)
  (s.set SB_STATUS.sealing 0 1).flashProgram sealArea (sealed (body.take 0x1A0))

/-- Run an accepted owner command; answers the cause it then fails with, 0 for none (R396, R397). -/
def ownerRun (b : List Byte) (s : State) : Nat × State :=
  let p := numAt b 6 2
  let key := (b.drop 0x48).take 96
  let burned (g : Otp → Otp) : Nat × State := let r := burn g s; (if r.1 then 0 else 7, r.2)
  match numAt b 4 2 with
  | 1 => (0, (sealFinish (sealStage b s)).clear SB_STATUS.sealing)
  | 2 => burned (fun o => { o with lifecycle := p })
  | 3 => burned (fun o => { o with sign := o.sign.set p { o.sign.getD p default with revoked := true } })
  | 4 => burned (fun o => { o with sign := o.sign.set p { o.sign.getD p default with key := key, programmed := true } })
  | _ => burned (fun o => { o with owner := o.owner.set p { o.owner.getD p default with key := key, programmed := true } })

/-- An owner command: checked, run, reported (R396). -/
def ownerCommand (b : List Byte) (s : State) : State :=
  let c := ownerCause s b
  let (c, s) := if c = 0 then ownerRun b s else (c, s)
  let s := (s.set SB_CMD_STATUS.op 0 (numAt b 4 2)).set SB_CMD_STATUS.result 0 c
  if c = 0 then s else s.raise SB_INT.cmd_rejected

/-- The oldest admin command 0xC4 that waits for its owner command completes (R396). -/
def ownerComplete (s : State) : State :=
  match s.ctxs.find? (fun p => p.2.qid == 0 && p.2.cmd.opcode == 0xC4 && decide (p.2.stage < 3)) with
  | some p => ctxFinish p.1 (if s.get SB_CMD_STATUS.result = 0 then 0 else 2) s
  | none => s

/-- OWNER_COMMAND: a block from admin opcode 0xC4 or from the management port (R396, R455, R457). -/
def execOwnerCommand (block : List Byte) (fromHost : Bool) (s : State) : Res :=
  runAO true s (fun s =>
    let off := s.on X.core_off || s.img.isNone
    if fromHost then (if off then s else ownerComplete (ownerCommand block s))
    else if mpAnswers s = false then s
    else if off then { s with mpResp := some { command := 0xC9, status := 0xE0, data := [] } }
    else
      let s := ownerCommand block s
      { s with mpResp := some { command := 0xC9, status := if s.get SB_CMD_STATUS.result = 0 then 0 else 4, data := [] } })

/-- An owner command of one op. -/
def ownerOp (op : Nat) (b : List Byte) (s : State) : State := if numAt b 4 2 = op then ownerCommand b s else s

/-- SEAL: owner op 1 (R397). -/
def execSeal (block : List Byte) (s : State) : Res := run true s (ownerOp 1 block)

/-- LIFECYCLE_TRANSITION: owner op 2 (R385). -/
def execLifecycleTransition (block : List Byte) (s : State) : Res := run true s (ownerOp 2 block)

/-- REVOKE_SIGN_KEY: owner op 3 (R396). -/
def execRevokeSignKey (block : List Byte) (s : State) : Res := run true s (ownerOp 3 block)

/-- PROGRAM_SIGN_KEY: owner op 4 (R396). -/
def execProgramSignKey (block : List Byte) (s : State) : Res := run true s (ownerOp 4 block)

/-- PROGRAM_OWNER_KEY: owner op 5 (R396). -/
def execProgramOwnerKey (block : List Byte) (s : State) : Res := run true s (ownerOp 5 block)

end Sys2Proof.Machine
end

