-- ==== Sys2Proof/Machine/Spindle.lean ====
section
/-! DEFINITION. The spindle's states and speed (10_motors.md, R225 to R235): what the motor commands, the servo engines and
the resets share. The commands are in Motors.lean. -/

namespace Sys2Proof.Machine

/-! Codes of MC_SPIN_STATUS.state (R225). -/
def spStopped : Nat := 0
def spCatch : Nat := 1
def spAlign : Nat := 2
def spRamp : Nat := 3
def spSixStep : Nat := 4
def spSine : Nat := 5
def spCoast : Nat := 6
def spRundown : Nat := 7
def spBrake : Nat := 8

/-- The spindle's state. -/
def spin (s : State) : Nat := s.get MC_SPIN_STATUS.state

/-- The phases are driven (R225). -/
def spinDriven (s : State) : Bool := let q := spin s; q == spAlign || q == spRamp || q == spSixStep || q == spSine || q == spBrake

/-- The sine table's entry for phase k at an electrical angle (R228). -/
def sinTab (s : State) (theta k : Nat) : Int :=
  s.getS MC_SIN_TAB.value ((theta + s.get MC_SPIN_RUN.adv * 256 + [0, 21845, 43691].getD k 0) % 65536 / 64)

/-- The duty of phase k in 1/65,534, rounded to the nearest. The amplitude is the speed loop's output over its cap, within 0 to 1 (R228,
R230; DEDUCED, log entry 114). -/
def phaseDuty (s : State) (theta k : Nat) : Nat :=
  let run := s.get MC_SPIN_RUN.run_ma
  let out := (s.getS X.spin_out).toNat
  (32767 + divRound (min out run * sinTab s theta k) run).toNat

/-- The phases are driven for a PWM period with the table as it stands at its start (R228). -/
def drivePhases (theta : Nat) (s : State) : State :=
  let t := s
  s.each (List.range 3) (fun k u => u.set X.spin_duty k (phaseDuty t theta k))

/-- The phases are not driven in SINE. -/
def releasePhases (s : State) : State := s.each (List.range 3) (fun k t => t.clear X.spin_duty k)

/-- Change state. Leaving SINE ends the alignment (R231); the observer is locked only while it is driven. -/
def spinTo (st : Nat) (s : State) : State :=
  let s := if spin s = spSine ∧ st ≠ spSine then releasePhases (s.clear MC_SPIN_STATUS.aligned) else s
  let s := if st = spSine ∨ st = spSixStep ∨ st = spBrake then s else (s.clear MC_SPIN_STATUS.locked).clear X.spin_lock_n
  let s := if st = spBrake then s else s.clear X.spin_hold
  let s := if st = spBrake ∨ st = spSine ∨ st = spSixStep then s else s.clear X.brk_en
  ((s.set MC_SPIN_STATUS.state 0 st).clear X.spin_loss_n).clear X.spin_cross

/-- Every loaded actuator is told to park (R202). -/
def parkLoaded (s : State) : State := s.each ((List.range 4).filter (fun a => armOut s a)) parkArm

/-- Every loaded actuator retracts (R239). -/
def retractAll (s : State) : State := s.each (List.range 4) retract

/-- An actuator has heads off its ramp; a lost one never comes back to it. -/
def anyOut (s : State) : Bool := (List.range 4).any (fun a => !isParked s a && s.get X.act_lost a == 0)

/-- The heads cannot fly: a park of every loaded actuator is requested (R202, R230). -/
def flyPark (s : State) : State :=
  if (List.range 4).any (fun a => armOut s a && s.get X.vcm_phase a < 2 && !s.on X.sv_park_seek a && s.get X.act_lost a == 0) then
    parkLoaded (s.raise MC_INT.fly_park)
  else s

/-- The commanded speed in rpm (R232), the target speed once the part has left IDLE-B (R372); it stays at fly_rpm until every actuator is parked (R233). -/
def spinCommand (s : State) : Nat :=
  let c := if s.on X.spin_full then s.image.rpm else s.get MC_CURVE.rpm (s.get MC_IDLE.depth)
  if c < s.get MC_SPIN_CFG.fly_rpm ∧ anyOut s then s.get MC_SPIN_CFG.fly_rpm else c

/-- The spindle's port. -/
def spinPort (s : State) : Option Nat := s.image.portOf 1 0

/-- The spin-up grant is held; a machine whose image gives the spindle no port needs none. -/
def spinGranted (s : State) : Bool := match spinPort s with | some p => hasGrant s p | none => true

/-- The spindle's grant falls to its peak and the stagger ends (R343). -/
def spinGrantDown (s : State) : State :=
  let s := s.clear X.hg_stagger
  match spinPort s with
  | some p =>
    let u := s.get HG_PORT_CFG.peak p
    if (grantOf s p).isSome then
      hgReport p (updGrant p (fun g => { g with units := min g.units u, holders := g.holders.map (fun (h : PowerHolder) => { h with units := min h.units u }) }) s)
    else s
  | none => s

/-- Whether the speed is within the tolerance of the loop's target (R229). -/
def withinTol (s : State) (speed : Nat) : Bool :=
  let t : Int := s.get X.spin_tgt
  decide (((speed : Int) * 625 - t).natAbs * 1000000 ≤ s.get MC_OBS_CFG.at_speed_ppm * s.get X.spin_tgt)

/-- Judge at speed after an update in which the rotor turned by `turned` mechanical units, and full with it; a rotor that was at speed when
it was lost stays so until it leaves the tolerance (R229, R230, R343). -/
def judgeSpeed (turned : Nat) (s : State) : State :=
  let rev := 65536 * max 1 (s.get MC_SPIN_CFG.pole_pairs)
  let s := if (spinDriven s || spin s == spCoast) && withinTol s (s.get MC_SPIN_STATUS.speed) then s.set X.spin_tol 0 (min (10 * rev) (s.get X.spin_tol + turned))
    else s.clear X.spin_tol
  let at_ := decide (10 * rev ≤ s.get X.spin_tol)
  let s := s.set MC_SPIN_STATUS.at_speed 0 (b2n at_)
  let was := s.get MC_SPIN_STATUS.full
  let full := at_ && s.get X.spin_tgt == s.image.rpm * 10000 && s.img.isSome
  let s := s.set MC_SPIN_STATUS.full 0 (b2n full)
  if full ∧ was = 0 then spinGrantDown s else s

/-- Why a start command is refused (R226, R235, R360, R481). -/
def startBarred (s : State) : Bool :=
  s.get MC_CTRL.enable == 0 || (s.get MC_SPIN_LOOP.kp == 0 && s.get MC_SPIN_LOOP.ki == 0) || s.get MC_OBS_MODEL.rs_mohm == 0
    || s.get MC_OBS_MODEL.ke == 0 || s.on X.bus_ov || s.on TH_STATUS.shutdown

/-- Enter CATCH and ask for the spin-up grant (R226, R343). -/
def spinCatch (s : State) : State :=
  let s := (spinTo spCatch s).clear X.spin_catch_out
  let s := s.inc MC_SPIN_STATUS.attempts
  match spinPort s with
  | some p => hgRequest p (s.get HG_SPIN.spinup_units) false holderSpindle true s
  | none => s

/-- A start command (R225, R226, R241); in the image-less state motor control has no power and the spindle stays stopped (R52). -/
def spinStart (s : State) : State :=
  if s.get MP_PARK_STATUS.latch ≠ 0 ∨ imagelessState s = true ∨ ¬ (spin s = spStopped ∨ spin s = spRundown) then s
  else if startBarred s then s.raise MC_INT.start_fail
  else
    let s := ((s.clear MC_SPIN_STATUS.attempts).clear X.spin_tries).clear X.spin_retry
    spinCatch ((s.clear X.spin_curve).clear X.spin_wait)

/-- The speed at and above which a spindle that the curve stopped starts: T, or S + 1 where T ≤ S (R233). -/
def curveRestart (s : State) : Nat :=
  let stop := s.get MC_CURVE_CFG.stop_rpm
  let restart := s.get MC_CURVE_CFG.restart_rpm
  if restart ≤ stop then stop + 1 else restart

/-- The spindle has come to rest: its grant returns, or the retry or the curve's restart begins (R226, R233, R340). -/
def spinStopped (s : State) : State :=
  let s := spinTo spStopped s
  let s := ((s.clear MC_SPIN_STATUS.speed).clear X.spin_tgt).clear X.spin_wait
  let s := judgeSpeed 0 s
  if s.on X.spin_retry then spinCatch (s.clear X.spin_retry)
  else
    let s := match spinPort s with
      | some p => hgRelease p holderSpindle s
      | none => s
    let c := s.get MC_CURVE.rpm (s.get MC_IDLE.depth)
    if s.on X.spin_curve && decide (curveRestart s ≤ c) then spinStart s else s

/-- The speed is below catch_min_rpm. -/
def spinSlow (s : State) : Bool := decide (s.get MC_SPIN_STATUS.speed < 160 * s.get MC_SPIN_CFG.catch_min_rpm)

/-- Enter RUNDOWN; a rotor that does not turn is stopped (R225). -/
def spinRundown (s : State) : State :=
  let s := (spinTo spRundown s).clear X.spin_wait
  if spinSlow s then spinStopped s else s

/-- Enter BRAKE, or RUNDOWN after a chopper fault; a rotor that does not turn is held at once (R225, R235). -/
def spinBrake (s : State) : State :=
  let s := s.clear X.spin_wait
  if spin s = spStopped then s
  else if s.on X.chop_fault then spinRundown s
  else
    let s := (spinTo spBrake s).clear X.spin_tgt
    if spinSlow s then s.set X.spin_hold 0 1 else s

/-- Park every loaded actuator, then brake to STOPPED (R233, R234, R241). -/
def spinDown (s : State) : State :=
  let s := s.clear X.spin_retry
  if anyOut s then parkLoaded (s.set X.spin_wait 0 1) else spinBrake s

/-- An actuator has reached its ramp or is lost: a spindle that waits for that brakes (R233, R234). -/
def spinParked (s : State) : State := if s.on X.spin_wait && !anyOut s then spinBrake s else s

/-- The speed is known to be `speed`, in 1/16 rpm: what follows from it in a state in which the rotor is not driven up (R202,
R225, R230). -/
def spinSpeed (speed : Nat) (s : State) : State :=
  let s := (s.set MC_SPIN_STATUS.speed 0 speed).set X.spin_known 0 1
  let s := judgeSpeed 0 s
  let q := spin s
  if q = spCoast ∧ spinSlow s then spinStopped (flyPark s)
  else if q = spRundown ∧ spinSlow s then spinStopped (flyPark s)
  else if q = spBrake ∧ spinSlow s then s.set X.spin_hold 0 1
  else if (q = spCoast ∨ q = spRundown) ∧ speed < 16 * s.get MC_SPIN_CFG.fly_rpm then flyPark s
  else s

/-- The rows of R225 by which CATCH is left, as they stand, once the grant is made (R226). -/
def leaveCatch (s : State) : State :=
  if spin s = spCatch ∧ spinGranted s then
    let seeded := s.set X.spin_tgt 0 (s.get MC_SPIN_STATUS.speed * 625)
    if 3 ≤ s.get X.spin_cross then
      if 16 * s.get MC_SPIN_CFG.handover_dn ≤ s.get MC_SPIN_STATUS.speed then
        ((spinTo spSine seeded).set X.spin_soft 0 10).clear X.spin_mech
      else (spinTo spSixStep seeded).set X.spin_soft 0 10
    else if s.on X.spin_catch_out then spinTo spAlign s
    else s
  else s

/-- Power loss and over-voltage: gates low, BRK_EN cleared, RUNDOWN (R235, R240). -/
def spinCut (s : State) : State :=
  let s := (s.clear X.brk_en).clear X.spin_retry
  if spin s = spStopped then s else spinRundown s

/-- The index passes: every actuator is in its first wedge period after it (R231, R248). -/
def spinIndex (s : State) : State := s.each (List.range 4) (fun a t => t.set X.sv_index a 1)

/-- What a wedge end tells the spindle: the alignment of the index, and the speed while it coasts with no crossing seen
(R230, R231). -/
def spinWedge (a : Nat) (s : State) : State :=
  let tracking := fun (b : Nat) => s.get SV_STATUS.state b == svTracking
  let last := s.get X.sv_wend a
  let s := s.set X.sv_wend a s.dtime
  if spin s = spSine ∧ s.get MC_SPIN_STATUS.aligned = 0 ∧ tracking a ∧ s.get SV_STATUS.wedge a = 0 then
    spinIndex ((s.set MC_SPIN_STATUS.aligned 0 1).clear X.spin_mech)
  else if spin s = spCoast ∧ s.get X.spin_cross = 0 ∧ (List.range 4).find? tracking = some a ∧ last ≠ 0 ∧ last < s.dtime then
    spinSpeed (60000000000 * 16 / (max 1 s.image.wedges * (s.dtime - last))) s
  else s

end Sys2Proof.Machine
end

