-- ==== Sys2Proof/Machine/Servo.lean ====
section
/-! DEFINITION. The servo engines (08_servo.md) and the redundancy of their pairs (09_servo_pairs.md). -/

namespace Sys2Proof.Machine

/-! Demodulated fields. -/

/-- The seek reference in PU, rounded to the nearest. -/
def refPu (s : State) (a : Nat) : Int := ((s.get X.sv_pos a : Nat) + 128) / 256

/-- The reference velocity in PU per wedge, rounded to the nearest. -/
def velPu (s : State) (a : Nat) : Int := (s.getS X.sv_vel a + 128) / 256

/-- The position loop runs: seeking, settling, tracking, or a park's seek (R185, R202). -/
def following (s : State) (a : Nat) : Bool :=
  let st := svState s a
  st == svSeeking || st == svSettling || st == svTracking || (st == svParking && s.on X.sv_park_seek a)

/-- Where a head should be: its track centre and read offset as a comb member, else where the arm carries it (R174, R189). -/
def headTarget (s : State) (h : Nat) : Int :=
  let a := h / 16
  if s.on SV_SLOT_STATE.member h then refPu s a - s.getS X.sv_centre a + s.getS X.sv_rofs h
  else refPu s a + s.getS SV_SLOT_OFS.offset h

/-- Set or clear a head's write-unsafe bit; a bit that becomes set fires trace trigger 2 (R201, R204). -/
def setUnsafe (h : Nat) (v : Bool) (s : State) : State :=
  let s := if v && !s.on SV_SLOT_STATE.unsafeBit h then traceTrig (h / 16) 2 s else s
  s.set SV_SLOT_STATE.unsafeBit h (b2n v)

/-- A bad wedge of a head (R179, R198, R201). -/
def badWedge (h cause : Nat) (s : State) : State :=
  let a := h / 16
  let s := (s.set X.sv_seen h 1).set X.sv_bad h 1
  let s := (s.set SV_SLOT_STATE.bad_cause h cause).inc SV_SLOT_STATE.bad_wedges h
  let s := (((s.clear X.sv_good h).clear X.sv_known h).clear X.sv_acqn h).clear X.sv_near h
  let s := if s.on SV_SLOT_STATE.feedback h then (s.clear SV_SLOT_STATE.feedback h).raise SV_INT.fb_lost a else s
  let s := if s.on SV_SLOT_STATE.closed h then s.inc X.sv_lostcnt h else s
  traceTrig a 3 (gateOff h gateFeedback (setUnsafe h true s))

/-- S of R178. -/
def fieldAmp (f : ServoField) : Nat := f.n1.natAbs + f.n2.natAbs

/-- The amplitude is below amp_min × 1/256 of the mean of the last 64 good wedges (R179, cause 4). -/
def ampLow (s : State) (h : Nat) (f : ServoField) : Bool :=
  let l := KV.getD s.svAmps h []
  decide (256 * fieldAmp f * l.length < s.get SV_DEMOD.amp_min (h / 16) * l.foldl (· + ·) 0)

/-- Consecutive wedges with n1 and n2 as in the wedge before, this one included (R179, cause 7). -/
def frozenRun (s : State) (h : Nat) (f : ServoField) : Nat :=
  if f.n1 = s.getS X.sv_n1 h ∧ f.n2 = s.getS X.sv_n2 h then min 7 (s.get X.sv_frozen h + 1) else 0

/-- The position predicted for the wedge: the last one and the velocity of the seek reference or of tracking (R178). -/
def predictedPos (s : State) (h : Nat) : Int :=
  (s.get X.sv_last h : Nat) + (if following s (h / 16) then velPu s (h / 16) else 0)

/-- The measured position of a field: by the prediction where there is a last position (R178). -/
def fieldPos (s : State) (h : Nat) (f : ServoField) : Int :=
  let b := burstPu f.n1 f.n2
  let id := servoTrack f.code
  measuredPos id b (if s.on X.sv_has h then predictedPos s h else id * 256 + b)

/-- The field that the demodulator takes: reader B's where SV_DEMOD.reader names it and the lane's layout carries it whole (R176). -/
def demodField (s : State) (h : Nat) (a b : ServoField) : ServoField :=
  let layout0 : Bool := match s.image.laneOf h with
    | some x => s.get HL_ULANE_STATUS.layout x == 0
    | none => false
  if s.get SV_DEMOD.reader (h / 16) = 1 ∧ layout0 then b else a

/-- The SAM is found: its bits correlate at a sample rate that the demodulator accepts, anywhere in the wedge period in acquisition or
where the head's timing is not known, else within sam_window of the prediction (R176, R177, R478). The bits are matched whole, since the
manual gives no threshold of the correlation (DESIGN CHOICE, log entry 111). -/
def samFound (s : State) (h : Nat) (f : ServoField) : Bool :=
  let khz := s.get X.hl_clk h
  let d : Int := (f.time * 1000 : Nat) - (s.get X.sv_next h : Nat)
  servoSam f.code == samBits && decide (2300000 ≤ khz ∧ khz ≤ 5200000)
    && (svState s (h / 16) == svAcquiring || !s.on X.sv_known h || decide (d.natAbs ≤ 1000 * s.get SV_DEMOD.sam_window (h / 16)))

/-- The first cause, in the order of R179's table, for which a wedge is bad; 0 for a good one. -/
def fieldCause (s : State) (h : Nat) (f : ServoField) : Nat :=
  let a := h / 16
  let acq := svState s a == svAcquiring
  let x := s.image.laneOf h
  let n := max 1 s.image.wedges
  if !samFound s h f then 1
  else if !acq && servoWedgeNo f.code ≠ (s.get SV_STATUS.wedge a + 1) % n then 2
  else if !servoParityOk f.code && nearCentre f.n1 f.n2 then 3
  else if ampLow s h f then 4
  else if f.erased then 5
  else if s.on X.sv_fb_lost h || (match x with | some x => s.get HL_ULANE_STATUS.state x != 2 | none => true) then 6
  else if s.get SV_DEMOD.freeze_wedges a ≤ frozenRun s h f then 7
  else if s.on X.sv_has h && decide ((s.get SV_DEMOD.jump_max a : Int) < (fieldPos s h f - predictedPos s h).natAbs) then 8
  else 0

/-- The command of a head is at the range limit (R187, R201). -/
def atRange (s : State) (h : Nat) : Bool := decide (rangeMa s (h / 16) ≤ (s.getS SV_SLOT_STATE.command h).natAbs)

/-- A good wedge of a head: position, position error, feedback and the write-unsafe decision (R178, R179, R198, R201). -/
def goodWedge (h : Nat) (f : ServoField) (s : State) : State :=
  let a := h / 16
  let p := fieldPos s h f
  let s := { s with svAmps := kset [] s.svAmps h ((fieldAmp f :: KV.getD s.svAmps h []).take 64) }
  let s := ((s.set X.sv_seen h 1).clear X.sv_bad h).inc X.sv_good h
  let enough := decide (s.get SV_DEMOD.rejoin_wedges a ≤ s.get X.sv_good h)
  let s := if enough then (s.set SV_SLOT_STATE.feedback h 1).clear X.sv_barred h else s
  let s := (s.clear X.sv_lostcnt h).set X.sv_known h 1
  let s := (s.set X.sv_next h (1000 * f.time + wedgePs s)).set X.sv_has h 1
  let wn := servoWedgeNo f.code
  let s := s.set X.sv_acqn h (if s.get X.sv_acqn h = 0 ∨ wn ≠ (s.get X.sv_wn h + 1) % max 1 s.image.wedges then 1 else min 255 (s.get X.sv_acqn h + 1))
  let s := ((s.set X.sv_wn h wn).setS SV_SLOT_POS.position h p).setS X.sv_last h p
  if following s a then
    let e := p - headTarget s h
    let s := s.setS SV_SLOT_POS.pe h e
    let s := if writing s h then s.set X.wp_peak h (max (s.get X.wp_peak h) (min 65535 e.natAbs)) else s
    let beyond := decide (s.get WP_WU_THR.threshold a < e.natAbs)
    let s := if e.natAbs < s.get WP_WU_THR.threshold a then s.inc X.sv_near h else s.clear X.sv_near h
    let s := if beyond then gateOff h gatePosition s else s
    setUnsafe h (beyond || atRange s h || s.on X.sv_inj a) s
  else setUnsafe h (atRange s h || s.on X.sv_inj a) s

/-- The samples of a wedge gap, 200 ns at the rate in force, are not the sector's: a flume that receives a sector across the gap goes on
after it (R111). -/
def gapSamples (h : Nat) (s : State) : State :=
  let l := KV.getD s.samples h []
  { s with samples := kset [] s.samples h (l.take (l.length - s.get X.hl_clk h / 5000)) }

/-- What a found field leaves of its bursts for the frozen check, and, where its position jumped, the position measured (R178, R179). -/
def noteField (h cause : Nat) (f : ServoField) (s : State) : State :=
  let n := frozenRun s h f
  let p := fieldPos s h f
  let s := ((s.set X.sv_frozen h n).setS X.sv_n1 h f.n1).setS X.sv_n2 h f.n2
  if cause = 8 then s.setS X.sv_last h p else s

/-- SERVO_FIELD: a head's servo field arrives, `a` as its reader A sees it and `b` as its reader B does (R140, R175 to R179). -/
def execServoField (head : Nat) (a b : ServoField) (s : State) : Res :=
  run (okHead head && decide (a.code < 2 ^ 44) && decide (b.code < 2 ^ 44)) s (fun s =>
    if s.image.populated head then
      let f := demodField s head a b
      let c := fieldCause s head f
      let found := samFound s head f
      let s := gapSamples head (gapBegin head s)
      let s := if found then noteField head c f s else s
      if c = 0 then goodWedge head f s else badWedge head c s
    else s)

/-! The wedge's computation. -/

/-- The reference set (R186). -/
def refSet (s : State) (a : Nat) : List Nat :=
  let good := (s.image.actHeads a).filter (fun h => s.on SV_SLOT_STATE.feedback h)
  let l := good.filter (fun h => (s.get SV_LOOP.vcm_ref a).testBit (h % 16) && s.on SV_SLOT_STATE.member h)
  if l.isEmpty then good else l

/-- The mean of a quantity over heads, rounded to the nearest. -/
def meanOver (l : List Nat) (q : Nat → Int) : Int := divRound (l.foldl (fun n h => n + q h) 0) l.length

/-- The injection signal where it is added to a node (R205). -/
def injAt (s : State) (a node : Nat) : Int := if s.on X.sv_inj a && s.get SV_INJ_CTRL.node a == node then s.getS X.sv_inj_val a else 0

/-- The arm error: the mean, over the reference set, of PE − u (R185). -/
def armError (s : State) (a : Nat) : Int :=
  meanOver (refSet s a) (fun h => s.getS SV_SLOT_POS.pe h - maToPu s h (s.getS X.sv_u h))

/-- The stages of the position loop in order (R184, R185). -/
def posStages (a : Nat) (x : Int) (s : State) : Int × State :=
  (List.range (s.image.servo.getD a default).posStages).foldl (fun (p : Int × State) i =>
    runStage a SV_PCOEF.coef SV_PCOEF.shift (40 * a + 5 * i) X.sv_px1 X.sv_px2 X.sv_py1 X.sv_py2 (64 * a + i) p.1 p.2) (x, s)

/-- The stages of a head's microactuator loop in order (R184, R187). -/
def maStages (h : Nat) (x : Int) (s : State) : Int × State :=
  (List.range (s.image.servo.getD (h / 16) default).maStages).foldl (fun (p : Int × State) i =>
    runStage (h / 16) SV_MCOEF.coef SV_MCOEF.shift (20 * h + 5 * i) X.sv_mx1 X.sv_mx2 X.sv_my1 X.sv_my2 (4 * h + i) p.1 p.2) (x, s)

/-- The seek feedforward: reference acceleration times kff with its shift (R185). -/
def feedforward (s : State) (a : Nat) : Int :=
  let c := coefOf s SV_FF.kff SV_FF.shift a
  let acc := s.getS X.sv_acc a
  if acc = 0 then 0 else shiftMul c.1 (Config.refAccel acc) c.2

/-- The position loop of a wedge: arm error, stages, feedforward, set-point; without a head of the reference set the
set-point is held. The actuator's write-unsafe bit follows (R185, R186, R199, R201). -/
def positionLoop (a : Nat) (s : State) : State :=
  if following s a ∧ refSet s a ≠ [] then
    let e := armError s a + injAt s a 0x50
    let s := s.setS X.sv_arm_err a e
    let s := s.set X.sv_rdy_arm a (if e.natAbs ≤ s.get SV_READY.ready_thr a then min 255 (s.get X.sv_rdy_arm a + 1) else 0)
    let p := posStages a (satS 32 e) s
    let v := satS 16 (satS 16 (p.1 + feedforward p.2 a) + injAt p.2 a 0x51)
    let s := p.2.setS X.sv_setpoint a v
    s.set X.sv_unsafe_act a (b2n (decide (s.get WP_WU_THR.threshold a < e.natAbs)))
  else (s.clear X.sv_rdy_arm a).set X.sv_unsafe_act a 1

/-- Close or open a member's loop as SV_LOOP.ma_closed now says (R187, R188). -/
def matchLoop (h : Nat) (s : State) : State :=
  let a := h / 16
  let asked := (s.get SV_LOOP.ma_closed a).testBit (h % 16) && s.on SV_SLOT_STATE.member h && !s.on SV_SLOT_STATE.closed h
  if s.on SV_SLOT_STATE.closed h && !(s.get SV_LOOP.ma_closed a).testBit (h % 16) then
    ((openLoop h s).setS X.sv_disp h (s.getS X.sv_disp h)).set SV_SLOT_OFS.disp_nm h (s.get SV_SLOT_OFS.disp_nm h)
  else if asked then closeLoop h s
  else s

/-- A head whose feedback stays lost past hold_wedges: its loop opens, its command ramps to 0, it leaves the comb (R198). -/
def openLost (h : Nat) (s : State) : State :=
  let a := h / 16
  traceTrig a 4 ((removeMember h s).raise SV_INT.head_opened a)

/-- The microactuator loop and command of a head for the wedge (R187, R192, R194, R198). -/
def maLoop (h : Nat) (s : State) : State :=
  let a := h / 16
  let s := matchLoop h s
  let bad := s.on X.sv_bad h
  let hold := (s.image.servo.getD a default).holdWedges
  if s.on SV_SLOT_STATE.closed h && bad && decide (s.get X.sv_lostcnt h ≤ hold) then s
  else
    let s := if s.on SV_SLOT_STATE.closed h && bad then openLost h s else s
    let s := if s.on SV_SLOT_STATE.closed h then
        let p := maStages h (satS 32 (s.getS SV_SLOT_POS.pe h + injAt s a (0x60 + h % 16))) s
        p.2.setS X.sv_u h p.1
      else s
    let step := nmToMa (s.get SV_MA_LIM.slew_nm a)
    let s := s.setS X.sv_dcur h (rampTo step (s.getS X.sv_dcur h) (s.getS X.sv_disp h))
    let u := if s.on SV_SLOT_STATE.closed h then s.getS X.sv_u h else 0
    let c := clampS (rangeMa s a) (s.getS X.sv_dcur h + u)
    let s := s.setS SV_SLOT_STATE.command h (satS 16 (c + injAt s a (0x10 + h % 16)))
    let s := if s.on SV_SLOT_STATE.member h && decide (rangeMa s a ≤ c.natAbs) then s.inc X.sv_sat h else s.clear X.sv_sat h
    if s.on SV_SLOT_STATE.member h && decide (s.get SV_COMB.sat_wedges a ≤ s.get X.sv_sat h) && decide (rangeMa s a ≤ c.natAbs) then
      (removeMember h s).raise SV_INT.ma_sat a
    else s

/-- Keep the measured offset of a head: its position, less what its microactuator contributes, less the arm's (R189). -/
def measureOffset (h : Nat) (arm : Int) (s : State) : State :=
  if s.on X.sv_bad h then s
  else
    let o := (s.get SV_SLOT_POS.position h : Nat) - maToPu s h (s.getS SV_SLOT_STATE.command h) - arm
    let l := (o :: KV.getD s.svOfs h []).take 64
    let s := { s with svOfs := kset [] s.svOfs h l }
    let s := s.setS SV_SLOT_OFS.offset h (divRound (l.foldl (· + ·) 0) l.length)
    if l.length = 64 then s.set SV_SLOT_STATE.measured h 1 else s

/-- The arm's position as the heads show it: the mean over heads of position less measured offset. -/
def armFrom (s : State) (l : List Nat) : Int :=
  meanOver l (fun h => (s.get SV_SLOT_POS.position h : Nat) - s.getS SV_SLOT_OFS.offset h)

/-- The heads that acquisition waits for: those of SV_LOOP.vcm_ref, or every populated head where it names none (R202). -/
def acqHeads (s : State) (a : Nat) : List Nat :=
  let l := (s.image.actHeads a).filter (fun h => (s.get SV_LOOP.vcm_ref a).testBit (h % 16))
  if l.isEmpty then s.image.actHeads a else l

/-- Acquisition: eight consecutive good wedges with consecutive wedge numbers on every head waited for; those heads
have feedback from then on (R202). -/
def acquire (a : Nat) (s : State) : State :=
  let l := acqHeads s a
  let good := l.filter (fun h => s.get X.sv_acqn h != 0)
  let s := if good.isEmpty then s else (s.image.actHeads a).foldl (fun t h => measureOffset h (armFrom s good) t) s
  if l ≠ [] ∧ l.all (fun h => decide (8 ≤ s.get X.sv_acqn h)) then
    let track := divRound (armFrom s l) 256
    let p := (max 0 track).toNat * 65536
    let s := ((s.set X.sv_pos a p).clear X.sv_vel a).clear X.sv_acc a
    let s := (s.set X.sv_target a (p / 256)).clear X.sv_seeking a
    -- the loop closes on the heads acquired, so they have feedback (DEDUCED, log entry 111)
    let s := s.each l (fun h t => (t.set SV_SLOT_STATE.feedback h 1).clear X.sv_barred h)
    let s := (s.clear X.vcm_phase a).set MC_VCM_STATUS.mode a 1
    (s.set MC_VCM_STATUS.loaded a 1).set SV_STATUS.state a svSettling
  else s

/-- A seek that reached tracking: seek_done, and its overrun where it ran at full limits (R196, R197). -/
def seekDone (a : Nat) (s : State) : State :=
  let s := s.raise SV_INT.seek_done a
  let e := s.get X.sv_entry a
  let took := s.dtime - s.get X.sv_t0 a
  let beyond := (took - 1000 * s.get X.sv_pred a + 999) / 1000
  if (s.on X.sv_urgent a || decide (100 ≤ s.get MS_PROFILE.seek_pct)) && decide (e < 32) && decide (0 < beyond) then
    (s.inc SV_SEEK_OVR.count (32 * a + e)).upd SV_SEEK_OVR.max_us (32 * a + e) (fun m => max m (min beyond 65535))
  else s

/-- The states a following actuator passes through (R196, R202). -/
def seekState (a : Nat) (s : State) : State :=
  let left := (s.get X.sv_target a : Int) - refPu s a
  let reached := decide ((s.get X.sv_target a) * 256 = s.get X.sv_pos a) && decide (s.getS X.sv_vel a = 0)
  let ready := decide (s.get SV_READY.ready_wedges a ≤ s.get X.sv_rdy_arm a)
  let st := svState s a
  if st = svParking then (if reached && ready then vcmRetract a s else s)
  else
    let s := if st = svSeeking ∧ left.natAbs ≤ s.get SV_SETTLE.window a ∧ (velPu s a).natAbs ≤ s.get SV_SETTLE.vel a then
        s.set SV_STATUS.state a svSettling else s
    if svState s a = svSettling ∧ reached ∧ ready then
      let s := s.set SV_STATUS.state a svTracking
      if s.on X.sv_seeking a then seekDone a s else s
    else s

/-- Servo ready of a head (R196). -/
def headReady (h : Nat) (s : State) : State :=
  let a := h / 16
  let within := !s.on X.sv_bad h && decide ((s.getS SV_SLOT_POS.pe h).natAbs ≤ s.get SV_READY.ready_thr a)
  let s := s.set X.sv_rdy h (if within then min 255 (s.get X.sv_rdy h + 1) else 0)
  let ok := svState s a == svTracking && s.on SV_SLOT_STATE.member h && s.on SV_SLOT_STATE.closed h
    && decide (s.get SV_READY.ready_wedges a ≤ s.get X.sv_rdy h)
  s.set SV_SLOT_STATE.ready h (b2n ok)

/-- Every head whose lane is ACTIVE has lost feedback, or no lane is ACTIVE (R199). -/
def allLost (s : State) (a : Nat) : Bool :=
  ((s.image.actHeads a).filter (fun h => match s.image.laneOf h with
    | some x => s.get HL_ULANE_STATUS.state x == 2
    | none => false)).all (fun h => !s.on SV_SLOT_STATE.feedback h)

/-- Loss of all feedback: the set-point is held for hold_wedges wedges, then the actuator retracts (R199). -/
def lostAll (a : Nat) (s : State) : State :=
  if allLost s a then
    if (s.image.servo.getD a default).holdWedges ≤ s.get X.sv_lost_all a then
      (retract a (s.clear X.sv_lost_all a)).alarm SV_INT.park a 13 a
    else
      let s := s.inc X.sv_lost_all a
      if svState s a = svParking then s else s.set SV_STATUS.state a svHolding
  else
    let s := s.clear X.sv_lost_all a
    if svState s a = svHolding then s.set SV_STATUS.state a (if s.on X.sv_seeking a then svSeeking else svSettling) else s

/-! Injection and trace. -/

/-- The injection signal of the wedge (R205). -/
def injStep (a : Nat) (s : State) : State :=
  if s.on X.sv_inj a && decide (s.get X.sv_inj_n a < s.get SV_INJ_CTRL.length a) then
    let amp := s.get SV_INJ_CTRL.amplitude a
    let v : Int := match s.get SV_INJ_CTRL.kind a with
      | 1 => timesSin amp (s.get X.sv_inj_phase a)
      | 2 => amp
      | 3 => clampS amp (Config.noise amp (s.get X.sv_lfsr a))
      | _ => 0
    s.setS X.sv_inj_val a v
  else s.clear X.sv_inj_val a

/-- The value of a node; a reserved code's is free (R204). -/
def nodeValue (s : State) (a code : Nat) : Int :=
  let k := 16 * a + code % 16
  if code < 0x10 then s.getS SV_SLOT_POS.pe k
  else if code < 0x20 then s.getS SV_SLOT_STATE.command k
  else if code < 0x30 then (s.get SV_SLOT_POS.position k : Nat)
  else if code < 0x40 then s.getS SV_SLOT_OFS.offset k
  else if code < 0x48 then s.getS X.sv_py1 (64 * a + code % 8)
  else if code = 0x50 then s.getS X.sv_arm_err a
  else if code = 0x51 then s.getS X.sv_setpoint a
  else if code = 0x52 then refPu s a
  else if code = 0x53 then velPu s a
  else if code = 0x54 then Config.refAccel (s.getS X.sv_acc a)
  else if code = 0x55 then feedforward s a
  else if code = 0x56 then s.getS MC_VCM_STATUS.current a
  else if code = 0x57 then s.getS X.sv_inj_val a
  else if 0x60 ≤ code ∧ code < 0x70 then s.getS SV_SLOT_POS.pe k + injAt s a code
  else if 0x70 ≤ code ∧ code < 0xB0 then s.getS X.sv_my1 (4 * k + (code - 0x70) / 16)
  else (s.fresh : Nat)

/-- Add a capture to its correlation sums (R206). -/
def correlate (a cap i : Nat) (s : State) : State :=
  let x := nodeValue s a cap
  let ph := s.get X.sv_inj_phase a
  let s := s.setS SV_INJ_CORR.sum (4 * a + i) (s.getS SV_INJ_CORR.sum (4 * a + i) + timesCos x ph)
  s.setS SV_INJ_CORR.sum (4 * a + i + 1) (s.getS SV_INJ_CORR.sum (4 * a + i + 1) + timesSin x ph)

/-- Capture and advance the injection at the end of the wedge's computation (R205, R206). -/
def injEnd (a : Nat) (s : State) : State :=
  if s.on X.sv_inj a && decide (s.get X.sv_inj_n a < s.get SV_INJ_CTRL.length a) then
    let s := if s.get SV_INJ_CTRL.kind a = 1 ∧ s.get SV_INJ_CTRL.settle a ≤ s.get X.sv_inj_n a then
        correlate a (s.get SV_INJ_CTRL.cap1 a) 2 (correlate a (s.get SV_INJ_CTRL.cap0 a) 0 s) else s
    let s := s.upd X.sv_lfsr a (fun x => lfsrRun x Config.noiseBits)
    (s.upd X.sv_inj_n a (· + 1)).upd X.sv_inj_phase a (fun p => p + s.get SV_INJ_FREQ.step a)
  else s

/-- Record a sample time in the buffers of both engines (R204). -/
def traceSample (a : Nat) (s : State) : State :=
  let st := s.get SV_TRACE_STATUS.state a
  if st = 1 ∨ st = 2 then
    let dec := max 1 (s.get SV_TRACE_CTRL.decim a)
    let n := s.get X.sv_tr_dec a + 1
    if n < dec then s.set X.sv_tr_dec a n
    else
      let m := 2 ^ s.get SV_TRACE_CTRL.nodes a
      let t := s.get X.sv_tr_n a
      let s := s.clear X.sv_tr_dec a
      let s := (List.range m).foldl (fun u i =>
        let code := u.get SV_TRACE_SEL.node a / 2 ^ (8 * i) % 256
        let v := nodeValue u a code
        let u := u.spend
        (u.setS SV_TRACE_BUF.value (16384 * (2 * a) + t * m + i) v).setS SV_TRACE_BUF.value (16384 * (2 * a + 1) + t * m + i) v) s
      let wrap := decide ((t + 1) * m = 16384)
      let s := s.set X.sv_tr_n a (if wrap then 0 else t + 1)
      let s := if wrap && st == 1 then s.set SV_TRACE_STATUS.wrapped a 1 else s
      if st = 2 then
        let s := s.inc X.sv_tr_post a
        if s.get SV_TRACE_CTRL.post a ≤ s.get X.sv_tr_post a then (s.set SV_TRACE_STATUS.state a 3).raise SV_INT.trace_done a else s
      else s
  else s

/-! The pair. -/

/-- The engines' codes as the pair's mode admits them: failures of R210 in both modes, R211 as referee, R212 with
heartbeats. -/
def modeCode (s : State) (a code : Nat) : Nat :=
  let dual := s.get SV_RED_CFG.mode a == 1
  if code = 1 ∨ code = 2 ∨ code = 11 then code
  else if 3 ≤ code ∧ code ≤ 6 then (if dual then 0 else code)
  else if 7 ≤ code ∧ code ≤ 9 then (if dual then code else 0)
  else 0

/-- An implausibility, which is not a failure of its own (R211). -/
def implausible (code : Nat) : Bool := decide (3 ≤ code) && decide (code ≤ 6)

/-- A failure of its own (R210, R212). -/
def failedCode (code : Nat) : Bool := code != 0 && !implausible code

/-- The two engines' codes for the wedge: what was reported since the last wedge end comes before what is seen now. -/
def wedgeCodes (s : State) (a : Nat) (obs : WedgeObs) : Nat × Nat :=
  let act := s.get SV_STATUS.active_engine a
  let leg := fun e => s.on X.sv_leg_fail a && act == e
  let c := fun (e miss self o : Nat) => if miss ≠ 0 then 1 else if self ≠ 0 then 2 else if leg e then 11 else modeCode s a o
  (c 0 (s.get X.sv_miss0 a) (s.get X.sv_self0 a) obs.codeA, c 1 (s.get X.sv_miss1 a) (s.get X.sv_self1 a) obs.codeB)

/-- The referee's judgement of the outputs computed for the wedge against those delivered before (R211); 0 for none. -/
def refereeCode (old s : State) (a : Nat) : Nat :=
  if s.get SV_RED_CFG.mode a = 1 then 0
  else if s.get SV_RED_REF.dsp_max a < (s.getS X.sv_setpoint a - old.getS X.sv_setpoint a).natAbs then 3
  else if (List.range 16).any (fun k => decide (s.get SV_RED_REF.dma_max a <
      (s.getS SV_SLOT_STATE.command (16 * a + k) - old.getS SV_SLOT_STATE.command (16 * a + k)).natAbs)) then 4
  else if (List.range 16).any (fun k => decide (rangeMa s a < (s.getS SV_SLOT_STATE.command (16 * a + k)).natAbs)) then 5
  else 0

/-- Deliver nothing: the previous set-point and commands stand (R182, R215, R217). -/
def holdOutputs (old : State) (a : Nat) (s : State) : State :=
  let s := s.setS X.sv_setpoint a (old.getS X.sv_setpoint a)
  (List.range 16).foldl (fun t k => t.setS SV_SLOT_STATE.command (16 * a + k) (old.getS SV_SLOT_STATE.command (16 * a + k))) s

/-- Mark an engine of the pair failed with a code; the pair runs single (R213, R216). -/
def markFailed (a e code : Nat) (s : State) : State :=
  let s := s.setBitOf SV_RED_STATUS.failed a e
  let s := if e = 0 then s.set SV_RED_STATUS.cause0 a code else s.set SV_RED_STATUS.cause1 a code
  let s := ((s.set SV_RED_STATUS.state a 1).clear X.sv_single_imp a).clear X.sv_unres a
  smartEvent <| scLoss (.engine (2 * a + e)) (s.raise SV_RED_INT.engine_failed a)

/-- The standby is failed: the loss has its own record (R26, R213). -/
def standbyFailed (a code : Nat) (s : State) : State :=
  let e := 1 - s.get SV_STATUS.active_engine a
  (markFailed a e code s).event 13 a SV_RED_INT.engine_failed.lo [2 * a + e, code]

/-- Every head of the actuator is write-unsafe for this wedge (R213, R214, R217). -/
def forceUnsafe (a : Nat) (s : State) : State := s.set X.sv_force_unsafe a 1

/-- End a forced swap with a result (R220). -/
def swapEnd (a result : Nat) (s : State) : State :=
  let s := ((s.clear SV_RED_STATUS.swap_pending a).clear X.sv_swap_check a).clear X.sv_swap_n a
  (s.set SV_RED_STATUS.swap_result a result).alarm SV_RED_INT.swap_done a 13 a [result]

/-- The standby fails: a pending forced swap is cancelled, and one that has been made stands (R213, R220). -/
def swapOver (a : Nat) (s : State) : State :=
  if s.on SV_RED_STATUS.swap_pending a then swapEnd a 3 s else if s.on X.sv_swap_check a then swapEnd a 1 s else s

/-- The active role moves to the other engine (R214, R220). -/
def takeOver (a : Nat) (s : State) : State :=
  let s := (s.set SV_STATUS.active_engine a (1 - s.get SV_STATUS.active_engine a)).inc SV_RED_STATUS.switchovers a
  traceTrig a 5 (s.raise SV_RED_INT.switchover a)

/-- A switchover on failure of the active engine (R213, R214, R220). -/
def switchover (a code : Nat) (s : State) : State :=
  let e := s.get SV_STATUS.active_engine a
  let s := if s.on X.sv_swap_check a then swapEnd a 2 s else if s.on SV_RED_STATUS.swap_pending a then swapEnd a 3 s else s
  let s := takeOver a (markFailed a e code s)
  (forceUnsafe a s).event 13 a SV_RED_INT.switchover.lo [2 * a + e, code]

/-- A pair fault begins: outputs held, every head write-unsafe; the loss of its engines invalidates a check that names the pair (R26, R59,
R217). -/
def pairFault (old : State) (a : Nat) (codes : Nat × Nat) (s : State) : State :=
  let s := if s.on SV_RED_STATUS.swap_pending a ∨ s.on X.sv_swap_check a then swapEnd a 3 s else s
  let s := if codes.1 ≠ 0 then (s.setBitOf SV_RED_STATUS.failed a 0).set SV_RED_STATUS.cause0 a codes.1 else s
  let s := if codes.2 ≠ 0 then (s.setBitOf SV_RED_STATUS.failed a 1).set SV_RED_STATUS.cause1 a codes.2 else s
  let s := forceUnsafe a (holdOutputs old a ((s.set SV_RED_STATUS.state a 2).clear X.sv_fault_hold a))
  let s := scLoss (.engine (2 * a)) (smartEvent s)
  s.alarm SV_RED_INT.pair_fault a 13 a [codes.1, codes.2]

/-- A wedge of a pair fault: after hold_wedges wedges the actuator retracts and is lost (R217). -/
def faultHold (a : Nat) (s : State) : State :=
  if (s.image.servo.getD a default).holdWedges ≤ s.get X.sv_fault_hold a then
    if s.on X.act_lost a then s else loseAct a (retract a s)
  else forceUnsafe a (s.inc X.sv_fault_hold a)

/-- The selector with both engines in service (R213). -/
def selectPaired (old : State) (a : Nat) (obs : WedgeObs) (c : Nat × Nat) (s : State) : State :=
  let act := s.get SV_STATUS.active_engine a
  let ca := if act = 0 then c.1 else c.2
  let cs := if act = 0 then c.2 else c.1
  let ref := refereeCode old s a
  if failedCode ca && failedCode cs then pairFault old a c s
  else if failedCode ca then
    let s := if ca = 1 ∨ ca = 11 then holdOutputs old a s else s
    let s := switchover a ca s
    if implausible cs ∨ ref ≠ 0 then s.set X.sv_single_imp a 1 else s
  else if failedCode cs then
    let s := standbyFailed a cs (swapOver a s)
    if implausible ca ∨ ref ≠ 0 then s.set X.sv_single_imp a 1 else s
  else if obs.differ then
    if implausible ca && implausible cs then pairFault old a c s
    else if implausible ca then switchover a ca s
    else if implausible cs then
      (standbyFailed a cs (swapOver a s)).setS X.sv_setpoint a obs.setpoint
    else
      let s := forceUnsafe a (s.setS X.sv_setpoint a obs.setpoint)
      let s := ((s.inc SV_RED_STATUS.unresolved a).raise SV_RED_INT.unresolved a).inc X.sv_unres a
      if s.get SV_RED_CFG.dis_limit a ≤ s.get X.sv_unres a then standbyFailed a 10 s else s
  else
    let s := s.clear X.sv_unres a
    if ref ≠ 0 ∨ (implausible ca && implausible cs) then s.raise SV_RED_INT.implausible a else s

/-- The selector of a pair that runs single (R216). -/
def selectSingle (old : State) (a : Nat) (c : Nat × Nat) (s : State) : State :=
  let act := s.get SV_STATUS.active_engine a
  let seen := if act = 0 then c.1 else c.2
  let code := if seen = 0 then refereeCode old s a else seen
  let mine := fun (n : Nat) => if act = 0 then (n, 0) else (0, n)
  if failedCode code then pairFault old a (mine code) s
  else if implausible code then
    let s := s.inc X.sv_single_imp a
    if 2 ≤ s.get X.sv_single_imp a then pairFault old a (mine code) s else s.event 13 a 0xFF [2 * a + act, code]
  else s.clear X.sv_single_imp a

/-- A pending forced swap takes effect where no head of the actuator has write gate, within two revolutions; a swap that
was made ends with success at its second wedge (R220). -/
def swapStep (a : Nat) (s : State) : State :=
  if s.on SV_RED_STATUS.swap_pending a then
    if s.get SV_RED_STATUS.state a ≠ 0 then s
    else if (s.image.actHeads a).all (fun h => !writing s h) then
      forceUnsafe a ((takeOver a (s.clear SV_RED_STATUS.swap_pending a)).set X.sv_swap_check a 2)
    else
      let s := s.inc X.sv_swap_n a
      if 2 * s.image.wedges ≤ s.get X.sv_swap_n a then swapEnd a 3 s else s
  else s

/-- One wedge of a swap's check has passed. -/
def swapPassed (a : Nat) (s : State) : State :=
  match s.get X.sv_swap_check a with
  | 0 => s
  | 1 => swapEnd a 1 s
  | n => s.set X.sv_swap_check a (n - 1)

/-- The selector's decision of the wedge (R213 to R217, R220). -/
def selector (old : State) (a : Nat) (obs : WedgeObs) (s : State) : State :=
  let c := wedgeCodes s a obs
  let s := match s.get SV_RED_STATUS.state a with
    | 0 => selectPaired old a obs c (swapStep a s)
    | 1 => selectSingle old a c s
    | _ => s
  let s := if s.get SV_RED_STATUS.state a = 0 then swapPassed a s else s
  let s := if s.get SV_RED_STATUS.state a = 2 then faultHold a (holdOutputs old a s) else s
  (((s.clear X.sv_miss0 a).clear X.sv_miss1 a).clear X.sv_self0 a).clear X.sv_self1 a |>.clear X.sv_leg_fail a

/-! The wedge end. -/

/-- A head's write-unsafe state for the wedge reaches the write path: its own bit, the actuator's, or the pair's (R201,
R208, R213, R214). -/
def unsafeNow (a h : Nat) (s : State) : State :=
  let actWide := s.on X.sv_unsafe_act a || s.on X.sv_force_unsafe a
  let s := if actWide then gateOff h gatePosition (setUnsafe h true s) else s
  if s.on SV_SLOT_STATE.unsafeBit h then (gateOff h gatePosition s).clear X.sv_clean h else s.inc X.sv_clean h

/-- A head whose field has not been found by the wedge end is bad with cause 1; its wedge gap has passed all the same (R140, R179,
R478). -/
def missingField (h : Nat) (s : State) : State :=
  if s.on X.sv_seen h then s else badWedge h 1 (gapSamples h (gapBegin h s))

/-- The wedge number: counted on, or in acquisition the one read from a field; from here a wedge ends after the arming of a commit (R60). -/
def wedgeNumber (a : Nat) (s : State) : State :=
  let s := if s.get X.sc_act = a then s.clear X.sc_old else s
  let seen := (s.image.actHeads a).find? (fun h => s.on X.sv_seen h && !s.on X.sv_bad h)
  match svState s a == svAcquiring, seen with
  | true, some h => s.set SV_STATUS.wedge a (s.get X.sv_wn h)
  | _, _ => s.set SV_STATUS.wedge a ((s.get SV_STATUS.wedge a + 1) % max 1 s.image.wedges)

/-- What the engines compute at a wedge end while the heads are off the ramp (R180, R185 to R201). -/
def servoWedge (a : Nat) (s : State) : State :=
  let hs := s.image.actHeads a
  let s := wedgeNumber a (hs.foldl (fun t h => missingField h t) s)
  let s := injStep a s
  let s := if following s a then
      let arm := refPu s a + armError s a
      if refSet s a = [] then s else hs.foldl (fun t h => measureOffset h arm t) s
    else s
  let s := positionLoop a s
  let s := hs.foldl (fun t h => maLoop h t) s
  let s := if svState s a = svAcquiring then acquire a s else s
  let s := if following s a ∨ svState s a = svHolding then lostAll a s else s
  let s := if following s a then seekState a (seekAdvance a s) else s
  hs.foldl (fun t h => headReady h t) s

/-- Queue a head's microactuator command to its front-end, where its group carries CT bytes (R78, R180). -/
def maSend (h : Nat) (s : State) : State :=
  match s.image.groupOf h with
  | some y =>
    if carriesCt s y then
      let c := s.get SV_SLOT_STATE.command h
      ctPart y (h % 16) 0x05 [c % 256, c / 256] s
    else s
  | none => s

/-- The end of a wedge: loops, seek reference, selector, write-unsafe decisions, injection, trace (R180). -/
def wedgeEnd (a : Nat) (obs : WedgeObs) (s : State) : State :=
  let hs := s.image.actHeads a
  let old := s
  let s := (s.set X.sv_sp_prev a (s.get X.sv_setpoint a)).clear X.sv_force_unsafe a
  let s := if armOut s a then servoWedge a s else s
  let s := selector old a obs s
  let s := if armOut s a && s.get SV_RED_STATUS.state a != 2 then hs.foldl (fun t h => maSend h t) s else s
  let s := hs.foldl (fun t h => gapEnd h (unsafeNow a h t)) s
  let s := traceSample a (injEnd a s)
  let s := hs.foldl (fun t h => (t.clear X.sv_seen h).clear X.sv_bad h) (s.clear X.sv_index a)
  spinWedge a s

/-- SERVO_WEDGE_END: the actuator's wedge end (R180). -/
def execServoWedgeEnd (act : Nat) (obs : WedgeObs) (s : State) : Res :=
  run (okAct act) s (fun s => if s.image.hasAct act && !gated s then wedgeEnd act obs s else s)

/-- An engine takes part in its pair: in service and not failed. -/
def engineUp (s : State) (e : Nat) : Bool :=
  (s.get SV_RED_SVC.mask (e / 2)).testBit (e % 2) && !(s.get SV_RED_STATUS.failed (e / 2)).testBit (e % 2)

/-- SERVO_DEADLINE_MISS: an engine has not delivered a wedge's outputs by 1.8 µs; it counts as failed in that wedge (R182,
R210). -/
def execServoDeadlineMiss (eng : Nat) (s : State) : Res :=
  run (okEngine eng) s (fun s =>
    if engineUp s eng then
      let s := (s.raise SV_INT.deadline (eng / 2)).inc SV_STATUS.deadline_miss (eng / 2)
      if eng % 2 = 0 then s.set X.sv_miss0 (eng / 2) 1 else s.set X.sv_miss1 (eng / 2) 1
    else s)

/-- ENGINE_SELF_CHECK: a parity error in an engine's memories (R210, code 2). -/
def execEngineSelfCheck (eng : Nat) (s : State) : Res :=
  run (okEngine eng) s (fun s =>
    if engineUp s eng then (if eng % 2 = 0 then s.set X.sv_self0 (eng / 2) 1 else s.set X.sv_self1 (eng / 2) 1) else s)

/-- LEG_CHECK_FAIL: a delivered word fails its check and is discarded; the previous set-point is held and the pair switches
at the next wedge (R209, R215). -/
def execLegCheckFail (act : Nat) (s : State) : Res :=
  run (okAct act) s (fun s =>
    if s.image.hasAct act ∧ s.get SV_RED_STATUS.state act ≠ 2 then
      (s.set X.sv_setpoint act (s.get X.sv_sp_prev act)).set X.sv_leg_fail act 1
    else s)

/-- COMB_PLAN: the plan of the comb request is delivered (R190). -/
def execCombPlan (act : Nat) (s : State) : Res :=
  run (okAct act) s (fun s =>
    if s.on X.sv_plan_req act then
      let plan := combPlan s act (s.get X.sv_plan_desc act)
      let s := { s with combPlans := kset [] s.combPlans act plan }
      let s := (s.clear X.sv_plan_req act).set X.sv_plan_ok act 1
      if 1 < plan.length then (s.raise SV_INT.comb_split act).inc SV_STATUS.splits act else s
    else s)

/-- SEEK_REQUEST: a write of SV_SEEK_REQ (R174, R193, R202). -/
def execSeekRequest (act value : Nat) (s : State) : Res :=
  run (okAct act) s (seekRequest act (value % 2 ^ 32) (value.testBit 32))

/-- LOAD_AND_ACQUIRE: SV_CTRL.action 1 (R202). -/
def execLoadAndAcquire (act : Nat) (s : State) : Res :=
  run (okAct act) s (fun s =>
    if s.image.hasAct act then
      let t := loadArm act s
      if svState s act = svAcquiring then t else (s.image.actHeads act).foldl (fun u h => ((u.clear X.sv_acqn h).clear X.sv_has h).clear X.sv_known h) t
    else s)

/-- ACQUISITION_FAIL: no acquisition within 50 revolutions; the actuator parks (R202). -/
def execAcquisitionFail (act : Nat) (s : State) : Res :=
  run (okAct act) s (fun s => if svState s act = svAcquiring then (parkArm act s).alarm SV_INT.acq_fail act 13 act else s)

/-- PARK: SV_CTRL.action 2 (R202). -/
def execPark (act : Nat) (s : State) : Res := run (okAct act) s (parkArm act)

/-- CLEAR_SV_COUNTERS: SV_CTRL.action 3. -/
def execClearSvCounters (act : Nat) (s : State) : Res :=
  run (okAct act) s (fun s => ((s.clear SV_STATUS.splits act).clear SV_STATUS.deadline_miss act).clear SV_STATUS.sat_count act)

/-- TRACE_ARM: recording begins (R204). -/
def execTraceArm (act : Nat) (s : State) : Res :=
  run (okAct act) s (fun s =>
    let s := ((s.set SV_TRACE_STATUS.state act 1).clear SV_TRACE_STATUS.wrapped act).clear SV_TRACE_STATUS.trig_index act
    -- the first wedge after arming is recorded
    ((s.clear X.sv_tr_n act).clear X.sv_tr_post act).set X.sv_tr_dec act (max 1 (s.get SV_TRACE_CTRL.decim act) - 1))

/-- TRACE_TRIGGER_NOW: the trace is triggered at once (R204). -/
def execTraceTriggerNow (act : Nat) (s : State) : Res := run (okAct act) s (traceFire act)

/-- TRACE_STOP: recording stops (R204). -/
def execTraceStop (act : Nat) (s : State) : Res :=
  run (okAct act) s (fun s => if s.get SV_TRACE_STATUS.state act = 3 then s else s.clear SV_TRACE_STATUS.state act)

/-- Nodes to which a signal may be added (R205). -/
def injNodeOk (n : Nat) : Bool := n == 0x50 || n == 0x51 || (decide (0x60 ≤ n) && decide (n < 0x70)) || (decide (0x10 ≤ n) && decide (n < 0x20))

/-- INJECTION_START: the sums are cleared and the signal starts; on any other node it is refused (R205, R206). -/
def execInjectionStart (act : Nat) (s : State) : Res :=
  run (okAct act) s (fun s =>
    if injNodeOk (s.get SV_INJ_CTRL.node act) then
      let s := s.each (List.range 4) (fun i t => t.clear SV_INJ_CORR.sum (4 * act + i))
      let s := ((s.set X.sv_inj act 1).clear X.sv_inj_n act).clear X.sv_inj_phase act
      let s := s.set X.sv_lfsr act (s.get SV_INJ_FREQ.step act % 2 ^ 31)
      traceTrig act 6 s
    else s.raise SV_INT.refused act)

/-- INJECTION_STOP: the injection stops (R205). -/
def execInjectionStop (act : Nat) (s : State) : Res := run (okAct act) s (endInjection act)

/-- INJECTION_END: length wedges have passed (R205, R206). -/
def execInjectionEnd (act : Nat) (s : State) : Res :=
  run (okAct act) s (fun s =>
    if s.on X.sv_inj act && decide (s.get SV_INJ_CTRL.length act ≤ s.get X.sv_inj_n act) then
      (endInjection act s).raise SV_INT.inj_done act
    else s)

/-- FORCED_SWAP: a swap is requested, or refused while the pair runs single, is at fault or is parked (R220). -/
def execForcedSwap (act : Nat) (s : State) : Res :=
  run (okAct act) s (fun s =>
    let st := svState s act
    if s.get SV_RED_STATUS.state act ≠ 0 ∨ st = svOff ∨ st = svParked then swapEnd act 3 s
    else if s.on SV_RED_STATUS.swap_pending act ∨ s.on X.sv_swap_check act then s
    else ((s.set SV_RED_STATUS.swap_pending act 1).clear SV_RED_STATUS.swap_result act).clear X.sv_swap_n act)

/-- CANCEL_SWAP: a pending swap is cancelled (R220). -/
def execCancelSwap (act : Nat) (s : State) : Res :=
  run (okAct act) s (fun s => if s.on SV_RED_STATUS.swap_pending act then swapEnd act 3 s else s)

end Sys2Proof.Machine
end

