-- ==== Sys2Proof/Machine/Motors.lean ====
section
/-! DEFINITION. The commands and events of motor control (10_motors.md, R221 to R242, R481). -/

namespace Sys2Proof.Machine

/-! The spindle. -/

/-- Clear MC_CTRL.enable while the motors run: the spindle goes to RUNDOWN, loaded actuators retract (R481). -/
def mcDisable (s : State) : State :=
  let s := retractAll s
  let s := s.clear X.spin_retry
  if spin s = spStopped ∨ spin s = spRundown then s else spinRundown s

/-- STOP_BY_COASTING: RUNDOWN, overriding the curve (R225, R233). -/
def stopCoasting (s : State) : State :=
  let s := ((s.set X.spin_over 0 1).clear X.spin_curve).clear X.spin_retry
  if spin s = spStopped then s else spinRundown s

/-- STOP_BY_BRAKING: loaded actuators park, then BRAKE (R225, R234). -/
def stopBraking (s : State) : State := spinDown ((s.set X.spin_over 0 1).clear X.spin_curve)

/-- The action of MC_CTRL.spin_action. -/
def spinAction (n : Nat) (s : State) : State :=
  match n with
  | 1 => spinStart (if s.get MP_PARK_STATUS.latch = 0 then s.set X.spin_over 0 1 else s)
  | 2 => stopCoasting s
  | 3 => stopBraking s
  | _ => s

/-- MC_CTRL_WRITE: the enable bit, then the action (R222, R481). -/
def execMcCtrlWrite (value : Nat) (s : State) : Res :=
  run true s (fun s =>
    let was := s.on MC_CTRL.enable
    let s := s.set MC_CTRL.enable 0 (value % 2)
    let s := if was && value % 2 == 0 then mcDisable s else s
    spinAction (value / 2 % 8) s)

/-- SPINDLE_START: spin_action 1 (R226). -/
def execSpindleStart (s : State) : Res := run true s (spinAction 1)

/-- STOP_BY_COASTING: spin_action 2 (R225). -/
def execStopByCoasting (s : State) : Res := run true s (spinAction 2)

/-- STOP_BY_BRAKING: spin_action 3 (R234). -/
def execStopByBraking (s : State) : Res := run true s (spinAction 3)

/-- The rotor is reacquired: drive resumes toward the target speed, the amplitude ramping over 1 ms (R230). -/
def reacquire (s : State) : State :=
  let s := (s.clear X.spin_soft).raise MC_INT.reacquired
  if 16 * s.get MC_SPIN_CFG.handover_dn ≤ s.get MC_SPIN_STATUS.speed then (spinTo spSine s).clear X.spin_mech else spinTo spSixStep s

/-- A driven spindle whose speed has fallen below the minimum flying speed has the loaded actuators parked (R202). -/
def flySlow (s : State) : State := if s.get MC_SPIN_STATUS.speed < 16 * s.get MC_SPIN_CFG.fly_rpm then flyPark s else s

/-- BACK_EMF_ZERO_CROSSING: a crossing is seen, consistent with those before it or not, at a speed in 1/16 rpm (R225 to
R227, R230). -/
def execBackEmfZeroCrossing (consistent : Bool) (speed : Nat) (s : State) : Res :=
  run true s (fun s =>
    let q := spin s
    let n := if consistent then min 255 (s.get X.spin_cross + 1) else 0
    let s := s.set X.spin_cross 0 n
    if !consistent then s
    else if q = spCatch then leaveCatch (s.set MC_SPIN_STATUS.speed 0 speed)
    else if q = spRamp then
      let s := s.set MC_SPIN_STATUS.speed 0 speed
      if 6 ≤ n then (spinTo spSixStep (s.set X.spin_tgt 0 (speed * 625))).set X.spin_soft 0 10 else s
    else if q = spSixStep then
      let s := flySlow (judgeSpeed 0 (s.set MC_SPIN_STATUS.speed 0 speed))
      if 16 * s.get MC_SPIN_CFG.handover_up ≤ speed ∧ s.on MC_SPIN_STATUS.locked then (spinTo spSine s).clear X.spin_mech else s
    else if q = spCoast then
      if 6 ≤ n then reacquire (s.set MC_SPIN_STATUS.speed 0 speed) else (spinSpeed speed s).set X.spin_cross 0 n
    else if q = spRundown ∨ q = spBrake then spinSpeed speed s
    else s)

/-- SPINDLE_GRANT: the spin-up grant is made; CATCH is left by R225's rows as they stand (R226). -/
def execSpindleGrant (s : State) : Res := run true s leaveCatch

/-- CATCH_TIMEOUT: catch_ms has passed since the start command (R225, R226). -/
def execCatchTimeout (s : State) : Res :=
  run true s (fun s => if spin s = spCatch ∧ s.get X.spin_cross < 3 then leaveCatch (s.set X.spin_catch_out 0 1) else s)

/-- ALIGN_TIMEOUT: align_ms has passed (R225). -/
def execAlignTimeout (s : State) : Res := run true s (fun s => if spin s = spAlign then spinTo spRamp s else s)

/-- RAMP_TIMEOUT: ramp_ms has passed; RUNDOWN, then a retry while start_tries allows, else start_fail (R226). -/
def execRampTimeout (s : State) : Res :=
  run true s (fun s =>
    if spin s = spRamp then
      if s.get X.spin_tries < s.get MC_SPIN_START.start_tries then
        spinRundown ((s.inc X.spin_tries).set X.spin_retry 0 1)
      else (spinRundown s).alarm MC_INT.start_fail 0 14 0
    else s)

/-- RUNDOWN_TIMEOUT: 10 s have passed in RUNDOWN (R225). -/
def execRundownTimeout (s : State) : Res := run true s (fun s => if spin s = spRundown then spinStopped s else s)

/-- BRAKE_HOLD_END: the low-side hold after braking ends (R225). -/
def execBrakeHoldEnd (s : State) : Res := run true s (fun s => if spin s = spBrake ∧ s.on X.spin_hold then spinStopped s else s)

/-- The observer has lost the rotor (R230). -/
def observerLost (s : State) : State := (((spinTo spCoast s).clear X.spin_known).clear X.spin_out).alarm MC_INT.obs_lost 0 14 0

/-- OBSERVER_UPDATE: electrical angle, speed in 1/16 rpm and residual; lock, loss, at speed, the index, and
the duties of the PWM period that begins (R228 to R231). -/
def execObserverUpdate (theta speed residual : Nat) (s : State) : Res :=
  run true s (fun s =>
    let q := spin s
    if q = spRundown then spinSpeed speed s
    else if q = spBrake then spinSpeed speed s
    else if q = spSixStep ∨ q = spSine then
      let old := s.get MC_SPIN_STATUS.speed
      let turned := (theta + 65536 - s.get X.spin_theta) % 65536
      let s := s.set X.spin_theta 0 theta
      let n := if residual < s.get MC_OBS_CFG.lock_thr then min 32 (s.get X.spin_lock_n + 1) else 0
      let s := (s.set X.spin_lock_n 0 n).set MC_SPIN_STATUS.locked 0 (b2n (decide (32 ≤ n)))
      let l := if s.get MC_OBS_CFG.loss_thr < residual then min 255 (s.get X.spin_loss_n + 1) else 0
      let s := s.set X.spin_loss_n 0 l
      let s := flySlow (judgeSpeed turned (s.set MC_SPIN_STATUS.speed 0 speed))
      let jump := decide (0 < old) && decide (old < 20 * ((speed : Int) - old).natAbs)
      if q = spSine then
        if max 1 (s.get MC_OBS_CFG.loss_n) ≤ l ∨ jump then observerLost s
        else if speed < 16 * s.get MC_SPIN_CFG.handover_dn then spinTo spSixStep s
        else
          let s := drivePhases theta s
          let rev := 65536 * max 1 (s.get MC_SPIN_CFG.pole_pairs)
          let m := s.get X.spin_mech + turned
          if rev ≤ m then spinIndex (s.set X.spin_mech 0 (m - rev)) else s.set X.spin_mech 0 m
      else s
    else s)

/-- The target of the speed loop moves toward the commanded speed by 100 µs of the slew (R232). -/
def slewTarget (s : State) : State :=
  let c := spinCommand s * 10000
  let t := s.get X.spin_tgt
  let d := s.get MC_SPIN_RUN.slew_rpm_s
  s.set X.spin_tgt 0 (if t + d < c then t + d else if c + d < t then t - d else c)

/-- SPEED_LOOP: the PI loop on the speed, every 100 µs, its output within run_ma and brake_ma (R229, R230, R234). After a
chopper fault it never brakes (R235). -/
def execSpeedLoop (s : State) : Res :=
  run true s (fun s =>
    let q := spin s
    if q = spSixStep ∨ q = spSine ∨ q = spBrake then
      let s := if q = spBrake then s else slewTarget s
      let e : Int := (s.get X.spin_tgt : Int) / 625 - (s.get MC_SPIN_STATUS.speed : Nat)
      let sh := s.get MC_SPIN_LOOP.shift
      let i := satS 32 (s.getS X.spin_int + shiftMul (s.getS MC_SPIN_LOOP.ki) e sh)
      let s := s.setS X.spin_int 0 i
      let out := shiftMul (s.getS MC_SPIN_LOOP.kp) e sh + i
      let lo : Int := if s.on X.chop_fault then 0 else -(s.get MC_SPIN_RUN.brake_ma : Int)
      let hi : Int := s.get MC_SPIN_RUN.run_ma
      let out := if hi < out then hi else if out < lo then lo else out
      let k := s.get X.spin_soft
      let s := s.set X.spin_soft 0 (min 10 (k + 1))
      let s := s.setS X.spin_out 0 (out * min 10 (k + 1) / 10)
      judgeSpeed 0 s
    else s.clear X.spin_out)

/-- REACQUIRE_TIMEOUT: the speed has stayed unknown for reacq_ms in COAST (R230). -/
def execReacquireTimeout (s : State) : Res :=
  run true s (fun s => if spin s = spCoast ∧ s.get X.spin_known = 0 then flyPark s else s)

/-- What the curve asks for at its present depth (R233, R340). -/
def applyCurve (s : State) : State :=
  let c := s.get MC_CURVE.rpm (s.get MC_IDLE.depth)
  let q := spin s
  if s.on X.spin_over ∨ s.on X.spin_full then s
  else if q = spStopped then
    if s.on X.spin_curve && decide (curveRestart s ≤ c) then spinStart s else s
  else if c < s.get MC_CURVE_CFG.stop_rpm then
    if q = spBrake ∨ q = spRundown then s else spinDown (s.set X.spin_curve 0 1)
  else
    let s := if q = spBrake ∨ q = spRundown then s else s.clear X.spin_wait
    let s := if c < s.get MC_SPIN_CFG.fly_rpm then parkLoaded s else s
    match spinPort s with
    | some p => if (grantOf s p).isSome then hgRequest p 0 false holderSpindle false s else s
    | none => s

/-- IDLE_DEPTH_WRITE: a write of MC_IDLE puts the curve in force; ignored while a management-port park is (R233, R241). -/
def execIdleDepthWrite (depth : Nat) (s : State) : Res :=
  run true s (fun s =>
    if s.get MP_PARK_STATUS.latch ≠ 0 then s
    else applyCurve (((s.set MC_IDLE.depth 0 depth).clear X.spin_over).clear X.spin_full))

/-! Faults and power. -/

/-- SP_FLT: SP_FLT_N asserts; the gates go low and a driven spindle enters COAST (R224). -/
def execSpFlt (s : State) : Res :=
  run true s (fun s =>
    let s := s.raise MC_INT.sp_fault
    if spinDriven s then ((spinTo spCoast s).clear X.spin_known).clear X.spin_out else s)

/-- The bridge of a channel is off: every gate low, nothing integrated (R222, R224, R239). -/
def bridgeOff (a : Nat) (s : State) : State :=
  let s := ((s.clear X.vcm_hi_p a).clear X.vcm_hi_n a).clear X.vcm_end_p a |>.clear X.vcm_end_n a
  ((s.clear MC_VCM_STATUS.depth a).clear X.vcm_int a).clear X.vcm_vel a

/-- VCM_FLT: VCMa_FLT_N asserts; the channel's gates go low (R224). -/
def execVcmFlt (act : Nat) (s : State) : Res :=
  run (okAct act) s (fun s =>
    let s := (s.set X.vcm_flt act 1).set MC_VCM_STATUS.mode act 4
    (bridgeOff act s).alarm MC_INT.vcm_fault 0 14 act)

/-- VCM_FLT_CLEAR: VCMa_FLT_N deasserts within 1 ms; the channel retracts (R224). -/
def execVcmFltClear (act : Nat) (s : State) : Res :=
  run (okAct act) s (fun s =>
    if s.on X.vcm_flt act then
      let s := s.clear X.vcm_flt act
      if s.get X.act_lost act = 1 then s
      else if 2 ≤ s.get X.vcm_phase act then vcmRetract act s
      else if armOut s act then retract act s
      else s.set MC_VCM_STATUS.mode act 0
    else s)

/-- VCM_FAULT_PERSIST: VCMa_FLT_N has stayed asserted for 1 ms; the actuator is lost (R224). -/
def execVcmFaultPersist (act : Nat) (s : State) : Res :=
  run (okAct act) s (fun s => if s.on X.vcm_flt act then spinParked (loseAct act s) else s)

/-- Over-voltage (R235). -/
def overVoltage (chopper : Bool) (s : State) : State :=
  let s := retractAll (spinCut s)
  let s := if chopper then s.raise MC_INT.brk_fault else s
  s.alarm MC_INT.overvolt 0 14 0

/-- BRK_FLT: BRK_FLT_N asserts: an over-voltage with BRK_EN set; a chopper fault in any case (R224, R235). -/
def execBrkFlt (s : State) : Res :=
  run true s (fun s =>
    let en := s.on X.brk_en
    let s := s.set X.chop_fault 0 1
    if en then overVoltage true s
    else
      let s := s.alarm MC_INT.brk_fault 0 14 0
      if spin s = spBrake then spinRundown s else s)

/-- OVER_VOLTAGE: VM has been at or above ov_thr for 2 µs (R235). -/
def execOverVoltage (s : State) : Res := run true s (fun s => overVoltage false (s.set X.bus_ov 0 1))

/-- The spindle returns energy to VM: braking, or a ramped decrease (R234). -/
def regenerating (s : State) : Bool :=
  spin s == spBrake || ((spin s == spSine || spin s == spSixStep) && decide (spinCommand s * 10000 < s.get X.spin_tgt))

/-- BRAKE_CHOPPER_SWITCH: VM, in mV, has crossed a threshold of MC_BUS (R234, R235, R240). -/
def execBrakeChopperSwitch (vm : Nat) (s : State) : Res :=
  run true s (fun s =>
    let s := s.set X.bus_ov 0 (b2n (decide (s.get MC_BUS.ov_thr ≤ vm)))
    let s := if vm < 4000 then s.each (List.range 4) (fun a t => t.clear X.vcm_ok a) else s
    if vm ≤ s.get MC_BUS.brk_off then s.clear X.brk_en
    else if s.get MC_BUS.brk_on ≤ vm ∧ regenerating s ∧ s.get X.chop_fault = 0 then s.set X.brk_en 0 1
    else s)

/-- POWER_LOSS: gates low, BRK_EN cleared, the head-link domains stop, every loaded actuator retracts (R240). -/
def powerLoss (s : State) : State :=
  let s := spinCut (s.raise MC_INT.power_loss)
  let s := s.each ((List.range 16).filter (fun y => s.get HL_GROUP_STATUS.state y != grpOff)) groupOff
  let out := (List.range 4).filter (fun a => armOut s a)
  let s := retractAll s
  s.each out (fun a t => (t.set X.vcm_pl a 1).set X.vcm_ok a 1)

/-- POWER_LOSS: PF_N asserts, or VM has been below uv_thr for 5 µs (R240). -/
def execPowerLoss (s : State) : Res := run true s powerLoss

/-! The voice-coil channels. -/

/-- Record a power-loss retract whose velocity phase has ended, fully or cut (R240). -/
def plRecord (a : Nat) (full : Bool) (s : State) : State :=
  if s.on X.vcm_pl a then
    let s := (s.clear X.vcm_pl a).set MC_PL_STATUS.valid 0 1
    if full then (s.setBitOf MC_PL_STATUS.done 0 a).clearBitOf MC_PL_STATUS.cut 0 a
    else (s.setBitOf MC_PL_STATUS.cut 0 a).clearBitOf MC_PL_STATUS.done 0 a
  else s

/-- RETRACT_VELOCITY_END: ret_ms of the velocity phase have passed; the channel holds latch_ma (R239, R240). -/
def execRetractVelocityEnd (act : Nat) (s : State) : Res :=
  run (okAct act) s (fun s =>
    if s.get X.vcm_phase act = 2 ∧ s.get MC_VCM_STATUS.mode act = 2 then
      let s := plRecord act (s.on X.vcm_ok act) s
      let s := (s.set X.vcm_phase act 3).set MC_VCM_STATUS.mode act 3
      s.clear MC_VCM_STATUS.loaded act
    else s)

/-- A field of motor control that R242 keeps until the carried retracts end. -/
def isMcField (id : Nat) : Bool := (regsMC.flatMap (fun r => r.flds)).any (fun f => f.id == id && decide (f.cls ≤ 1))

/-- The reset of the MC registers that a carried retract delayed (R242). -/
def mcLateReset (s : State) : State :=
  if s.on X.mc_carry && !(List.range 4).any (fun a => decide (2 ≤ s.get X.vcm_phase a)) then
    let s := { s with regs := s.regs.filter (fun c => !isMcField c.1.1) }
    imageCurve (s.clear X.mc_carry)
  else s

/-- LATCH_END: latch_ms have passed; the bridge is off and the actuator parked (R239, R242). -/
def execLatchEnd (act : Nat) (s : State) : Res :=
  run (okAct act) s (fun s =>
    if s.get X.vcm_phase act = 3 then
      let s := ((s.clear X.vcm_phase act).set MC_VCM_STATUS.mode act 0).set MC_VCM_STATUS.parked act 1
      let s := (bridgeOff act s).set SV_STATUS.state act svParked
      let s := s.each (s.image.actHeads act) (fun h t => ((t.clear SV_SLOT_STATE.feedback h).clear X.sv_good h).clear X.sv_known h)
      mcLateReset (spinParked s)
    else s)

/-- A current-loop tick in 5 ns clock cycles: a quarter of the wedge (R236). -/
def tickCycles (m : Image) : Nat := m.revNs / max 1 m.wedges / 20

/-- The depth limit of the last period of a tick, 32,767 = 1 (R236, R238). -/
def depthLimit (s : State) (a : Nat) : Nat :=
  let c := tickCycles s.image
  let n := s.get MC_VCM_CFG.pwm_div a + 1
  let t := 5 * (c / n + c % n)
  32767 * (t - (120 + s.get MC_PWM.blank_ns)) / max 1 t

/-- The measured current in signed set-point units (R237). -/
def measuredCurrent (s : State) (a adc : Nat) : Int :=
  let ma := ((adc : Int) - s.get MC_VCM_CAL.is_zero a) * s.get MC_VCM_CAL.is_gain a
  satS 16 (divRound (ma * 32767) (4096 * s.get MC_VCM_CFG.fs_ma a))

/-- The PI loop of a channel toward a set-point: the modulation depth, the integral frozen while it saturates (R237). -/
def currentLoop (a : Nat) (target : Int) (s : State) : State :=
  let e := target - s.getS MC_VCM_STATUS.current a
  let sh := s.get MC_VCM_CFG.shift a
  let i := satS 32 (s.getS X.vcm_int a + shiftMul (s.getS MC_VCM_CFG.ki a) e sh)
  let m := shiftMul (s.getS MC_VCM_CFG.kp a) e sh + i
  if 32767 < m ∨ m < -32767 then s.setS MC_VCM_STATUS.depth a (clampS 32767 m)
  else (s.setS X.vcm_int a i).setS MC_VCM_STATUS.depth a m

/-- A current in 10 mA units, toward the ramp, in set-point units (R239). -/
def towardRamp (s : State) (a tenMa : Nat) : Int :=
  let x := divRound ((tenMa : Int) * 10 * 32767) (s.get MC_VCM_CFG.fs_ma a)
  clampS 32767 (if s.on MC_VCM_RET.dir a then x else -x)

/-- The arm velocity of a channel from its coil voltage in mV and the measured current, in mrad/s, rounded to the nearest (R239). -/
def armVelocity (s : State) (a : Nat) (vcoil : Int) : Int :=
  let ma := divRound (s.getS MC_VCM_STATUS.current a * s.get MC_VCM_CFG.fs_ma a) 32767
  divRound (1000 * vcoil - ma * s.get MC_VCM_CAL.rcoil_mohm a) (s.get MC_VCM_CAL.kb a)

/-- A free current within ret_ma: the law that regulates the arm velocity is not stated (R239; log entry 29). -/
def regulated (s : State) (a : Nat) : Int :=
  let lim := (towardRamp s a (s.get MC_VCM_RET.ret_ma a)).natAbs
  (s.fresh % (2 * lim + 1) : Nat) - (lim : Int)

/-- The half-bridges of a channel for the tick: the depth to the full in each period but the last, which is limited (R236, R238). -/
def driveBridge (a : Nat) (s : State) : State :=
  let m := s.getS MC_VCM_STATUS.depth a
  let lim := depthLimit s a
  let e := clampS lim m
  let s := if lim < m.natAbs then s.inc MC_VCM_STATUS.lim_ticks a else s
  let s := (s.set X.vcm_hi_p a (32767 + m).toNat).set X.vcm_hi_n a (32767 - m).toNat
  (s.set X.vcm_end_p a (32767 + e).toNat).set X.vcm_end_n a (32767 - e).toNat

/-- CURRENT_LOOP_TICK: a tick with the ADC code sampled in its last period, used at the next tick, and the coil voltage in mV (R236 to R239).
The modulation of a channel whose full scale is 0 is not stated: that depth is a free value. -/
def execCurrentLoopTick (act adc : Nat) (vcoil : Int) (s : State) : Res :=
  run (okAct act) s (fun s =>
    let mode := s.get MC_VCM_STATUS.mode act
    let s :=
      if mode = 0 ∨ mode = 4 then bridgeOff act s
      else if mode = 1 then driveBridge act (currentLoop act (s.getS X.sv_setpoint act) s)
      else if s.get MC_VCM_CFG.fs_ma act = 0 then
        driveBridge act ((s.setS MC_VCM_STATUS.depth act (((s.fresh % 65535 : Nat) : Int) - 32767)).spend)
      else if mode = 3 then driveBridge act (currentLoop act (towardRamp s act (s.get MC_VCM_RET.latch_ma act)) s)
      else if s.get X.vcm_phase act = 2 ∧ (s.get MC_VCM_RET.ret_vel act = 0 ∨ s.get MC_VCM_CAL.kb act = 0) then
        driveBridge act (currentLoop act (towardRamp s act (s.get MC_VCM_RET.ret_ma act)) s)
      else
        let s := s.setS X.vcm_vel act (armVelocity s act vcoil)
        driveBridge act (currentLoop act (regulated s act) s.spend)
    s.setS MC_VCM_STATUS.current act (measuredCurrent s act adc))

end Sys2Proof.Machine
end

