-- ==== Sys2Proof/Machine/Zones.lean ====
section
/-! DEFINITION. The zone and extent manager (12_zones_scheduling.md, R263 to R277): namespaces, zones, where blocks lie,
journal commands. -/

namespace Sys2Proof.Machine

/-- The journal zones. -/
def journalZones (s : State) : List Nat :=
  let a := jrnZones s 0
  let b := jrnZones s 1
  [a.1, a.2, b.1, b.2]

/-- Why an enable is refused (R263). -/
def nsConflict (s : State) (n : Nat) : Bool :=
  let f := nsFirst s n
  let c := nsZones s n
  (List.range 64).any (fun k => k != n && s.on ZX_NS.enable k && decide (f < nsFirst s k + nsZones s k) && decide (nsFirst s k < f + c))
    || (journalZones s).any (fun z => inNs s n z)
    || decide (imageZones s.image < f + c) || (s.get ZX_NS.zoned n == 0 && s.get ZX_NS.compressed n == 0)

/-- Put a page into the cache; the oldest clean page of a namespace not pinned makes room (R306). -/
def cachePage (n page : Nat) (s : State) : State :=
  if s.idxCached.contains (n, page) then s
  else
    let full := decide (s.get CX_IDXC_CFG.pages ≤ s.idxCached.length)
    let out := if full then s.idxCached.find? (fun p => !s.on ZX_NS.pin p.1 && !s.idxDirty.contains p) else none
    let s := match out with
      | some p => showIndex p.1 { s with idxCached := s.idxCached.erase p }
      | none => s
    if full && out.isNone then s else showIndex n { s with idxCached := s.idxCached ++ [(n, page)] }

/-- Read a page of the index as a class-4 read for a command, or for pinning with `job` 0; a page that was never written
needs no read (R306). -/
def loadPage (n page job : Nat) (s : State) : State :=
  match KV.get s.idxMedia (n, page) with
  | none => cachePage n page s
  | some (z, p) =>
    if (allOps s).any (fun o => o.kind == 6 && o.zone == z && o.pos == p) then s
    else msNew 6 4 (writingAct s z p) (combMask s.image z (writingAct s z p)) z p 1 job (page + 1) false s

/-- NS_ENABLE: ZX_NS.enable is set, or refused with ns_conflict; a pinned namespace loads its index pages (R263, R306). -/
def execNsEnable (ns : Nat) (s : State) : Res :=
  run (okNs ns) s (fun s =>
    if s.on ZX_NS.enable ns then s
    else if nsConflict s ns then s.raise ZX_INT.ns_conflict
    else
      let s := s.set ZX_NS.enable ns 1
      if s.on ZX_NS.pin ns && decide (nsPages s ns ≤ s.get CX_IDXC_CFG.pages) then
        showIndex ns ((List.range (nsPages s ns)).foldl (fun t p => loadPage ns p 8192 t) s)
      else showIndex ns s)

/-! Blocks and positions. -/

/-- Group positions into runs of consecutive ones: first and count. -/
def posRuns : List Nat → List (Nat × Nat)
  | [] => []
  | p :: r =>
    match posRuns r with
    | (q, n) :: rest => if q = p + 1 then (p, n + 1) :: rest else (p, 1) :: (q, n) :: rest
    | [] => [(p, 1)]

/-- The slots of an actuator that hold a range of a zone's positions; 0 where one of them has no head there. -/
def readMask (m : Image) (z act p n : Nat) : Nat :=
  let home := (m.comb (m.group (groupIx m z)).comb).act
  let ps := (List.range (min n (groupWidth m (groupIx m z)))).map (fun i => p + i)
  let slots := ps.map (fun q =>
    let h := 16 * home + posSlot m z q
    if act = home then (if m.populated h then some (h % 16) else none)
    else match m.twin h with | some w => if w / 16 = act then some (w % 16) else none | none => none)
  if slots.any (fun x => x.isNone) then 0 else slots.foldl (fun b x => match x with | some k => setBit b k | none => b) 0

/-- An actuator can serve a read now. -/
def actServes (s : State) (z act p n : Nat) (up : State → Nat → Bool) : Bool :=
  let mask := readMask s.image z act p n
  mask != 0 && (bitsOf 16 mask).all (fun k => up s (16 * act + k)) && s.get X.act_lost act == 0

/-- The predicted completion of a read on an actuator, in ns: the queued work ahead of it, seek and rotational wait. The manual gives no
measure of the queued work, so that term is a free value wherever there is some (R279). -/
def readPredict (s : State) (z p act : Nat) : Nat :=
  let ahead := (allOps s).any (fun o => o.act == act)
  (if ahead then Config.free (s.freeCtr + act) else 0) + posAccessNs s act z p

/-- The actuator that serves a read of a zone's positions: of two that can, the one with the lower prediction, the home one on a tie; a
covered read first takes one with no covered operation in service. With none that can now, the one whose heads may come back; none where
no head is left (R279, R289, R28). -/
def readAct (s : State) (z p n : Nat) (covered : Bool) : Option Nat :=
  let home := (s.image.comb (s.image.group (groupIx s.image z)).comb).act
  let twin := home ^^^ 2
  let up := fun a => actServes s z a p n headUp
  let kept := fun a => actServes s z a p n headKept
  let busy := fun a => (allOps s).any (fun o => o.covered && o.act == a)
  if up home && up twin then
    (if covered && busy home != busy twin then some (if busy home then twin else home) else some (if readPredict s z p twin < readPredict s z p home then twin else home))
  else if up home then some home
  else if up twin then some twin
  else if kept home then some home
  else if kept twin then some twin
  else none

/-- A read of positions whose heads are left on both actuators: the slots of the home actuator and those of its twin that serve it, each
surface by a head that is left; none where a surface has none (R27, R28). -/
def readSplit (s : State) (z p n : Nat) : Option (Nat × Nat) :=
  let m := s.image
  let home := (m.comb (m.group (groupIx m z)).comb).act
  (bitsOf 16 (readMask m z home p n)).foldl (fun b k => match b with
    | none => none
    | some (x, y) =>
      if headKept s (16 * home + k) then some (setBit x k, y)
      else match m.twin (16 * home + k) with
        | some w => if headKept s w then some (x, setBit y (w % 16)) else none
        | none => none) (if readMask m z home p n = 0 then none else some (0, 0))

/-- Queue a read of a zone's positions for a command: on one actuator where one has every head it needs, else on both; with no head left
for a surface it is unrecovered (R27, R28, R171, R279). -/
def submitRead (kind cls z p n job aux : Nat) (covered : Bool) (s : State) : State :=
  let home := (s.image.comb (s.image.group (groupIx s.image z)).comb).act
  match readAct s z p n covered with
  | some a => msNew kind cls a (readMask s.image z a p n) z p n job aux covered s.spend
  | none =>
    match readSplit s z p n with
    | some (x, y) => msNew kind cls (home ^^^ 2) y z p n job aux covered (msNew kind cls home x z p n job aux covered s)
    | none => ctxFail job stUnrecovered s

/-! The zone state machine. -/

/-- Active zones. -/
def isActiveState (n : Nat) : Bool := isOpenState n || n == zsClosed

/-- Zones of a namespace in a class of states; of every namespace for `none`. -/
def countZones (s : State) (n : Option Nat) (p : Nat → Bool) : Nat :=
  (s.zones.filter (fun x => p x.2.state && (match n with | some n => inNs s n x.1 | none => true))).length

/-- Why a zone cannot become open: 512 per namespace, 1,024 in all (R316); 0 where it can. -/
def openBar (s : State) (n z : Nat) : Nat :=
  let st := (zoneOf s z).state
  if isOpenState st then 0
  else if st = zsEmpty ∧ (512 ≤ countZones s (some n) isActiveState ∨ 1024 ≤ countZones s none isActiveState) then stTooManyActive
  else if 512 ≤ countZones s (some n) isOpenState ∨ 1024 ≤ countZones s none isOpenState then stTooManyOpen
  else 0

/-- A write or append that opens its zone implicitly. -/
def openImplicit (z : Nat) (s : State) : State :=
  let st := (zoneOf s z).state
  if st = zsEmpty ∨ st = zsClosed then zoneState z zsImplicit 0 s else s

/-- A media operation of a zone has been dispatched and has not ended (R274). -/
def zoneBusy (s : State) (z : Nat) : Bool :=
  (s.sqOps.map (fun p => p.2) ++ s.sqArrive.map (fun p => p.2)).any (fun o => o.zone == z)

/-- Positions of a zone. -/
def zonePositions (s : State) (z : Nat) : Nat := groupPositions s.image (groupIx s.image z)

/-- The zone that a command's first block lies in. -/
def cmdZone (s : State) (x : NvmeCmd) : Nat := nsFirst s (x.nsid - 1) + x.slba / max 1 s.image.zoneSize

/-- The write pointer that the next write of a zone must meet: the host write pointer and the blocks of commands accepted and not
yet completed (R268). `left` of a context counts its accepted blocks. -/
def writePoint (s : State) (z : Nat) : Nat :=
  (zoneOf s z).hwp + (s.ctxs.filter (fun p => p.2.left != 0 && p.2.status == 0 && cmdZone s p.2.cmd == z)).foldl (fun n p => n + p.2.left) 0

/-! Commands. -/

/-- RECOVER: ZX_CTRL.action 1 starts the replay of the journal (R273). -/
def execRecover (s : State) : Res := run true s (fun s => s.set X.zx_recovering 0 1)

/-- A zone as recovery leaves it: from the durable entries, positions between the last placement and the reservation void,
open zones Closed (R273). -/
def recoveredZone (x : Zone) : Zone :=
  let m := max x.resv x.mwp
  let lost := (List.range (m - x.mwp)).map (fun i => x.mwp + i)
  { x with mwp := m, next := m, ahead := [], voids := lost.foldl (fun l p => insertNat p l) x.voids, state := if isOpenState x.state then zsClosed else x.state, held := false }

/-- Overwrite a zone: it is reset, then written in every position (R329). -/
def overwriteZone (z : Nat) (s : State) : State :=
  let s := jrnAdd { kind := 2, zone := z, a := 0, b := 0, mwp := 0, hwp := 0, voids := [], job := 0 } (setZone z emptyZone s)
  let n := zonePositions s z
  let wid := s.get X.ms_wids
  let act := writingAct s z 0
  let w : WriteRec := { wid := wid, ctx := none, ctl := 0, ns := sanNs, zone := z, blocks := 0, left := n, first := 1, last := 0, placed := false }
  msNew 1 4 act (combMask s.image z act) z 0 n wid 0 false { s.set X.ms_wids 0 (wid + 1) with writes := s.writes ++ [w] }

/-- Begin or resume an overwrite: every zone but the journal's, spare zones included (R329). -/
def overwriteAll (s : State) : State :=
  let s := { s with extents := [], mediaExtents := [], partials := [], packing := [], idxCached := [], idxDirty := [], idxMedia := [],
                           wdata := [], source := [], merges := [] }
  s.each ((List.range (imageZones s.image)).filter (fun z => !isJrnZone s z)) overwriteZone

/-- CHECKPOINT_NOW: ZX_CTRL.action 2 (R272). -/
def execCheckpointNow (s : State) : Res := run true s (fun s => if s.on X.zx_stopped then s else jrnSwitch s)

/-- JOURNAL_WRITE: up to 126 waiting entries go into the next journal position of both copies; they wait while the active pair is full and
its checkpoint is being written (R269, R270, R272). -/
def execJournalWrite (s : State) : Res :=
  run true s (fun s =>
    if s.jrnWait.isEmpty ∨ s.on X.zx_stopped ∨ s.on X.zx_ckpt then s
    else if jrnFull s (s.get ZX_JRN_STATUS.active) then jrnSwitch s
    else jrnWrite (s.get ZX_JRN_STATUS.active) (s.jrnWait.take 126) { s with jrnWait := s.jrnWait.drop 126 })

end Sys2Proof.Machine
end

