-- ==== Sys2Proof/Machine/Scheduler.lean ====
section
/-! DEFINITION. The media scheduler (12_zones_scheduling.md, R278 to R290): pieces, positions, dispatch, the urgent class. -/

namespace Sys2Proof.Machine

/-! The urgent class. -/

/-- Actuators in service. -/
def actsUp (s : State) : List Nat := (List.range 4).filter (fun a => s.image.hasAct a && s.get X.act_lost a == 0)

/-- Flumes in service. -/
def flumesUp (s : State) : List Nat := (List.range 32).filter (fun f => (s.get DP_FLUME_SVC.mask).testBit f && s.get X.flume_lost f == 0)

/-- The flume claim for a comb width (R285). -/
def claimOf (s : State) (w : Nat) : Nat :=
  let a := (actsUp s).length
  if a = 0 then 0 else min w (min (s.get DP_POOL.count) (flumesUp s).length / a)

/-- The claim at the widest comb in force: the one that MS_URG_STATUS shows (R44, R285). -/
def flumeClaim (s : State) : Nat := claimOf s (s.image.combs.foldl (fun n c => max n (combWidth s c)) 0)

/-- The claim of an operation: that of the comb width in force for its map (R44, R285). -/
def opClaim (s : State) (z act : Nat) : Nat := claimOf s (combWidth s (s.image.comb (combFor s.image z act)))

/-- The peak of the port that serves an instance. -/
def peakOf (s : State) (kind inst : Nat) : Nat := match s.image.portOf kind inst with | some p => s.get HG_PORT_CFG.peak p | none => 0

/-- What the claim of one actuator draws: its flumes, the digitiser ports of its widest comb map, its lane group (R285). -/
def claimUnits (s : State) (a : Nat) : Nat :=
  let m := s.image
  let flume := (flumesUp s).foldl (fun n f => max n (peakOf s 6 f)) 0
  let widest := (m.combs.filter (fun c => c.act == a)).foldl (fun (b : CombMap) c => if b.width < c.width then c else b) default
  let ports := (bitsOf 16 widest.mask).foldl (fun (l : List Nat) k => match m.portOf 4 (16 * a + k) with
    | some p => if l.contains p then l else l ++ [p]
    | none => l) []
  flumeClaim s * flume + ports.foldl (fun n p => n + s.get HG_PORT_CFG.peak p) 0 + peakOf s 5 a

/-- Show the claim and reserve_short, with its interrupt when it becomes set (R285). -/
def urgStatus (s : State) : State :=
  let short := decide (hgU s < (actsUp s).foldl (fun n a => n + claimUnits s a) 0)
  let s := if short && s.get MS_URG_STATUS.reserve_short == 0 then s.raise MS_INT.reserve_short else s
  (s.set MS_URG_STATUS.reserve_short 0 (b2n short)).set MS_URG_STATUS.claim 0 (flumeClaim s)

/-- Surfaces that a range of a zone touches, as the heads of its home actuator. -/
def touchedHeads (s : State) (z p n : Nat) : List Nat :=
  let m := s.image
  let g := groupIx m z
  let home := (m.comb (m.group g).comb).act
  (bitsOf 16 (readMask m z home p n)).map (fun k => 16 * home + k)

/-- Passes of a read on an actuator: each sub-comb's heads, at most the claim's at a time (R285). -/
def readPasses (s : State) (z p n act : Nat) : Nat :=
  let mask := readMask s.image z act p n
  let desc := mask + posTrack s.image z p % 2 ^ 23 * 2 ^ 16 + combFor s.image z act % 64 * 2 ^ 39
  let c := max 1 (opClaim s z act)
  (combPlan s act desc).foldl (fun k g => k + (popCount 16 g.1 + c - 1) / c) 0

/-- The runs of a command's read: zone, first position, positions. -/
abbrev ReadRun := Nat × Nat × Nat

/-- The first condition of R286 that an urgent read fails, as the counter it is counted under: 0 none, 1 size or passes, 2 state, 3
resource, 4 spacing. -/
def uncovered (s : State) (n blocks port doorbell : Nat) (runs : List ReadRun) : Nat :=
  let heads := runs.flatMap (fun r => touchedHeads s r.1 r.2.1 r.2.2)
  let pairs := (List.range 2).filter (fun k => heads.any (fun h => h / 16 % 2 == k))
  let rate := max 1 s.image.urgentRate
  let gap := (if heads.any (singleServed s) then 2 else 1) * (1000000000 / rate)
  if 256 < blocks then 1
  else if s.get MC_SPIN_STATUS.full = 0 ∨ 2 < s.get HIF_CTL_STATUS.ps port then 2
  else if 5 ≤ s.get TH_STATUS.step then 2
  else if heads.any (fun h => !headUp s h && (match s.image.twin h with | some w => !headUp s w | none => true)) then 3
  else if pairs.any (fun k => s.get X.ms_urg_last k != 0 && decide (doorbell < s.get X.ms_urg_last k + gap)) then 4
  else if s.on X.san_active then 2
  else if nsCompressed s n && s.get CX_NS_STATUS.resident n == 0 then 3
  else if runs.any (fun r => match readAct s r.1 r.2.1 r.2.2 true with | some a => decide (3 < readPasses s r.1 r.2.1 r.2.2 a) | none => false) then 1
  else if s.on MS_URG_STATUS.reserve_short then 3
  else if s.get HIF_PORT_STATUS.speed port ≠ 6 then 2
  else 0

/-- Count an uncovered urgent read under its condition (R288). -/
def countUncovered (why : Nat) (s : State) : State :=
  let s := s.raise MS_INT.uncovered
  match why with
  | 1 => s.inc MS_URG_UNCOV.passes
  | 2 => s.inc MS_URG_UNCOV.state
  | 3 => s.inc MS_URG_UNCOV.resource
  | _ => s.inc MS_URG_UNCOV.spacing

/-- Note a covered doorbell on the pairs it touches (R286). -/
def noteCovered (doorbell : Nat) (runs : List ReadRun) (s : State) : State :=
  let heads := runs.flatMap (fun r => touchedHeads s r.1 r.2.1 r.2.2)
  let s := s.each ((List.range 2).filter (fun k => heads.any (fun h => h / 16 % 2 == k))) (fun k t => t.set X.ms_urg_last k doorbell)
  s.inc MS_URG_STATUS.covered

/-! Packing (R301). -/

/-- A new write number. -/
def newWid (s : State) : Nat := s.get X.ms_wids

/-- Extents of a zone that wait to be packed. -/
def zonePacking (s : State) (z : Nat) : List (Extent × Nat) := s.packing.filter (fun p => p.1.zone == z)

/-- The index takes an extent unless it holds a newer one of the chunk (R307). -/
def indexTake (es : List Extent) (e : Extent) : List Extent :=
  if es.any (fun (x : Extent) => x.ns == e.ns && x.chunk == e.chunk && decide (e.gen < x.gen)) then es
  else es.filter (fun (x : Extent) => !(x.ns == e.ns && x.chunk == e.chunk)) ++ [e]

/-- Extents of a zone whose namespace's key slot is empty are not processed: their writes fail (R139). -/
def packRefused (z : Nat) (s : State) : State :=
  let bad := (zonePacking s z).filter (fun p => keyMissing s p.1.ns)
  bad.foldl (fun t p => writeGone 3 p.2 stAccess t) { s with packing := s.packing.filter (fun p => !(p.1.zone == z && keyMissing s p.1.ns)) }

/-- Pack the waiting extents of a zone into one write whose positions are assigned at dispatch: back to back, encrypted, the last position
padded with zeros (R136, R137, R301). -/
def packZone (z : Nat) (s : State) : State :=
  let s := packRefused z s
  let l := zonePacking s z
  if l.isEmpty || (allOps s).any (fun o => o.kind == 1 && o.zone == z) then s
  else
    let units := l.foldl (fun (n : Nat) (p : Extent × Nat) => n + p.1.len16) 0
    let n := (units + 255) / 256
    let wid := newWid s
    let act := writingAct s z (zoneOf s z).next
    let s := s.set X.ms_wids 0 (wid + 1)
    let s := { s with packs := KV.put natLt s.packs wid (l.map (fun (p : Extent × Nat) => p.2)), packing := s.packing.filter (fun (p : Extent × Nat) => p.1.zone != z) }
    let bytes := l.flatMap (fun p => nsCrypt s false p.1.ns (32 * p.1.chunk) p.1.data)
    let placed := layExtents 0 (l.map (fun p => p.1)) 0
    let s := { s with extents := placed.foldl (fun (es : List Extent) (e : Extent) => indexTake es { e with wid := wid + 1, data := [] }) s.extents,
                      wdata := s.wdata ++ [({ wid := wid, slot := (l.head?).bind (fun p => nsSlot s p.1.ns), lba := 0, bytes := bytesAt bytes 0 (4096 * n) } : WData)] }
    let w : WriteRec := { wid := wid, ctx := none, ctl := 0, ns := 0, zone := z, blocks := 0, left := n, first := 1, last := 0, placed := false }
    msNew 1 3 act (combMask s.image z act) z 0 n wid 0 false { s with writes := s.writes ++ [w] }

/-- Zones with extents to pack. -/
def packAll (s : State) : State := (s.packing.map (fun p => p.1.zone)).foldl (fun t z => packZone z t) s

/-! Dispatch. -/

/-- Positions of a piece: as many rows of the comb width in force as pass in piece_us at the zone's band (R44, R65, R280). -/
def pieceCount (s : State) (o : MsOp) : Nat :=
  let g := groupIx s.image o.zone
  let rows := s.get MS_SCHED.piece_us * 1000 * groupSectors s.image g / max 1 s.image.revNs
  combWidth s (s.image.comb (combFor s.image o.zone o.act)) * max 1 rows

/-- Last position, exclusive, that dispatching an operation would reach. -/
def opEnd (s : State) (o : MsOp) : Nat :=
  if o.kind = 1 then (zoneOf s o.zone).next + min o.count (pieceCount s o) else o.pos + o.count

/-- The order in which operations were fetched: the list, and its place. -/
def earlierSame (l : List MsOp) (o : MsOp) : Bool :=
  (l.takeWhile (fun x => x.tag != o.tag)).any (fun x => x.kind == 1 && x.zone == o.zone)

/-- A self-test that has yielded issues no media work: its reads, and the attempts of their sectors, wait (R330). -/
def testHeld (s : State) (o : MsOp) : Bool :=
  s.on X.dst_yield && (o.kind == 5 || (o.kind == 8 && s.ladders.any (fun l => l.id == o.aux && l.op.kind == 5)))

/-- The rules of R271, R276, R281, R282 and R330 let an operation go now. -/
def opAllowed (s : State) (a : Nat) (o : MsOp) : Bool :=
  let l := opsOf s a
  let write := !o.isRead
  let heads := if write then o.heads.all (fun h => s.get MS_HEAD_SVC.in_service h == 1 && s.get X.head_lost h == 0 && s.get HL_HEAD_CFG.suspended h == 0)
    else if o.kind = 2 then o.heads.all (fun h => s.get MS_HEAD_SVC.in_service h == 1 && s.get X.head_lost h == 0)
    else o.heads.all (headUp s)
  let zone := zoneOf s o.zone
  let data := write && o.kind != 3
  let order := o.kind != 1 || (!earlierSame l o && !s.msHold.any (fun x => x.kind == 1 && x.zone == o.zone && x.tag != o.tag && decide (x.since < o.since)))
  let ordered := match nsOfZone s o.zone with
    | some n => s.get ZX_NS.class_ordered n == 0 ||
        (!l.any (fun x => nsOfZone s x.zone == some n && decide (x.cls < o.cls))
          && !(l.takeWhile (fun x => x.tag != o.tag)).any (fun x => nsOfZone s x.zone == some n && x.cls == o.cls))
    | none => true
  -- an urgent attempt waits while a later covered operation of a single-served surface does (R289)
  let yields := o.kind == 8 && o.covered && o.heads.any (singleServed s) && l.any (fun x => x.covered && x.kind != 8 && x.job != o.job)
  heads && order && ordered && !yields && !testHeld s o && !(data && (zone.held || s.on X.zx_stopped || decide (zone.resv < opEnd s o)))

/-- The predicted access time of an operation: to its first position, the next of its zone for a write not yet placed (R280). -/
def opAccess (s : State) (o : MsOp) : Nat :=
  posAccessNs s o.act o.zone (if o.kind = 1 then (zoneOf s o.zone).next else o.pos)

/-- The operation with the least predicted access time, on a tie the older (R280). -/
def leastAccess (s : State) (l : List MsOp) : Option MsOp :=
  l.foldl (fun b o => match b with
    | none => some o
    | some x =>
      let t := opAccess s o
      let u := opAccess s x
      if t < u ∨ (t = u ∧ o.since < x.since) then some o else some x) none

/-- The operation with the earliest queueing of a list. -/
def oldestOp (l : List MsOp) : Option MsOp :=
  l.foldl (fun b o => match b with
    | none => some o
    | some x => if o.since < x.since then some o else some x) none

/-- The order of R280, with the reserved slot of R284 and the piece rule: the operation, and whether it goes on age. -/
def pickOp (s : State) (a : Nat) : Option (MsOp × Bool) :=
  let l := (opsOf s a).filter (opAllowed s a)
  match oldestOp (l.filter (fun o => o.covered)) with
  | some o => some (o, false)
  | none =>
    let l := if s.get MS_ACT_STATE.slot_phase a = 0 then l.filter (fun o => o.cls == 0) else l
    match l.find? (fun o => o.tag + 1 == s.get X.ms_piece a) with
    | some o => some (o, false)
    | none =>
      match oldestOp (l.filter (fun o => decide (s.get MS_SCHED.age_ms * 1000000 < s.dtime - o.since))) with
      | some o => some (o, true)
      | none => (leastAccess s l).map (fun o => (o, false))

/-- A thread that waits in FETCH with nothing handed to it (R243). -/
def threadFree (s : State) (a t : Nat) : Bool :=
  let k := thrNo a t
  s.get SQ_STATUS.state a == sqRunning && s.get SQ_THR_STATE.state k == thWaiting && (wordAt s a (pcOf s a t)).op == 0x0E
    && (KV.get s.sqArrive k).isNone && (KV.get s.sqOps k).isNone

/-- The thread that takes an operation: thread 3 first for an urgent one, threads 0 to 2 for any (R243). -/
def threadFor (s : State) (a cls : Nat) : Option Nat :=
  (if cls = 0 then [3, 0, 1, 2] else [0, 1, 2]).find? (threadFree s a)

/-- Ask for a greater reservation of a zone, in steps of reserve_rows rows (R271). -/
def askReservation (z upTo : Nat) (s : State) : State :=
  let g := groupIx s.image z
  let step := s.get ZX_JRN_CFG.reserve_rows * groupWidth s.image g
  let r := (zoneOf s z).resv
  if upTo ≤ r ∨ s.jrnWait.any (fun e => e.kind == 0 && e.zone == z) ∨ s.jrnPos.any (fun j => j.entries.any (fun e => e.kind == 0 && e.zone == z)) then s
  else
    let n := min (groupPositions s.image g) (r + (upTo - r + step - 1) / max 1 step * step)
    jrnAdd { kind := 0, zone := z, a := n, b := 0, mwp := 0, hwp := 0, voids := [], job := 0 } s

/-- Assign positions to a write as it is dispatched: the extents it packs take their places, and with no other write of the
zone queued the rest of its last row is void (R157, R268, R301). -/
def assignPositions (o : MsOp) (n : Nat) (s : State) : MsOp × State :=
  let x := zoneOf s o.zone
  let p := x.next
  let g := groupIx s.image o.zone
  let w := groupWidth s.image g
  let more := decide (n < o.count) || s.packing.any (fun e => e.1.zone == o.zone)
    || (allOps s).any (fun y => y.kind == 1 && y.zone == o.zone && y.tag != o.tag)
  let pad := if more then 0 else (w - (p + n) % w) % w
  let s := updZone o.zone (fun x => { x with next := p + n + pad }) s
  let s := (List.range pad).foldl (fun t i => updZone o.zone (fun x => x.void (p + n + i)) t) s
  let s := { s with writes := s.writes.map (fun (r : WriteRec) => if r.wid = o.job then { r with first := if r.last < r.first then p else r.first, last := p + n - 1, more := if pad = 0 then r.more else r.more ++ [(p + n, p + n + pad - 1)] } else r) }
  let mine := s.extents.filter (fun e => e.wid == o.job + 1)
  let s := if mine.isEmpty then s else
    { s with extents := s.extents.map (fun (e : Extent) => if e.wid == o.job + 1 then { e with pos := p + e.pos, wid := 0 } else e) }
  let s := srcAssign o.job o.zone p n s
  let s := mine.foldl (fun t e =>
    let page := (e.ns, e.chunk / 256)
    let t := cachePage e.ns (e.chunk / 256) t
    if t.idxDirty.contains page then t else { t with idxDirty := t.idxDirty ++ [page] }) s
  ({ o with pos := p, count := n }, s)

/-- PREEMPT for the non-urgent holders that stand between an urgent operation and its claim (R285). -/
def preemptFor (a : Nat) (o : MsOp) (s : State) : State :=
  let s := if s.get SQ_STATUS.arm_held a = 1 ∧ thrClass s a (s.get SQ_STATUS.arm_owner a) ≠ 0 then preemptArm a s else s
  let busy := s.flumes.filter (fun p => p.2.cur.isSome)
  let free := (flumesUp s).length - busy.length
  let need := opClaim s o.zone a - free
  let holders := (busy.filterMap (fun p => p.2.cur)).filter (fun j => !j.req.urgent)
  (holders.take need).foldl (fun t j => raiseEvent j.seq j.thr 4 t) s

/-- Hand an operation, or its next piece, to a thread; a recovery attempt is not cut (R173, R243, R254, R280). -/
def handOver (a t : Nat) (o : MsOp) (aged : Bool) (s : State) : State :=
  let s := if aged then s.raise MS_INT.aged else s
  let n := if o.cls = 0 ∨ o.kind = 8 then o.count else min o.count (pieceCount s o)
  let rest := o.count - n
  let s := setOps a ((opsOf s a).filterMap (fun x => if x.tag = o.tag then (if rest = 0 then none else some { x with pos := x.pos + n, count := rest }) else some x)) s
  let s := s.set X.ms_piece a (if rest = 0 then 0 else o.tag + 1)
  let p := if o.kind = 1 then assignPositions o n s else ({ o with count := n }, s)
  let s := { p.2 with sqArrive := KV.put natLt p.2.sqArrive (thrNo a t) p.1 }
  if o.cls = 0 then preemptFor a o s else s

/-- Wake the lane of a head that sleeps because of IDLE-A, once its reader-digitiser grant is held (R99). -/
def wakeIdle (h : Nat) (s : State) : State :=
  match s.image.laneOf h with
  | some x =>
    if s.on X.pwr_slept h then
      if hasGrantFor s 4 h then laneWake x (s.clear X.pwr_slept h)
      else match s.image.portOf 4 h with
        | some p => hgRequest p 0 false holderLink false s
        | none => s
    else s
  | none => s

/-- IDLE-A is left: the state is ACTIVE again and the sleeping lanes wake (R99, R373). -/
def leaveIdleA (s : State) : State :=
  if s.get CR_PWR_STATUS.state = 1 then
    let s := (s.set CR_PWR_STATUS.state 0 0).set CR_PWR_STATUS.entered 0 s.us
    s.each (List.range 64) wakeIdle
  else s

/-- Queued writes of an actuator for which no position remains in their zone: the zone is Full and they fail (R154, log entry 97). -/
def writesNoRoom (a : Nat) (s : State) : State :=
  ((opsOf s a).filter (fun o => o.kind == 1 && decide (zonePositions s o.zone < opEnd s o))).foldl (fun t o =>
    let t := zoneSpent o.zone (setOps a ((opsOf t a).filter (fun x => x.tag != o.tag)) t)
    (writeGone 3 o.job stWriteFault t).alarm WP_INT.rewrite_fail 0 12 (o.heads.headD 0) [o.zone, (zoneOf t o.zone).next]) s

/-- An actuator's queues before a dispatch: attempts and reads that their heads can no longer make move or end, waiting extents are packed,
the staging list moves up, writes without room end (R28, R154, R168, R172, R277, R278, R301). -/
def msReady (a : Nat) (s : State) : State := writesNoRoom a (msRefill (packAll (ladRecheck a (readRecheck s))))

/-- DISPATCH: the first allowed operation of an actuator goes to an idle thread, when the arm is free or the operation is
urgent (R271, R280 to R285, R301). -/
def execDispatch (act : Nat) (s : State) : Res :=
  run (okAct act) s (fun s =>
    if s.get MS_CTRL.enable = 0 ∨ s.get ZX_CTRL.enable = 0 ∨ 2 ≤ s.get X.pwr_level ∨ s.get MP_PARK_STATUS.latch ≠ 0
        ∨ (s.get CR_ACT_STATUS.in_reset).testBit act = true then s
    else if s.get X.act_lost act = 1 then ladRecheck act (readRecheck s)
    else
      let s := msReady act s
      let s := if (opsOf s act).isEmpty then s else leaveIdleA s
      -- writes that would pass their reservation ask for more first
      let s := ((opsOf s act).filter (fun o => o.kind == 1 || o.kind == 4)).foldl (fun t o => askReservation o.zone (opEnd t o) t) s
      match pickOp s act with
      | none => s
      | some (o, aged) =>
        if s.get SQ_STATUS.arm_held act = 1 ∧ o.cls ≠ 0 then s
        else
          match threadFor s act o.cls with
          | none => s
          | some t => (handOver act t o aged s).spend)

/-- SCHEDULE_SLOT: the next slot of the cycle begins; slot 0 is the reserved one (R284). -/
def execScheduleSlot (act : Nat) (s : State) : Res :=
  run (okAct act) s (fun s => s.set MS_ACT_STATE.slot_phase act ((s.get MS_ACT_STATE.slot_phase act + 1) % max 1 (s.get MS_URG_CFG.slot_div)))

end Sys2Proof.Machine
end

