-- ==== Sys2Proof/Machine/Headgate.lean ====
section
/-! DEFINITION. The commands of the Headgate (15_headgate.md, R341 to R351). -/

namespace Sys2Proof.Machine

/-- A grant one of whose holders asked as urgent (R344). -/
def PowerGrant.urgent (g : PowerGrant) : Bool := g.holders.any (fun h => h.urgent)

/-- The instances a port serves. -/
def portUnits (s : State) (p : Nat) : List Nat :=
  (List.range (max 1 (s.get HG_PORT_CFG.count p))).map (fun i => s.get HG_PORT_CFG.first p + i)

/-- The rank of a grant in R346's order; 0 for a fixed grant. -/
def hgRankOf (s : State) (g : PowerGrant) : Nat :=
  let k := portKind s g.port
  if fixedKind k then 0
  else if g.urgent then 8
  else match k with
    | 7 => 1
    | 6 => match (flumeOf s (s.get HG_PORT_CFG.first g.port)).cur with
      | none => 2
      | some j => if j.req.purpose = 1 then 5 else 4
    | 3 => if (portUnits s g.port).any (fun h => match flumeAt s h with
        | some f => match (flumeOf s f).cur with
          | some j => j.req.purpose == 1 && !j.req.urgent
          | none => false
        | none => false) then 5 else 6
    | 4 => if (portUnits s g.port).all (fun h => (flumeAt s h).isNone) then 3 else 6
    | 5 => 7
    | _ => 6

/-- Of grants, the one that is withdrawn first: by rank, then the most recent, then the higher port (R346). -/
def hgVictim (s : State) (l : List PowerGrant) : Option PowerGrant :=
  l.foldl (fun b g => match b with
    | none => some g
    | some x =>
      let r := hgRankOf s g
      let q := hgRankOf s x
      if r < q ∨ (r = q ∧ (x.order < g.order ∨ (x.order = g.order ∧ x.port < g.port))) then some g else some x) none

/-- What the consumer of a port does when its grant is withdrawn, or its unsanctioned activity stopped (R340). -/
def hgStop (p : Nat) (s : State) : State :=
  match portKind s p with
  | 3 => s.each (portUnits s p) (fun h t => gateOffAtEnd h gateGrant t)
  | 4 => s.each (portUnits s p) (fun h t => match t.image.laneOf h with | some x => laneToSleep 4 x t | none => t)
  | 5 =>
    let a := s.get HG_PORT_CFG.first p
    let s := s.each ((s.image.actHeads a).filterMap s.image.laneOf) (fun x t => laneToSleep 4 x t)
    if (List.range 4).any (fun j => grpState s (4 * a + j) != grpOff && grpState s (4 * a + j) != grpFailed) then hgRequest p 0 false holderLink false s
    else s
  | 6 => flumeLeave (s.get HG_PORT_CFG.first p) 9 s
  | 7 =>
    let jobs := s.cxRun.map (fun x => x.2) ++ s.cxSusp.map (fun x => x.2) ++ s.cxReady
    if jobs.isEmpty then s else hgRequest p 0 (jobs.any (fun j => cxRank s j == 1)) holderCompression false s
  | _ => s

/-- Withdraw a grant: notice to its holders, its consumer stops (R340, R345). -/
def hgWithdraw (p : Nat) (s : State) : State := hgStop p (hgNotice p s)

/-- Withdraw a grant of rank 5 together with the writer-and-assist grant of its head (R346). -/
def hgWithdrawRanked (g : PowerGrant) (s : State) : State :=
  if hgRankOf s g = 5 ∧ portKind s g.port = 6 then
    let mate := (flumeOf s (s.get HG_PORT_CFG.first g.port)).cur.bind (fun j => s.image.portOf 3 j.req.head)
    let s := hgWithdraw g.port s
    match mate with
    | some p => if hasGrant s p then hgWithdraw p s else s
    | none => s
  else hgWithdraw g.port s

/-- Grants that are not fixed, draw on G and are not being withdrawn. -/
def hgOnG (s : State) : List PowerGrant := s.hgGrants.filter (fun g => !isFixedPort s g.port && (decide (g.onU < g.units) || g.onU == 0) && !g.withdrawing)

/-- Withdraw until what remains fits G and C (R345, R346). -/
def hgShrink : Nat → State → State
  | 0, s => s
  | n + 1, s =>
    let l := hgOnG s
    let overG := decide (hgG s < l.foldl (fun n g => n + (g.units - g.onU)) 0)
    let part := (s.hgGrants.filter (fun g => !g.withdrawing)).foldl (fun n g => n + s.get HG_PORT_CFG.part_units g.port) 0
    let overC := decide (hgC s < part)
    let cand := if overG then l else if overC then l.filter (fun g => s.get HG_PORT_CFG.part_units g.port != 0) else []
    match hgVictim s cand with
    | some g => hgShrink n (hgWithdrawRanked g s)
    | none => s

/-- Grants on U that it no longer covers move onto G, most recent first (R347). -/
def hgUnreserve : Nat → State → State
  | 0, s => s
  | n + 1, s =>
    if hgU s < hgHeldU s then
      let l := s.hgGrants.filter (fun g => g.onU != 0)
      match l.foldl (fun (b : Option PowerGrant) g => match b with
          | none => some g
          | some x => if x.order < g.order then some g else some x) none with
      | some g => hgUnreserve n (hgReport g.port (updGrant g.port (fun x => { x with onU := 0 }) s))
      | none => s
    else s

/-- A waiting spin-up request that lacks room takes it from the staggered ports, in R346's order (R343). -/
def hgMakeRoom : Nat → State → State
  | 0, s => s
  | n + 1, s =>
    match s.hgReqs.find? (fun r => r.spinUp) with
    | none => s
    | some r =>
      let held := match grantOf s r.port with | some g => g.units | none => 0
      let room := hgX s + hgU s + (hgOnG s).foldl (fun n g => n + (g.units - g.onU)) 0 + (r.units - held)
      if room ≤ hgB s then s
      else match hgVictim s ((hgOnG s).filter (fun g => (s.get HG_PORT_CFG.flags g.port).testBit 1)) with
        | some g => hgMakeRoom n (hgWithdrawRanked g s)
        | none => s

/-- A current that has stayed above its limit costs one grant at each rebalance, with its record (R349). -/
def hgCurrent (s : State) : State :=
  if s.on X.hg_persist 0 || s.on X.hg_persist 1 then
    match hgVictim s (hgOnG s) with
    | some g => (hgWithdrawRanked g s).event 15 g.port 3
    | none => s
  else s

/-- The waiting requests are judged by R342 under the values in force. -/
def hgOversizes (s : State) : State :=
  s.hgReqs.foldl (fun t r =>
    if isFixedPort t r.port then t
    else if hgOversize t r.port r.units then (if t.on HG_PORT_STATUS.oversize r.port then t else (t.set HG_PORT_STATUS.oversize r.port 1).raise HG_INT.oversize)
    else t.clear HG_PORT_STATUS.oversize r.port) s

/-- REBALANCE: the pools are computed afresh, and grants are withdrawn until the rest fits (R342, R345 to R347). -/
def execRebalance (s : State) : Res :=
  run true s (fun s => urgStatus (hgCurrent (hgMakeRoom 128 (hgShrink 128 (hgUnreserve 128 (hgOversizes (hgPools s)))))))

/-- GRANT: the first request of R341's order that fits is granted, if it is the port's (R339, R341, R343, R344). -/
def execGrant (port : Nat) (s : State) : Res :=
  run (okHgPort port) s (fun s =>
    match hgNext s with
    | some (r, u) =>
      if r.port = port then
        let s := hgGrant port r.units { holder := r.holder, units := r.units, urgent := r.urgent } u s
        let s := if portKind s port = 4 then s.each (portUnits s port) wakeIdle else s
        if r.spinUp && s.get MC_SPIN_STATUS.full == 0 then s.set X.hg_stagger 0 1 else s
      else s
    | none => s)

/-- The consumer of a port has stopped what it did (R340). -/
def hgStopped (s : State) (p : Nat) : Bool :=
  match portKind s p with
  | 3 => (portUnits s p).all (fun h => s.get WP_HEAD_STATE.gate h == 0)
  | 4 => (portUnits s p).all (fun h => match s.image.laneOf h with | some x => laneState s x != laneActive | none => true)
  | 5 => ((s.image.actHeads (s.get HG_PORT_CFG.first p)).filterMap s.image.laneOf).all (fun x => laneState s x != laneActive)
  | 6 => (flumeOf s (s.get HG_PORT_CFG.first p)).cur.isNone
  | _ => true

/-- UNITS_RETURN: the consumer of a withdrawn grant has stopped and its units return (R340). -/
def execUnitsReturn (port : Nat) (s : State) : Res :=
  run (okHgPort port) s (fun s =>
    match grantOf s port with
    | some g => if g.withdrawing && hgStopped s port then hgReturn port s else s
    | none => s)

/-- WITHDRAWAL_TIMEOUT: 30 µs after the notice to a digitiser or lane-group port the units return (R340). -/
def execWithdrawalTimeout (port : Nat) (s : State) : Res :=
  run (okHgPort port) s (fun s =>
    match grantOf s port with
    | some g => if g.withdrawing && (portKind s port == 4 || portKind s port == 5) then hgReturn port s else s
    | none => s)

/-- STAGGER_TIMEOUT: stagger_ms has passed before the spindle is full (R343). -/
def execStaggerTimeout (s : State) : Res := run true s (fun s => if s.on X.hg_stagger then spinGrantDown (s.raise HG_INT.stagger) else s)

/-- UNSANCTIONED_DRAW: activity on a port without a grant (R348). -/
def execUnsanctionedDraw (port : Nat) (s : State) : Res :=
  run (okHgPort port) s (fun s =>
    if (grantOf s port).isSome then s
    else
      let s := (s.set HG_PORT_STATUS.unsanctioned port 1).inc HG_PORT_STATUS.unsanctioned_count port
      let s := s.alarm HG_INT.unsanctioned 0 15 port
      if portKind s port = 0 ∨ isFixedPort s port then s else hgStop port s)

/-- CURRENT_TRIP: a sample of a rail's current, in mA. Above the limit the trip gates every writing head; below it a trip in
force ends (R349). -/
def execCurrentTrip (rail5 : Bool) (milliamps : Nat) (s : State) : Res :=
  run true s (fun s =>
    let r := b2n rail5
    let limit := if rail5 then s.get HG_ILIM.i5_ma else s.get HG_ILIM.i12_ma
    let s := s.set (if rail5 then HG_RAIL.i5_ma else HG_RAIL.i12_ma) 0 milliamps
    if milliamps ≤ limit then (s.clear X.hg_trip r).clear X.hg_persist r
    else if s.on X.hg_trip r then s
    else
      let s := gateOffAll gateCurrent (s.set X.hg_trip r 1)
      s.alarm (if rail5 then HG_INT.curlim5 else HG_INT.curlim12) 0 15 0)

/-- CURRENT_PERSIST: the current is still above the limit persist_us after the trip (R349). -/
def execCurrentPersist (rail5 : Bool) (s : State) : Res :=
  run true s (fun s => if s.on X.hg_trip (b2n rail5) then s.set X.hg_persist (b2n rail5) 1 else s)

/-- GROUP_POWER_OFF: off_delay_us after its last grant a group that is not held on powers off (R351). -/
def execGroupPowerOff (group : Nat) (s : State) : Res :=
  run (okPowerGroup group) s (fun s =>
    if (2 * s.get HG_GROUP_ON.force).testBit group || s.hgGrants.any (fun g => s.get HG_PORT_CFG.group g.port == group) then s
    else s.clearBitOf HG_GROUP_STATUS.on 0 group)

/-- REQUEST_STARVED: a non-urgent request has waited longer than starve_us; none behind it is granted before it (R341). -/
def execRequestStarved (port : Nat) (s : State) : Res :=
  run (okHgPort port) s (fun s =>
    if s.hgReqs.any (fun r => r.port == port && !r.urgent && !r.spinUp) && s.get HG_PORT_STATUS.oversize port == 0 then
      (s.set X.hg_starved port 1).raise HG_INT.starve
    else s)

end Sys2Proof.Machine
end

