-- ==== Sys2Proof/Machine/Compression.lean ====
section
/-! DEFINITION. The compression engine (13_compression.md, R291 to R310): jobs, extents, partial chunks, the chunk index. -/

namespace Sys2Proof.Machine

/-! Engines. -/

/-- The level of a chunk (R296). -/
def chunkLevel (s : State) (n : Nat) : Nat :=
  min (s.get CX_NS.level n) (min (s.get MS_PROFILE.max_comp_level) s.image.maxComp)

/-- An engine may take jobs: in service and not in fault (R291, R294). -/
def engUp (s : State) (e : Nat) : Bool := (s.get CX_SVC.mask).testBit e && s.get CX_ENG_STATUS.state e != 5

/-- A job goes before another: by rank, then by age for compressions and by class for other expansions (R292). -/
def cxBefore (s : State) (x y : CxJob) : Bool :=
  let r := cxRank s x
  let q := cxRank s y
  decide (r < q) || (r == q && (if r = 3 then decide (x.cls < y.cls) else if r = 1 then false else decide (x.since < y.since)))

/-- The first ready job. -/
def cxFirst (s : State) : Option CxJob :=
  s.cxReady.foldl (fun b j => match b with
    | none => some j
    | some x => if cxBefore s j x then some j else some x) none

/-- An engine begins a job; a compression takes its level now (R296). -/
def cxBegin (e : Nat) (j : CxJob) (s : State) : State :=
  let j := if j.kind = 0 then { j with level := chunkLevel s j.ns } else j
  cxShow { s with cxReady := s.cxReady.eraseP (fun x => x.kind == j.kind && x.ns == j.ns && x.chunk == j.chunk && x.job == j.job && x.gen == j.gen),
                  cxRun := KV.put natLt s.cxRun e j }

/-- COMPRESSION_JOB_START: the highest-ranked ready job goes to an idle engine; a rank-1 job preempts with none idle; without
the engines' grant it is requested (R291, R292). -/
def execCompressionJobStart (s : State) : Res :=
  run true s (fun s =>
    match cxFirst s with
    | none => s
    | some j =>
      if s.get CX_CTRL.enable = 0 then s
      else
        let up := (List.range 8).filter (engUp s)
        let idle := up.find? (fun e => (KV.get s.cxRun e).isNone && (KV.get s.cxSusp e).isNone)
        if !cxMay s j then
          let s := match cxPort s with
            | some p => hgRequest p 0 (cxRank s j == 1) holderCompression false s
            | none => s
          match idle with
          | some e => s.set CX_ENG_STATUS.state e 4
          | none => s
        else match idle with
          | some e => cxBegin e j s
          | none =>
            if cxRank s j = 1 then
              match up.find? (fun e => (KV.get s.cxSusp e).isNone && (match KV.get s.cxRun e with | some r => cxRank s r != 1 | none => false)) with
              | some e =>
                match KV.get s.cxRun e with
                | some r => cxBegin e j { s with cxSusp := KV.put natLt s.cxSusp e r }
                | none => s
              | none => s
            else s)

/-- An engine's job has ended: the one it holds suspended resumes (R292). -/
def cxEnd (e : Nat) (s : State) : State :=
  let s := s.incWrap CX_ENG_STATUS.chunks e
  let s := match KV.get s.cxSusp e with
    | some j => { s with cxRun := KV.put natLt s.cxRun e j, cxSusp := KV.del s.cxSusp e }
    | none => { s with cxRun := KV.del s.cxRun e }
  cxShow s

/-! Chunks. -/

/-- The zone that a chunk's extent goes to: its own in a zoned namespace, CX_NS.dest_zone in a conventional one (R310). -/
def chunkZone (s : State) (n chunk : Nat) : Nat :=
  if s.on ZX_NS.zoned n then nsFirst s n + chunk * 16 / max 1 s.image.zoneSize else s.get CX_NS.dest_zone n

/-- The chunks of a block range (R300). -/
def rangeChunks (slba nlb : Nat) : List Nat := (List.range ((slba + nlb - 1) / 16 - slba / 16 + 1)).map (fun i => slba / 16 + i)

/-- The blocks of a chunk that a range names, as a mask. -/
def chunkMask (slba nlb k : Nat) : Nat := (List.range 16).foldl (fun m b => if slba ≤ 16 * k + b ∧ 16 * k + b < slba + nlb then setBit m b else m) 0

/-- The writable blocks of a chunk: those of the zone's capacity, or of the namespace (R302). -/
def chunkFull (s : State) (n k : Nat) : Nat :=
  let zs := max 1 s.image.zoneSize
  (List.range 16).foldl (fun m b =>
    let l := 16 * k + b
    let ok := if s.on ZX_NS.zoned n then decide (l % zs < s.image.zoneCap) else decide (l < nsBlocks s n)
    if ok then setBit m b else m) 0

/-- The generation last given to a chunk; 0 for none. -/
def chunkGen (s : State) (n chunk : Nat) : Nat :=
  let a := (s.extents.filter (fun e => e.ns == n && e.chunk == chunk)).foldl (fun g e => max g e.gen) 0
  let b := (s.packing.filter (fun p => p.1.ns == n && p.1.chunk == chunk)).foldl (fun g p => max g p.1.gen) a
  let c := ((cxJobs s).filter (fun j => j.kind == 0 && j.ns == n && j.chunk == chunk)).foldl (fun g j => max g j.gen) b
  (s.partials.filter (fun p => p.ns == n && p.chunk == chunk)).foldl (fun g p => max g p.gen) c

/-- A compression job becomes ready (R292). -/
def compressJob (n chunk gen blocks cls wid : Nat) (data : List Byte) (s : State) : State :=
  let j : CxJob := { kind := 0, ns := n, chunk := chunk, gen := gen, blocks := blocks, level := 0, cls := cls, covered := false, since := s.dtime, job := wid, wid := 0, retried := false, data := bytesAt data 0 (4096 * blocks) }
  { s with cxReady := s.cxReady ++ [j] }

/-- A write that stands for several host writes sharing one extent: it settles with that extent, and they with it. -/
def groupWrite (zone : Nat) (wids : List Nat) (s : State) : Nat × State :=
  let g := s.get X.ms_wids
  let s := s.set X.ms_wids 0 (g + 1)
  let w : WriteRec := { wid := g, ctx := none, ctl := 0, ns := 0, zone := zone, blocks := 0, left := 1, first := 1, last := 0, placed := false }
  (g, { s with packs := KV.put natLt s.packs g wids, writes := s.writes ++ [w] })

/-- Compress and write a partial chunk as it stands; the chunk stays until it is complete (R302). -/
def forcePartial (n chunk : Nat) (s : State) : State :=
  match s.partials.find? (fun p => p.ns == n && p.chunk == chunk) with
  | none => s
  | some p =>
    if p.wids.isEmpty then s
    else
      let (g, s) := groupWrite (chunkZone s n chunk) p.wids s
      let gen := chunkGen s n chunk + 1
      let s := compressJob n chunk gen (maskBlocks p.blocks) p.cls g p.data s
      { s with partials := s.partials.map (fun (x : Partial) => if x.ns = n ∧ x.chunk = chunk then { x with wids := [], gen := gen } else x) }

/-- Force every partial chunk of which a condition holds. -/
def forceWhere (c : Partial → Bool) (s : State) : State := (s.partials.filter c).foldl (fun t p => forcePartial p.ns p.chunk t) s

/-- Blocks written into a chunk by a write, over what is held of it: the chunk is compressed once complete, else held (R302). -/
def chunkWrite (n chunk mask full cls wid : Nat) (data : List Byte) (slba : Nat) (s : State) : State :=
  let have_ := chunkHeld s n chunk ||| mask
  let bytes := chunkPut (heldBytes s n chunk) data mask slba chunk
  let wids := match s.partials.find? (fun p => p.ns == n && p.chunk == chunk) with | some p => p.wids ++ [wid] | none => [wid]
  let rest := s.partials.filter (fun p => !(p.ns == n && p.chunk == chunk))
  let gen := chunkGen s n chunk
  if have_ = full then
    match wids with
    | [w] => compressJob n chunk (gen + 1) (maskBlocks full) cls w bytes { s with partials := rest }
    | _ =>
      let (g, s) := groupWrite (chunkZone s n chunk) wids { s with partials := rest }
      compressJob n chunk (gen + 1) (maskBlocks full) cls g bytes s
  else
    let p : Partial := { ns := n, chunk := chunk, blocks := have_, gen := gen, since := s.dtime, cls := cls, wids := wids, data := bytes }
    { s with partials := rest ++ [p] }

/-- The extent of a compression job with a payload (R298, R300). -/
def jobExtent (s : State) (j : CxJob) (raw : Bool) (payload : List Byte) : Extent :=
  let e : Extent := { ns := j.ns, chunk := j.chunk, gen := j.gen, raw := raw, level := if raw then 0 else j.level, payload := payload.length, orig := 4096 * j.blocks, zone := chunkZone s j.ns j.chunk, pos := 0, off16 := 0, len16 := (32 + payload.length + 15) / 16, wid := 0 }
  { e with data := extentBytes e payload j.data }

/-- COMPRESSION_DONE: the payload is the DEFLATE stream of the job's level, unless a symbol would pass the limit or the self-check fails;
the chunk is then stored raw. The operand is false where a fault of the engine makes the self-check fail (R295 to R301). -/
def execCompressionDone (eng : Nat) (selfCheckOk : Bool) (s : State) : Res :=
  run (okEngine eng) s (fun s =>
    match KV.get s.cxRun eng with
    | none => s
    | some j =>
      if j.kind ≠ 0 ∨ !cxMay s j then s
      else if j.retried then shareSettled 2 j.job (cxEnd eng s)
      else
        match deflate j.level (min (s.get CX_CFG.raw_limit) (4096 * j.blocks)) j.data with
        | none => cxEnd eng { s.inc CX_STAT.raw with packing := s.packing ++ [(jobExtent s j true j.data, j.job)] }
        | some payload =>
          if selfCheckOk && inflate (4096 * j.blocks) payload == some j.data then
            cxEnd eng { s with packing := s.packing ++ [(jobExtent s j false payload, j.job)] }
          else
            let s := s.alarm CX_INT.selfcheck 0 4 eng [j.ns, j.chunk]
            cxEnd eng { s with packing := s.packing ++ [(jobExtent s j true j.data, j.job)] })

/-- The actuator that reads an extent again: that of the twin heads where they can serve (R304). -/
def rereadAct (s : State) (e : Extent) : Nat :=
  let home := (s.image.comb (s.image.group (groupIx s.image e.zone)).comb).act
  if actServes s e.zone (home ^^^ 2) e.pos e.span headUp then home ^^^ 2 else home

/-- Read an extent's sectors again, on the twin where it can serve, for another expansion (R304). -/
def reread (e : Extent) (j : CxJob) (s : State) : State :=
  let n := e.span
  let a := rereadAct s e
  msNew 7 j.cls a (readMask s.image e.zone a e.pos n) e.zone e.pos n j.job (e.chunk + 1) j.covered s

/-- Force Unit Access of a command (R155). -/
def cmdFua (x : NvmeCmd) : Bool := x.cdw12.testBit 30

/-- A write's data is in the Cistern: it completes now with the volatile write cache enabled and no FUA, else once its data has
settled; a write that has failed in part ends so (R155). -/
def writeAccepted (c : Nat) (s : State) : State :=
  match ctxOf s c with
  | some x =>
    if x.stage ≠ 1 then s
    else if x.status ≠ 0 then ctxFinish c x.status s
    else if cmdFua x.cmd || s.on X.vwc_off x.ctl then updCtx c (fun x => { x with stage := 2 }) s else ctxFinish c 0 s
  | none => s

/-- FUA and a disabled write cache force the partial chunks of a command's blocks (R155, R302). -/
def forceFor (x : Ctx) (n : Nat) (ks : List Nat) (s : State) : State :=
  if cmdFua x.cmd || s.on X.vwc_off x.ctl then forceWhere (fun p => p.ns == n && ks.contains p.chunk) s else s

/-- A chunk of a command that had to merge: its blocks go over the bytes its extent gave, or over newer data still held, and the chunk is
compressed; a chunk without an extent is written as any other (R302). -/
def mergeOne (c wid cls : Nat) (m : Merge) (s : State) : State :=
  match KV.get s.expanded (c, m.chunk) with
  | some bytes =>
    let old := (List.range 16).flatMap (fun b => (heldBlock s m.ns m.chunk b).getD (blockAt bytes b))
    compressJob m.ns m.chunk (chunkGen s m.ns m.chunk + 1) 16 cls wid (chunkPut old m.data m.mask (16 * m.chunk) m.chunk) s
  | none => chunkWrite m.ns m.chunk m.mask (chunkFull s m.ns m.chunk) cls wid m.data (16 * m.chunk) s

/-- The expansions of a command that merges have all ended: with a failure nothing is written, else each of its chunks is (R302). -/
def mergeEnd (c : Nat) (s : State) : State :=
  match ctxOf s c with
  | none => s
  | some x =>
    if ctxBusy s c then s
    else if x.status ≠ 0 then ctxCheck c s
    else
      let l := s.merges.filter (fun m => m.ctx == c)
      let wid := ((s.writes.find? (fun w => w.ctx == some c)).map (fun w => w.wid)).getD 0
      let s := l.foldl (fun t m => mergeOne c wid x.cls m t) { s with merges := s.merges.filter (fun m => m.ctx != c) }
      writeAccepted c (forceFor x (x.cmd.nsid - 1) (l.map (fun m => m.chunk)) s)

/-- An expansion has given a chunk's original bytes: its command keeps them; a command that merges goes on with the last of them (R302). -/
def expansionGood (j : CxJob) (bytes : List Byte) (s : State) : State :=
  let s := { s with expanded := KV.put pairLt s.expanded (j.job, j.chunk) bytes }
  if j.kind = 2 then mergeEnd j.job s else ctxCheck j.job s

/-- R168 admits the re-read of an extent for a covered urgent read: its last sector is predicted in time (R168, R304). -/
def rereadAdmits (s : State) (e : Extent) (j : CxJob) : Bool :=
  let m := s.image
  let a := rereadAct s e
  let h := posHead m a e.zone e.pos
  let k := posSector m e.zone e.pos
  match ctxOf s j.job with
  | some x => decide (attemptEnd s h (posTrack m e.zone e.pos) (m.group (groupIx m e.zone)).band k (k + e.span / groupWidth m (groupIx m e.zone)) ≤ urgentBy s x [h])
  | none => false

/-- An expansion has failed with a code of R303: the extent is read again once, and a second failure fails the command's blocks (R302 to
R304). -/
def expansionBad (eng code : Nat) (j : CxJob) (s : State) : State :=
  let s := (s.inc CX_STAT.fail).set CX_STAT.last_code 0 code
  match extentOf s j.ns j.chunk with
  | some e =>
    if !j.retried && (!j.covered || rereadAdmits s e j) then reread e j s.spend
    else
      let s := s.alarm CX_INT.check_fail 0 4 eng [j.ns, j.chunk, code]
      ctxCheck j.job (ctxFail j.job stUnrecovered s)
  | none => ctxCheck j.job s

/-- EXPANSION_DONE: the engine's extent is checked and its payload decoded (R302 to R304). -/
def execExpansionDone (eng : Nat) (s : State) : Res :=
  run (okEngine eng) s (fun s =>
    match KV.get s.cxRun eng with
    | none => s
    | some j =>
      if j.kind = 0 ∨ !cxMay s j then s
      else
        let want : Extent := (extentOf s j.ns j.chunk).getD { ns := j.ns, chunk := j.chunk, gen := j.gen, raw := false, level := 0, payload := 0, orig := 0, zone := 0, pos := 0, off16 := 0, len16 := 0, wid := 0 }
        let out := expandExtent want j.data
        let s := cxEnd eng s
        if out.1 = 0 then expansionGood j out.2 s else expansionBad eng out.1 j s)

/-- ENGINE_FAULT: a parity error; the engine's jobs restart elsewhere (R294). -/
def execEngineFault (eng : Nat) (s : State) : Res :=
  run (okEngine eng) s (fun s =>
    if s.get CX_ENG_STATUS.state eng = 5 then s
    else
      let back := (KV.get s.cxRun eng).toList ++ (KV.get s.cxSusp eng).toList
      let s := { s with cxReady := back ++ s.cxReady, cxRun := KV.del s.cxRun eng, cxSusp := KV.del s.cxSusp eng }
      let s := (s.set CX_ENG_STATUS.state eng 5).clear CX_ENG_STATUS.suspended eng
      (smartEvent (s.clear CX_ENG_STATUS.level eng)).alarm CX_INT.engine_fault 0 4 eng)

/-- ENGINE_IDLE_GATE: idle_us without a job; with no engine left powered the grant is released (R291). -/
def execEngineIdleGate (eng : Nat) (s : State) : Res :=
  run (okEngine eng) s (fun s =>
    if s.get CX_ENG_STATUS.state eng = 1 then
      let s := s.set CX_ENG_STATUS.state eng 0
      if (List.range 8).all (fun e => s.get CX_ENG_STATUS.state e == 0 || s.get CX_ENG_STATUS.state e == 5) then
        match cxPort s with
        | some p => hgRelease p holderCompression s
        | none => s
      else s
    else s)

/-- PARTIAL_CHUNK_FORCE: hold_ms has passed since the chunk's last write (R302). -/
def execPartialChunkForce (ns chunk : Nat) (s : State) : Res := run (okNs ns) s (forcePartial ns chunk)

/-! The index. -/

/-- The zone of an index checkpoint. -/
def idxZone (s : State) : Nat := if s.on CX_IDX_ZONE.active then s.get CX_IDX_ZONE.zone_b else s.get CX_IDX_ZONE.zone_a

/-- Positions of the page table: 8 bytes a page of the enabled compressed namespaces (R305). -/
def pageTablePositions (s : State) : Nat :=
  let n := ((List.range 64).filter (fun n => s.on ZX_NS.enable n && nsCompressed s n)).foldl (fun k n => max k (s.get CX_NS.pt_first n + nsPages s n)) 0
  (8 * n + 4095) / 4096

/-- Write the next position of a zone for CX, with the bytes given (R308). -/
def idxWrite (z : Nat) (b : List Byte) (s : State) : Nat × State :=
  let p := (zoneOf s z).next
  let s := srcPut z p 0 b (updZone z (fun x => { x with next := p + 1 }) s)
  (p, msNew 4 4 (writingAct s z p) (2 ^ (posHead s.image (writingAct s z p) z p % 16)) z p 1 0 0 false s)

/-- An index checkpoint: dirty pages, the page table, the root, then a ZX checkpoint (R308). -/
def indexCheckpoint (s : State) : State :=
  let need := s.idxDirty.length + pageTablePositions s + 1
  let room := fun (t : State) => decide ((zoneOf t (idxZone t)).next + need ≤ zonePositions t (idxZone t))
  let s := if room s then s else (s.set CX_IDX_ZONE.active 0 (1 - s.get CX_IDX_ZONE.active)).raise CX_INT.idx_zone
  if !room s then s
  else
    let z := idxZone s
    let s := s.idxDirty.foldl (fun t page =>
      let (p, t) := idxWrite z (pageBytes t page.1 page.2) t
      { t with idxMedia := (t.idxMedia.filter (fun x => x.1 != page)) ++ [(page, (z, p))] }) s
    let s := (List.range (pageTablePositions s)).foldl (fun t i => (idxWrite z (tableBytes t i) t).2) { s with idxDirty := [] }
    let root := leBytes 0x5843 2 ++ leBytes (s.get ZX_JRN_STATUS.seq) 8 ++ openBytes s 4086
    let s := (idxWrite z root s.spend).2
    if s.on X.zx_stopped then s else jrnSwitch s

/-- INDEX_CHECKPOINT: CX_CTRL.action 2, or dirty_pages dirty pages (R308). -/
def execIndexCheckpoint (s : State) : Res := run true s indexCheckpoint

/-- REBUILD_INDEX: CX_CTRL.action 1 (R308). -/
def execRebuildIndex (s : State) : Res := run true s (fun s => s.set X.cx_rebuild 0 1)

/-- REBUILD_COMPLETE: the index is what the latest root and the placements after it give, or no root is readable (R308). -/
def execRebuildComplete (ok : Bool) (s : State) : Res :=
  run true s (fun s =>
    if s.on X.cx_rebuild then
      let s := s.clear X.cx_rebuild
      if ok then ({ s with extents := s.mediaExtents } : State).raise CX_INT.rebuilt else s.raise CX_INT.idx_fail
    else s)

end Sys2Proof.Machine
end

