-- ==== Sys2Proof/Machine/Parking.lean ====
section
/-! DEFINITION. What a management-port park and a thermal shutdown do to commands in progress (R323, R333, R359), and the
park itself (R241, R456). -/

namespace Sys2Proof.Machine

/-- Keep only the queued operations of which `keep` holds. -/
def keepOps (keep : MsOp → Bool) (s : State) : State :=
  let q := s.msQueue.filterMap (fun (p : Nat × List MsOp) =>
    let l := p.2.filter keep
    if l.isEmpty then none else some (p.1, l))
  { s with msQueue := q, msHold := s.msHold.filter keep }

/-- Take a command's queued media operations out of the queues; what a thread holds ends at its next safe point. -/
def dropReads (c : Nat) (s : State) : State :=
  let mine := fun (o : MsOp) => o.isRead && o.job == c && o.kind != 3
  keepOps (fun o => !mine o) { s with ladders := s.ladders.filter (fun (l : Ladder) => l.op.job != c), ladHeld := s.ladHeld.filter (fun h => !mine h.2.op), cxReady := s.cxReady.filter (fun (j : CxJob) => !(j.kind != 0 && j.job == c)) }

/-- Take back the writes of a command whose data has not been written: their positions are void, and nothing is written
again (R156, R323). -/
def dropWrites (c : Nat) (s : State) : State :=
  let wids := (s.writes.filter (fun w => w.ctx == some c)).map (fun w => w.wid)
  let mine := fun (o : MsOp) => o.kind == 1 && wids.contains o.job
  let s := { s with writes := s.writes.filter (fun w => !wids.contains w.wid), rewrites := s.rewrites.filter (fun u => !wids.contains u.wid) }
  keepOps (fun o => !mine o) { s with cxReady := s.cxReady.filter (fun (j : CxJob) => !(j.kind == 0 && wids.contains j.job)) }

/-- No journal entry or write answers to a command's context any more. -/
def unhookCtx (c : Nat) (s : State) : State :=
  let free := fun (e : JEntry) => if e.kind = 2 ∧ e.job = c + 1 then { e with job := 0 } else e
  { s with jrnWait := s.jrnWait.map free,
           jrnPos := s.jrnPos.map (fun (j : JPos) => { j with entries := j.entries.map free }),
           writes := s.writes.map (fun (w : WriteRec) => if w.ctx = some c then { w with ctx := none } else w) }

/-- End a command of the media with a status, wherever it stands (R323). -/
def endMedia (c status : Nat) (s : State) : State :=
  match ctxOf s c with
  | none => s
  | some x =>
    if x.stage = 3 then s
    else
      let s := dropWrites c (dropReads c (ctxFail c status s))
      let s := unhookCtx c s
      if x.stage = 1 then ctxCheck c s else ctxFinish c status s

/-- I/O commands that act on the media: Flush, Write, Read, Write Zeroes, Dataset Management, Zone Management Send, Zone Append. -/
def isMedia (x : NvmeCmd) : Bool := [0x00, 0x01, 0x02, 0x08, 0x09, 0x79, 0x7D].contains x.opcode

/-- Every media command fetched or in media service completes with Namespace Not Ready (R323, R333, R359). -/
def parkMedia (s : State) : State :=
  (s.ctxs.filter (fun p => p.2.qid != 0 && isMedia p.2.cmd)).foldl (fun t p => endMedia p.1 stNotReady t) s

/-- Blocks completed to the host and not yet settled (R333). -/
def unsettledBlocks (s : State) : Nat := (s.writes.filter (fun w => w.ctx.isNone)).foldl (fun n w => n + w.blocks) 0

/-- Park every actuator, with every writing head's gate removed (R241, R359, R456). -/
def safePark (s : State) : State := parkAll (gateOffAll gateShutdown s)

end Sys2Proof.Machine
end

