-- ==== Sys2Proof/Machine/PowerStates.lean ====
section
/-! DEFINITION. The internal power states (17_resets_power_states.md, R372 to R375): entry and exit by the steps of R374. -/

namespace Sys2Proof.Machine

/-! Codes of CR_PWR_STATUS.state. -/
def pwActive : Nat := 0
def pwIdleA : Nat := 1
def pwIdleB : Nat := 2
def pwStandby : Nat := 3

/-- The entry steps in force in a target state (R374). -/
def pwrGoal (t : Nat) : Nat := if t = pwActive then 0 else if t = pwIdleB then 5 else 7

/-- The target state is reached (R374). -/
def pwrArrive (s : State) : State :=
  let s := s.set CR_PWR_STATUS.state 0 (s.get CR_PWR_STATUS.target)
  let s := (s.set CR_PWR_STATUS.entered 0 s.us).clear CR_PWR_STATUS.in_transition
  let s := s.each (List.range 4) (fun a t => t.clear X.pwr_skip a)
  ((s.clear X.pwr_new).clear X.pwr_wake).raise CR_INT.pwr_done

/-- A move to a target starts, on behalf of `src`: 1 firmware, 2 a doorbell, 3 the management port (R373). -/
def pwrStart (src t : Nat) (s : State) : State :=
  let s := (leaveIdleA s).set CR_PWR_STATUS.target 0 t
  let s := s.clear CR_PWR_STATUS.blocked
  if pwrGoal t = s.get X.pwr_level then pwrArrive s
  else
    let s := s.set CR_PWR_STATUS.in_transition 0 1
    if pwrGoal t < s.get X.pwr_level then s.set CR_PWR_STATUS.last_exit_src 0 src else s

/-- A request for a target: during a transition it is taken at the next step boundary (R375). -/
def pwrRequest (src t : Nat) (s : State) : State :=
  if s.on CR_PWR_STATUS.in_transition then s.set X.pwr_new 0 (t + 1) else pwrStart src t s

/-- POWER_STATE_GO: CR_PWR_CTRL.go with the target that stands there; DEEP only from STANDBY, by the security core, with no data
link up (R373, R376). -/
def execPowerStateGo (core : Nat) (s : State) : Res :=
  run (okCore core) s (fun s =>
    let t := s.get CR_PWR_CTRL.target
    if t = 4 then
      if core = secCore ∧ s.get CR_PWR_STATUS.state = pwStandby ∧ s.get CR_PWR_STATUS.in_transition = 0
          ∧ s.get HIF_PORT_STATUS.dl_up 0 = 0 ∧ s.get HIF_PORT_STATUS.dl_up 1 = 0 then s.set X.pwr_deep 0 1 else s
    else if t = pwActive ∨ t = pwIdleB ∨ t = pwStandby then pwrRequest 1 t s else s)

/-- A doorbell of an I/O queue: in IDLE-B or STANDBY the exit to ACTIVE starts; during an entry it is abandoned at the next step
boundary (R332, R373, R375). While a management-port park is in force it changes nothing, since no host command cancels or delays it (R1,
R458). -/
def pwrDoorbell (s : State) : State :=
  if s.get MP_PARK_STATUS.latch ≠ 0 then s
  else if s.on CR_PWR_STATUS.in_transition then s.set X.pwr_wake 0 1
  else if s.get CR_PWR_STATUS.state = pwIdleB ∨ s.get CR_PWR_STATUS.state = pwStandby then pwrStart 2 pwActive s
  else s

/-- I/O commands have completed and their data has settled (R323, R374 step 1). -/
def mediaQuiet (s : State) : Bool :=
  s.writes.isEmpty && s.ctxs.all (fun p => decide (4 ≤ p.2.cls)) && s.packing.isEmpty
    && !(s.rings.any (fun p => p.2.kind == 0 && p.2.qid != 0 && p.2.head != p.2.tail))

/-- An actuator's steps are skipped: it has been in an ACT reset during the transition, is absent or lost (R375). -/
def pwrSkips (s : State) (a : Nat) : Bool := (s.get CR_ACT_STATUS.in_reset).testBit a || s.on X.pwr_skip a || s.on X.act_lost a || !s.image.hasAct a

/-- The front-ends of the link pass through their safe state: every head is stale and its write set must be sent again (R130,
R143, R374, R378). -/
def frontEndsOff (s : State) : State :=
  s.each (List.range 64) (fun h t => if t.image.populated h then (makeStale h 3 t).set WP_HEAD_STATE.unsent h 1 else t)

/-- Power-gate the flumes and compression engines that serve nothing (R374). -/
def unitsOff (s : State) : State :=
  let s := s.each ((List.range 32).filter (fun f => s.get DP_FLUME_STATUS.state f == 1)) flumeOff
  let s := s.each ((List.range 8).filter (fun e => s.get CX_ENG_STATUS.state e == 1 || s.get CX_ENG_STATUS.state e == 4)) (fun e t => t.clear CX_ENG_STATUS.state e)
  match cxPort s with
  | some p => hgRelease p holderCompression s
  | none => s

/-- The Cistern enters or leaves self-refresh (R374, BM_STATUS). -/
def cisternSleep (sleep : Bool) (s : State) : State :=
  let one := fun (f : Fld) (t : State) => if t.get f = (if sleep then 3 else 4) then t.set f 0 (if sleep then 4 else 3) else t
  one BM_STATUS.dev1 (one BM_STATUS.dev0 s)

/-- The servo pair of an actuator restarts paired from the reset state, a failed engine staying out (R218, R374). -/
def pairRestart (a : Nat) (s : State) : State :=
  let m := s.get SV_RED_SVC.mask a
  if s.get SV_RED_STATUS.state a = 0 ∧ m = 3 then s.set SV_STATUS.active_engine a 0 else s

/-- The servo trace buffers lose their contents in STANDBY (R378). -/
def traceLost (s : State) : State := { s with regs := s.regs.filter (fun c => c.1.1 != SV_TRACE_BUF.value.id) }

/-- Begin an entry step (R374). -/
def entryStep (k : Nat) (s : State) : State :=
  match k with
  | 1 => forceWhere (fun _ => true) s
  | 3 => s.each ((List.range 4).filter (fun a => !pwrSkips s a)) parkArm
  | 4 =>
    let s := s.each ((List.range 16).filter (fun y => grpState s y != grpOff)) groupOff
    frontEndsOff (unitsOff s)
  | 5 => applyCurve ((s.clear X.spin_full).clear X.spin_over)
  | 6 => spinDown s
  | 7 => cisternSleep true (traceLost s)
  | _ => s

/-- An entry step that has begun is complete; during a management-port park unsettled data stays in the Cistern (R333). -/
def stepComplete (k : Nat) (s : State) : Bool :=
  match k with
  | 1 => mediaQuiet s || s.get MP_PARK_STATUS.latch != 0
  | 3 => (List.range 4).all (fun a => pwrSkips s a || isParked s a)
  | 5 => spin s == spStopped || (!s.on X.spin_wait && spin s != spBrake && spin s != spRundown && withinTol s (s.get MC_SPIN_STATUS.speed) && s.get X.spin_tgt == spinCommand s * 10000)
  | 6 => spin s == spStopped
  | _ => true

/-- Begin to undo an entry step (R374). -/
def exitStep (k : Nat) (s : State) : State :=
  match k with
  | 7 =>
    let s := s.each ((List.range 4).filter s.image.hasAct) (fun q t => pairRestart q (repower q t))
    cisternSleep false s
  | 6 => spinAction 1 s
  | 5 => s.set X.spin_full 0 1
  | 4 =>
    if s.on HL_CTRL.enable then s.each ((List.range 16).filter (fun y => !pwrSkips s (y / 4))) (groupAsk false) else s
  | 3 => if s.get MP_PARK_STATUS.latch ≠ 0 then s else s.each ((List.range 4).filter (fun a => !pwrSkips s a)) loadArm
  | _ => s

/-- A step of the exit may be undone now: actuators load once the spindle is full, and the scheduler dispatches once they have
(R374); in a park they are left parked (R375). -/
def exitReady (k : Nat) (s : State) : Bool :=
  match k with
  | 3 => s.on MC_SPIN_STATUS.full || s.get MP_PARK_STATUS.latch != 0
  | 2 => (List.range 4).all (fun a => svState s a != svAcquiring)
  | _ => true

/-- What has happened since the last step boundary is taken: a doorbell abandons an entry, but not under a management-port park (R1); a
new target is taken (R375). -/
def stepBoundary (s : State) : State :=
  let l := s.get X.pwr_level
  let entering := decide (l < pwrGoal (s.get CR_PWR_STATUS.target))
  let s := if s.on X.pwr_wake then
      let s := s.clear X.pwr_wake
      if s.get MP_PARK_STATUS.latch ≠ 0 then s else
      let s := if entering then (s.set CR_PWR_STATUS.last_exit_src 0 2).raise CR_INT.pwr_abandoned else s
      s.set CR_PWR_STATUS.target 0 pwActive
    else s
  if s.on X.pwr_new then
    let t := s.get X.pwr_new - 1
    let s := (s.clear X.pwr_new).set CR_PWR_STATUS.target 0 t
    if entering && decide (pwrGoal t < l) then s.set CR_PWR_STATUS.last_exit_src 0 1 else s
  else s

/-- A latched thermal shutdown stops an exit from STANDBY before the spindle start (R375). -/
def exitBlocked (s : State) : State :=
  let s := ((s.set CR_PWR_STATUS.blocked 0 1).raise CR_INT.pwr_blocked).set CR_PWR_STATUS.target 0 pwStandby
  if 6 ≤ s.get X.pwr_level then (cisternSleep true (s.set X.pwr_level 0 7)).clear CR_PWR_STATUS.in_transition else s

/-- The next step of a transition, in either direction. -/
def pwrStep (s : State) : State :=
  let l := s.get X.pwr_level
  let g := pwrGoal (s.get CR_PWR_STATUS.target)
  if l < g then
    if stepComplete l s then
      let s := (entryStep (l + 1) s).set X.pwr_level 0 (l + 1)
      if l + 1 = g ∧ stepComplete g s then pwrArrive s else s
    else s
  else if g < l then
    if s.on TH_STATUS.shutdown ∧ s.get CR_PWR_STATUS.state = pwStandby then exitBlocked s
    else if exitReady l s then
      let n := if l ≤ 2 then 0 else l - 1
      let s := (exitStep l s).set X.pwr_level 0 n
      if n = g ∧ stepComplete g s then pwrArrive s else s
    else s
  else if stepComplete g s then pwrArrive s
  else s

/-- POWER_TRANSITION_STEP: the step in progress ends where it is complete, and the next begins (R374, R375). -/
def execPowerTransitionStep (s : State) : Res :=
  run true s (fun s => if s.on CR_PWR_STATUS.in_transition then pwrStep (stepBoundary s) else s)

/-- No media operation or compression job is queued or in service (R373). -/
def idleNow (s : State) : Bool := (allOps s).isEmpty && s.cxReady.isEmpty && s.cxRun.isEmpty && s.cxSusp.isEmpty && s.packing.isEmpty

/-- IDLE_A_ENTRY: a_us without media work: lanes sleep, idle flumes and engines are power-gated (R99, R372, R373). -/
def execIdleAEntry (s : State) : Res :=
  run true s (fun s =>
    if s.on CR_PWR_CTRL.idle_a_en ∧ s.get CR_PWR_STATUS.state = pwActive ∧ s.get CR_PWR_STATUS.in_transition = 0 ∧ idleNow s then
      let lanes := (List.range 64).filter (fun x => laneState s x == laneActive)
      let s := s.each lanes (fun x t => (laneToSleep 3 x t).set X.pwr_slept (t.image.headOf x) 1)
      (unitsOff s).set CR_PWR_STATUS.state 0 pwIdleA |>.set CR_PWR_STATUS.entered 0 s.us
    else s)

end Sys2Proof.Machine
end

