-- ==== Sys2Proof/Machine/Thermal.lean ====
section
/-! DEFINITION. Temperature monitoring and throttling (16_thermal.md, R354 to R363) and the TEMP message (R79, R145). -/

namespace Sys2Proof.Machine

/-- On-die sensors that are valid (R355). -/
def validDie (s : State) : List Nat := (List.range 16).filter (fun i => s.get TH_SENSOR.failed i == 0)

/-- The throttle step changes, with its interrupt and record (R358). -/
def setStep (k : Nat) (s : State) : State :=
  if s.get TH_STATUS.step = k then s else urgStatus ((s.set TH_STATUS.step 0 k).alarm TH_INT.step 0 16 0 [k])

/-- The floor of the step: TH_STEP.min_step, and 4 with fewer than 12 valid on-die sensors (R355, R358). -/
def stepFloor (s : State) : Nat := max (s.get TH_STEP.min_step) (if (validDie s).length < 12 then 4 else 0)

/-- T_j at or below throttle − hysteresis (R358, R360). -/
def tjCool (s : State) : Bool := decide (s.getS TH_STATUS.tj ≤ s.getS TH_THR.throttle - s.get TH_THR.hysteresis)

/-- Thermal shutdown (R359). -/
def shutdown (s : State) : State :=
  if s.on TH_STATUS.shutdown then s
  else
    let s := gateOffAll gateShutdown s
    let s := spinDown (safePark s)
    let s := parkMedia (s.set TH_STATUS.shutdown 0 1)
    s.alarm TH_INT.shutdown 0 16 0

/-- Judge T_j after a sample: the highest valid reading; warning, throttle (R355, R357, R358). -/
def judgeTj (s : State) : State :=
  let l := (validDie s).filter (fun i => s.on X.th_seen i)
  let best := l.foldl (fun (b : Option Nat) i => match b with
    | none => some i
    | some j => if s.getS TH_SENSOR.temp j < s.getS TH_SENSOR.temp i then some i else some j) none
  match best with
  | none => s
  | some i =>
    let s := (s.set TH_STATUS.tj 0 (s.get TH_SENSOR.temp i)).set TH_STATUS.hottest 0 i
    let t := s.getS TH_STATUS.tj
    let w := s.getS TH_THR.warning
    let h : Int := s.get TH_THR.hysteresis
    let few := decide ((validDie s).length < 12)
    let s := if s.get TH_STATUS.warning = 0 ∧ (w ≤ t ∨ few) then (s.set TH_STATUS.warning 0 1).alarm TH_INT.warning 0 16 0
      else if t ≤ w - h ∧ ¬ few then s.clear TH_STATUS.warning else s
    let s := if s.on X.th_throttle then (if tjCool s then s.clear X.th_throttle else s)
      else if s.getS TH_THR.throttle ≤ t then
        let s := s.set X.th_throttle 0 1
        if s.get TH_STATUS.step < 8 then setStep (s.get TH_STATUS.step + 1) s else s
      else s
    if few ∧ s.get TH_STATUS.step < 4 then setStep 4 s else s

/-- The air window: outside on any valid diode, or both diodes failed; back inside by the hysteresis on every valid one (R355,
R361). -/
def judgeAir (s : State) : State :=
  let l := [16, 17].filter (fun i => s.get TH_SENSOR.failed i == 0)
  let seen := l.filter (fun i => s.on X.th_seen i)
  let lo := s.getS TH_WIN.air_min
  let hi := s.getS TH_WIN.air_max
  let h : Int := s.get TH_THR.hysteresis
  let out := l.isEmpty || seen.any (fun i => decide (s.getS TH_SENSOR.temp i < lo) || decide (hi < s.getS TH_SENSOR.temp i))
  let inside := !l.isEmpty && l.all (fun i => s.on X.th_seen i && decide (lo + h ≤ s.getS TH_SENSOR.temp i) && decide (s.getS TH_SENSOR.temp i ≤ hi - h))
  if s.get TH_STATUS.air_out = 0 ∧ out then
    let s := (s.set TH_STATUS.air_out 0 1).raise TH_INT.air
    s.each (List.range 64) (fun i t => gateOffAtEnd i gateAir t)
  else if inside then s.clear TH_STATUS.air_out
  else s

/-- A sensor fails: excluded until the next reset (R355, R362). -/
def sensorFail (i : Nat) (s : State) : State :=
  let s := ((s.set TH_SENSOR.failed i 1).clear X.th_shut i).alarm TH_INT.sensor_fail 0 16 i
  if i < 16 then
    let s := judgeTj s
    let few := decide ((validDie s).length < 12)
    let s := if few ∧ s.get TH_STATUS.warning = 0 then (s.set TH_STATUS.warning 0 1).alarm TH_INT.warning 0 16 0 else s
    let s := if few ∧ s.get TH_STATUS.step < 4 then setStep 4 s else s
    if (validDie s).isEmpty then shutdown s else s
  else judgeAir s

/-- The sampling rate of a sensor: near in its band, normal again outside it by the hysteresis (R356). -/
def judgeNear (i : Nat) (s : State) : State :=
  let t := s.getS TH_SENSOR.temp i
  let m : Int := s.get TH_RATE.near_margin
  let h : Int := s.get TH_THR.hysteresis
  let lo := s.getS TH_WIN.air_min
  let hi := s.getS TH_WIN.air_max
  let gap : Int := min (t - lo).natAbs (t - hi).natAbs
  let near := if i < 16 then decide (s.getS TH_THR.throttle - m ≤ t) else decide (gap ≤ m)
  let clear_ := if i < 16 then decide (t ≤ s.getS TH_THR.throttle - m - h) else decide (m + h ≤ gap)
  if near then s.set TH_SENSOR.near i 1
  else if clear_ then s.clear TH_SENSOR.near i
  else s

/-! Reporting (R364). -/

/-- A temperature of 0.125 °C units in kelvin (R364). -/
def kelvin (t : Int) : Nat := (273 + t / 8).toNat

/-- The hottest of a temperature item over the populated heads (R364). -/
def hottestHead (s : State) (f : Fld) : Int :=
  let l := (List.range 64).filter s.image.populated
  l.foldl (fun m h => max m (s.getS f h)) (s.getS f (l.headD 0))

/-- What a selector of the Temperature Threshold feature names, in kelvin: the composite temperature, sensors 1 to 4 (R364). -/
def tempNamed (s : State) (sel : Nat) : Nat :=
  kelvin (match sel with
    | 0 => s.getS TH_STATUS.tj
    | 1 => s.getS TH_SENSOR.temp 16
    | 2 => s.getS TH_SENSOR.temp 17
    | 3 => hottestHead s TH_HEAD.head
    | _ => hottestHead s TH_HEAD.assist)

/-- A threshold that a controller has set: over at 0, under at 1. Reaching it raises the SMART / Health Status event of a temperature
threshold, once until it is left (R315, R364; log entry 119). -/
def tempJudge (c sel under : Nat) (s : State) : State :=
  let i := 16 * c + 2 * sel + under
  match KV.get s.feats (c, 4 + 256 * (sel + 16 * under)) with
  | none => s.clear X.temp_hit i
  | some v =>
    let t := tempNamed s sel
    let hit := if under = 0 then decide (v % 65536 ≤ t) else decide (t ≤ v % 65536)
    if hit && s.get X.temp_hit i == 0 then hostEvent c (1 + 256 + 2 * 65536) (s.set X.temp_hit i 1)
    else if hit then s else s.clear X.temp_hit i

/-- Judge the temperature thresholds of the controllers (R364). -/
def tempEvents (s : State) : State :=
  s.each [0, 1] (fun c t => t.each (List.range 10) (fun k u => tempJudge c (k / 2) (k % 2) u))

/-- SENSOR_SAMPLE: a reading in 0.125 °C of an on-die sensor or a diode; `bad` is a diode's open or short (R355 to R362). -/
def execSensorSample (sensor temp : Nat) (bad : Bool) (s : State) : Res :=
  run (okSensor sensor) s (fun s =>
    if s.on TH_SENSOR.failed sensor then s
    else
      let t := signed 16 temp
      tempEvents <| if t < -320 ∨ 1200 < t ∨ (bad ∧ 16 ≤ sensor) then sensorFail sensor s
      else
        let s := (s.set TH_SENSOR.temp sensor temp).set X.th_seen sensor 1
        let s := judgeNear sensor s
        if sensor < 16 then
          let hot := decide (s.getS TH_THR.shutdown ≤ t)
          let twice := hot && s.on X.th_shut sensor
          let s := s.set X.th_shut sensor (b2n hot)
          judgeTj (if twice then shutdown s else s)
        else judgeAir s)

/-- STEP_UP_TIMER: up_ms with T_j at or above the throttle threshold (R358). -/
def execStepUpTimer (s : State) : Res :=
  run true s (fun s =>
    if s.on X.th_throttle ∧ s.getS TH_THR.throttle ≤ s.getS TH_STATUS.tj ∧ s.get TH_STATUS.step < 8 then setStep (s.get TH_STATUS.step + 1) s else s)

/-- STEP_DOWN_TIMER: down_ms with T_j at or below throttle − hysteresis (R358). -/
def execStepDownTimer (s : State) : Res :=
  run true s (fun s =>
    if tjCool s ∧ stepFloor s < s.get TH_STATUS.step then setStep (s.get TH_STATUS.step - 1) s else s)

/-- Release the shutdown latch, once T_j is low enough; a release before is ignored (R360). -/
def releaseShutdown (s : State) : State := if tjCool s then s.clear TH_STATUS.shutdown else s

/-- RELEASE_SHUTDOWN: TH_CTRL.action 1 (R360). -/
def execReleaseShutdown (s : State) : Res := run true s releaseShutdown

/-- A TEMP message: item 0 a head's temperature, item 1 its assist element's, judged against the window in force (R79, R145, R356). One
for the whole front-end gives every head of the group the reading. -/
def tempMsg (lane slot item temp : Nat) (s : State) : State :=
  tempEvents <| s.each (slotHeads s lane slot) (fun h s =>
    if item = 0 then s.set TH_HEAD.head h temp
    else if item = 1 then
      let t := signed 16 temp
      let lo := s.getS TH_WIN.assist_min
      let hi := s.getS TH_WIN.assist_max
      let m : Int := s.get TH_RATE.near_margin
      let d : Int := s.get TH_THR.hysteresis
      let s := (s.set TH_HEAD.assist h temp).clear TH_HEAD.stale h
      let near := decide ((t - lo).natAbs ≤ m.natAbs) || decide ((t - hi).natAbs ≤ m.natAbs)
      let was := s.on TH_HEAD.near h
      let s := s.set TH_HEAD.near h (b2n near)
      let s := if near = was then s else sendTelem h 1 s
      if t < lo ∨ hi < t then gateOff h gateWindow (s.set WP_HEAD_STATE.out_of_window h 1)
      else if lo + d ≤ t ∧ t ≤ hi - d ∧ s.get X.fe_window h = 0 then s.clear WP_HEAD_STATE.out_of_window h
      else s
    else s)

/-- TEMP (R79, R145, R356). -/
def execTemp (lane slot item temp : Nat) (s : State) : Res := run (okLane lane) s (tempMsg lane slot item temp)

/-- TELEMETRY_STALE: no item 1 of a head in service within four periods; TELEM_REQ is sent once more (R356). -/
def execTelemetryStale (head : Nat) (s : State) : Res :=
  run (okHead head) s (fun s =>
    if headKept s head then sendTelem head 1 ((s.set TH_HEAD.stale head 1).raise TH_INT.telem_stale) else s)

end Sys2Proof.Machine
end

