-- ==== Sys2Proof/Machine/HostQueues.lean ====
section
/-! DEFINITION. Controllers, queues, rings and command contexts (14_host_interface.md, R311 to R326). -/

namespace Sys2Proof.Machine

/-! Further NVMe status values (log entry 41). -/
def stCqInvalid : Nat := 0x100
def stQueueId : Nat := 0x101
def stQueueSize : Nat := 0x102
def stAbortLimit : Nat := 0x103
def stAerLimit : Nat := 0x105
def stFwSlot : Nat := 0x106
def stFwImage : Nat := 0x107
def stLogPage : Nat := 0x109
def stVector : Nat := 0x108
def stQueueDelete : Nat := 0x10C
def stNsCapacity : Nat := 0x115
def stNsAttached : Nat := 0x118
def stNsDetached : Nat := 0x11A
def stFwReset : Nat := 0x111
def stFwProhibited : Nat := 0x113
def stDstRunning : Nat := 0x11D
def stResConflict : Nat := 0x083

/-! What a port presents (R313, R316). -/

/-- MSI-X vectors of a function; INTx and MSI are not supported (R313). -/
def msixVectors : Nat := 2048

/-- Bytes of a port's BAR0, and where its doorbells begin; their stride is 4 bytes (R313). -/
def barBytes : Nat := 0x20000
def barDoorbells : Nat := 0x1000

/-- The BAR0 offset of a queue's doorbell: submission 0, completion 1 (R313). -/
def doorbellAt (qid kind : Nat) : Nat := barDoorbells + 4 * (2 * qid + kind)

/-- Maximum payload and maximum read request of a port, in bytes (R313). -/
def maxPayload : Nat := 512
def maxReadRequest : Nat := 4096

/-- Entries of a queue, CAP.MQES + 1 (R316). -/
def ringEntries : Nat := 16384

/-- CAP.TO in its units of 500 ms: 30 s (R316). -/
def capReady : Nat := 60

/-! Controllers. -/

/-- Controller `c` exists: controller 1 only in configuration 1 (R311, R314). -/
def ctlExists (s : State) (c : Nat) : Bool := c == 0 || (c == 1 && s.on HIF_PORT_CFG.mode)

/-- The controllers that exist. -/
def ctls (s : State) : List Nat := [0, 1].filter (ctlExists s)

/-- The ring region of a controller (R38, R318). -/
def hostRegion (s : State) (c : Nat) : RingRegion := (s.image.rings.find? (fun r => r.owner == c && r.purpose == 0)).getD { first := 0, count := 0, owner := c, purpose := 0, entryLog2 := 0 }

/-- A free ring of a controller's region (R318). -/
def freeRing (s : State) (c : Nat) : Option Nat :=
  let r := hostRegion s c
  ((List.range r.count).map (fun i => r.first + i)).find? (fun i => (KV.get s.rings i).isNone)

/-- A queue's ring: its number and contents. `kind`: 0 submission, 1 completion. -/
def ringOf (s : State) (c kind qid : Nat) : Option (Nat × Ring) := s.rings.find? (fun p => p.2.ctl == c && p.2.kind == kind && p.2.qid == qid)

/-- Put a new queue on a ring. -/
def newRing (n c kind qid cqid prio base size : Nat) (s : State) : State :=
  let r : Ring := { ctl := c, qid := qid, kind := kind, cqid := cqid, prio := prio, base := base, size := size, head := 0, tail := 0, phase := 1, bells := [] }
  { s with rings := KV.put natLt s.rings n r }

/-- CONTROLLER_ENABLE: CC.EN is set with CC.AMS; without application firmware the controller reports CSTS.CFS (R320, R388). The
admin queues' base and size are the host's: free values. -/
def execControllerEnable (ctl ams : Nat) (s : State) : Res :=
  run (okCtl ctl) s (fun s =>
    if !ctlExists s ctl || s.on HIF_CTL_STATUS.en ctl || s.on X.ctl_down ctl || s.get HIF_PORT_STATUS.dl_up ctl == 0 then s
    else
      let s := (s.set HIF_CTL_STATUS.en ctl 1).set HIF_CTL_STATUS.ams ctl ams
      if s.on SB_STATUS.app_absent then s.set X.ctl_cfs ctl 1
      else
        let base := s.fresh
        let size := 2 + s.spend.fresh % 4095
        let s := s.spend.spend
        let s := match freeRing s ctl with
          | some n => newRing n ctl 0 0 0 0 base size s
          | none => s.raise QE_INT.ring_exhausted
        let s := match freeRing s ctl with
          | some n => newRing n ctl 1 0 0 0 base size s
          | none => s.raise QE_INT.ring_exhausted
        s.set HIF_CTL_STATUS.rdy ctl 1)

/-- Entries of a submission queue not yet fetched. -/
def Ring.waiting (r : Ring) : Nat := (r.tail + r.size - r.head) % max 1 r.size

/-! Contexts and fetching. -/

/-- The first context number not in use, from a number on. -/
def firstGap : List (Nat × Ctx) → Nat → Nat
  | [], n => n
  | (k, _) :: r, n => if k = n then firstGap r (n + 1) else n

/-- Contexts held by I/O commands of which a condition holds. -/
def ioHeld (s : State) (p : Ctx → Bool) : Nat := (s.ctxs.filter (fun x => x.2.qid != 0 && p x.2)).length

/-- Contexts held by a controller's admin commands. -/
def adminHeld (s : State) (c : Nat) : Nat := (s.ctxs.filter (fun x => x.2.ctl == c && x.2.qid == 0)).length

/-- Contexts that a controller holds beyond the 8 of its admin commands. -/
def ctlHeld (s : State) (c : Nat) : Nat := ioHeld s (fun x => x.ctl == c) + (adminHeld s c - 8)

/-- A context is available to a queue: of the contexts that are not reserved for admin commands, one is free beyond the other
controller's floor and, but for urgent commands, the urgent reserve; admin commands have 8 besides (R319; log entry 117). -/
def ctxRoom (s : State) (c qid cls : Nat) : Bool :=
  let held := (ctls s).foldl (fun n k => n + ctlHeld s k) 0
  let floor := (ctls s).foldl (fun n k => if k = c then n else n + (s.get QE_CTX_CFG.floor - ctlHeld s k)) 0
  let urgent := if cls = 0 then 0 else s.get QE_CTX_CFG.urg_ctx - ioHeld s (fun x => x.cls == 0)
  qid == 0 && decide (adminHeld s c < 8) || decide (held + floor + urgent < 8192 - 8 * (ctls s).length)

/-- The ladder class of a queue's commands (R320). -/
def fetchClass (s : State) (r : Ring) : Nat :=
  if r.qid = 0 then 4 else if s.get HIF_CTL_STATUS.ams r.ctl = 1 then r.prio else 2

/-! Arbitration among I/O queues (R320), as NVMe defines it (log entry 72). -/

/-- The I/O queues of a controller and class that hold an entry which a context can take. -/
def arbQueues (s : State) (c cls : Nat) : List Nat :=
  (s.rings.filter (fun p => p.2.ctl == c && p.2.kind == 0 && p.2.qid != 0 && fetchClass s p.2 == cls && p.2.waiting != 0 && ctxRoom s c p.2.qid cls)).map (fun p => p.2.qid)

/-- The Arbitration feature of a controller. -/
def arbFeature (s : State) (c : Nat) : Nat := (KV.get s.feats (c, 1)).getD (Config.featureDefault 1)

/-- Commands in a row that one queue may give: 2 to the arbitration burst, 7 for no limit. -/
def arbBurst (s : State) (c : Nat) : Option Nat := if arbFeature s c % 8 = 7 then none else some (2 ^ (arbFeature s c % 8))

/-- Commands that a class takes of a round: the weight of high, medium or low, which the feature holds less one. -/
def arbWeight (s : State) (c cls : Nat) : Nat := arbFeature s c / 2 ^ (32 - 8 * cls) % 256 + 1

/-- The class served next: urgent before all, then high, medium and low by their weights. -/
def arbClass (s : State) (c : Nat) : Nat :=
  let now := s.get X.arb_cls c
  let has := fun k => !(arbQueues s c k).isEmpty
  if has 0 then 0
  else if now ≠ 0 ∧ s.get X.arb_cnt c < arbWeight s c now ∧ has now = true then now
  else ((List.range 3).map (fun i => (now + i) % 3 + 1)).find? has |>.getD 0

/-- The queue of a class served next: the last one until its burst is spent, then the others in turn. -/
def arbQueue (s : State) (c cls : Nat) : Nat :=
  let l := arbQueues s c cls
  let last := s.get X.arb_qid (4 * c + cls)
  let more := match arbBurst s c with | some n => decide (s.get X.arb_run (4 * c + cls) < n) | none => true
  if l.contains last && more then last
  else
    let after := l.filter (fun q => decide (last < q))
    let pick := if after.isEmpty then l else after
    pick.foldl min (pick.headD 0)

/-- It is a queue's turn. -/
def arbTurn (s : State) (c qid : Nat) : Bool := arbQueue s c (arbClass s c) == qid

/-- Count a fetch in the burst of its queue and the round of its class. -/
def arbCount (c qid cls : Nat) (s : State) : State :=
  let same := s.get X.arb_qid (4 * c + cls) == qid
  let s := s.set X.arb_run (4 * c + cls) (if same then (match arbBurst s c with | some n => if s.get X.arb_run (4 * c + cls) < n then s.get X.arb_run (4 * c + cls) + 1 else 1 | none => 1) else 1)
  let s := s.set X.arb_qid (4 * c + cls) qid
  if cls = 0 then s
  else
    let go := s.get X.arb_cls c == cls && decide (s.get X.arb_cnt c < arbWeight s c cls)
    (s.set X.arb_cnt c (if go then s.get X.arb_cnt c + 1 else 1)).set X.arb_cls c cls

/-- Media commands are turned away: a park or a thermal shutdown is in force (R323, R333, R359). -/
def mediaBarred (s : State) : Bool := s.get MP_PARK_STATUS.latch != 0 || s.on TH_STATUS.shutdown

/-- Add to a controller's count of Aborts with an outcome. -/
def countAbort (c : Nat) (done : Bool) (s : State) : State := if done then s.inc QE_ABORT_STATUS.aborted c else s.inc QE_ABORT_STATUS.not_aborted c

/-- An Abort completes: Dword 0 bit 0 clear when it aborted its target (R325). -/
def abortEnd (a : AbortWait) (done : Bool) (s : State) : State :=
  let s := updCtx a.ctx (fun x => { x with dw0 := b2n (!done) }) (countAbort a.ctl done s)
  ctxFinish a.ctx 0 { s with aborts := s.aborts.filter (fun x => x.ctx != a.ctx) }

/-- What a fetch does to one Abort waiting on its queue: the entry named is its target; past the recorded tail without a match
nothing is aborted (R325). -/
def abortSees (c qid cid n : Nat) (a : AbortWait) (s : State) : State :=
  if a.ctl ≠ c ∨ a.qid ≠ qid ∨ a.target.isSome then s
  else if a.cid = cid then
    ctxFinish n stAborted { s with aborts := s.aborts.map (fun (x : AbortWait) => if x.ctx = a.ctx then { x with target := some n } else x) }
  else if a.left ≤ 1 then abortEnd a false s
  else { s with aborts := s.aborts.map (fun (x : AbortWait) => if x.ctx = a.ctx then { x with left := a.left - 1 } else x) }

/-- Take one entry off the oldest doorbell. -/
def takeBell : List (Nat × Nat) → List (Nat × Nat)
  | [] => []
  | (n, t) :: r => if n ≤ 1 then r else (n - 1, t) :: r

/-- Take the self-test's reads, and the ladders of their sectors, out of the media queues (R330). -/
def dstOps (s : State) : State :=
  let mine := (s.ladders.filter (fun l => l.op.kind == 5)).map (fun l => l.id)
  keepOps (fun o => o.kind != 5 && !(o.kind == 8 && mine.contains o.aux)) { s with ladders := s.ladders.filter (fun (l : Ladder) => l.op.kind != 5), ladHeld := s.ladHeld.filter (fun h => h.2.op.kind != 5) }

/-- A self-test yields to a host command: none of its media work is dispatched until it resumes (R330). -/
def dstYield (s : State) : State :=
  if s.get X.dst_run = 0 ∨ s.on X.dst_yield then s else (s.set X.dst_yield 0 1).set X.dst_at 0 s.dtime

/-- An admin command of a controller goes before its I/O (R320). -/
def adminFirst (s : State) (c : Nat) : Bool :=
  (match ringOf s c 0 0 with | some p => p.2.waiting != 0 | none => false) && ctxRoom s c 0 4

/-- COMMAND_FETCH: QE fetches the next entry of a submission queue into a context (R319, R320, R323, R325). -/
def execCommandFetch (ctl qid : Nat) (cmd : NvmeCmd) (s : State) : Res :=
  run (okCtl ctl && okCmd cmd) s (fun s =>
    match ringOf s ctl 0 qid with
    | none => s
    | some (n, r) =>
      if s.get QE_CTRL.enable = 0 ∨ s.get HIF_CTL_STATUS.rdy ctl = 0 ∨ s.on X.ctl_down ctl ∨ s.on HIF_CTL_STATUS.fetch_paused ctl ∨ s.on X.fw_act
          ∨ s.get HIF_CTL_STATUS.shst ctl ≠ 0 ∨ r.waiting = 0 ∨ (qid ≠ 0 ∧ adminFirst s ctl = true) then s
      else
        let cls := fetchClass s r
        if !ctxRoom s ctl qid cls then s.raise QE_INT.ctx_exhausted
        else if qid ≠ 0 ∧ arbTurn s ctl qid = false then s
        else
          let s := if qid = 0 then s else arbCount ctl qid cls s
          let k := firstGap s.ctxs 0
          let bell := (r.bells.head?.map (fun b => b.2)).getD s.dtime
          let x : Ctx := { ctl := ctl, qid := qid, cqid := r.cqid, cmd := cmd, cls := cls, stage := 0, status := 0, dw0 := 0, left := 0, covered := false, waits := [], doorbell := bell, heads := [], dead := false }
          let s := { s with ctxs := KV.put natLt s.ctxs k x,
                            rings := KV.put natLt s.rings n { r with head := (r.head + 1) % max 1 r.size, bells := takeBell r.bells } }
          let s := s.aborts.foldl (fun t a => abortSees ctl qid cmd.cid k a t) s
          if qid = 0 then s
          else
            let s := dstYield s
            if mediaBarred s && isMedia cmd then ctxFinish k stNotReady s
            else if s.get X.san_active ≠ 0 then ctxFinish k stSanitize s
            else s)

/-! Completion. -/

/-- A write that completes well advances its zone's host write pointer; a zone whose capacity is written is Full (R268). -/
def advanceHost (x : Ctx) (s : State) : State :=
  if x.left = 0 ∨ !s.on ZX_NS.zoned (x.cmd.nsid - 1) then s
  else
    let z := cmdZone s x.cmd
    let s := updZone z (fun y => { y with hwp := y.hwp + x.left }) s
    if s.image.zoneCap ≤ (zoneOf s z).hwp ∧ (zoneOf s z).state ≠ zsFull then zoneState z zsFull 0 s else s

/-- Place a completion entry in its completion queue: the tail moves on and the phase turns over at the end of the ring. -/
def postEntry (x : Ctx) (s : State) : State :=
  let s := { s with lastCpl := some { ctl := x.ctl, qid := x.qid, cid := x.cmd.cid, status := x.status, dw0 := x.dw0 } }
  match ringOf s x.ctl 1 x.cqid with
  | some (n, r) =>
    let t := (r.tail + 1) % max 1 r.size
    { s with rings := KV.put natLt s.rings n { r with tail := t, phase := if t = 0 then 1 - r.phase else r.phase } }
  | none => s

/-- A command completes: its entry is posted, its context freed, and an Abort of it completes after it (R319, R325, R326). -/
def complete (c : Nat) (x : Ctx) (s : State) : State :=
  let s := if x.status = 0 then unhookCtx c (advanceHost x s) else unhookCtx c (dropWrites c s)
  let s := postEntry x { s with ctxs := KV.del s.ctxs c }
  (s.aborts.filter (fun a => a.target == some c)).foldl (fun t a => abortEnd a (x.status == stAborted) t) s

/-- COMPLETION_POST: the completion entry of a command whose outcome is known, with its status (R319, R326). -/
def execCompletionPost (ctx status : Nat) (s : State) : Res :=
  run true s (fun s =>
    match ctxOf s ctx with
    | some x => if x.stage = 3 ∧ x.status = status then complete ctx x s else s
    | none => s)

/-! Aborts. -/

/-- A command that has come so far cannot be aborted (R325). -/
def notAbortable (x : Ctx) : Bool :=
  if x.qid = 0 then x.cmd.opcode == 0x84 || x.cmd.opcode == 0x80 || x.cmd.opcode == 0x10
  else x.cmd.opcode == 0x79 || x.cmd.opcode == 0x00 || (x.stage != 0 && x.cmd.opcode != 0x02)

/-- ABORT events for the threads that hold a read of a command (R256, R323, R325). -/
def abortEvents (c : Nat) (s : State) : State :=
  (s.sqOps.filter (fun p => p.2.isRead && p.2.job == c)).foldl (fun t p => raiseEvent (p.1 / 4) (p.1 % 4) 1 t) s

/-- A row's command context: in use, not ended, with the opcode and queue kind the row is for. -/
def hostCtx (s : State) (c : Nat) (admin : Bool) (ops : List Nat) : Option Ctx :=
  match ctxOf s c with
  | some x => if (x.qid == 0) == admin && ops.contains x.cmd.opcode && !x.dead then some x else none
  | none => none

/-- Run a command that has been fetched and not begun; admin commands wait while an activation runs (R328). -/
def onFetched (s : State) (c : Nat) (admin : Bool) (ops : List Nat) (g : Ctx → State → State) : State :=
  match hostCtx s c admin ops with
  | some x => if x.stage = 0 ∧ (admin = false ∨ s.get X.fw_act = 0) then g x s else s
  | none => s

/-- ABORT: resolved against the command as it stands now (R316, R325, R326). -/
def execNvmeAbort (ctx : Nat) (s : State) : Res :=
  run true s (fun s => onFetched s ctx true [0x08] (fun x s =>
    let qid := x.cmd.cdw10 % 65536
    let cid := x.cmd.cdw10 / 65536
    let a : AbortWait := { ctx := ctx, ctl := x.ctl, qid := qid, cid := cid, left := 0, target := none }
    if 64 ≤ (s.aborts.filter (fun y => y.ctl == x.ctl)).length then ctxFinish ctx stAbortLimit s
    else
      let wait := fun (b : AbortWait) (t : State) => updCtx ctx (fun x => { x with stage := 1 }) { t with aborts := t.aborts ++ [b] }
      match s.ctxs.find? (fun p => p.1 != ctx && p.2.ctl == x.ctl && p.2.qid == qid && p.2.cmd.cid == cid && !p.2.dead) with
      | some (k, y) =>
        if y.stage = 3 then abortEnd a false (s.raise QE_INT.abort_lost)
        else if notAbortable y || s.aborts.any (fun b => b.target == some k) then abortEnd a false s
        else
          let s := wait { a with target := some k } s
          if y.qid = 0 then ctxFinish k stAborted s else endMedia k stAborted (abortEvents k s)
      | none =>
        let n := match ringOf s x.ctl 0 qid with | some p => p.2.waiting | none => 0
        if n = 0 then abortEnd a false s else wait { a with left := n } s))

/-- ASYNCHRONOUS_EVENT_REQUEST: reports a waiting event, or waits for one; at most 16 a controller (R316). -/
def execAsynchronousEventRequest (ctx : Nat) (s : State) : Res :=
  run true s (fun s => onFetched s ctx true [0x0C] (fun x s =>
    match s.aens.find? (fun e => e.1 == x.ctl) with
    | some e => ctxFinish ctx 0 (updCtx ctx (fun y => { y with dw0 := e.2 }) { s with aens := s.aens.erase e })
    | none =>
      if 16 ≤ (s.ctxs.filter (fun p => p.2.ctl == x.ctl && isAer p.2 && p.2.stage == 1)).length then ctxFinish ctx stAerLimit s
      else updCtx ctx (fun y => { y with stage := 1 }) s))

/-! Controller reset and shutdown. -/

/-- End a command of a controller that is reset: reads end at the next safe point without a completion, accepted writes are carried
to settled with their host write pointer advanced, others end at once (R323, R324). -/
def ctlEnd (c : Nat) (s : State) : State :=
  match ctxOf s c with
  | none => s
  | some x =>
    let s := updCtx c (fun y => { y with dead := true }) s
    if x.stage = 3 ∧ x.left = 0 ∨ x.stage = 0 ∨ x.qid = 0 then { unhookCtx c s with ctxs := KV.del s.ctxs c }
    else if x.left ≠ 0 then
      let s := unhookCtx c (if x.status = 0 then advanceHost x s else dropWrites c s)
      { s with ctxs := KV.del s.ctxs c }
    else
      let s := unhookCtx c (dropReads c (ctxFail c stAborted (abortEvents c s)))
      if x.stage = 1 then ctxCheck c s else { s with ctxs := KV.del s.ctxs c }

/-- A self-test ends with an NVMe result code (R330). -/
def dstEnd (code : Nat) (s : State) : State :=
  if s.get X.dst_run = 0 then s
  else dstOps (((s.clear X.dst_run).clear X.dst_yield).set X.dst_result 0 code)

/-- The registers marked CTL of a controller that is reset; CSTS.RDY stands until it has drained (R324). -/
def ctlRegs (c : Nat) (s : State) : State :=
  let rdy := s.get HIF_CTL_STATUS.rdy c
  let s := s.resetCtl c
  (s.set HIF_CTL_STATUS.rdy c rdy).set HIF_CTL_STATUS.draining c rdy

/-- A controller reset: CC.EN cleared, a function level reset, or a reset of its port (R323, R324). -/
def ctlReset (c : Nat) (s : State) : State :=
  if !ctlExists s c then s
  else
    let s := s.raise HIF_INT.ctl_reset
    let s := { s with rings := s.rings.filter (fun p => p.2.ctl != c), aborts := s.aborts.filter (fun a => a.ctl != c),
                      aens := s.aens.filter (fun e => e.1 != c), feats := s.feats.filter (fun f => f.1.1 != c) }
    let s := (s.ctxs.filter (fun p => p.2.ctl == c)).foldl (fun t p => ctlEnd p.1 t) s
    let s := if s.get X.dst_ctl = c then dstEnd 2 s else s
    let s := scReset (fun r i => r.flds.any (fun f => f.cls == 8) && i == c) (ctlRegs c s)
    let s := ((s.clear X.vwc_off c).clear X.ctl_shn c).clear X.ctl_cfs c
    let s := (s.each (List.range 4) (fun k t => (t.clear X.arb_qid (4 * c + k)).clear X.arb_run (4 * c + k))).clear X.arb_cls c |>.clear X.arb_cnt c
    let s := if s.on X.fw_act then s else s.each (ctls s) (fun k t => t.clear HIF_CTL_STATUS.fetch_paused k)
    (s.clear X.ps_held c).set X.ctl_down c 1

/-- SHUTDOWN_NOTIFICATION: CC.SHN; nothing more is fetched, unsettled data is settled, CSTS.SHST then reports complete (R323). -/
def execShutdownNotification (ctl : Nat) (s : State) : Res :=
  run (okCtl ctl) s (fun s =>
    if ctlExists s ctl && s.on HIF_CTL_STATUS.rdy ctl && !s.on X.ctl_down ctl && s.get HIF_CTL_STATUS.shst ctl == 0 then
      forceWhere (fun _ => true) ((s.set HIF_CTL_STATUS.shst ctl 1).set X.ctl_shn ctl 1)
    else s)

/-! Queues. -/

/-- CREATE_IO_QUEUE: Create I/O Completion Queue (0x05) or Create I/O Submission Queue (0x01) on any free ring (R316, R318). The
queue's base stands in the entry's 64-bit operand. -/
def execCreateIoQueue (ctx : Nat) (s : State) : Res :=
  run true s (fun s => onFetched s ctx true [0x01, 0x05] (fun x s =>
    let kind := if x.cmd.opcode = 1 then 0 else 1
    let qid := x.cmd.cdw10 % 65536
    let size := x.cmd.cdw10 / 65536 + 1
    let cq := if kind = 0 then x.cmd.cdw11 / 65536 else qid
    let prio := if kind = 0 then x.cmd.cdw11 / 2 % 4 else 0
    if qid = 0 ∨ 8191 < qid ∨ (ringOf s x.ctl kind qid).isSome then ctxFinish ctx stQueueId s
    else if size < 2 ∨ ringEntries < size then ctxFinish ctx stQueueSize s
    else if kind = 1 ∧ msixVectors ≤ x.cmd.cdw11 / 65536 then ctxFinish ctx stVector s
    else if kind = 0 ∧ (cq = 0 ∨ (ringOf s x.ctl 1 cq).isNone) then ctxFinish ctx stCqInvalid s
    else
      match freeRing s x.ctl with
      | none => ctxFinish ctx stQueueId (s.raise QE_INT.ring_exhausted)
      | some n => ctxFinish ctx 0 (newRing n x.ctl kind qid cq prio x.cmd.slba size s)))

/-- End a command whose submission queue is deleted (R318). -/
def sqEnd (c : Nat) (s : State) : State :=
  match ctxOf s c with
  | none => s
  | some x =>
    if x.stage = 3 then s
    else if x.left ≠ 0 then ctxFinish c stSqDeleted (updCtx c (fun y => { y with left := 0 }) (unhookCtx c (if x.status = 0 then advanceHost x s else dropWrites c s)))
    else endMedia c stSqDeleted (abortEvents c s)

/-- DELETE_IO_SUBMISSION_QUEUE (R318). -/
def execDeleteIoSubmissionQueue (ctx : Nat) (s : State) : Res :=
  run true s (fun s => onFetched s ctx true [0x00] (fun x s =>
    let qid := x.cmd.cdw10 % 65536
    match (if qid = 0 then none else ringOf s x.ctl 0 qid) with
    | none => ctxFinish ctx stQueueId s
    | some (n, _) =>
      let s := (s.ctxs.filter (fun p => p.2.ctl == x.ctl && p.2.qid == qid)).foldl (fun t p => sqEnd p.1 t) s
      let s := (s.aborts.filter (fun a => a.ctl == x.ctl && a.qid == qid && a.target.isNone)).foldl (fun t a => abortEnd a false t) s
      ctxFinish ctx 0 { s with rings := KV.del s.rings n }))

/-- DELETE_IO_COMPLETION_QUEUE: refused while a submission queue names it (R318). -/
def execDeleteIoCompletionQueue (ctx : Nat) (s : State) : Res :=
  run true s (fun s => onFetched s ctx true [0x04] (fun x s =>
    let qid := x.cmd.cdw10 % 65536
    match (if qid = 0 then none else ringOf s x.ctl 1 qid) with
    | none => ctxFinish ctx stQueueId s
    | some (n, _) =>
      if s.rings.any (fun p => p.2.ctl == x.ctl && p.2.kind == 0 && p.2.cqid == qid) then ctxFinish ctx stQueueDelete s
      else ctxFinish ctx 0 { s with rings := KV.del s.rings n }))

end Sys2Proof.Machine
end

