-- ==== Sys2Proof/Machine/Commit.lean ====
section
/-! DEFINITION. The commit strobe and what it changes in work in progress (03_staged_commit.md, R60 to R65; R25 to R28, R98, R103, R109,
R123, R218, R276, R352, R408), and the loss of a unit (R25). -/

namespace Sys2Proof.Machine

/-! Zones and homes. -/

/-- An operation of a group whose home has changed goes to the actuator that now writes its positions (R65, R275). -/
def rehomeOp (s : State) (g : Nat) (o : MsOp) : MsOp :=
  if o.isRead ∨ groupIx s.image o.zone ≠ g then o
  else
    let p := if o.kind = 1 then (zoneOf s o.zone).next else o.pos
    let act := writingAct s o.zone p
    if act = o.act then o
    else { o with act := act, mask := if o.kind = 1 then combMask s.image o.zone act else 2 ^ (posHead s.image act o.zone p % 16) }

/-- Queued writes of a group return to the scheduler for the new home (R65). -/
def requeueGroup (g : Nat) (s : State) : State :=
  let mine := fun (o : MsOp) => !o.isRead && groupIx s.image o.zone == g
  let out := (s.msQueue.flatMap (fun p => p.2)).filter mine
  let q := s.msQueue.filterMap (fun p =>
    let l := p.2.filter (fun o => !mine o)
    if l.isEmpty then none else some (p.1, l))
  msRefill { s with msQueue := q, msHold := (s.msHold ++ out).map (rehomeOp s g) }

/-- Give a zone its next rehome point at its media write pointer; one that has both is finished (R276). -/
def rehomeZone (g z : Nat) (s : State) : State :=
  let x := zoneOf s z
  let entry : JEntry := { kind := 3, zone := z, a := g, b := 0, mwp := x.mwp, hwp := x.hwp, voids := [], job := 0 }
  if x.reh0.isNone then jrnAdd entry (updZone z (fun y => { y with reh0 := some x.mwp, held := true }) s)
  else if x.reh1.isNone then jrnAdd entry (updZone z (fun y => { y with reh1 := some x.mwp, held := true }) s)
  else zoneState z zsFull 0 (s.raise ZX_INT.rehome_limit)

/-- A zone is Empty. The zones of a conventional namespace have no zone state; one that has been written from is not Empty. -/
def Zone.unused (x : Zone) : Bool := x.state == zsEmpty && x.next == 0 && x.mwp == 0

/-- A zone group's home has changed: its zones that are neither Empty nor Full are rehomed (R27, R276). -/
def rehomeGroup (g : Nat) (s : State) : State :=
  let zs := s.zones.filter (fun p => groupIx s.image p.1 == g && !p.2.unused && p.2.state != zsFull && !isJrnZone s p.1)
  requeueGroup g (zs.foldl (fun t p => rehomeZone g p.1 t) s)

/-! Units leaving and joining. -/

/-- The requests that wait for a flume to power up choose again, and the power asked for is given back. -/
def flumeUnchoose (f : Nat) (s : State) : State :=
  if s.flumeReqs.any (fun w => w.flume == some f) then
    let s := { s with flumeReqs := s.flumeReqs.map (fun (w : FlumeWait) => if w.flume = some f then { w with flume := none } else w) }
    if s.on DP_FLUME_STATUS.power f then s else flumeOff f s
  else s

/-- A flume leaves service or the pool: it finishes the sector in progress, its request is refused with SVC where R106 says so, and once
it serves nothing it releases its grant; a request that waits for it to power up chooses again (R65, R103, R109). -/
def flumeOut (f : Nat) (s : State) : State :=
  let s := flumeLeave f 8 ((flumeUnchoose f s).set X.dp_out f 1)
  flumeRest f s

/-- The pool holds or awaits power for more flumes than DP_POOL.count: those still to be powered give way first, then the most recently
granted (R103). -/
def poolShrink (s : State) : State :=
  let on := (List.range 32).filter (fun f => s.get DP_FLUME_STATUS.state f != 0 && s.get DP_FLUME_STATUS.state f != 5)
  let asked := (List.range 32).filter (fun f => !on.contains f && s.flumeReqs.any (fun w => w.flume == some f))
  let later := fun (f : Nat) => (on.filter (fun k => decide (s.get X.dp_order f < s.get X.dp_order k))).length
  let s := (asked.drop (s.get DP_POOL.count - on.length)).foldl (fun t f => flumeUnchoose f t) s
  (on.filter (fun f => decide (later f < on.length - s.get DP_POOL.count))).foldl (fun t f => flumeOut f t) s

/-- A head leaves service: its sector finishes, its queued reads move to the twin, its writes return to the scheduler (R65). -/
def headOut (h : Nat) (s : State) : State :=
  let s := raiseLoss h (moveQueue h (gateOffAtEnd h gateAbort s))
  let s := match flumeAt s h with
    | some f => flumeLeave f 8 s
    | none => s
  smartEvent s

/-- A head enters service again: it is no longer lost, and its telemetry is asked for where its group is ACTIVE (R356). -/
def headIn (h : Nat) (s : State) : State :=
  let s := s.clear X.head_lost h
  match s.image.groupOf h with
  | some y => if grpState s y = grpActive then sendTelem h 1 (sendTelem h 0 s) else s
  | none => s

/-- An engine removed from its pair: the pair runs single on the other, with cause 12 unless it had failed (R216, R218). -/
def engineOut (a e : Nat) (s : State) : State :=
  let s := if s.on SV_RED_STATUS.swap_pending a then swapEnd a 3 s else s
  let s := if (s.get SV_RED_STATUS.failed a).testBit e then s
    else if e = 0 then s.set SV_RED_STATUS.cause0 a 12 else s.set SV_RED_STATUS.cause1 a 12
  let s := if s.get SV_RED_STATUS.state a = 0 then ((s.set SV_RED_STATUS.state a 1).clear X.sv_single_imp a).clear X.sv_unres a else s
  let s := if s.get SV_STATUS.active_engine a = e ∧ (s.get SV_RED_SVC.mask a).testBit (1 - e) then s.set SV_STATUS.active_engine a (1 - e) else s
  smartEvent s

/-- A head's number of readers changes: the head is suspended, its lane retrains with the new layout, its calibration is stale (R98). -/
def readersChanged (h : Nat) (s : State) : State :=
  match s.image.laneOf h with
  | some x =>
    if s.get MS_HEAD_SVC.in_service h = 0 then s
    else
      let st := laneState s x
      let s := makeStale h 2 (suspend h 1 (gateOff h gateLane s))
      if (st = laneActive ∨ st = laneRecover ∨ st = laneSleep) ∧ s.get X.hl_waking x = 0 then laneRetrain x s
      else if st = laneTrain ∨ st = laneSleep then s.set X.hl_redo x 1
      else s
  | none => s

/-- A surface's band set changes: a flume that is in no sector of the surface goes on with the new set at once, one that is in a sector at
its end; CLK goes out where the sample width changes (R64, R65, R123). The layouts of the two sets are the same (R42). -/
def setChanged (su : Nat) (s : State) : State :=
  s.each (List.range 32) (fun f t =>
    match (flumeOf t f).cur with
    | some j => if t.image.surf j.req.head = su ∧ sectorOpen t (flumeOf t f) j = false then nextSector f t else t
    | none => t)

/-- Writes whose data is lost: what has not been dispatched is void, and what waits for them learns it (R408). -/
def loseWrites (wids : List Nat) (s : State) : State :=
  let mine := fun (o : MsOp) => o.kind == 1 && wids.contains o.job
  let s := keepOps (fun o => !mine o) { s with cxReady := s.cxReady.filter (fun (j : CxJob) => !(j.kind == 0 && wids.contains j.job)) }
  wids.foldl (fun t w => writeGone 3 w stWriteFault t) s

/-- The Cistern runs on one device: device 1's contents move down where device 0 left, what lay in the device left is gone, commands with
data there fail, and unsettled writes whose only copy was there are lost. Which buffers lay there is a free value (R408). -/
def deviceOut (d : Nat) (s : State) : State :=
  let cut := cisternBase + deviceBytes
  let keep := fun (a : Nat) => if d = 0 then decide (cut ≤ a) else decide (a < cut)
  let move := fun (a : Nat) => if d = 0 then a - deviceBytes else a
  let s := { s with cistern := (s.cistern.filter (fun (c : Host.Cell) => keep c.1)).map (fun (c : Host.Cell) => (move c.1, c.2)),
                    cisternPoison := (s.cisternPoison.filter keep).map move }
  let n := s.fresh
  let m := s.spend.fresh
  let s := s.spend.spend
  let cmds := (s.ctxs.filter (fun p => decide (p.2.cls < 4) && p.2.stage != 3 && n.testBit p.1)).map (fun p => p.1)
  let lost := s.writes.filter (fun w => w.ctx.isNone && w.ns != sanNs && m.testBit w.wid)
  let s := loseWrites (lost.map (fun w => w.wid)) s
  let s := cmds.foldl (fun t c => endMedia c stTransfer t) s
  smartEvent (showBacked (s.event 5 d 0xFF ((lost.map (fun w => w.zone)).eraseDups)))

/-! The strobe. -/

/-- The fields that a commit changes: field, instance, old and new value. -/
def commitList (s : State) : List (Fld × Nat × Nat) :=
  (stagedRegs s).flatMap (fun (r, i, _) => (r.flds.filter (fun f => f.ty == .st)).map (fun f => (f, i, s.stagedVal f i)))

/-- The bits that a mask loses. -/
def bitsLost (n old new : Nat) : List Nat := (List.range n).filter (fun i => old.testBit i && !new.testBit i)

/-- What the new values change in the rest of the part (R65). -/
def commitEffects (old s : State) : State :=
  let s := (bitsLost 32 (old.get DP_FLUME_SVC.mask) (s.get DP_FLUME_SVC.mask)).foldl (fun t f => smartEvent (flumeOut f t)) s
  let s := poolShrink s
  let heads := List.range 64
  let s := s.each (heads.filter (fun h => old.get MS_HEAD_SVC.in_service h == 1 && s.get MS_HEAD_SVC.in_service h == 0)) headOut
  let s := s.each (heads.filter (fun h => old.get MS_HEAD_SVC.in_service h == 0 && s.get MS_HEAD_SVC.in_service h == 1)) headIn
  let s := s.each (heads.filter (fun h => old.get HL_HEAD_CFG.readers h != s.get HL_HEAD_CFG.readers h)) readersChanged
  let s := s.each ((List.range 32).filter (fun su => old.get DP_SURF_SET.setSel su != s.get DP_SURF_SET.setSel su)) setChanged
  let s := s.each (List.range 4) (fun a t => (bitsLost 2 (old.get SV_RED_SVC.mask a) (t.get SV_RED_SVC.mask a)).foldl (fun u e => engineOut a e u) t)
  let s := if (bitsLost 8 (old.get CX_SVC.mask) (s.get CX_SVC.mask)).isEmpty then s else smartEvent s
  let s := s.each ((List.range s.image.groups.length).filter (fun g => old.get ZX_ZG_HOME.home g != s.get ZX_ZG_HOME.home g)) rehomeGroup
  let s := (bitsLost 2 (old.get BM_MAP.devices) (s.get BM_MAP.devices)).foldl (fun t d => deviceOut d t) s
  let s := s.set HG_GROUP_STATUS.on 0 (s.get HG_GROUP_STATUS.on ||| 2 * s.get HG_GROUP_ON.force)
  urgStatus (offlineCheck s)

/-- The strobe: every staged copy is in force, the set is empty, the controller idle with result 0x1 (R55, R60). -/
def strobe (s : State) : State :=
  let new := (commitList s).foldl (fun t v => t.set v.1 v.2.1 v.2.2) s
  let new := scResult 1 ((scDrop new).set SC_STATUS.state 0 scIdle)
  let new := ((new.set SC_LAST.dtime 0 s.dtime).incWrap SC_EPOCH.count).alarm SC_INT.applied 0 21 0
  commitEffects s new

/-- The instant of the armed commit has come: for a wedge, one that ended after arming with the actuator tracking; for a wedge or an
index, not after the deadline, by when the commit is missed (R60, R62). -/
def atInstant (s : State) : Bool :=
  let a := s.get X.sc_act
  match s.get X.sc_kind with
  | 0 => true
  | 1 => svState s a == svTracking && s.get SV_STATUS.wedge a == s.get X.sc_value && s.get X.sc_old == 0 && decide (s.dtime ≤ s.get X.sc_deadline)
  | 2 => s.on MC_SPIN_STATUS.at_speed && decide (s.dtime ≤ s.get X.sc_deadline)
  | _ => decide (s.get X.sc_value ≤ s.dtime)

/-- COMMIT_STROBE (R60, R61). -/
def execCommitStrobe (s : State) : Res :=
  run true s (fun s => if s.get SC_STATUS.state = scArmed ∧ atInstant s = true then strobe s else s)

/-- COMMIT_MISSED: at its deadline an armed wedge or index commit is abandoned, or applied as miss_action says (R62). -/
def execCommitMissed (s : State) : Res :=
  run true s (fun s =>
    let k := s.get X.sc_kind
    if s.get SC_STATUS.state = scArmed ∧ (k = 1 ∨ k = 2) ∧ s.get X.sc_deadline ≤ s.dtime then
      if s.on X.sc_miss then strobe s else scResult 4 (s.set SC_STATUS.state 0 scChecked)
    else s)

/-! Losses. -/

/-- A servo engine is lost: with the other in service the pair runs single, by a switchover where it was active; the last one's loss is
a pair fault (R213, R214, R216, R217). The code is that of a failed self-check. -/
def engineLoss (e : Nat) (s : State) : State :=
  let a := e / 2
  if !engineUp s e then s
  else if s.get SV_RED_STATUS.state a = 0 then
    if s.get SV_STATUS.active_engine a = e % 2 then switchover a 2 s else standbyFailed a 2 s
  else pairFault s a (if e % 2 = 0 then (2, 0) else (0, 2)) s

/-- A host lane is lost: the port trains narrower, down to no width below one lane (R27, R312). -/
def narrowPort (p width : Nat) (s : State) : State :=
  let s := (s.set HIF_PORT_STATUS.width p width)
  s.alarm HIF_INT.narrowed 0 0 p [width]

/-- UNIT_LOSS: the immediate response to the loss of a unit (R25 to R27). -/
def execUnitLoss (unit : LossUnit) (s : State) : Res :=
  run (okUnit unit) s (fun s =>
    match unit with
    | .head h => if s.image.populated h then loseHead h s else s
    | .upLane x =>
      if s.image.headOf x = 255 ∨ laneState s x = laneFailed then s
      else
        let h := s.image.headOf x
        scLoss (.upLane x) (laneFail x (flumeLaneLost h (feedbackLost h (gateOff h gateLane s))))
    | .downLane y => if s.image.groupUsed y then scLoss (.downLane y) (groupFail y 5 (s.each (s.image.groupHeads y) (fun h t => gateOff h gateLane t))) else s
    | .flume f => flumeFail f s
    | .actuator a => if s.image.hasAct a then retract a (loseAct a s) else s
    | .gddr d => if devConfigured s d then loseDevice d s else s
    | .hostLane p =>
      let w := s.get HIF_PORT_STATUS.width p
      if s.on HIF_PORT_STATUS.dl_up p ∧ 1 < w then narrowPort p (w / 2) s else s
    | .engine e => engineLoss e s)

end Sys2Proof.Machine
end

