-- ==== Sys2Proof/Machine/HostIo.lean ====
section
/-! DEFINITION. Reads, writes, flushes and deallocation (14_host_interface.md, R315 to R323; 12 and 13 for where data goes). -/

namespace Sys2Proof.Machine

/-- Whether a namespace can be reached by a command of a controller: enabled and attached (R314). -/
def nsAttached (s : State) (c n : Nat) : Bool := decide (n < 64) && s.on ZX_NS.enable n && s.get X.ns_off (2 * n + c) == 0

/-- The namespace index of a command (R314). -/
def cmdNs (s : State) (x : Ctx) : Option Nat :=
  if x.cmd.nsid = 0 then none else if nsAttached s x.ctl (x.cmd.nsid - 1) then some (x.cmd.nsid - 1) else none

/-- A reservation turns a command away: types 1 to 6 are write exclusive, exclusive access, and each for registrants only and for all
registrants (R315, log entry 41). -/
def resConflict (s : State) (n c : Nat) (write : Bool) : Bool :=
  match KV.get s.resv n with
  | none => false
  | some r =>
    let reg := r.keys.any (fun k => k.1 == c)
    match r.rtype with
    | 1 => write && r.holder != c
    | 2 => r.holder != c
    | 3 => write && !reg
    | 4 => !reg
    | 5 => write && !reg
    | 6 => !reg
    | _ => false

/-- A zone command waits to take effect; commands fetched after it on the zone wait behind it (R274, R281). -/
def zoneWaiting (s : State) (z : Nat) : Bool :=
  s.ctxs.any (fun p => p.2.qid != 0 && p.2.cmd.opcode == 0x79 && p.2.stage == 1
    && (p.2.cmd.cdw13.testBit 8 && inNs s (p.2.cmd.nsid - 1) z || cmdZone s p.2.cmd == z))

/-- The zones that a block range of a namespace touches. -/
def rangeZones (s : State) (n slba nlb : Nat) : List Nat :=
  let zs := max 1 s.image.zoneSize
  (List.range ((slba + nlb - 1) / zs - slba / zs + 1)).map (fun i => nsFirst s n + slba / zs + i)

/-- Checks that reads and writes share: the status, 0 for none (R314, R316, R322). -/
def ioCheck (s : State) (x : Ctx) (write : Bool) : Nat :=
  match cmdNs s x with
  | none => stNamespace
  | some n =>
    let nlb := cmdBlocks x.cmd
    if 512 < nlb then stField
    else if nsBlocks s n < x.cmd.slba + nlb then stRange
    else if resConflict s n x.ctl write then stResConflict
    else if keyMissing s n then stAccess
    else if s.on ZX_NS.zoned n && (rangeZones s n x.cmd.slba nlb).any (fun z => (zoneOf s z).state == zsOffline) then stZoneOffline
    else 0

/-! Reads. -/

/-- The positions on the media that a block range of a namespace that is not compressed needs, by zone: blocks below the host
write pointer whose position has passed and whose data the Cistern no longer holds (R153, R267). -/
def blockRuns (s : State) (n slba nlb : Nat) : List ReadRun :=
  let zs := max 1 s.image.zoneSize
  (rangeZones s n slba nlb).flatMap (fun z =>
    let first := (z - nsFirst s n) * zs
    let lo := max slba first - first
    let hi := min (slba + nlb - first) zs
    let x := zoneOf s z
    let ps := ((List.range (hi - lo)).map (fun i => lo + i)).filterMap (fun b =>
      let p := posOfBlock x b
      if decide (b < writePoint s z) && (cisternBlock s n (first + b)).isNone && posDone s z p then some p else none)
    (posRuns ps).map (fun r => (z, r.1, r.2)))

/-- What a read of a chunk needs. -/
inductive ChunkRead where
  /-- Nothing: its blocks are in the Cistern, or it reads as zeros. -/
  | none
  /-- The expansion of an extent whose copy is in the Cistern. -/
  | cached (e : Extent)
  /-- The extent's positions from the media. -/
  | media (e : Extent)
  deriving Repr

/-- How a chunk is read (R302, R304, R307). -/
def chunkRead (s : State) (n slba nlb k : Nat) : ChunkRead :=
  let want := chunkMask slba nlb k
  if want &&& chunkHeld s n k = want then .none
  else match extentOf s n k with
    | none => .none
    | some e =>
      if e.wid ≠ 0 ∨ (List.range e.span).any (fun i => posOpen s e.zone (e.pos + i)) then .cached e else .media e

/-- Index pages of a range that the cache does not hold (R306). -/
def pagesMissing (s : State) (n slba nlb : Nat) : List Nat :=
  (((rangeChunks slba nlb).map (fun k => k / 256)).eraseDups).filter (fun p => !s.idxCached.contains (n, p))

/-- The media runs of a read. -/
def readRuns (s : State) (n slba nlb : Nat) : List ReadRun :=
  if nsCompressed s n then (rangeChunks slba nlb).filterMap (fun k => match chunkRead s n slba nlb k with
    | .media e => some (e.zone, e.pos, e.span)
    | _ => none)
  else blockRuns s n slba nlb

/-- Submit a read's media operations and expansions (R279, R292). -/
def submitAll (c n slba nlb cls : Nat) (covered : Bool) (s : State) : State :=
  if nsCompressed s n then
    (rangeChunks slba nlb).foldl (fun t k => match chunkRead s n slba nlb k with
      | .none => t
      | .cached e =>
        let j : CxJob := { kind := 1, ns := n, chunk := k, gen := e.gen, blocks := e.orig / 4096, level := e.level, cls := cls, covered := covered, since := t.dtime, job := c, wid := 0, retried := false, data := extentPlain t e (extentCipher t e) }
        { t with cxReady := t.cxReady ++ [j] }
      | .media e => submitRead 0 cls e.zone e.pos e.span c (k + 1) covered t) s
  else (blockRuns s n slba nlb).foldl (fun t r => submitRead 0 cls r.1 r.2.1 r.2.2 c 0 covered t) (takeCistern c n slba nlb s)

/-- An earlier command that merges still holds blocks of a range: a later one that overlaps it waits (R281, R302). -/
def mergeWaiting (s : State) (n slba nlb : Nat) : Bool :=
  s.merges.any (fun m => m.ns == n && decide (m.mask &&& chunkMask slba nlb m.chunk ≠ 0))

/-- READ: an urgent read is covered or counted uncovered and served as class 1; blocks not written read as zeros and data in the
Cistern needs no media (R267, R279, R286, R288, R304 to R307). It waits for index pages and for zone commands before it. -/
def execNvmeRead (ctx : Nat) (s : State) : Res :=
  run true s (fun s => onFetched s ctx false [0x02] (fun x s =>
    let st := ioCheck s x false
    if st ≠ 0 then ctxFinish ctx st s
    else
      let n := x.cmd.nsid - 1
      let nlb := cmdBlocks x.cmd
      let slba := x.cmd.slba
      let missing := if nsCompressed s n then pagesMissing s n slba nlb else []
      if (rangeZones s n slba nlb).any (zoneWaiting s) ∨ mergeWaiting s n slba nlb then s
      else if !missing.isEmpty then missing.foldl (fun t p => loadPage n p ctx t) s
      else
        let runs := readRuns s n slba nlb
        let why := if x.cls = 0 then uncovered s n nlb x.ctl x.doorbell runs else 0
        let cls := if x.cls = 0 ∧ why ≠ 0 then 1 else x.cls
        let covered := x.cls == 0 && why == 0
        let s := if x.cls ≠ 0 then s else if covered then noteCovered x.doorbell runs s else countUncovered why s
        let s := submitAll ctx n slba nlb cls covered (updCtx ctx (fun y => { y with stage := 1, covered := covered, heads := runs.flatMap (fun r => touchedHeads s r.1 r.2.1 r.2.2) }) s)
        ctxCheck ctx s))

/-! Writes. -/

/-- Positions that data already accepted for a zone may still take, without the partial chunks that a write goes on with: each extent at
its stored-raw size, in a write run of its own (R301, R309). -/
def pendingPositions (s : State) (z : Nat) (but : List Nat) : Nat :=
  let ops := ((allOps s).filter (fun o => o.kind == 1 && o.zone == z && decide (o.pos = 0))).foldl (fun n o => n + o.count) 0
  let pack := ((zonePacking s z).foldl (fun n p => n + p.1.len16) 0 + 255) / 256
  let jobs := ((cxJobs s).filter (fun j => j.kind == 0 && chunkZone s j.ns j.chunk == z)).foldl (fun n j => n + j.blocks + 1) 0
  let parts := (s.partials.filter (fun p => !p.wids.isEmpty && chunkZone s p.ns p.chunk == z && !but.contains p.chunk)).foldl (fun n p => n + maskBlocks p.blocks + 1) 0
  ops + pack + jobs + parts

/-- A chunk's write must merge: a conventional namespace's chunk that has an extent and is written in part; a chunk that the Cistern holds in
part goes on there (R302). -/
def mustMerge (s : State) (n slba nlb k : Nat) : Bool :=
  s.get ZX_NS.zoned n == 0 && chunkMask slba nlb k != chunkFull s n k && (extentOf s n k).isSome
    && !s.partials.any (fun p => p.ns == n && p.chunk == k)
    && chunkHeld s n k ||| chunkMask slba nlb k != chunkFull s n k

/-- Blocks of the extent that a write of a chunk may produce (R302). -/
def extentBlocks (s : State) (n slba nlb k : Nat) : Nat :=
  if mustMerge s n slba nlb k then 16 else maskBlocks (chunkHeld s n k ||| chunkMask slba nlb k)

/-- A zone admits a write of some chunks: reserve_pos + 17 positions remain after it, each extent counted stored raw, its last position in
full (R309). -/
def zoneAdmits (s : State) (z n slba nlb : Nat) (ks : List Nat) : Bool :=
  let need := ks.foldl (fun a k => a + extentBlocks s n slba nlb k + 1) 0
  decide ((zoneOf s z).next + pendingPositions s z ks + need + s.get CX_ZONE_CFG.reserve_pos + 17 ≤ zonePositions s z)

/-- Finish a zone on the controller's behalf at its host write pointer (R309). -/
def finishByCtl (z : Nat) (s : State) : State := zoneState z zsFull 0 (updZone z (fun x => { x with byCtl := true }) s)

/-- A new write record for a command. -/
def newWrite (c ctl n z blocks left : Nat) (s : State) : Nat × State :=
  let wid := newWid s
  let w : WriteRec := { wid := wid, ctx := some c, ctl := ctl, ns := n, zone := z, blocks := blocks, left := left, first := 1, last := 0, placed := false }
  (wid, { s.set X.ms_wids 0 (wid + 1) with writes := s.writes ++ [w] })

/-- Read and expand the extent of a chunk for a merge (R302). -/
def mergeRead (c n k cls wid : Nat) (s : State) : State :=
  match chunkRead s n (16 * k) 16 k with
  | .media e => submitRead 0 cls e.zone e.pos e.span c (k + 1) false s
  | .cached e =>
    let j : CxJob := { kind := 2, ns := n, chunk := k, gen := e.gen, blocks := e.orig / 4096, level := e.level, cls := cls, covered := false, since := s.dtime, job := c, wid := wid, retried := false, data := extentPlain s e (extentCipher s e) }
    { s with cxReady := s.cxReady ++ [j] }
  | .none => s

/-- The chunks of an accepted write: each is compressed when whole, else held; where one of them must merge, all wait until the extents
have been expanded (R302). -/
def writeParts (c n slba nlb : Nat) (ks : List Nat) (cls wid : Nat) (data : List Byte) (x : Ctx) (s : State) : State :=
  if ks.any (mustMerge s n slba nlb) then
    let t := { s with merges := s.merges ++ ks.map (fun k => { ctx := c, ns := n, chunk := k, mask := chunkMask slba nlb k, data := chunkPut [] data (chunkMask slba nlb k) slba k }) }
    mergeEnd c ((ks.filter (mustMerge s n slba nlb)).foldl (fun u k => mergeRead c n k cls wid u) t)
  else
    let s := ks.foldl (fun t k => chunkWrite n k (chunkMask slba nlb k) (chunkFull t n k) cls wid data slba t) s
    writeAccepted c (forceFor x n ks s)

/-- Accept a write of a compressed namespace (R155, R302). -/
def writeChunks (c n z slba nlb cls : Nat) (data : List Byte) (x : Ctx) (s : State) : State :=
  let ks := rangeChunks slba nlb
  let (wid, s) := newWrite c x.ctl n z nlb ks.length s
  writeParts c n slba nlb ks cls wid data x (updCtx c (fun y => { y with stage := 1, left := nlb }) s)

/-- Accept a write of a namespace that is not compressed: its blocks are encrypted, and one operation writes them, whose positions are
assigned at dispatch (R136, R137, R268, R281). -/
def writeBlocks (c n z slba nlb cls : Nat) (data : List Byte) (x : Ctx) (s : State) : State :=
  let (wid, s) := newWrite c x.ctl n z nlb nlb s
  let s := { s with wdata := s.wdata ++ [{ wid := wid, slot := nsSlot s n, lba := slba + 1, bytes := nsCrypt s false n slba (bytesAt data 0 (4096 * nlb)) }] }
  let s := updCtx c (fun y => { y with stage := 1, left := nlb }) s
  let act := writingAct s z (zoneOf s z).next
  writeAccepted c (msNew 1 cls act (combMask s.image z act) z 0 nlb wid 0 false s)

/-- Why a write of a zone is refused, 0 for none: its state, the write pointer, the capacity, the limits of open zones (R268, R316).
`at_` is the block in the zone, none for an append. -/
def zoneCheck (s : State) (n z nlb : Nat) (at_ : Option Nat) : Nat :=
  let x := zoneOf s z
  let wp := writePoint s z
  let off := at_.getD wp
  if x.state = zsFull then stZoneFull
  else if x.state = zsReadOnly then stZoneReadOnly
  else if x.state = zsOffline then stZoneOffline
  else if s.image.zoneCap < off + nlb then stZoneBoundary
  else if off ≠ wp then stZoneInvalid
  else openBar s n z

/-- Write to a zone, at a block or by append (R281, R309, R322). -/
def writeZone (c n z slba nlb : Nat) (at_ : Option Nat) (data : List Byte) (x : Ctx) (s : State) : State :=
  let st := zoneCheck s n z nlb at_
  if st ≠ 0 then ctxFinish c st s
  else if nsCompressed s n && !zoneAdmits s z n slba nlb (rangeChunks slba nlb) then ctxFinish c stZoneFull (finishByCtl z s)
  else
    let s := openImplicit z s
    if nsCompressed s n then writeChunks c n z slba nlb x.cls data x s else writeBlocks c n z slba nlb x.cls data x s

/-- WRITE of the host's data: in a zoned namespace at the zone's write pointer; in a conventional one through the chunk index (R136, R264,
R268, R302, R310). -/
def execNvmeWrite (ctx : Nat) (data : List Byte) (s : State) : Res :=
  run true s (fun s => onFetched s ctx false [0x01] (fun x s =>
    let st := ioCheck s x true
    if st ≠ 0 then ctxFinish ctx st s
    else
      let n := x.cmd.nsid - 1
      let nlb := cmdBlocks x.cmd
      let zs := max 1 s.image.zoneSize
      if s.on ZX_NS.zoned n then
        if (x.cmd.slba % zs + nlb) > zs then ctxFinish ctx stZoneBoundary s
        else if zoneWaiting s (cmdZone s x.cmd) then s
        else writeZone ctx n (cmdZone s x.cmd) x.cmd.slba nlb (some (x.cmd.slba % zs)) data x s
      else
        let missing := pagesMissing s n x.cmd.slba nlb
        let z := s.get CX_NS.dest_zone n
        if !missing.isEmpty then missing.foldl (fun t p => loadPage n p ctx t) s
        else if mergeWaiting s n x.cmd.slba nlb then s
        else if !zoneAdmits s z n x.cmd.slba nlb (rangeChunks x.cmd.slba nlb) then s.raise CX_INT.dest_full
        else writeChunks ctx n z x.cmd.slba nlb x.cls data x s))

/-- ZONE_APPEND: the zone's first block names it; the completion carries the first block written (R281, R316, R322). -/
def execZoneAppend (ctx : Nat) (data : List Byte) (s : State) : Res :=
  run true s (fun s => onFetched s ctx false [0x7D] (fun x s =>
    let st := ioCheck s x true
    if st ≠ 0 then ctxFinish ctx st s
    else
      let n := x.cmd.nsid - 1
      let zs := max 1 s.image.zoneSize
      if !s.on ZX_NS.zoned n then ctxFinish ctx stOpcode s
      else if x.cmd.slba % zs ≠ 0 then ctxFinish ctx stField s
      else if zoneWaiting s (cmdZone s x.cmd) then s
      else
        let lba := x.cmd.slba + writePoint s (cmdZone s x.cmd)
        writeZone ctx n (cmdZone s x.cmd) lba (cmdBlocks x.cmd) none data x (updCtx ctx (fun y => { y with dw0 := lba }) s)))

/-- FLUSH: forces the partial chunks of the namespaces flushed and completes when every write completed before it has settled (R155,
R302, R321). -/
def execNvmeFlush (ctx : Nat) (s : State) : Res :=
  run true s (fun s => onFetched s ctx false [0x00] (fun x s =>
    let all := x.cmd.nsid == 0xFFFFFFFF
    if !all && (cmdNs s x).isNone then ctxFinish ctx stNamespace s
    else
      let mine := fun n => all || n == x.cmd.nsid - 1
      let s := forceWhere (fun p => mine p.ns) s
      let wids := (s.writes.filter (fun w => w.ctx.isNone && w.blocks != 0 && mine w.ns)).map (fun w => w.wid)
      if wids.isEmpty then ctxFinish ctx 0 s
      else updCtx ctx (fun y => { y with stage := 2, waits := wids }) s))

/-! Deallocation. -/

/-- A chunk loses its index entry and reads as zeros; what is held of it is dropped, and the writes that waited for it have that share
settled; a compression of it that runs is discarded when it ends (R304, R315). -/
def dropChunk (n k : Nat) (s : State) : State :=
  let mine := fun (a b : Nat) => a == n && b == k
  let old := fun (j : CxJob) => j.kind == 0 && mine j.ns j.chunk
  let wids := (s.packing.filter (fun p => mine p.1.ns p.1.chunk)).map (fun p => p.2) ++ (s.partials.filter (fun p => mine p.ns p.chunk)).flatMap (fun p => p.wids)
    ++ (s.cxReady.filter old).map (fun j => j.job)
  let gone := fun (p : Nat × CxJob) => if old p.2 then (p.1, { p.2 with retried := true }) else p
  let s := { s with extents := s.extents.filter (fun e => !mine e.ns e.chunk), packing := s.packing.filter (fun p => !mine p.1.ns p.1.chunk),
                    partials := s.partials.filter (fun p => !mine p.ns p.chunk), cxReady := s.cxReady.filter (fun j => !old j),
                    cxRun := s.cxRun.map gone, cxSusp := s.cxSusp.map gone }
  let s := wids.foldl (fun t w => shareSettled 2 w t) s
  let s := cachePage n (k / 256) s
  if s.idxDirty.contains (n, k / 256) then s else { s with idxDirty := s.idxDirty ++ [(n, k / 256)] }

/-- Deallocate a block range of a conventional namespace: wholly covered chunks lose their entries, partly covered ones are written
again with zeros (R315). -/
def dealloc (c : Nat) (x : Ctx) (slba nlb : Nat) (s : State) : State :=
  match cmdNs s x with
  | none => ctxFinish c stNamespace s
  | some n =>
    if s.on ZX_NS.zoned n then ctxFinish c stOpcode s
    else if nsBlocks s n < slba + nlb then ctxFinish c stRange s
    else if resConflict s n x.ctl true then ctxFinish c stResConflict s
    else if keyMissing s n then ctxFinish c stAccess s
    else
      let missing := pagesMissing s n slba nlb
      if !missing.isEmpty then missing.foldl (fun t p => loadPage n p c t) s
      else if mergeWaiting s n slba nlb then s
      else
        let ks := rangeChunks slba nlb
        let whole := ks.filter (fun k => chunkMask slba nlb k == chunkFull s n k)
        let part := ks.filter (fun k => chunkMask slba nlb k != chunkFull s n k && ((extentOf s n k).isSome || chunkHeld s n k != 0))
        let s := whole.foldl (fun t k => dropChunk n k t) s
        if part.isEmpty then ctxFinish c 0 s
        else
          let z := s.get CX_NS.dest_zone n
          if !zoneAdmits s z n slba nlb part then s.raise CX_INT.dest_full
          else
            let (wid, s) := newWrite c x.ctl n z nlb part.length s
            writeParts c n slba nlb part x.cls wid [] x (updCtx c (fun y => { y with stage := 1, left := nlb }) s)

/-- WRITE_ZEROES: conventional namespaces only (R315). -/
def execWriteZeroes (ctx : Nat) (s : State) : Res :=
  run true s (fun s => onFetched s ctx false [0x08] (fun x s => dealloc ctx x x.cmd.slba (cmdBlocks x.cmd) s))

/-- DATASET_MANAGEMENT: deallocate (dword 11 bit 2), conventional namespaces only; its range stands in the entry's block and length
operands. Other attributes have no effect (R315). -/
def execDatasetManagement (ctx : Nat) (s : State) : Res :=
  run true s (fun s => onFetched s ctx false [0x09] (fun x s =>
    match cmdNs s x with
    | none => ctxFinish ctx stNamespace s
    | some n =>
      if s.on ZX_NS.zoned n then ctxFinish ctx stOpcode s
      else if x.cmd.cdw11.testBit 2 then dealloc ctx x x.cmd.slba (x.cmd.cdw12 + 1) s
      else ctxFinish ctx 0 s))

end Sys2Proof.Machine
end

