-- ==== Sys2Proof/Machine/HostZones.lean ====
section
/-! DEFINITION. Zone management commands (12_zones_scheduling.md, R270, R274, R281; 14_host_interface.md, R315). Zone Management Send
names its action in dword 13 bits 7:0 and Select All in bit 8 (log entry 43). -/

namespace Sys2Proof.Machine

/-- Work of a zone is queued or in service: media operations, compression jobs, extents to pack, rewrites. -/
def zoneWork (s : State) (z : Nat) : Bool :=
  let jobs := s.cxReady ++ s.cxRun.map (fun p => p.2) ++ s.cxSusp.map (fun p => p.2)
  (allOps s).any (fun o => o.zone == z) || jobs.any (fun j => j.kind == 0 && chunkZone s j.ns j.chunk == z)
    || s.packing.any (fun p => p.1.zone == z) || s.rewrites.any (fun u => u.zone == z)

/-- Take the index entries of a zone's extents away (R304). -/
def dropZoneExtents (z : Nat) (s : State) : State :=
  let pages := ((s.extents.filter (fun e => e.zone == z)).map (fun e => (e.ns, e.chunk / 256))).eraseDups
  let s := pages.foldl (fun t p =>
    let t := cachePage p.1 p.2 t
    if t.idxDirty.contains p then t else { t with idxDirty := t.idxDirty ++ [p] }) s
  { s with extents := s.extents.filter (fun e => e.zone != z), source := s.source.filter (fun x => x.zone != z) }

/-- Drop the partial chunks of a zone; the writes they hold have nothing left to settle. -/
def dropZonePartials (z : Nat) (s : State) : State :=
  let mine := s.partials.filter (fun p => chunkZone s p.ns p.chunk == z)
  let s := { s with partials := s.partials.filter (fun p => chunkZone s p.ns p.chunk != z) }
  mine.foldl (fun t p => p.wids.foldl (fun u w => shareSettled 2 w u) t) s

/-- Reset a zone: its data, voids, rehome points and reservation go; `job` is 1 + the context that waits for the entry (R274). -/
def zoneResetTo (z job : Nat) (s : State) : State :=
  zoneState z zsEmpty job (setZone z emptyZone (dropZonePartials z (dropZoneExtents z s)))

/-- Force the partial chunks of a zone (R302). -/
def forceZone (z : Nat) (s : State) : State := forceWhere (fun p => chunkZone s p.ns p.chunk == z) s

/-- Zones of a namespace, in order. -/
def nsZoneList (s : State) (n : Nat) : List Nat := (List.range (nsZones s n)).map (fun i => nsFirst s n + i)

/-- One action of Zone Management Send: whether a state admits it, whether Select All takes a zone in the state, the state it leads to
(R315). -/
structure ZoneAct where
  admits : Nat → Bool
  all : Nat → Bool
  dest : Nat

def actOpen : ZoneAct := { admits := fun n => n == zsEmpty || isActiveState n, all := fun n => n == zsClosed, dest := zsExplicit }
def actClose : ZoneAct := { admits := isActiveState, all := isOpenState, dest := zsClosed }
def actFinish : ZoneAct := { admits := fun n => decide (n ≤ zsFull), all := isActiveState, dest := zsFull }
def actReset : ZoneAct := { admits := fun n => decide (n ≤ zsFull), all := fun n => isActiveState n || n == zsFull, dest := zsEmpty }
def actOffline : ZoneAct := { admits := fun n => decide (zsReadOnly ≤ n), all := fun n => n == zsReadOnly, dest := zsOffline }

/-- Give the zones of a list their new state; the last entry completes the command (R270). -/
def zoneApply (c : Nat) (a : ZoneAct) (s : State) : List Nat → State
  | [] => s
  | z :: r =>
    let job := if r.isEmpty then c + 1 else 0
    zoneApply c a (if a.dest = zsEmpty then zoneResetTo z job s else zoneState z a.dest job s) r

/-- The bar to opening the zones of a list one after another (R316). -/
def openBars (s : State) (n : Nat) : List Nat → Nat
  | [] => 0
  | z :: r => let b := openBar s n z
    if b ≠ 0 then b else openBars (updZone z (fun x => { x with state := zsExplicit }) s) n r

/-- A zone management command: finish and reset wait until the work of their zones has ended, in stage 1, and the row that comes then
completes them; nothing to change completes at once (R270, R274, R281). -/
def zoneCommand (c code : Nat) (a : ZoneAct) (s : State) : State :=
  match hostCtx s c false [0x79] with
  | none => s
  | some x =>
    if 1 < x.stage ∨ x.cmd.cdw13 % 256 ≠ code then s
    else match cmdNs s x with
      | none => ctxFinish c stNamespace s
      | some n =>
        let all := x.cmd.cdw13.testBit 8
        let z := cmdZone s x.cmd
        if !s.on ZX_NS.zoned n then ctxFinish c stOpcode s
        else if resConflict s n x.ctl true then ctxFinish c stResConflict s
        else if !all && decide (nsBlocks s n ≤ x.cmd.slba) then ctxFinish c stRange s
        else if !all && x.cmd.slba % max 1 s.image.zoneSize != 0 then ctxFinish c stField s
        else if !all && !a.admits (zoneOf s z).state then ctxFinish c stZoneTransition s
        else
          let zones := if all then (nsZoneList s n).filter (fun y => a.all (zoneOf s y).state)
            else if (zoneOf s z).state = a.dest then [] else [z]
          let bar := if a.dest = zsExplicit then openBars s n zones else 0
          if zones.isEmpty then ctxFinish c 0 s
          else if bar ≠ 0 then ctxFinish c bar s
          else
            let s := if a.dest = zsClosed ∨ a.dest = zsFull then zones.foldl (fun t y => forceZone y t) s else s
            let waits := (a.dest == zsFull || a.dest == zsEmpty) && zones.any (zoneWork s)
            if waits then updCtx c (fun y => { y with stage := 1 }) s
            else zoneApply c a (updCtx c (fun y => { y with stage := 2 }) s) zones

/-- ZONE_OPEN: action 3 (R315, R316). -/
def execZoneOpen (ctx : Nat) (s : State) : Res := run true s (zoneCommand ctx 3 actOpen)

/-- ZONE_CLOSE: action 1; the zone's partial chunks are forced (R302, R315). -/
def execZoneClose (ctx : Nat) (s : State) : Res := run true s (zoneCommand ctx 1 actClose)

/-- ZONE_FINISH: action 2 (R274, R302). -/
def execZoneFinish (ctx : Nat) (s : State) : Res := run true s (zoneCommand ctx 2 actFinish)

/-- ZONE_RESET: action 4 (R274). -/
def execZoneReset (ctx : Nat) (s : State) : Res := run true s (zoneCommand ctx 4 actReset)

/-- ZONE_OFFLINE: action 5 (R315). -/
def execZoneOffline (ctx : Nat) (s : State) : Res := run true s (zoneCommand ctx 5 actOffline)

/-! Reports. -/

/-- Finish Zone Recommended: fewer than fzr_chunks × 17 positions remain in a compressed zone (R309). -/
def finishRecommended (s : State) (n z : Nat) : Bool :=
  nsCompressed s n && decide (zonePositions s z - (zoneOf s z).next < 17 * s.get CX_ZONE_CFG.fzr_chunks)

/-- The zone state code of a report. -/
def reportState (n : Nat) : Nat :=
  if n = zsReadOnly then 13 else if n = zsFull then 14 else if n = zsOffline then 15 else n + 1

/-- The 64-byte descriptor of a zone (R309, R315). -/
def zoneDescriptor (s : State) (n z : Nat) : List Byte :=
  let x := zoneOf s z
  let start := (z - nsFirst s n) * s.image.zoneSize
  let attrs := b2n x.byCtl + 2 * b2n (finishRecommended s n z)
  leBytes 2 1 ++ leBytes (reportState x.state * 16) 1 ++ leBytes attrs 1 ++ leBytes 0 5
    ++ leBytes s.image.zoneCap 8 ++ leBytes start 8 ++ leBytes (start + x.hwp) 8 ++ List.replicate 32 (0 : Byte)

/-- The states that a report's filter takes: 0 for all, else one state in the order of the zone states. -/
def reportTakes (f st : Nat) : Bool := f == 0 || st + 1 == f

/-- REPORT_ZONES: Zone Management Receive; the header's count, then the descriptors from the zone named, cut to dword 12 + 1 dwords
(R315). -/
def execReportZones (ctx : Nat) (s : State) : Res :=
  run true s (fun s => onFetched s ctx false [0x7A] (fun x s =>
    match cmdNs s x with
    | none => ctxFinish ctx stNamespace s
    | some n =>
      let filt := x.cmd.cdw13 / 256 % 256
      if !s.on ZX_NS.zoned n then ctxFinish ctx stOpcode s
      else if x.cmd.cdw13 % 256 ≠ 0 ∨ 7 < filt then ctxFinish ctx stField s
      else if nsBlocks s n ≤ x.cmd.slba then ctxFinish ctx stRange s
      else
        let first := cmdZone s x.cmd
        let zones := (nsZoneList s n).filter (fun z => decide (first ≤ z) && reportTakes filt (zoneOf s z).state)
        let bytes := 4 * (x.cmd.cdw12 + 1)
        let room := (bytes - 64) / 64
        let count := if x.cmd.cdw13.testBit 16 then min room zones.length else zones.length
        let data := leBytes count 8 ++ List.replicate 56 (0 : Byte) ++ (zones.take (room + 1)).flatMap (zoneDescriptor s n)
        ctxFinish ctx 0 { s with hostData := data.take bytes }))

end Sys2Proof.Machine
end

