-- ==== Sys2Proof/Machine/HostFirmware.lean ====
section
/-! DEFINITION. Firmware update and activation (14_host_interface.md, R327, R328; 18_boot_record.md, R390, R394). -/

namespace Sys2Proof.Machine

/-! Items before they are in flash: the checks, the write. A staged structure image stands at offset 0 and its microcode area at
0x400000 (log entry 44). -/

/-- The kind of a staged item: a structure image by its magic, else the container's kind, 5 for none that can be stored (R382). -/
def stagedKind (rd : Nat → Nat) : Nat :=
  if u32 rd 0 = 0x4D554D4C then 0
  else if u32 rd 0 = 0x4D54494B ∧ 1 ≤ rd 4 ∧ rd 4 ≤ 4 then rd 4 else 5

/-- A staged item of a kind passes its checks: R49 for a structure image, codes 0x01 to 0x05 of R388 for a container (R390). -/
def stagedOk (s : State) (kind : Nat) (rd : Nat → Nat) : Bool :=
  match kind with
  | 0 => (imageFail rd (1 - (mark s 0).active) (floorOf s 0) (signKey s)).isNone
  | 5 => false
  | k => (contFail s k (floorOf s k) rd).isNone

/-- Write a staged item into its non-active slot; the pending mark is written once the whole item is in place (R390). With no image in
force either slot may take one (R52), and no command names the slot: the model takes the one that is not marked active (DESIGN CHOICE,
log entry 104). -/
def storeItem (kind : Nat) (rd : Nat → Nat) (s : State) : State :=
  let m := mark s kind
  let x := 1 - m.active
  let s := setMark kind { m with pending := false, trial := false } s
  let s := (s.flashErase (slotBase kind x) (slotSize kind)).flashProgram (slotBase kind x) (rdBytes rd 0 (u32 rd 8))
  let s := if kind = 0 then
      (s.flashErase (microBase x) 0x100000).flashProgram (microBase x) (rdBytes rd 0x400000 0x100000)
    else s
  setMark kind { m with pending := true, trial := false } s

/-- A management-port staging is in progress (R455). -/
def mpStaging (s : State) : Bool := !s.mpStage.isEmpty

/-- A format is in progress: its command has begun. -/
def formatting (s : State) : Bool := s.ctxs.any (fun p => p.2.qid == 0 && p.2.cmd.opcode == 0x80 && (p.2.stage == 1 || p.2.stage == 2))

/-! Activation. -/

/-- Start application firmware from a container: load it, show it, restart the application cores (R328). -/
def startApp (slot : Nat) (rd : Nat → Nat) (s : State) : State :=
  let s := loadItem 3 slot rd s
  let s := (s.set SB_ITEM_STATUS.loaded 2 1).clear SB_STATUS.app_absent
  let s := if slot = 1 then s.setBitOf SB_STATUS.slot 0 3 else s.clearBitOf SB_STATUS.slot 0 3
  let s := s.each ((List.range 8).filter (fun c => c != 0)) (fun c t =>
    if t.on AP_CORE_CTRL.run c then (t.clear AP_CORE_CTRL.run c).set AP_CORE_STATUS.state c coreStopped else t)
  icEval (coreStart 0 (contItem 3 slot rd).entry s)

/-- The activation record: this boot's record with kind 3, no reset class and the new measurement 4 (R391, R394). -/
def activationRecord (s : State) : State :=
  let m := measOf s 3
  let flags := clearBit (setBit (numAt s.aoRecord 0x36 2) 4) 14
  let body := patch (patch (patch (s.aoRecord.take 0x1A0) 6 [3]) 0x0C [0, 0, 0]) 0x130 (fit 48 m)
  (writeRecord (patch body 0x36 (leBytes flags 2)) { s with aoAct := fit 48 m }).2

/-- Application firmware committed for the next controller reset is activated: it goes on trial (R327, R390). -/
def appActivate (s : State) : State :=
  let m := mark s 3
  let x := 1 - m.active
  if s.on X.app_late ∧ m.pending = true then
    let s := setMark 3 { m with trial := true } (s.clear X.app_late)
    match slotFail s 3 x with
    | none => startApp x (flashRd s (slotBase 3 x)) (s.setBitOf SB_STATUS.trial 0 3)
    | some c => setMark 3 { m with pending := false, trial := false, code := c } s
  else s

/-- A controller reset, with what it activates (R323, R327). -/
def ctlResetAll (c : Nat) (s : State) : State := if ctlExists s c then appActivate (ctlReset c s) else s

/-- CONTROLLER_RESET: CC.EN cleared, or a function level reset (R323). -/
def execControllerReset (ctl : Nat) (s : State) : Res := run (okCtl ctl) s (ctlResetAll ctl)

/-! Download and commit. -/

/-- Size of the staging buffer: the largest slot. -/
def stageSize : Nat := 0x1000000

/-- FIRMWARE_IMAGE_DOWNLOAD: dwords 10 and 11 give the length minus one and the offset in dwords; a range that overlaps one of the
other controller's fails (R327). -/
def execFirmwareImageDownload (ctx : Nat) (data : List Byte) (s : State) : Res :=
  run true s (fun s => onFetched s ctx true [0x11] (fun x s =>
    let n := 4 * (x.cmd.cdw10 + 1)
    let o := 4 * x.cmd.cdw11
    if stageSize < o + n then ctxFinish ctx stField s
    else if s.fwRanges.any (fun r => r.1 != x.ctl && overlap r.2.1 r.2.2 o n) then ctxFinish ctx stFwImage s
    else ctxFinish ctx 0 { s with fwStage := memWrite s.fwStage flashErased o (fit n data), fwRanges := s.fwRanges ++ [(x.ctl, (o, n))] }))

/-- The activation without reset of a staged application item: fetching pauses, the events go out, the cores restart, the flash write
begins, the record is written (R328, R390, R394). -/
def activateNow (c : Nat) (s : State) : State :=
  let rd := cellsRd s.fwStage
  let x := 1 - (mark s 3).active
  let s := s.each (ctls s) (fun k t => hostEvent k (2 + 256 + 3 * 65536) (t.set HIF_CTL_STATUS.fetch_paused k 1))
  let s := updCtx c (fun y => { y with stage := 2 }) s
  let s := ((s.set X.fw_act 0 1).set X.fw_ctx 0 (c + 1)).set X.fw_flash 0 1
  let s := (s.set X.fw_slot 0 x).clear X.fw_ready
  let s := activationRecord (startApp x rd s)
  { s with fwWrite := rdBytes rd 0 (u32 rd 8) }

/-- FIRMWARE_COMMIT: dword 10 bits 2:0 name the slot, 0 for the part's choice, and bits 5:3 the action (R327, R390). -/
def execFirmwareCommit (ctx : Nat) (s : State) : Res :=
  run true s (fun s => onFetched s ctx true [0x10] (fun x s =>
    let rd := cellsRd s.fwStage
    let fs := x.cmd.cdw10 % 8
    let ca := x.cmd.cdw10 / 8 % 8
    let kind := if s.fwRanges.isEmpty then 5 else stagedKind rd
    let done := fun (t : State) => ({ t with fwStage := [], fwRanges := [] } : State)
    if 3 < ca then ctxFinish ctx stField s
    else if ca = 3 ∧ (s.on X.san_active ∨ s.on X.fw_act ∨ s.on X.fw_flash ∨ formatting s = true ∨ mpStaging s = true) then ctxFinish ctx stFwProhibited s
    else if stagedOk s kind rd = false then ctxFinish ctx stFwImage (done s)
    else if fs ≠ 0 ∧ fs ≠ 2 - (mark s kind).active then ctxFinish ctx stFwSlot s
    else if ca = 3 then (if kind = 3 then done (activateNow ctx s) else ctxFinish ctx stFwReset s)
    else
      let s := storeItem kind rd s
      ctxFinish ctx 0 (done (if kind = 3 then s.set X.app_late 0 1 else s))))

/-- ACTIVATION_FLASH_WRITE_END: the item is in its slot, pending and on trial, or active where it has been confirmed; a write that fails
leaves the slot unmarked (R390). -/
def execActivationFlashWriteEnd (ok : Bool) (s : State) : Res :=
  run true s (fun s =>
    if s.on X.fw_flash then
      let x := s.get X.fw_slot
      let ready := s.on X.fw_ready
      let s := (s.clear X.fw_flash).clear X.fw_ready
      if ok then
        let s := setMark 3 { mark s 3 with pending := false, trial := false } s
        let s := (s.flashErase (slotBase 3 x) (slotSize 3)).flashProgram (slotBase 3 x) s.fwWrite
        let m := mark s 3
        let s := if ready then setMark 3 { m with active := x, pending := false, trial := false } s
          else (setMark 3 { m with pending := true, trial := true } s).setBitOf SB_STATUS.trial 0 3
        { s with fwWrite := [] }
      else { s with fwWrite := [] }
    else s)

end Sys2Proof.Machine
end

