-- ==== Sys2Proof/Machine/HostLogs.lean ====
section
/-! DEFINITION. What the host reads: Identify, and the log pages (14_host_interface.md, R314 to R316, R331, R334 to R336; R364, R398,
R448). Where the standards place what the spec states is log entry 46; bytes that the spec does not state are `Config.openByte`. -/

namespace Sys2Proof.Machine

/-- A page: the pieces stated, each at its offset; the first that covers an offset stands, and elsewhere the byte is open. -/
def pageOf (id : Nat) (l : List (Nat × List Byte)) (o : Nat) : Byte :=
  match l.find? (fun p => decide (p.1 ≤ o) && decide (o < p.1 + p.2.length)) with
  | some p => p.2.getD (o - p.1) 0
  | none => Config.openByte id o

/-- A page that holds a list and reads as zeros beyond it. -/
def pageList (l : List Byte) (o : Nat) : Byte := l.getD o 0

/-- `n` bytes of a page from an offset. -/
def pageRead (p : Nat → Byte) (off n : Nat) : List Byte := (List.range n).map (fun i => p (off + i))

/-! Identify. -/

/-- Maximum power and latencies of PS0 to PS4, in 10 mW and µs; those of PS3 and PS4 are the drive's own (R331). -/
def psDescriptors : List (Nat × List Byte) :=
  [(0, leBytes 7200 2), (3, [0]), (4, leBytes 10000 4 ++ leBytes 10000 4),
   (32, leBytes 4000 2), (35, [0]), (36, leBytes 10000 4 ++ leBytes 10000 4),
   (64, leBytes 1800 2), (67, [0]), (68, leBytes 10000 4 ++ leBytes 10000 4),
   (96, leBytes 900 2), (99, [2]), (128, leBytes 450 2), (131, [2])]

/-- Identify Controller: the limits of R316 and what R315 supports. -/
def identifyCtl (s : State) (c : Nat) : List (Nat × List Byte) :=
  [(77, [9]), (78, leBytes c 2), (80, leBytes 0x20000 4), (256, leBytes 0x1E 2), (258, [63]), (259, [15]), (260, [0x14]), (262, [63]), (263, [4]),
   (265, [0]), (266, leBytes (kelvin (s.getS TH_THR.throttle)) 2), (268, leBytes (kelvin (s.getS TH_THR.shutdown)) 2), (270, leBytes 10 2),
   (328, leBytes 5 4), (512, [0x66, 0x44]), (516, leBytes 64 4), (520, leBytes 0x6C 2), (525, [7])]
    ++ psDescriptors.map (fun p => (2048 + p.1, p.2))

/-- Identify Namespace (R314, R315). -/
def identifyNs (s : State) (n : Nat) : List (Nat × List Byte) :=
  let cap := if s.on ZX_NS.zoned n then nsZones s n * s.image.zoneCap else nsBlocks s n
  [(0, leBytes (nsBlocks s n) 8), (8, leBytes cap 8), (25, [0]), (26, [0]), (29, [0]), (128, [0, 0, 12])]

/-- Identify Namespace of the Zoned Namespace command set: 512 active and open zones, zone size, no descriptor extension (R315,
R316). -/
def identifyZns (s : State) (n : Nat) : List (Nat × List Byte) :=
  [(4, leBytes 511 4), (8, leBytes 511 4), (2816, leBytes (if n < 64 then s.image.zoneSize else 0) 8), (2824, [0])]

/-- A list of namespace identifiers above one, as Identify returns it. -/
def nsidList (s : State) (p : Nat → Bool) (above : Nat) : List Byte :=
  (((List.range 64).filter (fun n => s.on ZX_NS.enable n && p n && decide (above < n + 1))).flatMap (fun n => leBytes (n + 1) 4))

/-- What an Identify command of a controller answers: its status, and the 4,096 bytes it returns. Dword 10 bits 7:0 name the
structure (R316). -/
def identifyOut (s : State) (c : Nat) (cmd : NvmeCmd) : Nat × (Nat → Byte) :=
  let n := cmd.nsid - 1
  let named := decide (1 ≤ cmd.nsid) && decide (cmd.nsid ≤ 64)
  let csi := cmd.cdw11 / 2 ^ 24 % 256
  match cmd.cdw10 % 256 with
  | 0x00 => if !named then (stNamespace, pageList [])
      else if nsAttached s c n then (0, pageOf 0x600 (identifyNs s n)) else (0, pageList [])
  | 0x01 => (0, pageOf 0x601 (identifyCtl s c))
  | 0x02 => (0, pageList (nsidList s (nsAttached s c) cmd.nsid))
  | 0x05 => if !named || csi != 2 then (stField, pageList [])
      else if nsAttached s c n && s.on ZX_NS.zoned n then (0, pageOf 0x605 (identifyZns s n)) else (0, pageList [])
  | 0x06 => if csi = 2 then (0, pageOf 0x606 [(0, [9])]) else (stField, pageList [])
  | 0x10 => (0, pageList (nsidList s (fun _ => true) cmd.nsid))
  | 0x11 => if !named then (stNamespace, pageList [])
      else if s.on ZX_NS.enable n then (0, pageOf 0x600 (identifyNs s n)) else (0, pageList [])
  | 0x13 => (0, pageList (leBytes (ctls s).length 2 ++ (ctls s).flatMap (fun c => leBytes c 2)))
  | _ => (stField, pageList [])

/-- IDENTIFY (R316). -/
def execIdentify (ctx : Nat) (s : State) : Res :=
  run true s (fun s => onFetched s ctx true [0x06] (fun x s =>
    let out := identifyOut s x.ctl x.cmd
    if out.1 = 0 then ctxFinish ctx 0 { s with hostData := pageRead out.2 0 4096 } else ctxFinish ctx out.1 s))

/-! Health. -/

/-- Heads, flumes, compression engines and devices in service (R335). -/
def headsUp (s : State) : List Nat := (List.range 64).filter (fun h => headKept s h)
def enginesUp (s : State) : List Nat := (List.range 8).filter (fun e => (s.get CX_SVC.mask).testBit e && s.get CX_ENG_STATUS.state e != 5)
def devicesUp (s : State) : List Nat := (List.range 2).filter (fun d => (s.get BM_MAP.devices).testBit d && devUsable s d)

/-- Reliability is degraded: reduced servo redundancy, a pair fault, or a head, flume, engine or device out of service (R336). -/
def degraded (s : State) : Bool :=
  (List.range 4).any (fun a => s.image.hasAct a && s.get SV_RED_STATUS.state a != 0)
    || (List.range 64).any (fun h => s.image.populated h && !headKept s h)
    || (bitsOf 32 s.image.flumeMask).any (fun f => !(flumesUp s).contains f)
    || decide ((enginesUp s).length < 8)
    || (List.range 2).any (fun d => devConfigured s d && !(devicesUp s).contains d)

/-- Critical Warning: bit 1 temperature (R364), bit 2 reliability (R336). -/
def critWarn (s : State) : Nat :=
  2 * b2n (s.on TH_STATUS.warning || s.on TH_STATUS.shutdown || s.on TH_STATUS.air_out) + 4 * b2n (degraded s)

/-- SMART / Health Information (R336, R364). -/
def smartPage (s : State) : List (Nat × List Byte) :=
  [(0, leBytes (critWarn s) 1), (1, leBytes (kelvin (s.getS TH_STATUS.tj)) 2), (200, leBytes (kelvin (s.getS TH_SENSOR.temp 16)) 2),
   (202, leBytes (kelvin (s.getS TH_SENSOR.temp 17)) 2), (204, leBytes (kelvin (hottestHead s TH_HEAD.head)) 2),
   (206, leBytes (kelvin (hottestHead s TH_HEAD.assist)) 2)]

/-- The 64 bytes of Get Health; their layout is the model's (log entry 46, R455). Byte 21 is 0; values held in always-on SRAM are
answered with 1 there. -/
def healthBytes (s : State) : List Byte :=
  leBytes (s.get CR_PWR_STATUS.state) 1 ++ leBytes (regValue s TH_STATUS 0 / 2 ^ 56) 1 ++ leBytes (s.get TH_STATUS.tj) 2
    ++ leBytes (toBits 16 (hottestHead s TH_HEAD.head)) 2 ++ leBytes (toBits 16 (hottestHead s TH_HEAD.assist)) 2
    ++ leBytes (headsUp s).length 1 ++ leBytes (flumesUp s).length 1 ++ leBytes (devicesUp s).length 1
    ++ (List.range 4).flatMap (fun a => leBytes (s.get SV_RED_STATUS.state a) 1) ++ leBytes (s.get ER_STATUS.log_failed) 1
    ++ leBytes (regValue s MP_PARK_STATUS 0) 4 ++ leBytes (s.get SB_STATUS.state) 1 ++ List.replicate 43 (0 : Byte)

/-- T_j in °C as the subsystem health poll gives it: 0 to 126, 127 for more, and 0xC4 to 0xFF for −60 to −1. -/
def pollTemp (t : Int) : Nat :=
  let c := t / 8
  if 127 ≤ c then 127 else if 0 ≤ c then c.toNat else (256 + max c (-60)).toNat

/-- The 8 bytes of the NVM Subsystem Health Status Poll: the critical warnings inverted and T_j; byte 7 as in Get Health (R336, R364,
R453, log entry 46). -/
def subsystemPoll (s : State) : List Byte :=
  pageRead (pageOf 0x501 [(1, leBytes (255 - critWarn s) 1), (2, leBytes (pollTemp (s.getS TH_STATUS.tj)) 1), (6, [0, 0])]) 0 8

/-- The 16 bytes of a controller's health: T_j in kelvin and the critical warnings; byte 15 as in Get Health (R336, R364, R453, log entry
46). -/
def controllerPoll (s : State) (c : Nat) : List Byte :=
  pageRead (pageOf 0x502 [(0, leBytes c 2), (4, leBytes (kelvin (s.getS TH_STATUS.tj)) 2), (8, leBytes (critWarn s) 1), (9, List.replicate 7 (0 : Byte))]) 0 16

/-- The health values kept in always-on SRAM while the core rails are off: Get Health, the subsystem poll, the controllers' polls
(R457). -/
def healthKept (s : State) : List Byte := healthBytes s ++ subsystemPoll s ++ controllerPoll s 0 ++ controllerPoll s 1

/-! Log pages. -/

/-- An Error Information entry; its error count is open. -/
def errBytes (i : Nat) (e : ErrEntry) : List (Nat × List Byte) :=
  [(64 * i + 8, leBytes e.qid 2), (64 * i + 10, leBytes e.cid 2), (64 * i + 12, leBytes (2 * e.status) 2), (64 * i + 16, leBytes e.lba 8),
   (64 * i + 24, leBytes e.nsid 4)]

/-- Error Information: entries newest first; unused entries are zero (R171, R334). -/
def errorPage (s : State) (o : Nat) : Byte :=
  if o < 64 * s.errLog.length then pageOf 0x201 ((s.errLog.zipIdx).flatMap (fun p => errBytes p.2 p.1)) o else 0

/-- Admin commands that are supported (R315, R396). -/
def adminOps : List Nat := [0x00, 0x01, 0x02, 0x04, 0x05, 0x06, 0x08, 0x09, 0x0A, 0x0C, 0x0D, 0x10, 0x11, 0x14, 0x15, 0x80, 0x84, 0xC4]

/-- I/O commands that are supported (R315). -/
def ioOps : List Nat := [0x00, 0x01, 0x02, 0x08, 0x09, 0x0D, 0x0E, 0x11, 0x15, 0x79, 0x7A, 0x7D]

/-- Commands Supported and Effects: bit 0 of a command's dword; the rest is open. -/
def effectsPage (o : Nat) : Byte :=
  if o % 4 = 0 ∧ o < 2048 then
    let n := o / 4
    let on := if n < 256 then adminOps.contains n else ioOps.contains (n - 256)
    (Config.openByte 0x205 o &&& 0xFE) ||| (if on then 1 else 0)
  else Config.openByte 0x205 o

/-- Firmware Slot Information: the active slot, and the one that waits (R334, R390). -/
def slotPage (s : State) : List (Nat × List Byte) :=
  let m := mark s 3
  [(0, leBytes (m.active + 1 + (if m.pending then 16 * (2 - m.active) else 0)) 1)]

/-- Time that the self-test has yielded, in ns (R330). -/
def yieldedTime (s : State) : Nat := s.get X.dst_yielded + (if s.on X.dst_yield then s.dtime - s.get X.dst_at else 0)

/-- Device Self-test: the running test and the newest result; after the standard's 564 bytes the yielded time (R330, R334; log entry
46). -/
def selfTestPage (s : State) : List (Nat × List Byte) :=
  [(0, leBytes (s.get X.dst_run) 1), (4, leBytes (s.get X.dst_result) 1), (564, leBytes (yieldedTime s) 8)]

/-- Sanitize Status: idle, completed or in progress (R329). -/
def sanitizePage (s : State) : List (Nat × List Byte) :=
  let st := if s.on X.san_active then 2 else if s.on X.san_done then 1 else 0
  (if s.on X.san_active then [] else [(0, leBytes 0xFFFF 2)]) ++ [(2, leBytes st 1)]

/-- Changed Zone List of a namespace (R336). -/
def changedZonePage (s : State) (n : Nat) : List Byte :=
  let l := s.changedZones.filter (fun p => p.1 == n)
  leBytes l.length 2 ++ List.replicate 6 (0 : Byte) ++ l.flatMap (fun p => leBytes ((p.2 - nsFirst s n) * s.image.zoneSize) 8)

/-- The descriptor of the event recorder's page: live, or from the copies made at DEEP entry (R448, R449). -/
def erDescriptor (s : State) : List Byte :=
  let live := s.get X.core_off == 0
  let v := fun (i : Nat) (r : Reg) => if live then regValue s r 0 else s.erCopies.getD i 0
  let status := clearBit (v 1 ER_STATUS) 61 + 2 ^ 61 * s.get ER_GASP.log_failed
  leBytes 0x4452454B 4 ++ leBytes 1 2 ++ leBytes (b2n (!live)) 1 ++ [0] ++ leBytes (v 0 ER_POS) 8 ++ leBytes status 8
    ++ leBytes (v 2 ER_LOST) 8 ++ leBytes (v 3 ER_LAST) 8 ++ leBytes (regValue s ER_GASP 0) 4 ++ leBytes 0 4 ++ leBytes s.dtime 8

/-- Log page 0xC0 (R448, R449). -/
def recorderPage (s : State) (o : Nat) : Byte :=
  if o < 512 then (erDescriptor s).getD o 0
  else if o < 2560 then
    let i := (o - 512) / 256
    if (s.get ER_GASP.used).testBit i then (leBytes (s.get ER_GASP_SLOT.word (32 * i + (o - 512) % 256 / 8)) 8).getD (o % 8) 0 else 0
  else if s.on X.core_off then 0
  else if o - 2560 < s.get ER_POS.write_point then s.flashByte (erBase + (o - 2560)) else 0

/-- The descriptor of the boot chapter (R398). -/
def bootDescriptor (s : State) : List Byte :=
  let lc := s.get SB_STATUS.lifecycle
  let dak := if dakDerived lc (s.get SB_POLICY.policy) then dakPublic lc else List.replicate 96 0
  leBytes 0x4443424B 4 ++ leBytes 1 2 ++ leBytes (s.get SB_CHAPTER.next) 2 ++ leBytes (s.get SB_CHAPTER.voids) 2
    ++ leBytes (s.get SB_BOOT_COUNT.epochs) 2 ++ leBytes (s.get SB_BOOT_COUNT.counter) 4 ++ leBytes Config.deviceId 8
    ++ leBytes Config.romVersion 4 ++ leBytes (regValue s SB_STATUS 0 / 2 ^ 40) 4 ++ dak

/-- Log page 0xC1 (R398). -/
def bootPage (s : State) (o : Nat) : Byte :=
  if o < 512 then (bootDescriptor s).getD o 0
  else
    let i := (o - 512) / 512
    if i < s.get SB_CHAPTER.next then s.flashByte (recAt i + o % 512) else 0

/-- Log page 0xC2, LSP 0: 288 bytes for each band of a head (R125, R335). -/
def calPage (s : State) (h : Nat) (o : Nat) : Byte :=
  if h < 64 ∧ o < 288 * 48 then
    let i := 48 * h + o / 288
    let p := o % 288
    let byte := fun (v : Nat) => (leBytes v 8).getD (p % 8) 0
    if p < 256 then byte (s.get DP_CAL.word (16 * (2 * i + p / 128) + p % 128 / 8))
    else if p < 264 then byte (regValue s WP_WSET0 i)
    else if p < 272 then byte (regValue s WP_WSET1 i)
    else if p < 280 then byte (regValue s WP_WSET2 i)
    else 0
  else 0

/-- The profile in force: the first whose values stand in the profile registers, 0xFF for none (R20, R335). -/
def profileNow (s : State) : Nat :=
  ((List.range 5).find? (fun k => (profileValues s.image (capped (s.image.profile k) (s.get DP_FLUME_SVC.mask))).all (fun v => s.get v.1 v.2.1 == v.2.2))).getD 0xFF

/-- Log page 0xC3, LSP 0: the drive summary; its layout is the model's (log entry 46, R335). -/
def summaryPage (s : State) : List Byte :=
  leBytes (headsUp s).length 1 ++ leBytes (flumesUp s).length 1 ++ leBytes (enginesUp s).length 1 ++ leBytes (devicesUp s).length 1
    ++ (List.range 2).flatMap (fun p => leBytes (s.get HIF_PORT_STATUS.speed p) 1 ++ leBytes (s.get HIF_PORT_STATUS.width p) 1)
    ++ (List.range 4).flatMap (fun a => leBytes (s.get SV_RED_STATUS.state a) 1) ++ leBytes (s.get TH_STATUS.step) 1 ++ leBytes (profileNow s) 1
    ++ leBytes 0 2 ++ leBytes (regValue s MS_URG_STATUS 0) 8 ++ leBytes (regValue s MS_URG_UNCOV 0) 8

/-- Log page 0xC3, LSP 1: a head's quality (R335). -/
def headPage (s : State) (h : Nat) : List Byte :=
  if 64 ≤ h then []
  else
    (List.range 48).flatMap (fun b => leBytes (regValue s DP_QUAL_A (48 * h + b)) 8 ++ leBytes (regValue s DP_QUAL_B (48 * h + b)) 8)
      ++ leBytes (regValue s MS_RL_HEAD_CNT0 h) 8 ++ leBytes (regValue s MS_RL_HEAD_CNT1 h) 8 ++ leBytes (regValue s MS_RL_HEAD_CNT2 h) 8
      ++ leBytes (s.get WP_HEAD_STATE.void h) 4 ++ leBytes (s.get WP_HEAD_STATE.wfail h) 4 ++ leBytes (regValue s WP_HEAD_VCNT h) 8

/-- Log page 0xC3, LSP 2: the physical fill of the zones from one on (R309, R335). -/
def fillPage (s : State) (first : Nat) (o : Nat) : Byte :=
  let z := first + o / 16
  if z < imageZones s.image then
    let x := zoneOf s z
    (leBytes z 4 ++ leBytes x.mwp 4 ++ leBytes x.voids.length 4 ++ leBytes (zonePositions s z - x.next) 4).getD (o % 16) 0
  else 0

/-- A log page, with its Log Specific Parameter and Identifier (R334, R335). -/
def logPage (s : State) (c nsid lid lsp lsi : Nat) : Option (Nat → Byte) :=
  match lid with
  | 0x01 => some (errorPage s)
  | 0x02 => some (pageOf 0x202 (smartPage s))
  | 0x03 => some (pageOf 0x203 (slotPage s))
  | 0x04 => some (pageList (s.changedNs.flatMap (fun n => leBytes (n + 1) 4)))
  | 0x05 => some effectsPage
  | 0x06 => some (pageOf 0x206 (selfTestPage s))
  | 0x0D =>
    let l := s.resvNotes.filter (fun p => p.1 == c)
    match l.head? with
    | some p => some (pageOf 0x20D [(8, leBytes p.2.1 1), (9, leBytes (l.length - 1) 1), (12, leBytes p.2.2 4)])
    | none => some (pageOf 0x20D [(8, [0, 0])])
  | 0x81 => some (pageOf 0x281 (sanitizePage s))
  | 0xBF => some (pageList (changedZonePage s (nsid - 1)))
  | 0xC0 => some (recorderPage s)
  | 0xC1 => some (bootPage s)
  | 0xC2 => if lsp = 0 then some (calPage s lsi) else none
  | 0xC3 =>
    match lsp with
    | 0 => some (pageList (summaryPage s))
    | 1 => some (pageList (headPage s lsi))
    | 2 => some (fillPage s lsi)
    | _ => none
  | _ => none

/-- A page that is a log is one that R334 lists. -/
def logKnown (lid : Nat) : Bool := [0x01, 0x02, 0x03, 0x04, 0x05, 0x06, 0x0D, 0x81, 0xBF, 0xC0, 0xC1, 0xC2, 0xC3].contains lid

/-- Reading a list without Retain Asynchronous Event takes what it reports off it. -/
def logTaken (c nsid lid : Nat) (s : State) : State :=
  match lid with
  | 0x04 => { s with changedNs := [] }
  | 0x0D => match s.resvNotes.find? (fun p => p.1 == c) with | some p => { s with resvNotes := s.resvNotes.erase p } | none => s
  | 0xBF => { s with changedZones := s.changedZones.filter (fun p => p.1 != nsid - 1) }
  | _ => s

/-- GET_LOG_PAGE: dword 10 gives the page, its parameter, Retain Asynchronous Event and the length, dword 11 the upper length and the
specific identifier, dwords 12 and 13 the offset (R334, R335). -/
def execGetLogPage (ctx : Nat) (s : State) : Res :=
  run true s (fun s => onFetched s ctx true [0x02] (fun x s =>
    let lid := x.cmd.cdw10 % 256
    let n := 4 * (x.cmd.cdw10 / 65536 + x.cmd.cdw11 % 65536 * 65536 + 1)
    let off := x.cmd.cdw12 + 2 ^ 32 * x.cmd.cdw13
    if !logKnown lid then ctxFinish ctx stLogPage s
    else match logPage s x.ctl x.cmd.nsid lid (x.cmd.cdw10 / 256 % 128) (x.cmd.cdw11 / 65536) with
      | none => ctxFinish ctx stField s
      | some p =>
        let s : State := { s with hostData := pageRead p off n }
        ctxFinish ctx 0 (if x.cmd.cdw10.testBit 15 then s else logTaken x.ctl x.cmd.nsid lid s)))

end Sys2Proof.Machine
end

