-- ==== Sys2Proof/Machine/HostAdmin.lean ====
section
/-! DEFINITION. Ports and links, features and power states (14_host_interface.md, R311, R312, R315, R324, R331, R332; R368). -/

namespace Sys2Proof.Machine

/-! Ports. -/

/-- A port exists: port 1 only in configuration 1 (R311). -/
def portExists (s : State) (p : Nat) : Bool := ctlExists s p

/-- Lanes that a port is configured for (R311). -/
def portLanes (s : State) : Nat := if s.on HIF_PORT_CFG.mode then 2 else 4

/-- LINK_TRAINING_START: with enable set and PERST# deasserted a port starts training; the LTSSM's codes are not stated, a free value
(R312, R368). -/
def execLinkTrainingStart (port : Nat) (s : State) : Res :=
  run (okPort port) s (fun s =>
    if portExists s port && s.on HIF_PORT_CFG.enable && s.get HIF_PORT_STATUS.perst port == 0 && s.get HIF_PORT_STATUS.dl_up port == 0
        && s.get X.link_train port == 0 && s.get TH_STATUS.cutoff == 0 && !imagelessState s then
      ((s.set X.link_train port 1).set HIF_PORT_STATUS.ltssm port s.fresh).spend
    else s)

/-- A speed that ports train at: 1 for 2.5 to 6 for 64 GT/s (R312). -/
def speedOk (n : Nat) : Bool := decide (1 ≤ n) && decide (n ≤ 6)

/-- LINK_UP: a port that trains reaches DL_Up at its speed and width; flit mode at 64 GT/s, and below it where the link partner supports
it, a free value (R312). -/
def execLinkUp (port speed width : Nat) (s : State) : Res :=
  run (okPort port) s (fun s =>
    if s.on X.link_train port && speedOk speed && (width == 1 || width == 2 || width == 4) && decide (width ≤ portLanes s) then
      let flit := if speed = 6 then 1 else s.fresh % 2
      let ltssm := s.spend.fresh
      let s := s.spend.spend
      let s := (s.clear X.link_train port).set HIF_PORT_STATUS.flit port flit
      let s := ((s.set HIF_PORT_STATUS.speed port speed).set HIF_PORT_STATUS.width port width).set HIF_PORT_STATUS.dl_up port 1
      let s := (s.set HIF_PORT_STATUS.ltssm port ltssm).raise HIF_INT.link_up
      if width < portLanes s then narrowPort port width s else s
    else s)

/-- A port's link is gone: it reports no link until it trains again. -/
def portDown (p : Nat) (s : State) : State :=
  let up := s.on HIF_PORT_STATUS.dl_up p
  let s := ((s.clear HIF_PORT_STATUS.dl_up p).clear HIF_PORT_STATUS.width p).clear HIF_PORT_STATUS.speed p
  let s := ((s.clear HIF_PORT_STATUS.flit p).clear HIF_PORT_STATUS.ltssm p).clear X.link_train p
  if up then s.raise HIF_INT.link_down else s

/-- DL_DOWN: the data link is lost, a controller reset of the port's controller (R324). -/
def execDlDown (port : Nat) (s : State) : Res :=
  run (okPort port) s (fun s => if s.on HIF_PORT_STATUS.dl_up port then ctlResetAll port (portDown port s) else s)

/-- HOT_RESET: a controller reset of the port's controller, with a reset of the port (R324). -/
def execHotReset (port : Nat) (s : State) : Res :=
  run (okPort port) s (fun s => if portExists s port then ctlResetAll port (portDown port s) else s)

/-- LANE_NARROWING: a lane fails and the port retrains narrower (R27, R312). -/
def execLaneNarrowing (port width : Nat) (s : State) : Res :=
  run (okPort port) s (fun s =>
    if s.on HIF_PORT_STATUS.dl_up port && (width == 1 || width == 2) && decide (width < s.get HIF_PORT_STATUS.width port) then narrowPort port width s
    else s)

/-! Power states. -/

/-- The registers of the profile settings, in the order of their values (R20). -/
def profileRegs : List Reg := [DP_POOL, MS_PROFILE, MS_PROFILE, MS_URG_CFG, HG_URGENT, MS_PROFILE, HG_BUDGET_DRIVE, HG_BUDGET_PART]

/-- A profile change: its settings, the flume count capped at the flumes in service (R27), are staged, and where the commit controller was idle they are checked and applied by an immediate
commit (R22; who commits, and what becomes of a set already staged, is log entry 47). -/
def profileCommit (k : Nat) (s : State) : State :=
  let idle := s.get SC_STATUS.state == scIdle
  let s := (profileRegs.zip (profileValues s.image (capped (s.image.profile k) (s.eff DP_FLUME_SVC.mask)))).foldl (fun t p => stageField p.2.1 p.2.2.1 (p.1.addrOf p.2.2.1) p.2.2.2 t) s
  if idle then
    match firstViolation s with
    | none => strobe s
    | some (rule, addr) => scResult 2 (((s.set SC_STATUS.state 0 scFailed).set SC_STATUS.rule 0 rule).set SC_STATUS.reg_addr 0 addr)
  else s

/-- The state that the part runs: the lower-numbered of the controllers' states (R331). -/
def psLowest (s : State) : Nat := (ctls s).foldl (fun n c => min n (s.get HIF_CTL_STATUS.ps c)) 4

/-- The profile mapped to PS0 to PS2 (HIF_PS_MAP). -/
def psMapped (s : State) (ps : Nat) : Nat :=
  match ps with
  | 0 => s.get HIF_PS_MAP.ps0
  | 1 => s.get HIF_PS_MAP.ps1
  | _ => s.get HIF_PS_MAP.ps2

/-- The profile of an operational power state comes into force (R331). -/
def psProfile (ps : Nat) (s : State) : State := if profileNow s = psMapped s ps then s else profileCommit (psMapped s ps) s

/-- Run a power state: an operational one by its profile, from a non-operational one through the exit; PS3 is IDLE-B, PS4 STANDBY
(R331, R373). -/
def psRun (ps : Nat) (s : State) : State :=
  if ps ≤ 2 then
    let s := psProfile ps s
    if s.get CR_PWR_STATUS.target = pwIdleB ∨ s.get CR_PWR_STATUS.target = pwStandby then pwrRequest 1 pwActive s else s
  else if ps = 3 then pwrRequest 1 pwIdleB s
  else pwrRequest 1 pwStandby s

/-- A controller asks for a power state; a management-port park holds the request until it ends (R331, R332, R456). -/
def psAsk (c ps : Nat) (s : State) : State :=
  if s.get MP_PARK_STATUS.latch ≠ 0 then s.set X.ps_held c (ps + 1)
  else
    let old := psLowest s
    let s := s.set HIF_CTL_STATUS.ps c ps
    let s := if ps ≤ 2 then s.set X.last_op c ps else s
    if psLowest s = old then s else psRun (psLowest s) s

/-- A doorbell in PS3 or PS4 returns its controller to its last operational state, with the profile of that where it is now the state that
the part runs (R331, R332). -/
def psWake (c : Nat) (s : State) : State :=
  if s.get HIF_CTL_STATUS.ps c < 3 then s
  else if s.get MP_PARK_STATUS.latch ≠ 0 then s.set X.ps_held c (s.get X.last_op c + 1)
  else
    let t := s.set HIF_CTL_STATUS.ps c (s.get X.last_op c)
    if psLowest t = psLowest s then t else psProfile (psLowest t) t

/-- SUBMISSION_DOORBELL: a submission queue's tail moves on; one of an I/O queue wakes the part (R332, R373, R375). -/
def execSubmissionDoorbell (ctl qid tail : Nat) (s : State) : Res :=
  run (okCtl ctl) s (fun s =>
    match ringOf s ctl 0 qid with
    | none => s
    | some (n, r) =>
      if s.get HIF_CTL_STATUS.rdy ctl = 0 ∨ s.on X.ctl_down ctl ∨ r.size ≤ tail then s
      else
        let more := (tail + r.size - r.tail) % r.size
        if more = 0 then s
        else
          let s := { s with rings := KV.put natLt s.rings n { r with tail := tail, bells := r.bells ++ [(more, s.dtime)] } }
          if qid = 0 then s else urgStatus (pwrDoorbell (psWake ctl s)))

/-- POWER_STATE_CHANGE: the Power Management feature, dword 11 bits 4:0 (R331). -/
def execPowerStateChange (ctx : Nat) (s : State) : Res :=
  run true s (fun s => onFetched s ctx true [0x09] (fun x s =>
    if x.cmd.cdw10 % 256 ≠ 2 then s
    else
      let ps := x.cmd.cdw11 % 32
      if 4 < ps then ctxFinish ctx stField s else ctxFinish ctx 0 (psAsk x.ctl ps s)))

/-! Features. -/

/-- The features that are supported (R315). -/
def featureIds : List Nat := [0x01, 0x02, 0x04, 0x05, 0x06, 0x07, 0x08, 0x09, 0x0B, 0x0E, 0x0F]

/-- A feature's key: temperature thresholds and interrupt vectors have one value each. -/
def featureKey (x : NvmeCmd) : Nat :=
  let f := x.cdw10 % 256
  if f = 4 then f + 256 * (x.cdw11 / 65536 % 64) else if f = 9 then f + 256 * (x.cdw11 % 65536) else f

/-- Queue pairs allowed, as the Number of Queues feature reports them (R316). -/
def queuesAllowed : Nat := 8190 + 65536 * 8190

/-- A feature's value (R315, R316). -/
def featureValue (s : State) (c : Nat) (x : NvmeCmd) : Nat :=
  let f := x.cdw10 % 256
  if f = 2 then s.get HIF_CTL_STATUS.ps c
  else if f = 6 then 1 - s.get X.vwc_off c
  else if f = 7 then queuesAllowed
  else (KV.get s.feats (c, featureKey x)).getD (Config.featureDefault (featureKey x))

/-- SET_FEATURES: a supported feature takes dword 11, Timestamp its 64-bit operand; no feature is saveable (R155, R315). -/
def execSetFeatures (ctx : Nat) (s : State) : Res :=
  run true s (fun s => onFetched s ctx true [0x09] (fun x s =>
    let f := x.cmd.cdw10 % 256
    if !featureIds.contains f then ctxFinish ctx stField s
    else if f = 2 then
      (if 4 < x.cmd.cdw11 % 32 then ctxFinish ctx stField s else ctxFinish ctx 0 (psAsk x.ctl (x.cmd.cdw11 % 32) s))
    else if f = 6 then
      let off := x.cmd.cdw11 % 2 = 0
      let s := s.set X.vwc_off x.ctl (if off then 1 else 0)
      ctxFinish ctx 0 (if off then forceWhere (fun _ => true) s else s)
    else if f = 7 then ctxFinish ctx 0 (updCtx ctx (fun y => { y with dw0 := queuesAllowed }) s)
    else
      let v := if f = 0x0E then x.cmd.slba else x.cmd.cdw11
      let s : State := { s with feats := KV.put pairLt s.feats (x.ctl, featureKey x.cmd) v }
      ctxFinish ctx 0 (if f = 4 then tempEvents s else s)))

/-- GET_FEATURES (R315, R316). -/
def execGetFeatures (ctx : Nat) (s : State) : Res :=
  run true s (fun s => onFetched s ctx true [0x0A] (fun x s =>
    if !featureIds.contains (x.cmd.cdw10 % 256) then ctxFinish ctx stField s
    else
      let v := featureValue s x.ctl x.cmd
      let s := if x.cmd.cdw10 % 256 = 0x0E then { s with hostData := leBytes v 8 } else s
      ctxFinish ctx 0 (updCtx ctx (fun y => { y with dw0 := v % 2 ^ 32 }) s)))

/-- UNSUPPORTED_COMMAND: a command that R315 does not support completes with Invalid Opcode and has no other effect. -/
def execUnsupportedCommand (ctx : Nat) (s : State) : Res :=
  run true s (fun s =>
    match ctxOf s ctx with
    | some x =>
      let known := if x.qid = 0 then adminOps.contains x.cmd.opcode else ioOps.contains x.cmd.opcode
      if x.stage = 0 ∧ known = false then ctxFinish ctx stOpcode s else s
    | none => s)

end Sys2Proof.Machine
end

