-- ==== Sys2Proof/Machine/HostNs.lean ====
section
/-! DEFINITION. Sanitize, Format NVM, Device Self-test, namespaces and reservations (14_host_interface.md, R314, R315, R317, R323, R329,
R330). Where the standard places an operand is log entry 48. -/

namespace Sys2Proof.Machine

/-! Erasing. -/

/-- I/O commands of a namespace, of any for `none`, have completed and their data has settled (R323, R329). -/
def nsQuiet (s : State) (n : Option Nat) : Bool :=
  let mine := fun (k : Nat) => match n with | some i => k == i | none => true
  s.ctxs.all (fun p => p.2.qid == 0 || !mine (p.2.cmd.nsid - 1)) && s.writes.all (fun w => !mine w.ns) && s.packing.all (fun p => !mine p.1.ns)
    && s.partials.all (fun p => !mine p.ns)
    && (List.range 64).all (fun i => !(mine i && s.on ZX_NS.enable i) || (nsZoneList s i).all (fun z => !zoneWork s z))

/-- A new key for a slot: 512 bits that nothing but the security core knows, a free value (R329). -/
def newKey (slot : Nat) (s : State) : State :=
  let k := s.fresh % 2 ^ 512
  State.setBitOf { s.spend with keys := KV.put natLt s.keys slot k } WP_XTS_SLOTS.loaded 0 slot

/-- Every index entry of a namespace goes (R329). -/
def dropIndex (n : Nat) (s : State) : State :=
  showIndex n { s with extents := s.extents.filter (fun e => e.ns != n), mediaExtents := s.mediaExtents.filter (fun e => e.ns != n),
                       partials := s.partials.filter (fun p => p.ns != n), packing := s.packing.filter (fun p => p.1.ns != n),
                       idxCached := s.idxCached.filter (fun p => p.1 != n), idxDirty := s.idxDirty.filter (fun p => p.1 != n),
                       idxMedia := s.idxMedia.filter (fun p => p.1.1 != n) }

/-- Reset the zones of a list that hold anything; the last entry completes the context given as 1 + its number, and with nothing to
reset the context completes at once (R270, R274). -/
def resetZones (c1 : Nat) (l : List Nat) (s : State) : State :=
  let l := l.filter (fun z => s.zones.any (fun p => p.1 == z) && (zoneOf s z).state != zsOffline)
  match l.reverse with
  | [] => if c1 = 0 then s else ctxFinish (c1 - 1) 0 s
  | z :: r => zoneResetTo z c1 (r.reverse.foldl (fun t y => zoneResetTo y 0 t) s)

/-- Every zone but the journal's. -/
def dataZones (s : State) : List Nat := (List.range (imageZones s.image)).filter (fun z => !isJrnZone s z)

/-- The namespaces that are enabled. -/
def nsOn (s : State) : List Nat := (List.range 64).filter (fun n => s.on ZX_NS.enable n)

/-- Crypto erase of the subsystem: every slot zeroised, every zone reset, every chunk index cleared, new keys written; it is in progress
until the resets are durable (R270, R329). -/
def cryptoErase (s : State) : State :=
  let slots := (nsOn s).map (fun n => s.get WP_NS_CRYPT.slot n)
  let s := State.clear { s with keys := [] } WP_XTS_SLOTS.loaded
  let s := (nsOn s).foldl (fun t n => dropIndex n t) s
  let s := s.each ((dataZones s).filter (fun z => s.zones.any (fun p => p.1 == z) && (zoneOf s z).state != zsOffline)) (fun z t => zoneResetTo z sanJob t)
  sanCheck ((slots.eraseDups.foldl (fun t k => newKey k t) s).set X.san_active 0 1)

/-- RECOVERY_COMPLETE: the replay ends, with jrn_fail where both copies of a position are unreadable; a sanitize goes on (R273, R329). -/
def execRecoveryComplete (ok : Bool) (s : State) : Res :=
  run true s (fun s =>
    if s.on X.zx_recovering then
      let s := s.clear X.zx_recovering
      if ok then
        let s := { s with zones := [], jrnWait := [], jrnPos := [] }
        let s : State := (s.mediaZones.foldl (fun t p => setZone p.1 (recoveredZone p.2) t) s).raise ZX_INT.recovered
        let pair := s.get X.zx_med_active
        let s := (s.set ZX_JRN_STATUS.active 0 pair).set ZX_JRN_STATUS.seq 0 (s.get X.zx_med_seq)
        let s := (s.set ZX_JRN_STATUS.used 0 (zoneOf s (jrnZones s pair).1).next).clear X.zx_ckpt
        if s.get X.san_active = 2 then overwriteAll s else if s.get X.san_active = 1 then cryptoErase s else s
      else s.raise ZX_INT.jrn_fail
    else s)

/-- SANITIZE: dword 10 bits 2:0 are 4 for crypto erase, 3 for overwrite with the pattern of dword 11; what has been fetched completes and
settles first, with fetching paused (R323, R329). -/
def execSanitize (ctx : Nat) (s : State) : Res :=
  run true s (fun s => onFetched s ctx true [0x84] (fun x s =>
    let act := x.cmd.cdw10 % 8
    if s.on X.san_active then ctxFinish ctx stSanitize s
    else if act = 1 then ctxFinish ctx 0 s
    else if act ≠ 3 ∧ act ≠ 4 then ctxFinish ctx stField s
    else if act = 4 ∧ (nsOn s).any (fun n => s.get WP_NS_CRYPT.enable n == 0) = true then ctxFinish ctx stField s
    else if !nsQuiet (dstEnd 9 s) none then
      forceWhere (fun _ => true) ((dstEnd 9 s).each (ctls s) (fun c t => t.set HIF_CTL_STATUS.fetch_paused c 1))
    else
      let s := (dstEnd 9 s).each (ctls s) (fun c t => t.clear HIF_CTL_STATUS.fetch_paused c)
      let s := s.clear X.san_done
      if act = 4 then ctxFinish ctx 0 (cryptoErase s)
      else
        let s := ((s.set X.san_active 0 2).set X.san_pattern 0 x.cmd.cdw11).set X.san_ctx 0 (ctx + 1)
        ctxFinish ctx 0 (overwriteAll s)))

/-- A self-test ends with an action on a namespace under test (R330). -/
def dstEndFor (code n : Nat) (s : State) : State := if s.get X.dst_ns = 0 ∨ s.get X.dst_ns = n + 1 then dstEnd code s else s

/-- FORMAT_NVM: dword 10 bits 11:9 are 2 for crypto erase, which needs a bound key slot, or 0 for zone reset; one namespace (R315,
R329). -/
def execFormatNvm (ctx : Nat) (s : State) : Res :=
  run true s (fun s => onFetched s ctx true [0x80] (fun x s =>
    let ses := x.cmd.cdw10 / 512 % 8
    if s.on X.san_active then ctxFinish ctx stSanitize s
    else match cmdNs s x with
      | none => ctxFinish ctx stNamespace s
      | some n =>
        if x.cmd.cdw10 % 16 ≠ 0 ∨ (ses ≠ 0 ∧ ses ≠ 2) ∨ (ses = 2 ∧ s.get WP_NS_CRYPT.enable n = 0) then ctxFinish ctx stField s
        else if !nsQuiet (dstEndFor 4 n s) (some n) then forceWhere (fun p => p.ns == n) (dstEndFor 4 n s)
        else
          let s := dstEndFor 4 n s
          let s := dropIndex n (updCtx ctx (fun y => { y with stage := 2 }) s)
          let s := if ses = 2 then newKey (s.get WP_NS_CRYPT.slot n) s else s
          resetZones (ctx + 1) (nsZoneList s n) s))

/-! Device Self-test. -/

/-- A media operation of a self-test. -/
def testOp (act mask z p n : Nat) (s : State) : State := msNew 5 4 act mask z p n 8192 0 false s

/-- The validation-grade read of 16 sectors of a head; which sectors is a free value (R330). -/
def testHead (h : Nat) (s : State) : State :=
  let z := s.fresh % max 1 (imageZones s.image)
  testOp (h / 16) (2 ^ (h % 16)) z (s.spend.fresh % max 1 (zonePositions s z)) 16 s.spend.spend

/-- The read of a namespace's written positions (R330). -/
def testNs (n : Nat) (s : State) : State :=
  s.each (nsZoneList s n) (fun z t =>
    let x := zoneOf t z
    let runs := posRuns ((List.range x.mwp).filter (fun p => !x.voids.contains p))
    runs.foldl (fun u r => match readAct u z r.1 r.2 false with
      | some a => testOp a (readMask u.image z a r.1 r.2) z r.1 r.2 u.spend
      | none => match readSplit u z r.1 r.2 with
        | some (x, y) =>
          let home := (u.image.comb (u.image.group (groupIx u.image z)).comb).act
          testOp (home ^^^ 2) y z r.1 r.2 (testOp home x z r.1 r.2 u)
        | none => u.set X.dst_result 0 7) t)

/-- The media work of the running test (R330). -/
def testWork (s : State) : State :=
  let s := s.each (headsUp s) testHead
  let jz := (jrnZones s (s.get ZX_JRN_STATUS.active)).1
  let s := testOp (writingAct s jz 0) (2 ^ (posHead s.image (writingAct s jz 0) jz 0 % 16)) jz 0 1 s
  if s.get X.dst_run = 2 then
    s.each ((nsOn s).filter (fun n => s.get X.dst_ns == 0 || s.get X.dst_ns == n + 1)) testNs
  else s

/-- DEVICE_SELF_TEST: dword 10 bits 3:0 are 1 short, 2 extended, 0xF abort; the pattern test of the memories does not touch what the
state holds (R329, R330). -/
def execDeviceSelfTest (ctx : Nat) (s : State) : Res :=
  run true s (fun s => onFetched s ctx true [0x14] (fun x s =>
    let code := x.cmd.cdw10 % 16
    if code = 15 then ctxFinish ctx 0 (dstEnd 1 s)
    else if code ≠ 1 ∧ code ≠ 2 then ctxFinish ctx stField s
    else if s.on X.san_active then ctxFinish ctx stSanitize s
    else if s.get X.dst_run ≠ 0 then ctxFinish ctx stDstRunning s
    else if x.cmd.nsid ≠ 0 ∧ x.cmd.nsid ≠ 0xFFFFFFFF ∧ (cmdNs s x).isNone then ctxFinish ctx stNamespace s
    else
      let ns := if x.cmd.nsid = 0xFFFFFFFF ∨ x.cmd.nsid = 0 then 0 else x.cmd.nsid
      let s := ((s.set X.dst_run 0 code).set X.dst_ctl 0 x.ctl).set X.dst_ns 0 ns
      ctxFinish ctx 0 (testWork (((s.clear X.dst_yield).clear X.dst_yielded).clear X.dst_result))))

/-- SELF_TEST_RESUME: idle_ms has passed without a host I/O command fetched: the test issues its media work again, and the time it yielded
is added up (R330). -/
def execSelfTestResume (s : State) : Res :=
  run true s (fun s =>
    if s.get X.dst_run ≠ 0 ∧ s.on X.dst_yield then (s.set X.dst_yielded 0 (s.get X.dst_yielded + (s.dtime - s.get X.dst_at))).clear X.dst_yield else s)

/-! Namespaces. -/

/-- The Namespace Attribute Changed event, with the namespace's place in the Changed Namespace List (R317, R336). -/
def nsChanged (n : Nat) (s : State) : State :=
  let l := s.changedNs.filter (fun k => decide (k < n)) ++ [n] ++ s.changedNs.filter (fun k => decide (n < k))
  hostEvents (2 + 4 * 65536) { s with changedNs := l }

/-- A run of spare zones of a length: in no enabled namespace and no journal zone, and clear of the index zones where `avoid` (R263,
R317). -/
def spareRun (s : State) (len : Nat) (avoid : Bool) : Option Nat :=
  let n := imageZones s.image
  let free := fun z => (nsOfZone s z).isNone && !isJrnZone s z && !(avoid && (z == s.get CX_IDX_ZONE.zone_a || z == s.get CX_IDX_ZONE.zone_b))
  (List.range (n + 1 - len)).find? (fun f => (List.range len).all (fun i => free (f + i)))

/-- Create a namespace: the size in blocks stands in the entry's 64-bit operand, dword 11 bits 31:24 are 2 for zoned and 0 for
conventional, dword 13 bit 0 for compressed (R264, R317). -/
def nsCreate (c : Nat) (x : Ctx) (s : State) : State :=
  let csi := x.cmd.cdw11 / 2 ^ 24 % 256
  let comp := x.cmd.cdw13 % 2
  let len := (x.cmd.slba + s.image.zoneSize - 1) / max 1 s.image.zoneSize
  if (csi ≠ 0 ∧ csi ≠ 2) ∨ (csi = 0 ∧ comp = 0) ∨ len = 0 ∨ s.image.zoneSize = 0 then ctxFinish c stField s
  else match (List.range 64).find? (fun n => s.get ZX_NS.enable n == 0) with
    | none => ctxFinish c 0x116 s
    | some n =>
      match (spareRun s len true).orElse (fun _ => spareRun s len false) with
      | none => ctxFinish c stNsCapacity s
      | some f =>
        let s := ((s.set ZX_NS.first_zone n f).set ZX_NS.zone_count n len).set ZX_NS.zoned n (csi / 2)
        let s := ((s.set ZX_NS.compressed n comp).clear ZX_NS.class_ordered n).clear ZX_NS.pin n
        let s := showIndex n (s.set ZX_NS.enable n 1)
        let s := (s.clear X.ns_off (2 * n)).clear X.ns_off (2 * n + 1)
        ctxFinish c 0 (updCtx c (fun y => { y with dw0 := n + 1 }) (nsChanged n s))

/-- Delete a namespace: it is disabled and its zones return to the spare pool after a zone reset of each (R317, R330). -/
def nsDelete (c n : Nat) (s : State) : State :=
  let zones := nsZoneList s n
  let s := dropIndex n (updCtx c (fun y => { y with stage := 2 }) s)
  let s := showIndex n (s.clear ZX_NS.enable n)
  let s := nsChanged n { s with resv := KV.del s.resv n, changedZones := s.changedZones.filter (fun p => p.1 != n) }
  resetZones (c + 1) zones s

/-- NAMESPACE_MANAGEMENT: dword 10 bits 3:0 are 0 create, 1 delete (R317). -/
def execNamespaceManagement (ctx : Nat) (s : State) : Res :=
  run true s (fun s => onFetched s ctx true [0x0D] (fun x s =>
    match x.cmd.cdw10 % 16 with
    | 0 => nsCreate ctx x s
    | 1 =>
      if x.cmd.nsid = 0 ∨ 64 < x.cmd.nsid ∨ s.get ZX_NS.enable (x.cmd.nsid - 1) = 0 then ctxFinish ctx stNamespace s
      else
        let s := dstEndFor 3 (x.cmd.nsid - 1) s
        if !nsQuiet s (some (x.cmd.nsid - 1)) then forceWhere (fun p => p.ns == x.cmd.nsid - 1) s else nsDelete ctx (x.cmd.nsid - 1) s
    | _ => ctxFinish ctx stField s))

/-- NAMESPACE_ATTACHMENT: dword 10 bits 3:0 are 0 attach, 1 detach; dword 11 names the controllers as a mask, which stands for the
controller list (R314, R315). -/
def execNamespaceAttachment (ctx : Nat) (s : State) : Res :=
  run true s (fun s => onFetched s ctx true [0x15] (fun x s =>
    let n := x.cmd.nsid - 1
    let mask := x.cmd.cdw11
    let l := bitsOf 2 mask
    let sel := x.cmd.cdw10 % 16
    if x.cmd.nsid = 0 ∨ 64 < x.cmd.nsid ∨ s.get ZX_NS.enable n = 0 then ctxFinish ctx stNamespace s
    else if 1 < sel then ctxFinish ctx stField s
    else if mask = 0 ∨ 3 < mask ∨ l.any (fun c => !ctlExists s c) = true then ctxFinish ctx 0x11C s
    else if sel = 0 ∧ l.any (fun c => s.get X.ns_off (2 * n + c) == 0) = true then ctxFinish ctx stNsAttached s
    else if sel = 1 ∧ l.any (fun c => s.get X.ns_off (2 * n + c) != 0) = true then ctxFinish ctx stNsDetached s
    else
      let s := s.each l (fun c t => hostEvent c (2 + 4 * 65536) (t.set X.ns_off (2 * n + c) sel))
      ctxFinish ctx 0 { s with changedNs := s.changedNs.filter (fun k => decide (k < n)) ++ [n] ++ s.changedNs.filter (fun k => decide (n < k)) }))

/-! Reservations: registrants are the controllers (log entry 48). -/

/-- The reservations of a namespace. -/
def resvOf (s : State) (n : Nat) : Resv := (KV.get s.resv n).getD { rtype := 0, holder := 0, keys := [] }

/-- Store them; none with no registrant is not listed. -/
def setResv (n : Nat) (r : Resv) (s : State) : State :=
  { s with resv := if r.keys.isEmpty then KV.del s.resv n else KV.put natLt s.resv n r }

/-- A reservation notification for a controller: 1 registration preempted, 2 released, 3 reservation preempted (R334). -/
def resvNote (c type_ n : Nat) (s : State) : State :=
  hostEvent c (6 + 0x0D * 65536) { s with resvNotes := s.resvNotes ++ [(c, (type_, n + 1))] }

/-- The key that a controller has registered. -/
def Resv.keyOf (r : Resv) (c : Nat) : Option Nat := (r.keys.find? (fun k => k.1 == c)).map (fun k => k.2)

/-- A reservation that all registrants hold: types 5 and 6. -/
def Resv.shared (r : Resv) : Bool := r.rtype == 5 || r.rtype == 6

/-- A controller holds the reservation. -/
def Resv.holds (r : Resv) (c : Nat) : Bool := r.rtype != 0 && (if r.shared then (r.keyOf c).isSome else r.holder == c)

/-- Take a registrant away: the reservation ends with its holder, or with its last registrant where all hold it. -/
def Resv.drop (r : Resv) (c : Nat) : Resv :=
  let keys := r.keys.filter (fun k => k.1 != c)
  let ends := r.rtype != 0 && (if r.shared then keys.isEmpty else r.holder == c)
  { rtype := if ends then 0 else r.rtype, holder := if ends then 0 else r.holder, keys := keys }

/-- Tell the other registrants that a registrants-only or all-registrants reservation was released. -/
def resvReleased (old new : Resv) (by_ n : Nat) (s : State) : State :=
  if new.rtype = 0 ∧ 3 ≤ old.rtype then
    (new.keys.filter (fun k => k.1 != by_)).foldl (fun t k => resvNote k.1 2 n t) s
  else s

/-- Reservation Register: 0 register, 1 unregister, 2 replace. -/
def resvRegister (ctx n : Nat) (x : Ctx) (s : State) : State :=
  let r := resvOf s n
  let nrkey := x.cmd.cdw14 + 2 ^ 32 * x.cmd.cdw15
  let ok := x.cmd.cdw10.testBit 3 || r.keyOf x.ctl == some x.cmd.slba
  let put := fun (k : Nat) (q : Resv) => ({ q with keys := KV.put natLt q.keys x.ctl k } : Resv)
  if x.cmd.cdw10 / 2 ^ 30 = 3 then ctxFinish ctx stField s
  else match x.cmd.cdw10 % 8 with
    | 0 =>
      if (r.keyOf x.ctl).isSome && r.keyOf x.ctl != some nrkey then ctxFinish ctx stResConflict s
      else ctxFinish ctx 0 (setResv n (put nrkey r) s)
    | 1 =>
      if (r.keyOf x.ctl).isNone || !ok then ctxFinish ctx stResConflict s
      else ctxFinish ctx 0 (resvReleased r (r.drop x.ctl) x.ctl n (setResv n (r.drop x.ctl) s))
    | 2 =>
      if (r.keyOf x.ctl).isNone && !x.cmd.cdw10.testBit 3 || !ok then ctxFinish ctx stResConflict s
      else ctxFinish ctx 0 (setResv n (put nrkey r) s)
    | _ => ctxFinish ctx stField s

/-- End what a preempted controller has in progress on a namespace. -/
def resvAbort (n c : Nat) (s : State) : State :=
  (s.ctxs.filter (fun p => p.2.ctl == c && p.2.qid != 0 && p.2.cmd.nsid == n + 1 && p.2.cmd.opcode == 0x02)).foldl (fun t p => endMedia p.1 stAborted (abortEvents p.1 t)) s

/-- Preempt: the registrants of a key go, and where it is the holder's the reservation passes to the caller. -/
def resvPreempt (ctx n : Nat) (x : Ctx) (abort : Bool) (s : State) : State :=
  let r := resvOf s n
  let pr := x.cmd.cdw14 + 2 ^ 32 * x.cmd.cdw15
  let rtype := x.cmd.cdw10 / 256 % 256
  let all := r.shared && pr == 0
  let out := (r.keys.filter (fun k => k.1 != x.ctl && (all || k.2 == pr))).map (fun k => k.1)
  let takes := r.rtype != 0 && (if r.shared then pr == 0 else r.keyOf r.holder == some pr)
  if out.isEmpty && !takes then ctxFinish ctx stResConflict s
  else
    let q : Resv := { r with keys := r.keys.filter (fun k => !out.contains k.1) }
    let q : Resv := if takes then { q with rtype := rtype, holder := x.ctl } else q
    let s := out.foldl (fun t c => resvNote c (if r.holds c && takes then 3 else 1) n t) (setResv n q s)
    ctxFinish ctx 0 (if abort then out.foldl (fun t c => resvAbort n c t) s else s)

/-- Reservation Acquire: 0 acquire, 1 preempt, 2 preempt and abort. -/
def resvAcquire (ctx n : Nat) (x : Ctx) (s : State) : State :=
  let r := resvOf s n
  let rtype := x.cmd.cdw10 / 256 % 256
  if x.cmd.cdw10.testBit 3 ∨ 2 < x.cmd.cdw10 % 8 ∨ rtype = 0 ∨ 6 < rtype then ctxFinish ctx stField s
  else if r.keyOf x.ctl ≠ some x.cmd.slba then ctxFinish ctx stResConflict s
  else if x.cmd.cdw10 % 8 = 0 then
    if r.rtype = 0 then ctxFinish ctx 0 (setResv n { r with rtype := rtype, holder := x.ctl } s)
    else if r.holds x.ctl && r.rtype == rtype then ctxFinish ctx 0 s
    else ctxFinish ctx stResConflict s
  else resvPreempt ctx n x (x.cmd.cdw10 % 8 == 2) s

/-- Reservation Release: 0 release, 1 clear. -/
def resvRelease (ctx n : Nat) (x : Ctx) (s : State) : State :=
  let r := resvOf s n
  if x.cmd.cdw10.testBit 3 ∨ 1 < x.cmd.cdw10 % 8 then ctxFinish ctx stField s
  else if r.keyOf x.ctl ≠ some x.cmd.slba then ctxFinish ctx stResConflict s
  else if x.cmd.cdw10 % 8 = 1 then
    ctxFinish ctx 0 ((r.keys.filter (fun k => k.1 != x.ctl)).foldl (fun t k => resvNote k.1 3 n t) { s with resv := KV.del s.resv n })
  else if !r.holds x.ctl then ctxFinish ctx 0 s
  else if x.cmd.cdw10 / 256 % 256 ≠ r.rtype then ctxFinish ctx stField s
  else
    let q : Resv := { r with rtype := 0, holder := 0 }
    ctxFinish ctx 0 (resvReleased r q x.ctl n (setResv n q s))

/-- Reservation Report; the generation and the host identifiers are open. -/
def resvReport (s : State) (n : Nat) : List (Nat × List Byte) :=
  let r := resvOf s n
  [(4, leBytes r.rtype 1), (5, leBytes r.keys.length 2), (9, [0])]
    ++ (r.keys.zipIdx).flatMap (fun p =>
      [(24 + 24 * p.2, leBytes p.1.1 2 ++ leBytes (b2n (r.holds p.1.1)) 1), (24 + 24 * p.2 + 16, leBytes p.1.2 8)])

/-- RESERVATION_COMMAND: Register 0x0D, Report 0x0E, Acquire 0x11, Release 0x15 of the I/O command sets; the current key stands in the
entry's 64-bit operand and the other in dwords 14 and 15 (R315). -/
def execReservationCommand (ctx : Nat) (s : State) : Res :=
  run true s (fun s => onFetched s ctx false [0x0D, 0x0E, 0x11, 0x15] (fun x s =>
    match cmdNs s x with
    | none => ctxFinish ctx stNamespace s
    | some n =>
      match x.cmd.opcode with
      | 0x0D => resvRegister ctx n x s
      | 0x0E => ctxFinish ctx 0 { s with hostData := pageRead (pageOf 0x60E (resvReport s n)) 0 (4 * (x.cmd.cdw10 + 1)) }
      | 0x11 => resvAcquire ctx n x s
      | _ => resvRelease ctx n x s))

end Sys2Proof.Machine
end

