-- ==== Sys2Proof/Machine/Resets.lean ====
section
/-! DEFINITION. Resets, watchdogs, DEEP and the rails (17_resets_power_states.md, R365 to R371, R376 to R378; 10_motors.md, R242;
23_package_electrical.md, R463 to R468). -/

namespace Sys2Proof.Machine

/-! POR, WRM and WDG. -/

/-- A reset of a class, 1 POR, 2 WRM, 3 WDG, returns a class of fields (R365, R378). -/
def resetTakes (cls c : Nat) : Bool :=
  if cls = 1 then c != 11
  else decide (c ≤ 5) || c == 8 || c == 10 || (c == 7 && cls == 2)

/-- Fields that a retract carried across a reset keeps (R242). -/
def carried (id : Nat) : Bool :=
  isMcField id || [X.vcm_phase, X.vcm_pl, X.vcm_ok, X.vcm_int, X.vcm_vel, X.vcm_hi_p, X.vcm_hi_n, X.vcm_end_p, X.vcm_end_n].any (fun f => f.id == id)

/-- The register fields that a reset leaves. -/
def keptRegs (cls : Nat) (carry : Bool) (s : State) : List ((Nat × Nat) × Nat) :=
  s.regs.filter (fun c => !resetTakes cls (c.1.1 % 16) || (carry && carried c.1.1))

/-- Reservoir bytes outside the boot ROM's working area, which a WRM or WDG reset keeps (R378, R410). -/
def keptReservoir (s : State) : List Host.Cell := s.reservoir.filter (fun (c : Host.Cell) => decide (c.1 < 0x11FC0000))

/-- What a reset of a class leaves of the part: `rails` false where the core rails were off, which loses the Reservoir too (R378). -/
def afterReset (cls : Nat) (carry rails : Bool) (s : State) : State :=
  let por := cls == 1
  let base : State := { State.reset with
    regs := keptRegs cls carry s, locked := s.locked.filter (fun c => !resetTakes cls (c.1 % 16)), dtime := if por then 0 else s.dtime,
    freeCtr := s.freeCtr, flash := s.flash, otp := s.otp, mediaZones := s.mediaZones, mediaExtents := s.mediaExtents, idxMedia := s.idxMedia,
    lastCpl := s.lastCpl, hostData := s.hostData, pending := s.pending }
  let base : State := if por || !rails then base else { base with reservoir := keptReservoir s, rvWritten := s.rvWritten, rvBad := s.rvBad.filter (fun a => decide (a < 0x11FC0000)) }
  if por then base
  else { base with erCopies := s.erCopies, aoRecord := s.aoRecord, aoMicro := s.aoMicro, aoAct := s.aoAct, aoHealth := s.aoHealth,
                   mgtMem := s.mgtMem, items := s.items.filter (fun i => i.kind == 2), mpAsm := s.mpAsm, mpWait := s.mpWait, mpResp := s.mpResp }

/-- What the pins show after a reset: PERST#, VCMa_FLT_N (R224, R324). -/
def showPins (old s : State) : State :=
  let s := s.each [0, 1] (fun p t => t.set HIF_PORT_STATUS.perst p (t.get X.perst_pin p))
  s.each (List.range 4) (fun a t => t.set X.vcm_flt a (old.get X.vcm_flt a))

/-- The reset cause (CR_RST_CAUSE). -/
def noteCause (cls src : Nat) (s : State) : State :=
  let s := (s.set CR_RST_CAUSE.cls 0 cls).set CR_RST_CAUSE.src 0 src
  if cls = 1 then s else s.inc CR_RST_CAUSE.count

/-- A POR, WRM or WDG reset with its source; `motors` where motor control has its supply and carries its retracts (R242, R365, R367,
R378). -/
def bigReset (cls src : Nat) (motors rails : Bool) (s : State) : State :=
  let t := if motors then retractAll (spinCut s) else s
  let carry := motors && (List.range 4).any (fun a => decide (2 ≤ t.get X.vcm_phase a))
  let s := showPins s (afterReset cls carry rails t)
  let s := (s.set X.mc_carry 0 (b2n carry)).clear X.core_off
  let s := noteCause cls src s
  let s := if cls = 3 then s.set CR_WDT_STATUS.fired 0 (b2n (src == 9)) else s
  let s := if cls = 1 then showStraps s else s
  s.clear MP_STATUS.rails_off

/-- A reset that arrives while one of higher or equal class runs is absorbed; one runs until the boot sequence (R366, log entry 49). -/
def takeReset (cls src : Nat) (s : State) : State :=
  if s.on X.boot_wait ∧ s.get CR_RST_CAUSE.cls ≤ cls then s else bigReset cls src true true s

/-- AUX_RAIL_POR: the auxiliary rail rises; the straps are sampled; the core rails follow (R365, R463, R464, R467, log entry 49). -/
def execAuxRailPor (straps : Nat) (s : State) : Res :=
  answer true true s (fun s => bigReset 1 1 false false ((s.set X.straps 0 straps).clear X.aux_off))

/-- SYS_RST_N_LOW: at least 10 µs is a POR, less than 2 µs nothing, between them either (R466). -/
def execSysRstNLow (ns : Nat) (s : State) : Res :=
  runAO true s (fun s =>
    if 10000 ≤ ns then takeReset 1 2 s
    else if ns < 2000 then s
    else if Config.shortResetTaken s.freeCtr then takeReset 1 2 s.spend else s.spend)

/-- PERST_ASSERT: a WRM reset in configuration 0 and where both are asserted together in configuration 1; else a reset of the port and
its controller (R324, log entry 49). -/
def execPerstAssert (port : Nat) (both : Bool) (s : State) : Res :=
  runAO (okPort port) s (fun s =>
    let two := s.on HIF_PORT_CFG.mode
    let s := s.each (if both then [0, 1] else [port]) (fun p t => t.set X.perst_pin p 1)
    if s.on X.core_off then s
    else
      let s := s.each [0, 1] (fun p t => t.set HIF_PORT_STATUS.perst p (t.get X.perst_pin p))
      if two && s.on X.perst_pin 0 && s.on X.perst_pin 1 then takeReset 2 4 s
      else if two then ctlResetAll port (portDown port s)
      else if both || port == 0 then takeReset 2 3 s else s)

/-- PERST_DEASSERT: with wake_perst set a configured port starts the exit from DEEP (R368, R376). -/
def execPerstDeassert (port : Nat) (s : State) : Res :=
  runAO (okPort port) s (fun s =>
    let s := s.clear X.perst_pin port
    if s.on X.core_off then
      if s.on X.deep_in && s.on CR_DEEP_CFG.wake_perst && (port == 0 || (s.get X.straps).testBit 0) then s.set X.deep_wake 0 1 else s
    else s.clear HIF_PORT_STATUS.perst port)

/-- The core rails are off: all that they supply is lost; the last health values stay (R378, R457, R465). -/
def railsGone (s : State) : State :=
  let h := healthKept s
  let s : State := { showPins s (afterReset 2 false false s) with aoHealth := h }
  (s.set X.core_off 0 1).set MP_STATUS.rails_off 0 1

/-- PWRGD_DEASSERT: internal reset within 1 µs; a power-loss retract that runs ends, and is marked cut (R465). -/
def execPwrgdDeassert (s : State) : Res :=
  run true s (fun s =>
    let s := s.each (List.range 4) (fun a t => if t.get X.vcm_phase a = 2 then plRecord a false t else t)
    railsGone s)

/-- DTIME resumes: ⌊KCLK periods × 30,517.578125⌋ ns on (R377). -/
def dtimeResume (periods : Nat) (s : State) : State := { s with dtime := (s.dtime + periods * 30517578125 / 1000000) % 2 ^ 64 }

/-- PWRGD_ASSERT: the core rails are back with the auxiliary rail held; a WRM reset with source 7. The KCLK periods counted are a free
value (R365, R377, R465). -/
def execPwrgdAssert (s : State) : Res :=
  runAO true s (fun s =>
    if s.on X.core_off && s.get X.deep_in == 0 then bigReset 2 7 false false (dtimeResume s.fresh s.spend) else s)

/-- WARM_RESET: a WRM reset from a source that needs no rail to return (R365). -/
def execWarmReset (src : Nat) (s : State) : Res := run true s (fun s => if 3 ≤ src ∧ src ≤ 6 then takeReset 2 src s else s)

/-- WATCHDOG_RESET: a WDG reset (R365). -/
def execWatchdogReset (src : Nat) (s : State) : Res := run true s (fun s => if src = 9 ∨ src = 10 then takeReset 3 src s else s)

/-- CR_RST_CTRL.action 1 (R365). -/
def wrmCommand (core : Nat) (s : State) : State := if core = secCore then takeReset 2 6 s else s

/-- WRM_COMMAND: from any core but the security core it is ignored (R365). -/
def execWrmCommand (core : Nat) (s : State) : Res := run (okCore core) s (wrmCommand core)

/-- AUXILIARY_RAIL_LOSS: the whole part loses power until the next auxiliary POR (R463). -/
def execAuxiliaryRailLoss (s : State) : Res :=
  runAO true s (fun s => ((afterReset 1 false false s).set X.aux_off 0 1).set X.core_off 0 1)

/-- ACTIVATION_TIMEOUT: the new firmware has not signalled ready in 1,000 ms; a WDG reset with source 10 (R328). -/
def execActivationTimeout (s : State) : Res :=
  run true s (fun s => if s.on X.fw_act then takeReset 3 10 (s.raise HIF_INT.fwact_fail) else s)

/-! The thermal cutoff. -/

/-- Every switched power domain goes off, both PCIe ports among them: links, lane groups, flumes, engines, cores, the Cistern and the
Reservoir (R39, R359, log entry 100). -/
def cutOff (s : State) : State :=
  let s := (ctls s).foldl (fun t c => ctlResetAll c (portDown c t)) s
  let s := s.each ((List.range 16).filter (fun y => grpState s y != grpOff)) groupOff
  let s := frontEndsOff (unitsOff s)
  let s : State := { s with cistern := [], cisternPoison := [], reservoir := [], rvWritten := [], rvBad := [], l1i := [], l1d := [], l2 := [], victim := [], fills := [], wbufs := [], coreWait := [] }
  let s := (s.clear BM_STATUS.dev0).clear BM_STATUS.dev1
  let s := s.each (List.range 8) (fun c t => (t.clear AP_CORE_CTRL.run c).set AP_CORE_STATUS.state c coreStopped)
  (s.set TH_STATUS.cutoff 0 1).set HG_GROUP_STATUS.on 0 0

/-- SHUTDOWN_CUTOFF: 60 s after the spindle stopped T_j is still at or above the shutdown threshold (R359). -/
def execShutdownCutoff (s : State) : Res :=
  run true s (fun s => if s.on TH_STATUS.shutdown ∧ spin s = spStopped ∧ s.getS TH_THR.shutdown ≤ s.getS TH_STATUS.tj then cutOff s else s)

/-! ACT resets. -/

/-- Fields of an actuator that its retract keeps through an ACT reset (R371). -/
def actKept : List Fld := [X.vcm_phase, X.vcm_pl, X.vcm_ok, X.vcm_int, X.vcm_vel, X.vcm_hi_p, X.vcm_hi_n, X.vcm_end_p, X.vcm_end_n, MC_VCM_STATUS.mode, MC_VCM_STATUS.loaded, MC_VCM_STATUS.parked]

/-- A register instance that names ACT and belongs to an actuator. -/
def actReg (a : Nat) (r : Reg) (i : Nat) : Bool := r.flds.any (fun f => actDiv f.cls != 0 && i / actDiv f.cls == a)

/-- Detach the flumes from an actuator's heads, ending their sectors with status 6; their grants return (R135, R353). -/
def actFlumes (a : Nat) (s : State) : State :=
  s.each ((List.range 32).filter (fun f => (s.get DP_FLUME_STATUS.state f == 2 || s.get DP_FLUME_STATUS.state f == 3) && s.get DP_FLUME_STATUS.head f / 16 == a))
    (fun f t =>
      let t := flumeEndNow f 6 10 t
      if t.get DP_FLUME_STATUS.state f = 1 then flumeOff f t else t)

/-- An ACT reset of an actuator begins (R95, R135, R203, R262, R353, R371). -/
def resetActuator (a : Nat) (s : State) : State :=
  if !s.image.hasAct a || (s.get CR_ACT_STATUS.in_reset).testBit a then s
  else
    let heads := s.image.actHeads a
    let s := s.setBitOf CR_ACT_STATUS.in_reset 0 a
    let s := if s.on CR_PWR_STATUS.in_transition then s.set X.pwr_skip a 1 else s
    let s := s.each heads (fun h t => gateOff h gateAct t)
    let s := s.each ((List.range 4).map (fun j => 4 * a + j)) (fun y t => { groupOff y t with ctRx := KV.del t.ctRx y })
    let s := actFlumes a (retract a s)
    let s := s.each (List.range 4) (fun t u => idleThread a t (abandon a t u))
    let s := s.each heads (fun h t => moveQueue h t)
    let loaded := s.on SQ_VERSION.loaded a
    let kept := actKept.map (fun f => (f, s.get f a))
    let s := imageAct a ((scReset (actReg a) s).resetAct a)
    let s := kept.foldl (fun t p => t.set p.1 a p.2) s
    let s := s.set SQ_STATUS.state a (if loaded then 2 else 0)
    let s := if 2 ≤ s.get X.vcm_phase a then s.set SV_STATUS.state a svParking else s.set SV_STATUS.state a svParked
    let s := s.each heads (fun h t => (makeStale h 4 t).set WP_HEAD_STATE.unsent h 1)
    s.setBitOf CR_ACT_STATUS.in_reset 0 a

/-- CR_RST_CTRL.action 3 with act_mask (R371). -/
def actCommand (core mask : Nat) (s : State) : State := if core = mgtCore then s else s.each (bitsOf 4 mask) resetActuator

/-- ACT_RESET: from an application core or the security core (R365, R371). -/
def execActReset (core mask : Nat) (s : State) : Res := run (okCore core) s (actCommand core mask)

/-- ACT_RESET_END: once the retract has ended; the groups come up again where HL_CTRL.enable is set (R95, R371). -/
def execActResetEnd (act : Nat) (s : State) : Res :=
  run (okAct act) s (fun s =>
    if (s.get CR_ACT_STATUS.in_reset).testBit act && s.get X.vcm_phase act == 0 then
      let s := (s.clearBitOf CR_ACT_STATUS.in_reset 0 act).raise CR_INT.act_done
      let s := s.each ((s.image.actHeads act).filter (fun h => s.get X.head_lost h == 2)) (fun h t => t.clear X.head_lost h)
      let s := hgFixedGrants (s.clear X.act_lost act)
      if s.on HL_CTRL.enable then s.each ((List.range 4).map (fun j => 4 * act + j)) (groupAsk false) else s
    else s)

/-- MGT_RESET: CR_RST_CTRL.action 2, or the management watchdog (R365, R366). -/
def execMgtReset (s : State) : Res := runAO true s mgtReset

/-! The application watchdog. -/

/-- A write of CR_WDT_CFG: its enable is set and locked; the watchdog counts from then on (R369). -/
def wdtConfig (value : Nat) (s : State) : State :=
  let was := s.on CR_WDT_CFG.enable
  let s := writeReg CR_WDT_CFG 0 (fun _ => true) value s
  if !was && s.on CR_WDT_CFG.enable then s.set CR_WDT_STATUS.stage 0 1 else s

/-- WDT_ENABLE (R369). -/
def execWdtEnable (value : Nat) (s : State) : Res := run true s (wdtConfig value)

/-- The first stage: the interrupt and an event record (R369). -/
def wdtStage1 (s : State) : State := (s.set CR_WDT_STATUS.stage 0 2).alarm CR_INT.wdt_stage1 0 20 0

/-- A write of CR_WDT_KICK: 0x0000_C0DE from an application core restarts the watchdog, any other value enters the first stage (R369). -/
def wdtKick (core value : Nat) (s : State) : State :=
  if value = 0xC0DE then
    if core < 8 ∧ s.on CR_WDT_CFG.enable then (s.set CR_WDT_STATUS.stage 0 1).set CR_WDT_STATUS.last_kick 0 s.us else s
  else wdtStage1 (s.set CR_WDT_STATUS.bad_kick 0 1)

/-- WDT_KICK (R369). -/
def execWdtKick (core value : Nat) (s : State) : Res := run (okCore core) s (wdtKick core value)

/-- WDT_STAGE1: t1_ms without a kick (R369). -/
def execWdtStage1 (s : State) : Res :=
  run true s (fun s => if s.on CR_WDT_CFG.enable ∧ s.get CR_WDT_STATUS.stage = 1 then wdtStage1 s else s)

/-- WDT_STAGE2: t2_ms without a kick after the first stage; a WDG reset with source 9 (R369). -/
def execWdtStage2 (s : State) : Res :=
  run true s (fun s => if s.on CR_WDT_CFG.enable ∧ s.get CR_WDT_STATUS.stage = 2 then takeReset 3 9 s else s)

/-! DEEP. -/

/-- The part powers off the PCIe ports and the Cistern, and the event recorder drains (R376, R447). -/
def deepPrepare (s : State) : State :=
  let s := (ctls s).foldl (fun t c => ctlResetAll c (portDown c t)) s
  let s := { s with cistern := [], cisternPoison := [] }
  let s := (s.clear BM_STATUS.dev0).clear BM_STATUS.dev1
  (erDrain s).set X.er_deep_drain 0 1

/-- CORE_EN goes low: DEEP is entered (R376, R447). -/
def deepOff (s : State) : State :=
  let s := (railsGone (erCopy s)).set X.deep_in 0 1
  let s := s.set MP_PARK_STATUS.latch 0 (s.get MP_PARK_STATUS.latch % 8)
  (s.clear X.core_en).clear X.pwr_deep

/-- DEEP_ENTRY: from STANDBY once DEEP has been asked for; CORE_EN goes low when the drain has ended (R376, R447). -/
def execDeepEntry (s : State) : Res :=
  run true s (fun s =>
    if s.on X.pwr_deep ∧ s.get CR_PWR_STATUS.state = pwStandby ∧ s.get CR_PWR_STATUS.in_transition = 0 then
      let s := if s.on X.er_deep_drain then s else deepPrepare s
      if s.on X.er_draining then s else deepOff s
    else s)

/-- DEEP_WAKE_TIMER: timer_s expires with wake_timer set (R376). -/
def execDeepWakeTimer (s : State) : Res :=
  runAO true s (fun s => if s.on X.deep_in ∧ s.on CR_DEEP_CFG.wake_timer then s.set X.deep_wake 0 1 else s)

/-- DEEP_EXIT: CORE_EN goes high and, once the rails are good, a WRM reset with source 8; DTIME resumes by the KCLK periods counted (R376,
R377). -/
def execDeepExit (periods : Nat) (s : State) : Res :=
  runAO true s (fun s =>
    if s.on X.deep_in ∧ s.on X.deep_wake then
      let s := bigReset 2 8 false false (dtimeResume periods s)
      ((s.set X.core_en 0 1).clear X.deep_in).clear X.deep_wake
    else s)

/-- KCLK_CHECK: a deviation beyond 500 ppm writes an event record (R468). -/
def execKclkCheck (ppm : Nat) (s : State) : Res := run true s (fun s => if 500 < ppm then s.event 20 0 0xFF else s)

end Sys2Proof.Machine
end

