-- ==== Sys2Proof/Machine/ManagementPort.lean ====
section
/-! DEFINITION. The side-band management port (22_management_port.md, R451 to R459), SPDM and its measurements (R399, R454), and the
xSPI write filter (R381). -/

namespace Sys2Proof.Machine

/-! Answers. -/

/-- A command of the management port: it is served while the port answers (MP_CTRL.enable, R388). -/
def mpRun (wf : Bool) (s : State) (eff : State → State) : Res := runAO wf s (fun s => if mpAnswers s then eff s else s)

/-- Answer a management command: 0xC0 to 0xCA vendor commands, NVMe-MI commands by their opcode, 0x100 + code MCTP control, 0x300 +
opcode tunnelled, 0x400 + code SPDM. -/
def mpReply (command status : Nat) (data : List Byte) (s : State) : State :=
  { s with mpResp := some { command := command, status := status, data := data } }

/-- The in-band interrupt on I3C: raised only for a response that is ready (R451). -/
def inBandInt (s : State) : Bool := s.on MP_STATUS.bus && s.mpResp.isSome

/-- Status codes: NVMe-MI's Invalid Command Opcode and Invalid Parameter, and the two vendor codes (R453, R455, log entry 50). -/
def miOpcode : Nat := 3
def miField : Nat := 4
def miPower : Nat := 0xE0
def miConflict : Nat := 0xE1

/-- No structure image is in force while the core rails are up: the image-less state (R52, R457). -/
def imageless (s : State) : Bool := s.img.isNone && s.get X.core_off == 0

/-! Buses and MCTP. -/

/-- The largest packet payload and the largest message (R452). -/
def mctpUnit : Nat := 64
def mctpMax : Nat := 4352

/-- MCTP_PACKET: a packet of the selected bus, addressed to the endpoint; `seqNo` is its packet sequence number modulo 4 (R451, R452).
-/
def execMctpPacket (bus : Nat) (pecOk : Bool) (dest : Nat) (som eom : Bool) (seqNo tag type_ : Nat) (data : List Byte) (s : State) : Res :=
  mpRun true s (fun s =>
    if bus ≠ s.get MP_STATUS.bus then s
    else if pecOk = false ∧ bus = 0 then s.addSat MP_STATUS.bad_pec 0 1
    else if dest ≠ s.get MP_STATUS.eid ∧ dest ≠ 0 ∧ dest ≠ 0xFF then s
    else if mctpUnit < data.length ∨ (type_ ≠ 0 ∧ type_ ≠ 4 ∧ type_ ≠ 5) then s
    else
      let go := fun (t : State) (l : List Byte) =>
        if mctpMax < l.length then ({ t with mpAsm := KV.del t.mpAsm type_ } : State).raise MP_INT.overrun
        else if eom then ({ t with mpAsm := KV.del t.mpAsm type_ } : State).raise MP_INT.rx
        else { t with mpAsm := KV.put natLt t.mpAsm type_ { seqNo := seqNo % 4, tag := tag, data := l } }
      if som then go s data
      else match KV.get s.mpAsm type_ with
        | some a => if a.tag = tag ∧ seqNo % 4 = (a.seqNo + 1) % 4 then go s (a.data ++ data) else { s with mpAsm := KV.del s.mpAsm type_ }
        | none => s)

/-- ENTDAA: an I3C target takes the dynamic address (R451). -/
def execEntdaa (addr : Nat) (s : State) : Res :=
  mpRun true s (fun s => if s.on MP_STATUS.bus then s.set MP_STATUS.dyn_addr 0 addr else s)

/-- SETDASA: an I3C target addressed by its static address takes the dynamic address (R451). -/
def execSetdasa (static_ addr : Nat) (s : State) : Res :=
  mpRun true s (fun s => if s.on MP_STATUS.bus ∧ static_ = s.get MP_STATUS.addr then s.set MP_STATUS.dyn_addr 0 addr else s)

/-- SET_ENDPOINT_ID: operations 0 and 1 set and force the endpoint ID; 0x00 and 0xFF are no endpoint IDs (R452). -/
def execSetEndpointId (op eid : Nat) (s : State) : Res :=
  mpRun true s (fun s =>
    if 1 < op ∨ eid = 0 ∨ 0xFF ≤ eid then mpReply 0x101 2 [] s
    else mpReply 0x101 0 (leBytes eid 1) (s.set MP_STATUS.eid 0 eid))

/-- GET_ENDPOINT_ID (R452). -/
def execGetEndpointId (s : State) : Res := mpRun true s (fun s => mpReply 0x102 0 (leBytes (s.get MP_STATUS.eid) 1) s)

/-- GET_ENDPOINT_UUID: the UUID is not stated (R452). -/
def execGetEndpointUuid (s : State) : Res := mpRun true s (fun s => mpReply 0x103 0 ((List.range 16).map (Config.openByte 0x503)) s)

/-- GET_MCTP_VERSION_SUPPORT: DSP0236 1.3 for the base and the control type, its entry in that standard's order, major version first (R5); the versions of the other types are not stated (R452). -/
def execGetMctpVersionSupport (type_ : Nat) (s : State) : Res :=
  mpRun true s (fun s =>
    if type_ = 0 ∨ type_ = 0xFF then mpReply 0x104 0 [1, 0xF1, 0xF3, 0xFF, 0] s
    else if type_ = 4 ∨ type_ = 5 then mpReply 0x104 0 ([1] ++ (List.range 4).map (Config.openByte (0x504 + type_))) s
    else mpReply 0x104 0x80 [] s)

/-- GET_MESSAGE_TYPE_SUPPORT: control, NVMe-MI, SPDM (R452). -/
def execGetMessageTypeSupport (s : State) : Res := mpRun true s (fun s => mpReply 0x105 0 [3, 0, 4, 5] s)

/-! NVMe-MI. -/

/-- READ_NVME_MI_DATA_STRUCTURE: structures 0 to 4 (subsystem, port, controller list, controller, optional commands); beyond the lists
the spec fixes, their bytes are open (R453). -/
def execReadNvmeMiDataStructure (kind index : Nat) (s : State) : Res :=
  mpRun true s (fun s =>
    match kind with
    | 2 => mpReply 0 0 (leBytes (ctls s).length 2 ++ (ctls s).flatMap (fun c => leBytes c 2)) s
    | 4 => mpReply 0 0 ([5, 0] ++ [0x20, 0, 0x20, 1, 0x20, 2, 0x20, 3, 0x20, 4]) s
    | 0 => mpReply 0 0 ((List.range 32).map (Config.openByte 0x510)) s
    | 1 => mpReply 0 0 ((List.range 32).map (Config.openByte (0x520 + index))) s
    | 3 => mpReply 0 0 ((List.range 32).map (Config.openByte (0x620 + index))) s
    | _ => mpReply 0 miField [] s)

/-- Health values as answered: those kept in always-on SRAM, marked stale at a byte, while the core rails are off (R457). -/
def mpHealth (s : State) (first n mark : Nat) (live : List Byte) : List Byte :=
  if s.on X.core_off then patch (fit n (s.aoHealth.drop first)) mark [1] else live

/-- SUBSYSTEM_HEALTH_STATUS_POLL: also in the image-less state (R52, R453, R457). Clearing the composite controller status changes
nothing that the spec states. -/
def execSubsystemHealthStatusPoll (_clear : Bool) (s : State) : Res :=
  mpRun true s (fun s => mpReply 1 0 (mpHealth s 64 8 7 (subsystemPoll s)) s)

/-- CONTROLLER_HEALTH_STATUS_POLL (R453, R457). -/
def execControllerHealthStatusPoll (ctl : Nat) (s : State) : Res :=
  mpRun (okCtl ctl) s (fun s => mpReply 2 0 (mpHealth s (72 + 16 * ctl) 16 15 (controllerPoll s ctl)) s)

/-- CONFIGURATION_GET: identifier 1 the bus frequency, 3 the transmission unit (R453). -/
def execConfigurationGet (ident : Nat) (s : State) : Res :=
  mpRun true s (fun s =>
    match ident with
    | 1 => mpReply 4 0 (leBytes (s.get X.mp_freq) 1) s
    | 3 => mpReply 4 0 (leBytes mctpUnit 2) s
    | _ => mpReply 4 miField [] s)

/-- CONFIGURATION_SET: only the frequencies of R451 and the unit of R452 are accepted (R453). -/
def execConfigurationSet (ident value : Nat) (s : State) : Res :=
  mpRun true s (fun s =>
    if ident = 1 ∧ 1 ≤ value ∧ value ≤ 3 then mpReply 3 0 [] (s.set X.mp_freq 0 value)
    else if ident = 3 ∧ value = mctpUnit then mpReply 3 0 [] s
    else mpReply 3 miField [] s)

/-- A tunnelled Get Log Page with its dwords (R448, R449, R453). -/
def tunnelledLog (c : Nat) (cmd : NvmeCmd) (s : State) : State :=
  let lid := cmd.cdw10 % 256
  let n := 4 * (cmd.cdw10 / 65536 + cmd.cdw11 % 65536 * 65536 + 1)
  let off := cmd.cdw12 + 2 ^ 32 * cmd.cdw13
  let gasp := fun (o : Nat) => if o < 2560 then recorderPage s o else 0
  if s.on X.core_off then (if lid = 0xC0 then mpReply 0x302 0 (pageRead gasp off n) s else mpReply 0x302 miPower [] s)
  else if imageless s ∧ lid = 0xC0 then mpReply 0x302 0 (pageRead gasp off n) s
  else if imageless s ∧ lid ≠ 0xC1 then mpReply 0x302 miPower [] s
  else match logPage s c cmd.nsid lid (cmd.cdw10 / 256 % 128) (cmd.cdw11 / 65536) with
    | some p => mpReply 0x302 0 (pageRead p off n) s
    | none => mpReply 0x302 miField [] s

/-- TUNNELLED_ADMIN: Identify, Get Log Page and Get Features, which read only; any other opcode is not supported (R2, R453). -/
def execTunnelledAdmin (ctl opcode nsid cdw10 cdw11 cdw12 cdw13 : Nat) (s : State) : Res :=
  mpRun (okCtl ctl) s (fun s =>
    let cmd : NvmeCmd := { opcode := opcode, cid := 0, nsid := nsid, slba := 0, cdw10 := cdw10, cdw11 := cdw11, cdw12 := cdw12, cdw13 := cdw13, cdw14 := 0, cdw15 := 0 }
    let code := 0x300 + opcode
    if opcode = 2 then tunnelledLog ctl cmd s
    else if opcode ≠ 6 ∧ opcode ≠ 0x0A then mpReply code miOpcode [] s
    else if s.on X.core_off || imageless s then mpReply code miPower [] s
    else if opcode = 6 then
      let out := identifyOut s ctl cmd
      if out.1 = 0 then mpReply code 0 (pageRead out.2 0 4096) s else mpReply code miField [] s
    else if featureIds.contains (cdw10 % 256) then mpReply code 0 (leBytes (featureValue s ctl cmd) 8) s
    else mpReply code miField [] s)

/-- GET_HEALTH: vendor command 0xC0 (R455, R457). -/
def execGetHealth (s : State) : Res :=
  mpRun true s (fun s =>
    if imageless s then mpReply 0xC0 miPower [] s else mpReply 0xC0 0 (mpHealth s 0 64 21 (healthBytes s)) s)

/-! Park. -/

/-- A park command waits for its response; a second identical one is answered with the first (R456, R458). -/
def mpAsk (opcode : Nat) (s : State) : State := if s.mpWait.contains opcode then s else { s with mpWait := s.mpWait ++ [opcode] }

/-- The response of a park command that waits: the count of unsettled blocks (R333, R456). -/
def mpParked (opcode : Nat) (s : State) : State :=
  if s.mpWait.contains opcode then
    mpReply opcode 0 (leBytes (unsettledBlocks s) 4) { s with mpWait := s.mpWait.filter (fun o => o != opcode) }
  else s

/-- PARK_COMMAND: vendor command 0xC1; without heads on the media it succeeds at once (R455, R457). -/
def execParkCommand (s : State) : Res :=
  mpRun true s (fun s => if s.on X.core_off || imageless s then mpReply 0xC1 0 (leBytes 0 4) s else mpAsk 0xC1 s)

/-- PARK_AND_SPIN_DOWN_COMMAND: vendor command 0xC2 (R455, R457). -/
def execParkAndSpinDownCommand (s : State) : Res :=
  mpRun true s (fun s => if s.on X.core_off || imageless s then mpReply 0xC2 0 (leBytes 0 4) s else mpAsk 0xC2 s)

/-- END_PARK_COMMAND: vendor command 0xC3 (R455). -/
def execEndParkCommand (s : State) : Res := mpRun true s (mpAsk 0xC3)

/-- POWER_DOWN_COMMAND: vendor command 0xC4; not with the core rails off or in the image-less state (R455, R457). -/
def execPowerDownCommand (s : State) : Res :=
  mpRun true s (fun s => if s.on X.core_off || imageless s then mpReply 0xC4 miPower [] s else mpAsk 0xC4 s)

/-- Set bits of the park latch. -/
def latchBits (mask : Nat) (s : State) : State := s.set MP_PARK_STATUS.latch 0 (s.get MP_PARK_STATUS.latch ||| mask)

/-- The park latch is set: gates removed, every actuator parks, the sequencers are told, media commands fail (R1, R202, R241, R256,
R323, R456). -/
def parkStart (action : Nat) (s : State) : State :=
  let s := latchBits (if action = 4 then 9 else 1) s
  if s.on X.core_off then latchBits (if action = 1 then 2 else 6) s
  else
    let s := s.each (List.range 4) raisePark
    let s := parkMedia (safePark s)
    if action = 1 then s else spinDown (s.set X.mp_stop 0 1)

/-- Every actuator is parked, or is absent or lost. -/
def allParked (s : State) : Bool := (List.range 4).all (fun a => !s.image.hasAct a || isParked s a)

/-- The park in force has ended: every actuator parked and, where it includes a spin-down, the spindle stopped (R456). -/
def parkDone (s : State) : Bool :=
  (s.get MP_PARK_STATUS.latch).testBit 1 && (!s.on X.mp_stop || (s.get MP_PARK_STATUS.latch).testBit 2)

/-- The park latch clears; held power-state requests are applied (R456). -/
def parkEnd (s : State) : State :=
  let s := (s.clear MP_PARK_STATUS.latch).clear X.mp_stop
  let s := s.clear X.mp_ending
  let held := fun (t : State) (c : Nat) => if t.on X.ps_held c then psAsk c (t.get X.ps_held c - 1) (t.clear X.ps_held c) else t
  let s := if s.on X.core_off then s else (ctls s).foldl held ((s.clear X.pwr_deep).clear X.deep_wake)
  if s.mpWait.contains 0xC3 then mpReply 0xC3 0 [] { s with mpWait := s.mpWait.filter (fun o => o != 0xC3) } else s

/-- A write of MP_PARK.action by the security or the management core (R456, R458). -/
def mpPark (core action : Nat) (s : State) : State :=
  if (core ≠ secCore ∧ core ≠ mgtCore) ∨ action = 0 ∨ 4 < action then s
  else
    let s := s.set MP_PARK_STATUS.kind 0 action
    if action = 3 then
      if s.get MP_PARK_STATUS.latch = 0 ∨ parkDone s = true then parkEnd s else s.set X.mp_ending 0 1
    else parkStart action s

/-- MP_PARK: action 1 (R456). -/
def execMpPark (core : Nat) (s : State) : Res := runAO (okCore core) s (mpPark core 1)

/-- MP_PARK_AND_SPIN_DOWN: action 2 (R456). -/
def execMpParkAndSpinDown (core : Nat) (s : State) : Res := runAO (okCore core) s (mpPark core 2)

/-- MP_END_PARK: action 3 (R456, R458). -/
def execMpEndPark (core : Nat) (s : State) : Res := runAO (okCore core) s (mpPark core 3)

/-- MP_POWER_DOWN: action 4 (R455, R456). -/
def execMpPowerDown (core : Nat) (s : State) : Res := runAO (okCore core) s (mpPark core 4)

/-- Every actuator is parked: bit 1, park_done, the answers to Park and Power-down (R456, log entry 51). -/
def parkedNow (s : State) : State :=
  let s := if (s.get MP_PARK_STATUS.latch).testBit 1 then s else (latchBits 2 s).raise MP_INT.park_done
  mpParked 0xC4 (mpParked 0xC1 s)

/-- The spindle is stopped after the park: bit 2, the answer to Park and Spin-down; a power-down enters STANDBY, and then DEEP (R376,
R455, R456). -/
def stoppedNow (s : State) : State :=
  if s.on X.mp_stop ∧ spin s = spStopped then
    let was := (s.get MP_PARK_STATUS.latch).testBit 2
    let s := mpParked 0xC2 (latchBits 4 s)
    if (s.get MP_PARK_STATUS.latch).testBit 3 ∧ was = false then
      let s := s.set X.pwr_deep 0 1
      if s.get CR_PWR_STATUS.target = pwStandby then s else pwrRequest 3 pwStandby s
    else s
  else s

/-- PARK_COMPLETE (R456, R458). -/
def execParkComplete (s : State) : Res :=
  run true s (fun s =>
    if (s.get MP_PARK_STATUS.latch).testBit 0 ∧ allParked s = true then
      let s := stoppedNow (parkedNow s)
      if s.on X.mp_ending ∧ parkDone s = true then parkEnd s else s
    else s)

/-! Power and reset. -/

/-- WAKE: vendor command 0xC5: the exit from DEEP, after a power-down that runs, or from STANDBY or IDLE-B to ACTIVE (R376, R455,
R458). -/
def execWake (s : State) : Res :=
  mpRun true s (fun s =>
    let s := mpReply 0xC5 0 [] s
    if s.on X.deep_in ∨ s.on X.pwr_deep ∨ (s.get MP_PARK_STATUS.latch).testBit 3 = true then s.set X.deep_wake 0 1
    else if s.on X.core_off ∨ imageless s = true then s
    else if s.get CR_PWR_STATUS.target = pwIdleB ∨ s.get CR_PWR_STATUS.target = pwStandby then pwrRequest 3 pwActive s
    else s)

/-- FULL_RESET: vendor command 0xC6 (R365, R455). -/
def execFullReset (dword1 : Nat) (s : State) : Res :=
  mpRun true s (fun s =>
    if dword1 ≠ 0 then mpReply 0xC6 miField [] s
    else
      let s := mpReply 0xC6 0 [] s
      if s.on X.deep_in then s.set X.deep_wake 0 1 else if s.on X.core_off then s else takeReset 2 5 s)

/-- RELEASE_SHUTDOWN_COMMAND: vendor command 0xCA (R360, R455). -/
def execReleaseShutdownCommand (dword1 : Nat) (s : State) : Res :=
  mpRun true s (fun s =>
    if dword1 ≠ 0 then mpReply 0xCA miField [] s
    else if s.on X.core_off then mpReply 0xCA miPower [] s
    else mpReply 0xCA 0 [] (releaseShutdown s))

/-! Staging. -/

/-- A command of staging is not available: with the core rails off, or image-less for any item but the structure image (R457). -/
def stageBarred (s : State) (kind : Nat) : Bool := s.on X.core_off || (imageless s && kind != 0)

/-- A conflicting operation runs: an activation, or its flash write, of the same item (R455). -/
def stageConflict (s : State) (kind : Nat) : Bool := kind == 3 && (s.on X.fw_act || s.on X.fw_flash)

/-- A staging begins while the host downloads an item for the same slot: the host's download fails (R54). A download whose header has not
come, so that its kind is not known, fails too, a case R54 leaves open (DESIGN CHOICE, log entry 104). -/
def hostDropped (kind : Nat) (s : State) : State :=
  let k := stagedKind (cellsRd s.fwStage)
  if s.fwRanges.isEmpty = false ∧ (k = kind ∨ k = 5) then { s with fwStage := [], fwRanges := [] } else s

/-- STAGE_DATA: vendor command 0xC7 (R54, R455, R457). -/
def execStageData (kind offset : Nat) (data : List Byte) (s : State) : Res :=
  mpRun true s (fun s =>
    if stageBarred s kind then mpReply 0xC7 miPower [] s
    else if 4 < kind ∨ data.isEmpty = true ∨ 4096 < data.length ∨ stageSize < offset + data.length then mpReply 0xC7 miField [] s
    else if stageConflict s kind then mpReply 0xC7 miConflict [] s
    else
      let (old, s) := match KV.get s.mpStage kind with
        | some x => (x, s)
        | none => (({ cells := [], size := 0, since := 0 } : MpStage), hostDropped kind s)
      let new : MpStage := { cells := memWrite old.cells flashErased offset data, size := max old.size (offset + data.length), since := s.dtime }
      mpReply 0xC7 0 [] { s with mpStage := KV.put natLt s.mpStage kind new })

/-- STAGE_COMMIT: vendor command 0xC8: the staged item is checked, written, and then marked pending (R390, R455). -/
def execStageCommit (kind : Nat) (s : State) : Res :=
  mpRun true s (fun s =>
    if stageBarred s kind then mpReply 0xC8 miPower [] s
    else if stageConflict s kind then mpReply 0xC8 miConflict [] s
    else match KV.get s.mpStage kind with
      | none => mpReply 0xC8 miField [] s
      | some x =>
        let rd := cellsRd x.cells
        let s : State := { s with mpStage := KV.del s.mpStage kind }
        if stagedKind rd = kind ∧ stagedOk s kind rd = true then
          let s := storeItem kind rd s
          mpReply 0xC8 0 [] (if kind = 3 then s.clear X.app_late else s)
        else mpReply 0xC8 miField [] s)

/-- STAGING_TIMEOUT: 60 s without Stage Data for a kind; its staged data is discarded (R455). -/
def execStagingTimeout (kind : Nat) (s : State) : Res := run true s (fun s => { s with mpStage := KV.del s.mpStage kind })

/-! The management watchdog. -/

/-- The management watchdog resets: an MGT reset, MP_INT.wdt, and an event record once the recorder runs (R365, R459). -/
def mpWdtReset (s : State) : State :=
  let s := (mgtReset s).raise MP_INT.wdt
  if s.on X.core_off then s.set X.mp_wdt_ev 0 1 else s.event 19 0 3

/-- A write of MP_WDT.kick: 0x5A5A restarts the count, any other value resets at once (R459). -/
def mpKick (core value : Nat) (s : State) : State :=
  if (core ≠ secCore ∧ core ≠ mgtCore) ∨ value = 0x5A5A then s else mpWdtReset s

/-- MP_WDT_KICK (R459). -/
def execMpWdtKick (core value : Nat) (s : State) : Res := runAO (okCore core) s (mpKick core value)

/-- MP_WDT_ENABLE: a write of the enable and period; the enable stays set until POR (R459). -/
def execMpWdtEnable (core value : Nat) (s : State) : Res :=
  runAO (okCore core) s (fun s =>
    if core ≠ secCore ∧ core ≠ mgtCore then s else writeReg MP_WDT 0 (fun f => decide (32 ≤ f.lo)) value s)

/-- MP_WDT_EXPIRY (R459). -/
def execMpWdtExpiry (s : State) : Res := runAO true s (fun s => if s.on MP_WDT.enable then mpWdtReset s else s)

/-! SPDM. -/

/-- SPDM error codes: InvalidRequest, Busy, UnsupportedRequest (R454). -/
def spdmInvalid : Nat := 1
def spdmBusy : Nat := 3
def spdmUnsupported : Nat := 7

/-- GET_VERSION: 1.2 (R454). -/
def execGetVersion (s : State) : Res := mpRun true s (mpReply 0x484 0 [0x12])

/-- GET_CAPABILITIES: certificates, CHALLENGE, measurements with signatures (R454). -/
def execGetCapabilities (s : State) : Res := mpRun true s (mpReply 0x4E1 0 (leBytes 0x16 4))

/-- NEGOTIATE_ALGORITHMS: ECDSA P-384 and SHA-384 only (R454). -/
def execNegotiateAlgorithms (asym hash : Nat) (s : State) : Res :=
  mpRun true s (fun s =>
    if asym.testBit 7 && hash.testBit 1 then mpReply 0x4E3 0 (leBytes 0x80 4 ++ leBytes 2 4) s else mpReply 0x4E3 spdmInvalid [] s)

/-- Flash address of the certificate chain (R380). -/
def chainBase : Nat := 0x30000

/-- The certificate chain of slot 0; its first two bytes are its length (R454). -/
def chain (s : State) : List Byte := s.flashRead chainBase (leNat (s.flashRead chainBase 2))

/-- GET_DIGESTS: slot 0 alone is provisioned; the flash cannot be read with the core rails off (R454). -/
def execGetDigests (s : State) : Res :=
  mpRun true s (fun s => if s.on X.core_off then mpReply 0x481 spdmBusy [] s else mpReply 0x481 0 ([1] ++ sha (chain s)) s)

/-- GET_CERTIFICATE: a portion of the chain and the bytes that remain after it (R454). -/
def execGetCertificate (slot offset length : Nat) (s : State) : Res :=
  mpRun true s (fun s =>
    let c := chain s
    if s.on X.core_off then mpReply 0x482 spdmBusy [] s
    else if slot ≠ 0 ∨ c.length ≤ offset then mpReply 0x482 spdmInvalid [] s
    else
      let p := (c.drop offset).take length
      mpReply 0x482 0 (leBytes p.length 2 ++ leBytes (c.length - offset - p.length) 2 ++ p) s)

/-- A signature by the DAK over what the request names and the rest of the exchange, which is free (R386, R454). -/
def spdmSign (s : State) (l : List Byte) : List Byte :=
  dakSign (s.get SB_STATUS.lifecycle) (l ++ leBytes s.fresh 8)

/-- A request for a signature cannot be served: its error, 0 where it can (R386, R454). -/
def signBarred (s : State) : Nat :=
  if s.on X.core_off then spdmBusy
  else if dakDerived (s.get SB_STATUS.lifecycle) (s.get SB_POLICY.policy) then 0 else spdmUnsupported

/-- CHALLENGE: signed by the DAK, answered Busy or refused (R386, R454). -/
def execChallenge (slot : Nat) (nonce : List Byte) (s : State) : Res :=
  mpRun true s (fun s =>
    if signBarred s ≠ 0 then mpReply 0x483 (signBarred s) [] s
    else if slot ≠ 0 then mpReply 0x483 spdmInvalid [] s
    else
      let d := sha (chain s)
      mpReply 0x483 0 (d ++ spdmSign s (d ++ nonce)) s.spend)

/-- The contents of a measurement index; none where the index has none now (R399). -/
def measContent (s : State) (i : Nat) : Option (List Byte) :=
  let r := s.aoRecord
  let live := s.get X.core_off == 0
  let inRec := fun (k : Nat) => (r.drop (0x70 + 48 * k)).take 48
  match i with
  | 1 => some ((r.drop 0x20).take 16)
  | 2 => some (inRec 0)
  | 3 => some (inRec 1)
  | 4 => some (inRec 3)
  | 5 => some (s.aoMicro.getD 0 [])
  | 6 => some (s.aoMicro.getD 1 [])
  | 7 => some (s.aoMicro.getD 2 [])
  | 8 => some (s.aoMicro.getD 3 [])
  | 9 => some (if s.aoAct.isEmpty then inRec 4 else s.aoAct)
  | 10 => some (inRec 5)
  | 11 => some (if live then leBytes (s.get SB_STATUS.lifecycle) 1 ++ leBytes (s.get SB_POLICY.policy) 4 ++ leBytes (s.get SB_FLOOR.floor) 5
      else (r.drop 7).take 1 ++ (r.drop 0x30).take 4 ++ (r.drop 0x19A).take 5)
  | 12 => some r
  | 13 => if live then some (bootDescriptor s) else none
  | _ => none

/-- A measurement in the DMTF form: index, specification 1, type, size, value; indices 12 and 13 are raw bit streams, and the type of the
others is not stated (R399). -/
def measBlock (s : State) (i : Nat) : List Byte :=
  match measContent s i with
  | some v =>
    let ty := if i = 12 ∨ i = 13 then Config.openByte 0x530 i ||| 0x80 else Config.openByte 0x530 i
    leBytes i 1 ++ [1] ++ leBytes (v.length + 3) 2 ++ [ty] ++ leBytes v.length 2 ++ v
  | none => []

/-- GET_MEASUREMENTS: index 0 the count, 0xFF all of them, else one; signed where asked (R399, R454). -/
def execGetMeasurements (index : Nat) (signed : Bool) (nonce : List Byte) (s : State) : Res :=
  mpRun true s (fun s =>
    let l := (List.range 14).filter (fun i => (measContent s i).isSome)
    let body := if index = 0 then leBytes l.length 1
      else if index = 0xFF then l.flatMap (measBlock s) else measBlock s index
    if signed = true ∧ signBarred s ≠ 0 then mpReply 0x4E0 (signBarred s) [] s
    else if index ≠ 0 ∧ index ≠ 0xFF ∧ l.contains index = false then mpReply 0x4E0 spdmInvalid [] s
    else if signed then mpReply 0x4E0 0 (body ++ spdmSign s (body ++ nonce)) s.spend
    else mpReply 0x4E0 0 body s)

/-! The xSPI filter. -/

/-- The requester number of the event recorder; 0 to 7 are application cores, 8 the security core, 9 the management core. -/
def erRequester : Nat := 10

/-- An address lies in a slot of a kind, or in the microcode area that belongs to it. -/
def inSlot (a kind slot : Nat) : Bool :=
  (decide (slotBase kind slot ≤ a) && decide (a < slotBase kind slot + slotSize kind))
    || (kind == 0 && decide (microBase slot ≤ a) && decide (a < microBase slot + 0x100000))

/-- An item of a kind is in force. -/
def kindLoaded (s : State) (k : Nat) : Bool := if k = 0 then s.img.isSome else (itemOf s k).isSome

/-- A slot is active for its kind and the kind is loaded: nobody writes it (R54, R381). -/
def slotHeld (s : State) (a : Nat) : Bool := (List.range 5).any (fun k => kindLoaded s k && inSlot a k (mark s k).active)

/-- The xSPI controller accepts a write or erase at an address from a requester (R381). -/
def xspiOk (s : State) (r a : Nat) : Bool :=
  if a < 0x100000 then r == secCore
  else if a < 0xF00000 then r == secCore && !slotHeld s a
  else if a < 0x1000000 then false
  else if a < 0x4000000 then r == secCore && !slotHeld s a
  else if a < 0x5000000 then decide (r ≤ secCore)
  else if a < 0x6000000 then r == secCore
  else if a < 0x8000000 then r == erRequester
  else false

/-- XSPI_WRITE: a program of bytes, or an erase of the 64 KiB sector that holds the offset; a refusal is recorded and leaves the flash
unchanged (R381). -/
def execXspiWrite (requester : Nat) (erase : Bool) (offset : Nat) (data : List Byte) (s : State) : Res :=
  run true s (fun s =>
    if erase then
      if xspiOk s requester offset then s.flashErase (offset / 0x10000 * 0x10000) 0x10000 else s.event 18 0 0xFF
    else if (List.range data.length).all (fun i => xspiOk s requester (offset + i)) then s.flashProgram offset data
    else s.event 18 0 0xFF)

end Sys2Proof.Machine
end

