-- ==== Sys2Proof/Machine/RegisterBus.lean ====
section
/-! DEFINITION. Register accesses by the cores (R6 to R8, R14, R55, R413), with what a write or a read of a register starts. -/

namespace Sys2Proof.Machine

/-- The state after a command that a register access starts. -/
def after (r : Res) (s : State) : State := match r with | .next t => t | _ => s

/-- The actions of SC, HL and DP registers, once the fields of the part are written; ka_stop stops keepalives at once (R87). -/
def startLink (r : Reg) (i : Nat) (part : Fld → Bool) (v : Nat) (s : State) : State :=
  if r.addr = SC_CTRL.addr then
    match SC_CTRL.action.of v with
    | 1 => after (execCheck s) s | 2 => after (execArmCommit s) s | 3 => after (execCancelArmedCommit s) s | 4 => after (execDiscard s) s | _ => s
  else if r.addr = HL_GROUP_CTRL.addr then
    let s := if s.on HL_GROUP_CTRL.ka_stop i then s.clear HL_GROUP_STATUS.ka_active i else s
    match HL_GROUP_CTRL.action.of v with
    | 1 => groupAsk true i s | 3 => groupOff i s | _ => s
  else if r.addr = HL_CT_TXHI.addr then (if part HL_CT_TXHI.bytes then after (execCtMessageQueue i v s) s else s)
  else if r.addr = HL_ULANE_CTRL.addr then
    match HL_ULANE_CTRL.action.of v with
    | 1 => after (execLaneRetrain i s) s | 2 => laneToSleep 3 i s | 3 => laneWake i s | 4 => after (execClearLaneErr i s) s | _ => s
  else if r.addr = DP_CAL_COPY.addr then (if DP_CAL_COPY.go.of v = 1 then after (execCalCopy s) s else s)
  else if r.addr = DP_FLUME_CTRL.addr then
    match DP_FLUME_CTRL.action.of v with
    | 1 => after (execDetachNow i s) s | 2 => after (execClearAccumulator i s) s | _ => s
  else if r.addr = DP_HEAD_CTRL.addr then
    match DP_HEAD_CTRL.action.of v with
    | 1 => after (execMarkStale i s) s | 2 => after (execClearValid i s) s | 3 => after (execClearQualityCounters i s) s | _ => s
  else s

/-- The actions of WP, SV, MC, SQ, ZX, CX and TH registers, once the fields of the part are written. -/
def startMedia (core : Nat) (r : Reg) (i : Nat) (part : Fld → Bool) (v : Nat) (s : State) : State :=
  if r.addr = WP_XTS_KEY_CTRL.addr then
    (let a := WP_XTS_KEY_CTRL.action.of v; if a = 1 ∨ a = 2 then keyAction core a s else s)
  else if r.addr = WP_XTS_KEY_DATA.addr then (if part WP_XTS_KEY_DATA.word then s.set X.key_word i v else s)
  else if r.addr = WP_WSET0.addr ∨ r.addr = WP_WSET1.addr ∨ r.addr = WP_WSET2.addr then writeSetWritten (i / 48) (i % 48) s
  else if r.addr = SV_CTRL.addr then
    match SV_CTRL.action.of v with
    | 1 => after (execLoadAndAcquire i s) s | 2 => parkArm i s | 3 => after (execClearSvCounters i s) s | _ => s
  else if r.addr = SV_SEEK_REQ.addr then (if part SV_SEEK_REQ.target then after (execSeekRequest i v s) s else s)
  else if r.addr = SV_TRACE_CTRL.addr then
    match SV_TRACE_CTRL.action.of v with
    | 1 => after (execTraceArm i s) s | 2 => traceFire i s | 3 => after (execTraceStop i s) s | _ => s
  else if r.addr = SV_INJ_CTRL.addr then
    match SV_INJ_CTRL.action.of v with
    | 1 => after (execInjectionStart i s) s | 2 => endInjection i s | _ => s
  else if r.addr = SV_RED_CTRL.addr then
    match SV_RED_CTRL.action.of v with
    | 1 => after (execForcedSwap i s) s | 2 => after (execCancelSwap i s) s | _ => s
  else if r.addr = MC_CURVE.addr ∨ r.addr = MC_CURVE_CFG.addr then applyCurve s
  else if r.addr = SQ_CTRL.addr then
    match SQ_CTRL.action.of v with
    | 1 => after (execSequencerStart i s) s | 2 => after (execSequencerHalt i s) s | 4 => after (execBeginLoad core i s) s
    | 5 => after (execEndLoad core i s) s | _ => s
  else if r.addr = ZX_CTRL.addr then
    match ZX_CTRL.action.of v with
    | 1 => after (execRecover s) s | 2 => after (execCheckpointNow s) s | _ => s
  else if r.addr = CX_CTRL.addr then
    match CX_CTRL.action.of v with
    | 1 => after (execRebuildIndex s) s | 2 => indexCheckpoint s | _ => s
  else if r.addr = TH_CTRL.addr then (if TH_CTRL.action.of v = 1 then releaseShutdown s else s)
  else if r.addr = TH_RATE.addr then
    s.each ((List.range 64).filter (headKept s)) (fun h t => sendTelem h 1 (sendTelem h 0 t))
  else s

/-- The actions of CR, SB, BM, RV, AP, IC and ER registers, once their fields are written. A probe of the flash finds it good or not:
a free value (R446). -/
def startPart (core : Nat) (r : Reg) (i v : Nat) (s : State) : State :=
  if r.addr = CR_RST_CTRL.addr then
    match CR_RST_CTRL.action.of v with
    | 1 => wrmCommand core s | 2 => mgtReset s | 3 => actCommand core (s.get CR_RST_CTRL.act_mask) s | _ => s
  else if r.addr = CR_WDT_KICK.addr then wdtKick core v s
  else if r.addr = CR_PWR_CTRL.addr then (if CR_PWR_CTRL.go.of v = 1 then after (execPowerStateGo core s) s else s)
  else if r.addr = SB_CTRL.addr then
    match SB_CTRL.action.of v with
    | 1 => confirm s | 2 => raiseFloors s | 3 => reloadMicro s | _ => s
  else if r.addr = BM_CTRL.addr then
    let s := if BM_CTRL.enable.of v = 1 then bmEnable s else s
    if BM_CTRL.action.of v = 2 then after (execClearBmDevErr s) s else s
  else if r.addr = RV_CTRL.addr then (if RV_CTRL.action.of v = 1 then after (execReservoirFill s) s else s)
  else if r.addr = AP_CMO_CTRL.addr then cmoOp (AP_CMO_CTRL.op.of v) s
  else if r.addr = AP_MTIMECMP.addr then timerEval i s
  else if r.addr = IC_SWSET.addr then after (execSoftwareSourceRaise (IC_SWSET.source.of v) s) s
  else if r.addr = IC_COMPLETE.addr then after (execComplete core i (IC_COMPLETE.source.of v) s) s
  else if r.addr = IC_CFG.addr ∨ r.addr = IC_TGT_CTRL.addr ∨ r.addr = IC_MOD.addr ∨ r.addr = IC_SRC.addr then icEval s
  else if r.addr = ER_CTRL.addr then
    match ER_CTRL.action.of v with
    | 1 => erDrain s | 2 => after (execRestartChapter s) s | 3 => after (execProbeFlash (s.fresh.testBit 0) s.spend) s.spend
    | 4 => after (execFreeKind1Slots s) s | _ => s
  else s

/-- A register that is written by a rule of its own in place of R6: its effect, none for a register written as R6 states. -/
def storeSpecial (core : Nat) (r : Reg) (i : Nat) (part : Fld → Bool) (v : Nat) (s : State) : Option State :=
  if r.addr = HL_CTRL.addr then some (after (execHlCtrlWrite v s) s)
  else if r.addr = MC_CTRL.addr then some (after (execMcCtrlWrite v s) s)
  else if r.addr = MC_IDLE.addr then some (after (execIdleDepthWrite (MC_IDLE.depth.of v) s) s)
  else if r.addr = CR_WDT_CFG.addr then some (wdtConfig v s)
  else if r.addr = AP_L2_LOCK.addr then some (l2LockWrite v s)
  else if r.addr = AP_CORE_CTRL.addr then some (if v % 2 = 1 then after (execCoreRun core i s) s else after (execCoreStop core i s) s)
  else if r.addr = SQ_CTRL.addr then
    some (startMedia core r i part v (after (execThreadEnableWrite i (SQ_CTRL.thread_en.of v) s) s))
  else if r.addr = SQ_CS.addr then some (if part SQ_CS.bits then after (execControlStoreWrite core (i / 16384) (i / 2 % 8192) (i % 2) v s) s else s)
  else if r.addr = ER_FW_CTRL.addr then some (after (execFirmwareRecordSubmit core (ER_FW_CTRL.code.of v) (ER_FW_CTRL.len16.of v) s) s)
  else if r.addr = ZX_NS.addr then
    some (if s.on ZX_NS.enable i then s
      else
        let s := writeReg r i (fun f => part f && f.id != ZX_NS.enable.id) v s
        if ZX_NS.enable.of v = 1 ∧ part ZX_NS.enable = true then after (execNsEnable i s) s else s)
  else if r.addr = MP_PARK.addr then some (mpPark core (MP_PARK.action.of v) s)
  else if r.addr = MP_WDT.addr then
    let s := writeReg r i part v s
    some (if part MP_WDT.kick then mpKick core (MP_WDT.kick.of v) s else s)
  else none

/-- Write a register, with what the write starts; a write by a core that may not make it is ignored. -/
def regStore (core : Nat) (r : Reg) (i : Nat) (part : Fld → Bool) (v : Nat) (s : State) : State :=
  if r.addr = AP_CORE_CTRL.addr ∨ r.addr = SQ_CS.addr ∨ mayWrite core r i then
    match storeSpecial core r i part v s with
    | some t => t
    | none => startPart core r i v (startMedia core r i part v (startLink r i part v (busStore false core r i part v s)))
  else denied r s

/-- Read a register, with what the read does: IC_CLAIM claims, HL_CT_RXHI removes its head entry (R79, R431). -/
def regLoad (core : Nat) (r : Reg) (i : Nat) (s : State) : Nat × State :=
  if r.addr = IC_CLAIM.addr then
    let t := after (execClaim core i s) s
    ((match t.bus with | some b => b.data | none => 0), t)
  else
    let v := busLoad core r i s
    (v, if r.addr = HL_CT_RXHI.addr then after (execCtReceiveDequeue i s) s else s)

/-- Registers of the always-on domain (R413, R450). -/
def alwaysOn (r : Reg) : Bool :=
  decide (r.addr / 0x100000 = 0x213) || [ER_GASP.addr, ER_GASP_SLOT.addr, MC_PL_STATUS.addr, CR_DEEP_CFG.addr].contains r.addr

/-- The 40-bit address that a core's address names: its own for the application cores, and for the security and management cores what
their local maps list besides private memory, none where they list nothing. The management core never reaches the boot ROM (R413). -/
def localMap (s : State) (core a : Nat) : Option Nat :=
  if core < 8 then some a
  else if a ≤ 0xFFFF then (if core = mgtCore then none else some a)
  else if inReservoir a || inWindows a then some a
  else if 0x40000000 ≤ a ∧ a < 0x50000000 then
    let t := s.get AP_XWIN.base (core - secCore) * 2 ^ 28 + (a - 0x40000000)
    if core = mgtCore ∧ t ≤ 0xFFFF then none else some t
  else none

/-- An access of a core that lands on storage: the boot ROM, which takes no write and whose contents the spec does not state, the
Reservoir or the Cistern (R13, R14, R413). -/
def storageAccess (core : Nat) (isWrite : Bool) (a width v : Nat) (s : State) : State :=
  let n := width / 8
  if width ≠ 32 ∧ width ≠ 64 ∨ (width = 64 ∧ secCore ≤ core) then respond core true 0 s
  else if a + n ≤ 0x10000 then respond core isWrite (if isWrite then 0 else leNat ((List.range n).map (fun k => Config.romByte (a + k)))) s
  else memAccess (fun _ => true) (8192 + 7 * 256 + core) (if isWrite then .write else .read) a (leBytes v n) n 0 s

/-- An access by a core at an address of its map. An address outside the ranges that hold storage or registers gives a bus error; with the
core rails off only the management core runs, and it reaches its private memory and the always-on registers alone (R7, R14, R413). An
application core's access to a register waits until its write buffer has drained (R418). -/
def regAccess (core : Nat) (isWrite : Bool) (addr width v : Nat) (s : State) : State :=
  if inPrivate core addr then
    if s.on X.core_off ∧ core ≠ mgtCore then s
    else if width ≠ 32 ∨ addr % 4 ≠ 0 then respond core true 0 s
    else privAccess core isWrite addr (leBytes v 4) 4 0 s
  else
    match localMap s core addr with
    | none => if s.on X.core_off ∧ core ≠ mgtCore then s else respond core true 0 s
    | some a =>
      let s := if core < 8 ∧ inWindows a = true ∧ s.get X.core_off = 0 then drainAll core s else s
      let go := busAccess (regStore core) (regLoad core) core isWrite a width v
      if s.on X.core_off then
        if core ≠ mgtCore then s
        else match locateAddr a with
          | some (r, _, _) => if alwaysOn r then go s else respond core true 0 s
          | none => respond core true 0 s
      else if inWindows a then
        match locateAddr a with
        | some (r, _, _) =>
          if isWrite && r.addr == DP_CAL.addr then after (execCalRecordWrite core a width v s) s else go s
        | none => go s
      else if inStorage s a then storageAccess core isWrite a width v s
      else respond core true 0 s

/-- REGISTER_WRITE: an access of a register by a core (R6, R7). -/
def execRegisterWrite (core : Nat) (isWrite : Bool) (addr width value : Nat) (s : State) : Res :=
  runAO (okCore core) s (regAccess core isWrite addr width value)

/-- The register at a 40-bit address has a field of type ST. -/
def stAddr (a : Nat) : Bool := match locateAddr a with | some (r, _, _) => r.flds.any (fun f => f.ty == .st) | none => false

/-- ST_FIELD_WRITE: a write of a register that has ST fields stores its staged copy (R55, R59). -/
def execStFieldWrite (core addr width value : Nat) (s : State) : Res :=
  run (okCore core) s (fun s => if ((localMap s core addr).map stAddr).getD false then regAccess core true addr width value s else s)

end Sys2Proof.Machine
end

