-- ==== Sys2Proof/Machine/UpstreamFrame.lean ====
section
/-! DEFINITION. An upstream frame as it is received (04_head_link.md, R69 to R79, R90, R91, R94): the line's bits, frame lock and
integrity, the samples delivered to the head's receive buffer, and the CT messages applied. -/

namespace Sys2Proof.Machine

/-- A lane whose receiver looks for frames: in training, in ACTIVE, retraining, or waking. -/
def laneListens (s : State) (x : Nat) : Bool :=
  let st := laneState s x
  st == laneTrain || st == laneActive || st == laneRecover || (st == laneSleep && s.on X.hl_waking x)

/-- The frame that a lane's symbols carry, and the last 58 line bits for the descrambler (R69). -/
def receiveFrame (x : Nat) (levels : List Int) (s : State) : Nat × State :=
  let line := lineBits (polarity (s.image.laneOpt.getD x 0) levels)
  (descramble (s.get X.hl_descr x) line, s.set X.hl_descr x (line % 2 ^ 58))

/-- The seq that the next frame should have: one more than the last good frame's, counting the bad frames since (R71, R76, R91). -/
def seqDue (s : State) (x : Nat) : Nat := (s.get X.hl_seq x + 1 + s.get X.hl_consec x) % 8

/-! Samples (R74, R91, R112). -/

/-- Deliver sample times to a head's receive buffer, where a flume serves it; those of a sector the flume has given up are dropped. -/
def deliver (h : Nat) (l : List Smp) (s : State) : State :=
  if (flumeAt s h).isNone then s
  else
    let n := min (s.get X.dp_skip h) l.length
    let s := s.set X.dp_skip h (s.get X.dp_skip h - n)
    { s with samples := kset [] s.samples h (KV.getD s.samples h [] ++ l.drop n) }

/-- A sample time of a bad frame: erased, entering as zero; of reader V while the head writes (R74, R91, R118). -/
def erasedSmp (v : Bool) : Smp := { v := v, erased := true, a := 0, b := 0 }

/-- The sample times of a good DATA frame: those that bad frames before it lost, located by sidx, are erased; the frame's own follow
(R71, R74, R91). The width is that of the last acknowledged CLK; with none the samples cannot be read. -/
def takeSamples (x f : Nat) (s : State) : State :=
  let h := s.image.headOf x
  let width := s.get X.hl_width h
  let readers := if s.get HL_ULANE_STATUS.layout x = 0 then 2 else 1
  let lost := (hdrSidx f + 128 - s.get X.hl_sidx x) % 128
  let got := if width = 0 then [] else (frameSamples f readers width).map (fun p => ({ v := hdrV f, erased := false, a := p.1, b := p.2 } : Smp))
  let s := s.set X.hl_sidx x ((hdrSidx f + hdrNsmp f) % 128)
  deliver h (List.replicate lost (erasedSmp (s.on WP_HEAD_STATE.gate h)) ++ got) s

/-! Messages (R77, R79). -/

/-- Apply one upstream message. An opcode that R79 does not list is discarded (DESIGN CHOICE, log entry 105). -/
def applyMsg (x : Nat) (m : List Nat) (s : State) : State :=
  let b := fun n => m.getD n 0
  match b 0 with
  | 0x11 => ackMsg x (b 1) (b 2) (b 3) s
  | 0x12 => txeqAckMsg x (b 1) (b 2) (b 3) s
  | 0x13 => statusMsg x (b 1) (b 2) (b 3) s
  | 0x50 => tempMsg x (b 1) (b 2) (msgNat m 4 2) s
  | 0x51 => regDataMsg x (b 1) (msgNat m 2 2) (msgNat m 4 4) s
  | 0x52 => faultMsg x (b 1) (b 2) (msgNat m 4 4) s
  | 0x53 => eyeDsMsg x (b 2) (b 3) (msgNat m 4 2) s
  | _ => s

/-- The CT messages of a frame, in order. -/
def applyCt (x f : Nat) (s : State) : State := (ctMessages 30 (ctBytes f)).foldl (fun t m => applyMsg x m t) s

/-! Good and bad frames. -/

/-- A good frame: its seq is the last known; in ACTIVE dok is judged (cause 7 after two frames without it) and the samples of a DATA frame
are delivered; the messages of an IDLE, DATA or TRAIN frame are applied (R71, R73, R76, R94). -/
def goodFrame (x f : Nat) (s : State) : State :=
  let s := ((s.set X.hl_seq x (hdrSeq f)).set X.hl_seq_known x 1).clear X.hl_consec x
  let s := s.set X.hl_badhist x (2 * s.get X.hl_badhist x)
  let s := if laneState s x = laneActive then
      let s := if hdrDok f then s.clear X.hl_dok0 x else s.inc X.hl_dok0 x
      let s := if 2 ≤ s.get X.hl_dok0 x then downLoss (laneGroup s x) 7 s else s
      if hdrType f = frmData then takeSamples x f s else s
    else s
  if hdrType f = frmNeg then s else applyCt x f s

/-- A bad frame in lock: it is counted, its samples and messages are lost, and two in a row or four of 64 are loss of integrity: of the lane in ACTIVE, of the lock before it (R76, R90, R91). -/
def badFrame (x f : Nat) (s : State) : State :=
  let s := s.inc HL_ULANE_ERR.crc_err x
  let s := if crcGood f && frameTypeOk (hdrType f) then s.inc HL_ULANE_ERR.seq_gap x else s
  let s := (s.set X.hl_badhist x (2 * s.get X.hl_badhist x + 1)).inc X.hl_consec x
  let s := s.event 10 x 0xFF
  if 2 ≤ s.get X.hl_consec x ∨ 4 ≤ popCount 64 (s.get X.hl_badhist x) then
    if laneState s x = laneActive then laneLoss x s else rxReset x s
  else s

/-- A frame while the receiver hunts: four good CRCs in a row at one alignment are frame lock (R76). -/
def huntFrame (x f : Nat) (s : State) : State :=
  if crcGood f && frameTypeOk (hdrType f) then
    ((s.inc X.hl_lock_n x).set X.hl_seq x (hdrSeq f)).set X.hl_seq_known x 1
  else rxReset x s

/-- UPSTREAM_FRAME: a frame's symbols are received; the frame is checked and its samples and messages delivered (R69 to R79, R90, R91). -/
def execUpstreamFrame (lane : Nat) (levels : List Int) (s : State) : Res :=
  run (okLane lane && okLevels levels) s (fun s =>
    if laneListens s lane then
      let p := receiveFrame lane levels s
      if p.2.get X.hl_lock_n lane < 4 ∧ laneState s lane ≠ laneActive then huntFrame lane p.1 p.2
      else if crcGood p.1 && frameTypeOk (hdrType p.1) && (p.2.get X.hl_seq_known lane == 0 || hdrSeq p.1 == seqDue p.2 lane) then
        goodFrame lane p.1 p.2
      else badFrame lane p.1 p.2
    else s)

end Sys2Proof.Machine
end

