-- ==== Sys2Proof/Machine/Dispatch.lean ====
section
/-! DEFINITION. One arm per command: the meaning that runs it, or its name while it has none. -/

namespace Sys2Proof.Machine

def exec (i : Instr) (s : State) : Host.Outcome State Fault Refusal :=
  match i with
  | .registerWrite core isWrite addr width value => Sys2Proof.Machine.execRegisterWrite core isWrite addr width value s
  | .stFieldWrite core addr width value => Sys2Proof.Machine.execStFieldWrite core addr width value s
  | .check => Sys2Proof.Machine.execCheck s
  | .checkDone => Sys2Proof.Machine.execCheckDone s
  | .armCommit => Sys2Proof.Machine.execArmCommit s
  | .cancelArmedCommit => Sys2Proof.Machine.execCancelArmedCommit s
  | .discard => Sys2Proof.Machine.execDiscard s
  | .commitStrobe => Sys2Proof.Machine.execCommitStrobe s
  | .commitMissed => Sys2Proof.Machine.execCommitMissed s
  | .unitLoss unit => Sys2Proof.Machine.execUnitLoss unit s
  | .auxRailPor straps => Sys2Proof.Machine.execAuxRailPor straps s
  | .sysRstNLow ns => Sys2Proof.Machine.execSysRstNLow ns s
  | .perstAssert port both => Sys2Proof.Machine.execPerstAssert port both s
  | .perstDeassert port => Sys2Proof.Machine.execPerstDeassert port s
  | .pwrgdDeassert => Sys2Proof.Machine.execPwrgdDeassert s
  | .pwrgdAssert => Sys2Proof.Machine.execPwrgdAssert s
  | .warmReset src => Sys2Proof.Machine.execWarmReset src s
  | .watchdogReset src => Sys2Proof.Machine.execWatchdogReset src s
  | .bootSequence => Sys2Proof.Machine.execBootSequence s
  | .cacheInvalidateDone => Sys2Proof.Machine.execCacheInvalidateDone s
  | .actReset core mask => Sys2Proof.Machine.execActReset core mask s
  | .actResetEnd act => Sys2Proof.Machine.execActResetEnd act s
  | .mgtReset => Sys2Proof.Machine.execMgtReset s
  | .wrmCommand core => Sys2Proof.Machine.execWrmCommand core s
  | .wdtEnable value => Sys2Proof.Machine.execWdtEnable value s
  | .wdtKick core value => Sys2Proof.Machine.execWdtKick core value s
  | .wdtStage1 => Sys2Proof.Machine.execWdtStage1 s
  | .wdtStage2 => Sys2Proof.Machine.execWdtStage2 s
  | .powerStateGo core => Sys2Proof.Machine.execPowerStateGo core s
  | .powerTransitionStep => Sys2Proof.Machine.execPowerTransitionStep s
  | .idleAEntry => Sys2Proof.Machine.execIdleAEntry s
  | .deepEntry => Sys2Proof.Machine.execDeepEntry s
  | .deepWakeTimer => Sys2Proof.Machine.execDeepWakeTimer s
  | .deepExit periods => Sys2Proof.Machine.execDeepExit periods s
  | .kclkCheck ppm => Sys2Proof.Machine.execKclkCheck ppm s
  | .groupBringUp group => Sys2Proof.Machine.execGroupBringUp group s
  | .groupToOff group => Sys2Proof.Machine.execGroupToOff group s
  | .hlCtrlWrite value => Sys2Proof.Machine.execHlCtrlWrite value s
  | .detectEntry group => Sys2Proof.Machine.execDetectEntry group s
  | .detectTimeout group => Sys2Proof.Machine.execDetectTimeout group s
  | .feCap lane payload => Sys2Proof.Machine.execFeCap lane payload s
  | .capxTimeout group => Sys2Proof.Machine.execCapxTimeout group s
  | .ackSet lane payload => Sys2Proof.Machine.execAckSet lane payload s
  | .settleTimeout group => Sys2Proof.Machine.execSettleTimeout group s
  | .trainEntry group => Sys2Proof.Machine.execTrainEntry group s
  | .laneActive lane spacing eRms tRms => Sys2Proof.Machine.execLaneActive lane spacing eRms tRms s
  | .trainTimeout group => Sys2Proof.Machine.execTrainTimeout group s
  | .attemptCountClear group => Sys2Proof.Machine.execAttemptCountClear group s
  | .keepalive group => Sys2Proof.Machine.execKeepalive group s
  | .upstreamFrame lane levels => Sys2Proof.Machine.execUpstreamFrame lane levels s
  | .lockLoss lane => Sys2Proof.Machine.execLockLoss lane s
  | .retrainAttemptTimeout lane => Sys2Proof.Machine.execRetrainAttemptTimeout lane s
  | .downstreamLaneLoss group cause => Sys2Proof.Machine.execDownstreamLaneLoss group cause s
  | .transmitterPllUnlock group => Sys2Proof.Machine.execTransmitterPllUnlock group s
  | .downstreamRebringUp group => Sys2Proof.Machine.execDownstreamRebringUp group s
  | .ack lane slot op result => Sys2Proof.Machine.execAck lane slot op result s
  | .txeqAck lane slot pre post => Sys2Proof.Machine.execTxeqAck lane slot pre post s
  | .status lane slot flags cause => Sys2Proof.Machine.execStatus lane slot flags cause s
  | .temp lane slot item temp => Sys2Proof.Machine.execTemp lane slot item temp s
  | .regData lane slot regAddr data => Sys2Proof.Machine.execRegData lane slot regAddr data s
  | .fault lane slot code detail => Sys2Proof.Machine.execFault lane slot code detail s
  | .eyeDs lane height width bad => Sys2Proof.Machine.execEyeDs lane height width bad s
  | .ctAnswerTimeout group message => Sys2Proof.Machine.execCtAnswerTimeout group message s
  | .ctMessageQueue group hi => Sys2Proof.Machine.execCtMessageQueue group hi s
  | .ctReceiveDequeue group => Sys2Proof.Machine.execCtReceiveDequeue group s
  | .laneRetrain lane => Sys2Proof.Machine.execLaneRetrain lane s
  | .laneSleep lane => Sys2Proof.Machine.execLaneSleep lane s
  | .laneWake lane => Sys2Proof.Machine.execLaneWake lane s
  | .clearLaneErr lane => Sys2Proof.Machine.execClearLaneErr lane s
  | .wakeAdaptDone lane spacing eRms tRms => Sys2Proof.Machine.execWakeAdaptDone lane spacing eRms tRms s
  | .eyeRefresh lane spacing eRms tRms => Sys2Proof.Machine.execEyeRefresh lane spacing eRms tRms s
  | .flumeRequest seq thread req => Sys2Proof.Machine.execFlumeRequest seq thread req s
  | .flumeGrant => Sys2Proof.Machine.execFlumeGrant s
  | .handover seq thread req gapNs => Sys2Proof.Machine.execHandover seq thread req gapNs s
  | .handoverSwitch flume gapNs => Sys2Proof.Machine.execHandoverSwitch flume gapNs s
  | .syncSearchEnd flume => Sys2Proof.Machine.execSyncSearchEnd flume s
  | .sectorEnd flume => Sys2Proof.Machine.execSectorEnd flume s
  | .decodeDone flume => Sys2Proof.Machine.execDecodeDone flume s
  | .idleRelease flume => Sys2Proof.Machine.execIdleRelease flume s
  | .flumeFault flume => Sys2Proof.Machine.execFlumeFault flume s
  | .calCopy => Sys2Proof.Machine.execCalCopy s
  | .calRecordWrite core addr width value => Sys2Proof.Machine.execCalRecordWrite core addr width value s
  | .detachNow flume => Sys2Proof.Machine.execDetachNow flume s
  | .clearAccumulator flume => Sys2Proof.Machine.execClearAccumulator flume s
  | .markStale head => Sys2Proof.Machine.execMarkStale head s
  | .clearValid head => Sys2Proof.Machine.execClearValid head s
  | .clearQualityCounters head => Sys2Proof.Machine.execClearQualityCounters head s
  | .keyLoad core => Sys2Proof.Machine.execKeyLoad core s
  | .keyZeroise core => Sys2Proof.Machine.execKeyZeroise core s
  | .keyActionComplete => Sys2Proof.Machine.execKeyActionComplete s
  | .writeGateAssert head => Sys2Proof.Machine.execWriteGateAssert head s
  | .shockTrip => Sys2Proof.Machine.execShockTrip s
  | .shockHoldoffEnd => Sys2Proof.Machine.execShockHoldoffEnd s
  | .verifyResult head => Sys2Proof.Machine.execVerifyResult head s
  | .rewrite unit => Sys2Proof.Machine.execRewrite unit s
  | .servoField head a b => Sys2Proof.Machine.execServoField head a b s
  | .servoWedgeEnd act obs => Sys2Proof.Machine.execServoWedgeEnd act obs s
  | .servoDeadlineMiss eng => Sys2Proof.Machine.execServoDeadlineMiss eng s
  | .engineSelfCheck eng => Sys2Proof.Machine.execEngineSelfCheck eng s
  | .legCheckFail act => Sys2Proof.Machine.execLegCheckFail act s
  | .combPlan act => Sys2Proof.Machine.execCombPlan act s
  | .seekRequest act value => Sys2Proof.Machine.execSeekRequest act value s
  | .loadAndAcquire act => Sys2Proof.Machine.execLoadAndAcquire act s
  | .acquisitionFail act => Sys2Proof.Machine.execAcquisitionFail act s
  | .park act => Sys2Proof.Machine.execPark act s
  | .clearSvCounters act => Sys2Proof.Machine.execClearSvCounters act s
  | .traceArm act => Sys2Proof.Machine.execTraceArm act s
  | .traceTriggerNow act => Sys2Proof.Machine.execTraceTriggerNow act s
  | .traceStop act => Sys2Proof.Machine.execTraceStop act s
  | .injectionStart act => Sys2Proof.Machine.execInjectionStart act s
  | .injectionStop act => Sys2Proof.Machine.execInjectionStop act s
  | .injectionEnd act => Sys2Proof.Machine.execInjectionEnd act s
  | .forcedSwap act => Sys2Proof.Machine.execForcedSwap act s
  | .cancelSwap act => Sys2Proof.Machine.execCancelSwap act s
  | .currentLoopTick act adc vcoil => Sys2Proof.Machine.execCurrentLoopTick act adc vcoil s
  | .mcCtrlWrite value => Sys2Proof.Machine.execMcCtrlWrite value s
  | .spindleStart => Sys2Proof.Machine.execSpindleStart s
  | .stopByCoasting => Sys2Proof.Machine.execStopByCoasting s
  | .stopByBraking => Sys2Proof.Machine.execStopByBraking s
  | .backEmfZeroCrossing consistent speed => Sys2Proof.Machine.execBackEmfZeroCrossing consistent speed s
  | .spindleGrant => Sys2Proof.Machine.execSpindleGrant s
  | .catchTimeout => Sys2Proof.Machine.execCatchTimeout s
  | .alignTimeout => Sys2Proof.Machine.execAlignTimeout s
  | .rampTimeout => Sys2Proof.Machine.execRampTimeout s
  | .rundownTimeout => Sys2Proof.Machine.execRundownTimeout s
  | .brakeHoldEnd => Sys2Proof.Machine.execBrakeHoldEnd s
  | .observerUpdate theta speed residual => Sys2Proof.Machine.execObserverUpdate theta speed residual s
  | .speedLoop => Sys2Proof.Machine.execSpeedLoop s
  | .reacquireTimeout => Sys2Proof.Machine.execReacquireTimeout s
  | .idleDepthWrite depth => Sys2Proof.Machine.execIdleDepthWrite depth s
  | .spFlt => Sys2Proof.Machine.execSpFlt s
  | .vcmFlt act => Sys2Proof.Machine.execVcmFlt act s
  | .vcmFaultPersist act => Sys2Proof.Machine.execVcmFaultPersist act s
  | .brkFlt => Sys2Proof.Machine.execBrkFlt s
  | .overVoltage => Sys2Proof.Machine.execOverVoltage s
  | .brakeChopperSwitch vm => Sys2Proof.Machine.execBrakeChopperSwitch vm s
  | .powerLoss => Sys2Proof.Machine.execPowerLoss s
  | .retractVelocityEnd act => Sys2Proof.Machine.execRetractVelocityEnd act s
  | .latchEnd act => Sys2Proof.Machine.execLatchEnd act s
  | .mwNop seq thread => Sys2Proof.Machine.execMwNop seq thread s
  | .mwLdi seq thread => Sys2Proof.Machine.execMwLdi seq thread s
  | .mwAdd seq thread => Sys2Proof.Machine.execMwAdd seq thread s
  | .mwSub seq thread => Sys2Proof.Machine.execMwSub seq thread s
  | .mwAnd seq thread => Sys2Proof.Machine.execMwAnd seq thread s
  | .mwOr seq thread => Sys2Proof.Machine.execMwOr seq thread s
  | .mwXor seq thread => Sys2Proof.Machine.execMwXor seq thread s
  | .mwExt seq thread => Sys2Proof.Machine.execMwExt seq thread s
  | .mwIns seq thread => Sys2Proof.Machine.execMwIns seq thread s
  | .mwBr seq thread => Sys2Proof.Machine.execMwBr seq thread s
  | .mwCall seq thread => Sys2Proof.Machine.execMwCall seq thread s
  | .mwRet seq thread => Sys2Proof.Machine.execMwRet seq thread s
  | .mwJr seq thread => Sys2Proof.Machine.execMwJr seq thread s
  | .mwWait seq thread => Sys2Proof.Machine.execMwWait seq thread s
  | .waitWake seq thread => Sys2Proof.Machine.execWaitWake seq thread s
  | .waitTimeout seq thread => Sys2Proof.Machine.execWaitTimeout seq thread s
  | .mwFetch seq thread => Sys2Proof.Machine.execMwFetch seq thread s
  | .mwEnd seq thread => Sys2Proof.Machine.execMwEnd seq thread s
  | .mwPost seq thread => Sys2Proof.Machine.execMwPost seq thread s
  | .mwSig seq thread => Sys2Proof.Machine.execMwSig seq thread s
  | .mwArmAcq seq thread => Sys2Proof.Machine.execMwArmAcq seq thread s
  | .mwArmRel seq thread => Sys2Proof.Machine.execMwArmRel seq thread s
  | .mwSeek seq thread => Sys2Proof.Machine.execMwSeek seq thread s
  | .mwComb seq thread => Sys2Proof.Machine.execMwComb seq thread s
  | .mwSubc seq thread => Sys2Proof.Machine.execMwSubc seq thread s
  | .mwOfs seq thread => Sys2Proof.Machine.execMwOfs seq thread s
  | .mwSpred seq thread => Sys2Proof.Machine.execMwSpred seq thread s
  | .mwCrel seq thread => Sys2Proof.Machine.execMwCrel seq thread s
  | .mwPwrReq seq thread => Sys2Proof.Machine.execMwPwrReq seq thread s
  | .mwPwrRel seq thread => Sys2Proof.Machine.execMwPwrRel seq thread s
  | .mwFlmReq seq thread => Sys2Proof.Machine.execMwFlmReq seq thread s
  | .mwFlmRel seq thread => Sys2Proof.Machine.execMwFlmRel seq thread s
  | .mwResGet seq thread => Sys2Proof.Machine.execMwResGet seq thread s
  | .mwVresGet seq thread => Sys2Proof.Machine.execMwVresGet seq thread s
  | .mwWrArm seq thread => Sys2Proof.Machine.execMwWrArm seq thread s
  | .mwWrAbort seq thread => Sys2Proof.Machine.execMwWrAbort seq thread s
  | .csParity seq word => Sys2Proof.Machine.execCsParity seq word s
  | .sequencerStart seq => Sys2Proof.Machine.execSequencerStart seq s
  | .sequencerHalt seq => Sys2Proof.Machine.execSequencerHalt seq s
  | .beginLoad core seq => Sys2Proof.Machine.execBeginLoad core seq s
  | .endLoad core seq => Sys2Proof.Machine.execEndLoad core seq s
  | .threadEnableWrite seq mask => Sys2Proof.Machine.execThreadEnableWrite seq mask s
  | .controlStoreWrite core seq word half value => Sys2Proof.Machine.execControlStoreWrite core seq word half value s
  | .nsEnable ns => Sys2Proof.Machine.execNsEnable ns s
  | .recover => Sys2Proof.Machine.execRecover s
  | .recoveryComplete ok => Sys2Proof.Machine.execRecoveryComplete ok s
  | .checkpointNow => Sys2Proof.Machine.execCheckpointNow s
  | .journalWrite => Sys2Proof.Machine.execJournalWrite s
  | .dispatch act => Sys2Proof.Machine.execDispatch act s
  | .scheduleSlot act => Sys2Proof.Machine.execScheduleSlot act s
  | .compressionJobStart => Sys2Proof.Machine.execCompressionJobStart s
  | .compressionDone eng selfCheckOk => Sys2Proof.Machine.execCompressionDone eng selfCheckOk s
  | .expansionDone eng => Sys2Proof.Machine.execExpansionDone eng s
  | .engineFault eng => Sys2Proof.Machine.execEngineFault eng s
  | .engineIdleGate eng => Sys2Proof.Machine.execEngineIdleGate eng s
  | .partialChunkForce ns chunk => Sys2Proof.Machine.execPartialChunkForce ns chunk s
  | .indexCheckpoint => Sys2Proof.Machine.execIndexCheckpoint s
  | .rebuildIndex => Sys2Proof.Machine.execRebuildIndex s
  | .rebuildComplete ok => Sys2Proof.Machine.execRebuildComplete ok s
  | .linkUp port speed width => Sys2Proof.Machine.execLinkUp port speed width s
  | .linkTrainingStart port => Sys2Proof.Machine.execLinkTrainingStart port s
  | .dlDown port => Sys2Proof.Machine.execDlDown port s
  | .hotReset port => Sys2Proof.Machine.execHotReset port s
  | .laneNarrowing port width => Sys2Proof.Machine.execLaneNarrowing port width s
  | .submissionDoorbell ctl qid tail => Sys2Proof.Machine.execSubmissionDoorbell ctl qid tail s
  | .commandFetch ctl qid cmd => Sys2Proof.Machine.execCommandFetch ctl qid cmd s
  | .controllerReset ctl => Sys2Proof.Machine.execControllerReset ctl s
  | .controllerEnable ctl ams => Sys2Proof.Machine.execControllerEnable ctl ams s
  | .shutdownNotification ctl => Sys2Proof.Machine.execShutdownNotification ctl s
  | .nvmeRead ctx => Sys2Proof.Machine.execNvmeRead ctx s
  | .nvmeWrite ctx data => Sys2Proof.Machine.execNvmeWrite ctx data s
  | .nvmeFlush ctx => Sys2Proof.Machine.execNvmeFlush ctx s
  | .zoneAppend ctx data => Sys2Proof.Machine.execZoneAppend ctx data s
  | .writeZeroes ctx => Sys2Proof.Machine.execWriteZeroes ctx s
  | .datasetManagement ctx => Sys2Proof.Machine.execDatasetManagement ctx s
  | .zoneOpen ctx => Sys2Proof.Machine.execZoneOpen ctx s
  | .zoneClose ctx => Sys2Proof.Machine.execZoneClose ctx s
  | .zoneFinish ctx => Sys2Proof.Machine.execZoneFinish ctx s
  | .zoneReset ctx => Sys2Proof.Machine.execZoneReset ctx s
  | .zoneOffline ctx => Sys2Proof.Machine.execZoneOffline ctx s
  | .reportZones ctx => Sys2Proof.Machine.execReportZones ctx s
  | .nvmeAbort ctx => Sys2Proof.Machine.execNvmeAbort ctx s
  | .asynchronousEventRequest ctx => Sys2Proof.Machine.execAsynchronousEventRequest ctx s
  | .completionPost ctx status => Sys2Proof.Machine.execCompletionPost ctx status s
  | .deviceSelfTest ctx => Sys2Proof.Machine.execDeviceSelfTest ctx s
  | .selfTestResume => Sys2Proof.Machine.execSelfTestResume s
  | .firmwareImageDownload ctx data => Sys2Proof.Machine.execFirmwareImageDownload ctx data s
  | .firmwareCommit ctx => Sys2Proof.Machine.execFirmwareCommit ctx s
  | .activationTimeout => Sys2Proof.Machine.execActivationTimeout s
  | .formatNvm ctx => Sys2Proof.Machine.execFormatNvm ctx s
  | .sanitize ctx => Sys2Proof.Machine.execSanitize ctx s
  | .namespaceManagement ctx => Sys2Proof.Machine.execNamespaceManagement ctx s
  | .namespaceAttachment ctx => Sys2Proof.Machine.execNamespaceAttachment ctx s
  | .reservationCommand ctx => Sys2Proof.Machine.execReservationCommand ctx s
  | .createIoQueue ctx => Sys2Proof.Machine.execCreateIoQueue ctx s
  | .deleteIoSubmissionQueue ctx => Sys2Proof.Machine.execDeleteIoSubmissionQueue ctx s
  | .deleteIoCompletionQueue ctx => Sys2Proof.Machine.execDeleteIoCompletionQueue ctx s
  | .identify ctx => Sys2Proof.Machine.execIdentify ctx s
  | .getLogPage ctx => Sys2Proof.Machine.execGetLogPage ctx s
  | .setFeatures ctx => Sys2Proof.Machine.execSetFeatures ctx s
  | .getFeatures ctx => Sys2Proof.Machine.execGetFeatures ctx s
  | .powerStateChange ctx => Sys2Proof.Machine.execPowerStateChange ctx s
  | .unsupportedCommand ctx => Sys2Proof.Machine.execUnsupportedCommand ctx s
  | .grant port => Sys2Proof.Machine.execGrant port s
  | .rebalance => Sys2Proof.Machine.execRebalance s
  | .unitsReturn port => Sys2Proof.Machine.execUnitsReturn port s
  | .withdrawalTimeout port => Sys2Proof.Machine.execWithdrawalTimeout port s
  | .staggerTimeout => Sys2Proof.Machine.execStaggerTimeout s
  | .unsanctionedDraw port => Sys2Proof.Machine.execUnsanctionedDraw port s
  | .currentTrip rail5 milliamps => Sys2Proof.Machine.execCurrentTrip rail5 milliamps s
  | .currentPersist rail5 => Sys2Proof.Machine.execCurrentPersist rail5 s
  | .groupPowerOff group => Sys2Proof.Machine.execGroupPowerOff group s
  | .sensorSample sensor temp bad => Sys2Proof.Machine.execSensorSample sensor temp bad s
  | .stepUpTimer => Sys2Proof.Machine.execStepUpTimer s
  | .stepDownTimer => Sys2Proof.Machine.execStepDownTimer s
  | .shutdownCutoff => Sys2Proof.Machine.execShutdownCutoff s
  | .releaseShutdown => Sys2Proof.Machine.execReleaseShutdown s
  | .telemetryStale head => Sys2Proof.Machine.execTelemetryStale head s
  | .confirm core => Sys2Proof.Machine.execConfirm core s
  | .raiseFloors core => Sys2Proof.Machine.execRaiseFloors core s
  | .reloadMicrocode core => Sys2Proof.Machine.execReloadMicrocode core s
  | .seal block => Sys2Proof.Machine.execSeal block s
  | .lifecycleTransition block => Sys2Proof.Machine.execLifecycleTransition block s
  | .revokeSignKey block => Sys2Proof.Machine.execRevokeSignKey block s
  | .programSignKey block => Sys2Proof.Machine.execProgramSignKey block s
  | .programOwnerKey block => Sys2Proof.Machine.execProgramOwnerKey block s
  | .ownerCommand block fromHost => Sys2Proof.Machine.execOwnerCommand block fromHost s
  | .getVersion => Sys2Proof.Machine.execGetVersion s
  | .getCapabilities => Sys2Proof.Machine.execGetCapabilities s
  | .negotiateAlgorithms asym hash => Sys2Proof.Machine.execNegotiateAlgorithms asym hash s
  | .getDigests => Sys2Proof.Machine.execGetDigests s
  | .getCertificate slot offset length => Sys2Proof.Machine.execGetCertificate slot offset length s
  | .challenge slot nonce => Sys2Proof.Machine.execChallenge slot nonce s
  | .getMeasurements index signed nonce => Sys2Proof.Machine.execGetMeasurements index signed nonce s
  | .bmEnable => Sys2Proof.Machine.execBmEnable s
  | .deviceReady dev ok => Sys2Proof.Machine.execDeviceReady dev ok s
  | .periodicRetrain dev channel => Sys2Proof.Machine.execPeriodicRetrain dev channel s
  | .fullRetrain => Sys2Proof.Machine.execFullRetrain s
  | .clearBmDevErr => Sys2Proof.Machine.execClearBmDevErr s
  | .edcMismatch dev channel outcome => Sys2Proof.Machine.execEdcMismatch dev channel outcome s
  | .cisternAccess master op addr data len error => Sys2Proof.Machine.execCisternAccess master op addr data len error s
  | .scrub dev unit error => Sys2Proof.Machine.execScrub dev unit error s
  | .reservoirAccess master op addr data len error => Sys2Proof.Machine.execReservoirAccess master op addr data len error s
  | .reservoirFill => Sys2Proof.Machine.execReservoirFill s
  | .fillDone => Sys2Proof.Machine.execFillDone s
  | .coreRun core target => Sys2Proof.Machine.execCoreRun core target s
  | .coreStop core target => Sys2Proof.Machine.execCoreStop core target s
  | .machineTimer core => Sys2Proof.Machine.execMachineTimer core s
  | .l2LockWrite value => Sys2Proof.Machine.execL2LockWrite value s
  | .clean => Sys2Proof.Machine.execClean s
  | .invalidate => Sys2Proof.Machine.execInvalidate s
  | .cleanAndInvalidate => Sys2Proof.Machine.execCleanAndInvalidate s
  | .lockFill => Sys2Proof.Machine.execLockFill s
  | .invalidateIncludingLocked => Sys2Proof.Machine.execInvalidateIncludingLocked s
  | .cleanAndInvalidateAll => Sys2Proof.Machine.execCleanAndInvalidateAll s
  | .cmoDone => Sys2Proof.Machine.execCmoDone s
  | .cacheProtectionError cache core kind addr => Sys2Proof.Machine.execCacheProtectionError cache core kind addr s
  | .sourceAssert src level => Sys2Proof.Machine.execSourceAssert src level s
  | .softwareSourceRaise src => Sys2Proof.Machine.execSoftwareSourceRaise src s
  | .offerTimeout src => Sys2Proof.Machine.execOfferTimeout src s
  | .moderationRelease target => Sys2Proof.Machine.execModerationRelease target s
  | .claim core target => Sys2Proof.Machine.execClaim core target s
  | .complete core target src => Sys2Proof.Machine.execComplete core target src s
  | .eventAccept src code payload => Sys2Proof.Machine.execEventAccept src code payload s
  | .firmwareRecordSubmit core code len16 => Sys2Proof.Machine.execFirmwareRecordSubmit core code len16 s
  | .recordProgrammed => Sys2Proof.Machine.execRecordProgrammed s
  | .recordClose => Sys2Proof.Machine.execRecordClose s
  | .drain => Sys2Proof.Machine.execDrain s
  | .restartChapter => Sys2Proof.Machine.execRestartChapter s
  | .sectorEraseDone => Sys2Proof.Machine.execSectorEraseDone s
  | .probeFlash ok => Sys2Proof.Machine.execProbeFlash ok s
  | .freeKind1Slots => Sys2Proof.Machine.execFreeKind1Slots s
  | .programTimeout => Sys2Proof.Machine.execProgramTimeout s
  | .logMemoryFailed cause => Sys2Proof.Machine.execLogMemoryFailed cause s
  | .writePointSearch => Sys2Proof.Machine.execWritePointSearch s
  | .xspiWrite requester erase offset data => Sys2Proof.Machine.execXspiWrite requester erase offset data s
  | .mctpPacket bus pecOk dest som eom seqNo tag type_ data => Sys2Proof.Machine.execMctpPacket bus pecOk dest som eom seqNo tag type_ data s
  | .entdaa addr => Sys2Proof.Machine.execEntdaa addr s
  | .setdasa static_ addr => Sys2Proof.Machine.execSetdasa static_ addr s
  | .setEndpointId op eid => Sys2Proof.Machine.execSetEndpointId op eid s
  | .getEndpointId => Sys2Proof.Machine.execGetEndpointId s
  | .getEndpointUuid => Sys2Proof.Machine.execGetEndpointUuid s
  | .getMctpVersionSupport type_ => Sys2Proof.Machine.execGetMctpVersionSupport type_ s
  | .getMessageTypeSupport => Sys2Proof.Machine.execGetMessageTypeSupport s
  | .readNvmeMiDataStructure kind index => Sys2Proof.Machine.execReadNvmeMiDataStructure kind index s
  | .subsystemHealthStatusPoll clear => Sys2Proof.Machine.execSubsystemHealthStatusPoll clear s
  | .controllerHealthStatusPoll ctl => Sys2Proof.Machine.execControllerHealthStatusPoll ctl s
  | .configurationGet ident => Sys2Proof.Machine.execConfigurationGet ident s
  | .configurationSet ident value => Sys2Proof.Machine.execConfigurationSet ident value s
  | .tunnelledAdmin ctl opcode nsid cdw10 cdw11 cdw12 cdw13 => Sys2Proof.Machine.execTunnelledAdmin ctl opcode nsid cdw10 cdw11 cdw12 cdw13 s
  | .getHealth => Sys2Proof.Machine.execGetHealth s
  | .parkCommand => Sys2Proof.Machine.execParkCommand s
  | .parkAndSpinDownCommand => Sys2Proof.Machine.execParkAndSpinDownCommand s
  | .endParkCommand => Sys2Proof.Machine.execEndParkCommand s
  | .powerDownCommand => Sys2Proof.Machine.execPowerDownCommand s
  | .wake => Sys2Proof.Machine.execWake s
  | .fullReset dword1 => Sys2Proof.Machine.execFullReset dword1 s
  | .stageData kind offset data => Sys2Proof.Machine.execStageData kind offset data s
  | .stageCommit kind => Sys2Proof.Machine.execStageCommit kind s
  | .stagingTimeout kind => Sys2Proof.Machine.execStagingTimeout kind s
  | .releaseShutdownCommand dword1 => Sys2Proof.Machine.execReleaseShutdownCommand dword1 s
  | .mpPark core => Sys2Proof.Machine.execMpPark core s
  | .mpParkAndSpinDown core => Sys2Proof.Machine.execMpParkAndSpinDown core s
  | .mpEndPark core => Sys2Proof.Machine.execMpEndPark core s
  | .mpPowerDown core => Sys2Proof.Machine.execMpPowerDown core s
  | .parkComplete => Sys2Proof.Machine.execParkComplete s
  | .mpWdtKick core value => Sys2Proof.Machine.execMpWdtKick core value s
  | .mpWdtEnable core value => Sys2Proof.Machine.execMpWdtEnable core value s
  | .mpWdtExpiry => Sys2Proof.Machine.execMpWdtExpiry s
  | .vcmFltClear act => Sys2Proof.Machine.execVcmFltClear act s
  | .requestStarved port => Sys2Proof.Machine.execRequestStarved port s
  | .auxiliaryRailLoss => Sys2Proof.Machine.execAuxiliaryRailLoss s
  | .hlrefStop act => Sys2Proof.Machine.execHlrefStop act s
  | .drainTimeLimit => Sys2Proof.Machine.execDrainTimeLimit s
  | .writeSectorEnd head => Sys2Proof.Machine.execWriteSectorEnd head s
  | .activationFlashWriteEnd ok => Sys2Proof.Machine.execActivationFlashWriteEnd ok s

end Sys2Proof.Machine
end

