-- ==== Sys2Proof/Safety.lean ====
section
/-! DEFINITION. The terms in which claims about the part are stated: what a command answers, which registers only mirror other state,
and the invariants of the part. -/

namespace Sys2Proof.Machine

/-- The fields that only show other state and are brought up to date after every command (`settle`). -/
def mirrors : List Nat :=
  [SQ_THR_STATE.arm.id, SQ_THR_STATE.grants.id, SQ_THR_STATE.flumes.id, SQ_STATUS.thr_fault.id, SQ_STATUS.thr_busy.id,
   HG_DOMAIN_STATUS.on.id, X.ctl_down.id, HIF_CTL_STATUS.rdy.id, HIF_CTL_STATUS.draining.id, HIF_CTL_STATUS.shst.id,
   QE_CTX_STATUS.ctl0.id, QE_CTX_STATUS.ctl1.id, QE_CTX_STATUS.urgent.id, QE_ABORT_STATUS.pending.id, QE_RING_INFO.owner.id,
   QE_RING_INFO.purpose.id, QE_RING_INFO.active.id, QE_RING_INFO.phase.id, QE_RING_INFO.entry_log2.id, QE_RING_INFO.size_m1.id,
   QE_RING_INFO.tail.id, QE_RING_INFO.head.id, QE_RING_BASE.addr.id, X.dst_run.id, CR_DTIME.ns.id, ER_STATUS.fifo.id,
   ER_STATUS.log_failed.id, SV_RED_STATUS.active.id, HG_POOL.held_g.id, HG_POOL.x.id, HL_CT_QSTAT.rx_count.id, HL_CT_QSTAT.tx_free.id,
   MS_HQ_STATE.used.id, MS_HQ_STATE.urgent.id, MS_HQ_STATE.oldest_ms.id, MS_ACT_STATE.urgent.id, MS_ACT_STATE.single_served.id]

/-- The state that a command leaves: its effect with the mirrors brought up to date, and the queue as the command found it. -/
def settled (s u : State) : State := { settle u with pending := s.pending }

/-- A command completes with the state that follows its effect `u`. -/
def Gives (c : Instr) (s u : State) : Prop := exec c s = .next (settled s u)

/-- One register cell and the value it takes, cut to its width. -/
abbrev CellVal := Fld × Nat × Nat

/-- A cell is among those listed. -/
def listed (l : List CellVal) (f : Fld) (i : Nat) : Bool := l.any (fun p => p.1.id == f.id && p.2.1 == i)

/-- A command completes, and this is all it does: the cells listed take their values, every other cell keeps its value but for the
mirrors, and everything that is no register is as `g` makes it. -/
def Effect (c : Instr) (s : State) (l : List CellVal) (g : State → State) : Prop :=
  ∃ t, exec c s = .next t ∧ { t with regs := s.regs } = { g s with regs := s.regs, pending := s.pending }
    ∧ (∀ p ∈ l, t.get p.1 p.2.1 = p.2.2 % 2 ^ p.1.width)
    ∧ ∀ f i, listed l f i = false → f.id ∉ mirrors → t.get f i = s.get f i

/-- A command completes, and all it does is set the cells listed: everything that is no register is unchanged, every byte of every
memory among it. -/
def Sets (c : Instr) (s : State) (l : List CellVal) : Prop := Effect c s l id

/-- The core rails are up. -/
def coreUp (s : State) : Bool := s.get X.core_off == 0

/-- The auxiliary rail is up. -/
def auxUp (s : State) : Bool := s.get X.aux_off == 0

/-- The word at which a thread stands. -/
def wordOf (s : State) (q t : Nat) : MicroWord := wordAt s q (pcOf s q t)

/-- A thread issues the word at which it stands, a word of opcode `code`: its sequencer runs and has power, the word lies inside the
loaded microcode and no field is a reserved encoding, no safe point interrupts it, and it meets the limits of R255 (R246, R247, R255,
R256). -/
structure Issues (code q t : Nat) (s : State) : Prop where
  up : coreUp s = true
  seq : q < 4
  thr : t < 4
  defined : opDefined code = true
  power : gated s = false
  running : s.get SQ_STATUS.state q = sqRunning ∨ s.get SQ_STATUS.state q = sqHalting
  ready : s.get SQ_THR_STATE.state (thrNo q t) = thReady ∨ s.get SQ_THR_STATE.state (thrNo q t) = thHandler
  inside : pcOf s q t < s.get SQ_VERSION.words q
  opcode : (wordOf s q t).op = code
  cond : (wordOf s q t).cond ≤ 23
  mark : (wordOf s q t).sp ≠ 3
  run : (wordOf s q t).sp = 0 → s.get X.sq_sp (thrNo q t) < 64
  safePoint : (wordOf s q t).sp ≠ 0 → s.on X.sq_leave (thrNo q t) = false ∧ eventAt s q t (wordOf s q t).sp = none
  timed : (code = 0x0D ∨ code = 0x0E) → (wordOf s q t).sp = 0 → (wordOf s q t).timeout ≠ 0

/-- The words a thread has run since its last safe point, once it has issued the word at which it stands. -/
def spCount (s : State) (q t : Nat) : Nat := if (wordOf s q t).sp = 0 then s.get X.sq_sp (thrNo q t) + 1 else 0

/-- What every issued word writes; `pc` is where the thread then stands. -/
def issuedCells (s : State) (q t pc : Nat) : List CellVal :=
  [(X.sq_sp, thrNo q t, spCount s q t), (SQ_STATUS.issued, q, s.get SQ_STATUS.issued q + 1), (SQ_THR_STATE.pc, thrNo q t, pc)]

/-- The state in which a word's effect is computed. -/
def issued (s : State) (q t : Nat) : State :=
  setPc q t (pcOf s q t + 1) ((s.set X.sq_sp (thrNo q t) (spCount s q t)).incWrap SQ_STATUS.issued q)

/-- A write of a thread's register; g0 ignores it. -/
def grCell (q t r v : Nat) : List CellVal := if r = 0 then [] else [(SQ_THR_REG.value, thrReg q t r, v)]

/-- A context holds a host command that has been fetched and not begun: its queue kind and opcode, and no activation holds admin commands
up (R319, R328). -/
structure Waits (s : State) (c : Nat) (x : Ctx) (admin : Bool) (op : Nat) : Prop where
  up : coreUp s = true
  held : ctxOf s c = some x
  queue : (x.qid == 0) = admin
  opcode : x.cmd.opcode = op
  live : x.dead = false
  begun : x.stage = 0
  free : admin = true → s.get X.fw_act = 0

/-- Every mirror agrees with what it shows. -/
structure Mirrored (s : State) : Prop where
  /-- CR_DTIME reports DTIME (R377). -/
  dtime : s.get CR_DTIME.ns = s.dtime % 2 ^ 64
  /-- ER_STATUS.fifo counts the queued records (R440). -/
  fifo : s.get ER_STATUS.fifo = s.erFifo.length % 2 ^ 7
  /-- ER_STATUS.log_failed reads the latch of the always-on domain (R446). -/
  logFailed : s.get ER_STATUS.log_failed = s.get ER_GASP.log_failed % 2
  /-- SV_RED_STATUS.active names the active servo engine. -/
  active : ∀ a, a < 4 → s.get SV_RED_STATUS.active a = s.get SV_STATUS.active_engine a % 2
  /-- HL_CT_QSTAT.rx_count counts the receive queue of a group (R79). -/
  rxCount : ∀ y, y < 16 → s.get HL_CT_QSTAT.rx_count y = (KV.getD s.ctRx y []).length % 2 ^ 6
  /-- HL_CT_QSTAT.tx_free counts the free transmit entries of a group. -/
  txFree : ∀ y, y < 16 → s.get HL_CT_QSTAT.tx_free y = (32 - ((KV.getD s.ctHeld y []).filter (fun m => m.fw)).length) % 2 ^ 6
  /-- QE_CTX_STATUS counts the contexts that each controller holds, and those of the urgent class (R319). -/
  ctl0 : s.get QE_CTX_STATUS.ctl0 = (s.ctxs.filter (fun p => p.2.ctl == 0)).length % 2 ^ 14
  ctl1 : s.get QE_CTX_STATUS.ctl1 = (s.ctxs.filter (fun p => p.2.ctl == 1)).length % 2 ^ 14
  urgent : s.get QE_CTX_STATUS.urgent = (s.ctxs.filter (fun p => p.2.cls == 0)).length % 2 ^ 14
  /-- HG_DOMAIN_STATUS shows the powered domains (R351). -/
  domains0 : s.get HG_DOMAIN_STATUS.on 0 = domainsOn s 0 (s.image.domGroup.take 64) % 2 ^ 64
  domains1 : s.get HG_DOMAIN_STATUS.on 1 = domainsOn s 64 ((s.image.domGroup.drop 64).take 64) % 2 ^ 64
  domains2 : s.get HG_DOMAIN_STATUS.on 2 = domainsOn s 128 (s.image.domGroup.drop 128) % 2 ^ 64

end Sys2Proof.Machine
end

