-- ==== Sys2Proof/Certificates/Slice0/Obligations.lean ====
section
/-! DEFINITION. The statements for the provers: what the part does on each family of commands, which commands complete and how, and the
invariants that every step keeps. -/

open Sys2Proof Sys2Proof.Machine

/-! General: every command, the queue, the mirrors. -/

/-- A step with a command waiting is the command at the front of the queue, run on the state with the queue's rest. -/
def Obligations.StepRunsFront : Prop := ∀ (c : Instr) (rest : List Instr) (s : State),
  step { s with pending := c :: rest } = exec c { s with pending := rest }

/-- With no command waiting a step is one XTAL cycle: while the core rails are up DTIME advances by 40 ns and CR_DTIME shows it, and
nothing else changes; while they are off nothing changes (the model's choice, log entry 1). -/
def Obligations.IdleStepTicks : Prop := ∀ s : State, s.pending = [] →
  (coreUp s = false → step s = .next s)
  ∧ (coreUp s = true → ∃ t, step s = .next t ∧ t.dtime = (s.dtime + 40) % 2 ^ 64 ∧ t.get CR_DTIME.ns = t.dtime
      ∧ { t with regs := s.regs, dtime := s.dtime } = s ∧ ∀ f i, f.id ≠ CR_DTIME.ns.id → t.get f i = s.get f i)

/-- Every well-formed command completes and leaves the queue as it found it; an ill-formed one is refused as ill-formed, and nothing
faults. -/
def Obligations.WellFormedCompletes : Prop := ∀ (c : Instr) (s : State),
  (c.wf = true → ∃ t, exec c s = .next t ∧ t.pending = s.pending) ∧ (c.wf = false → exec c s = .refused .illFormed)

/-- Every mirror register agrees with what it shows after every step: CR_DTIME, ER_STATUS.fifo and log_failed, SV_RED_STATUS.active,
HL_CT_QSTAT, QE_CTX_STATUS and HG_DOMAIN_STATUS. -/
def Obligations.MirrorsKept : Prop := ∀ s t : State, Mirrored s → step s = .next t → Mirrored t

/-- At reset the mirrors agree, every field of every register reads the reset value of its description, no field is locked, nothing is
staged, no command waits, and no image is loaded. -/
def Obligations.ResetState : Prop := Mirrored State.reset ∧ (∀ f i, State.reset.get f i = f.reset i) ∧ State.reset.locked = []
  ∧ State.reset.staged = [] ∧ State.reset.stagedSet = [] ∧ State.reset.pending = [] ∧ State.reset.img = none

/-- Each of these commands of the core domain has no effect while the core rails are off (the always-on domain alone has power then, R450). -/
def Obligations.CoreRailsOff : Prop := ∀ (c : Instr) (s : State), coreUp s = false →
  (c = .check ∨ c = .commitStrobe ∨ c = .flumeGrant ∨ c = .shockTrip ∨ c = .speedLoop ∨ c = .rebalance ∨ c = .recover ∨ c = .journalWrite
    ∨ c = .indexCheckpoint ∨ c = .stepUpTimer ∨ c = .powerTransitionStep ∨ c = .drain ∨ c = .recordProgrammed ∨ c = .wdtStage2
    ∨ c = .bmEnable ∨ c = .lockFill ∨ c = .parkComplete ∨ (∃ g, g < 16 ∧ c = .groupBringUp g) ∨ (∃ a, a < 4 ∧ c = .park a)
    ∨ (∃ a, a < 4 ∧ c = .dispatch a) ∨ (∃ q, q < 4 ∧ c = .sequencerStart q)) →
  Gives c s s

/-! Registers. -/

/-- A register access of the wrong width or alignment, and a 64-bit one by the security or management core, gets a bus error and
changes nothing; an address of the register windows that no register occupies reads as zero and ignores writes, without a bus error; an
address that its local map names nowhere, or neither in a register window nor in storage, gives a bus error, and so does a write of the boot
ROM (R7, R14, R413). The application core's write buffer is empty; one that
is not drains first (R418). -/
def Obligations.BusErrors : Prop := ∀ (core : Nat) (w : Bool) (a width v : Nat) (s : State),
  coreUp s = true → auxUp s = true → core < 10 → KV.getD s.wbufs core [] = [] →
  let answers := fun (e : Bool) => Effect (.registerWrite core w a width v) s [] (fun s => { s with bus := some { core := core, err := e, data := 0 } })
  (inWindows a = true → (w = true → ∀ i o, locateAddr a ≠ some (DP_CAL, i, o)) →
    ((width ≠ 32 ∧ width ≠ 64) ∨ a % (width / 8) ≠ 0 ∨ (width = 64 ∧ 8 ≤ core)) → answers true)
  ∧ (inWindows a = true → locateAddr a = none → (width = 32 ∨ (width = 64 ∧ core < 8)) → a % (width / 8) = 0 → answers false)
  ∧ (inPrivate core a = false → (localMap s core a = none
      ∨ ∃ t, localMap s core a = some t ∧ inWindows t = false ∧ inStorage s t = false) → answers true)
  ∧ (w = true → core < 9 → a + 4 ≤ 0x10000 → a % 4 = 0 → width = 32 → inStorage s a = true → answers true)

/-- A write by field type (R6, R8): RO fields ignore it, W1C bits that are written 1 clear, RW fields take the value unless it is a
reserved encoding, an RWL field takes it once and is then locked, an ST field takes it as its staged copy and the value in force
stays. -/
def Obligations.WriteByFieldType : Prop := ∀ (f : Fld) (i a v : Nat) (s : State),
  (f.ty = .ro → writeField f i a v s = s)
  ∧ (f.ty = .w1c → ∀ k, ((writeField f i a v s).get f i).testBit k = (decide (k < f.width) && (s.get f i).testBit k && !v.testBit k))
  ∧ (f.ty = .rw → f.rule.reserved v = false → (writeField f i a v s).get f i = f.rule.stored v % 2 ^ f.width)
  ∧ ((f.ty = .rw ∨ f.ty = .rwl) → f.rule.reserved v = true → writeField f i a v s = s)
  ∧ (f.ty = .rwl → f.rule.reserved v = false → s.locked.contains (f.id, i) = false →
      (writeField f i a v s).get f i = f.rule.stored v % 2 ^ f.width ∧ (writeField f i a v s).locked.contains (f.id, i) = true)
  ∧ (f.ty = .rwl → s.locked.contains (f.id, i) = true → writeField f i a v s = s)
  ∧ (f.ty = .st → f.id ∉ [SC_STATUS.state.id, SC_STATUS.result.id, SC_INT.not_applied.id] →
      (writeField f i a v s).stagedVal f i = f.rule.stored v % 2 ^ f.width ∧ (writeField f i a v s).get f i = s.get f i)

/-- A plain register is written through the bus whole: TH_STEP takes its fields, values below 10 ms storing 10; a read gives the
fields back and changes nothing; and an ST register takes the value as its staged copy (R6, R8, R55). The core's write buffer is empty,
as R418 has an access wait for. -/
def Obligations.RegisterWrites : Prop := ∀ (core up down min_ : Nat) (s : State),
  coreUp s = true → auxUp s = true → core < 10 → KV.getD s.wbufs core [] = [] → up < 4096 → down < 4096 → min_ ≤ 8 →
  Effect (.registerWrite core true TH_STEP.addr 32 (down * 2 ^ 20 + up * 2 ^ 8 + min_)) s
    [(TH_STEP.down_ms, 0, max 10 down), (TH_STEP.up_ms, 0, max 10 up), (TH_STEP.min_step, 0, min_)]
    (fun s => { s with bus := some { core := core, err := false, data := 0 } })
  ∧ Effect (.registerWrite core false TH_STEP.addr 32 0) s []
    (fun s => { s with
      bus := some ⟨core, false, s.get TH_STEP.down_ms * 2 ^ 20 + s.get TH_STEP.up_ms * 2 ^ 8 + s.get TH_STEP.min_step⟩ })
  ∧ ∀ n, s.get SC_STATUS.state ≠ scArmed → s.get SC_STATUS.state ≠ scChecking →
    Effect (.stFieldWrite core DP_POOL.addr 32 n) s [(SC_STATUS.state, 0, scStaged)]
      (fun s => { s with
        staged := KV.put pairLt s.staged (DP_POOL.count.id, 0) (n % 64),
        stagedSet := if s.stagedSet.contains DP_POOL.addr then s.stagedSet else s.stagedSet ++ [DP_POOL.addr],
        bus := some { core := core, err := false, data := 0 } })

/-! The commit controller, SC. -/

/-- A check (R57): in IDLE, STAGED, CHECKED or FAILED a request starts it, in CHECKING or ARMED it is refused with result 0xA and what
runs continues; where every rule passes the state becomes CHECKED, else FAILED with the first violated rule and the lowest register that
it names. The values are the staged copies of the staged set, and the values in force elsewhere. No other register changes. -/
def Obligations.Checks : Prop := ∀ s : State, coreUp s = true →
  let st := s.get SC_STATUS.state
  ((st = scIdle ∨ st = scStaged ∨ st = scChecked ∨ st = scFailed) → Sets .check s [(SC_STATUS.state, 0, scChecking)])
  ∧ (st = scChecking ∨ st = scArmed → Sets .check s [(SC_STATUS.result, 0, 0xA), (SC_INT.not_applied, 0, 1)])
  ∧ (st = scChecking →
      (firstViolation (s.raise SC_INT.check_done) = none → Sets .checkDone s
        [(SC_INT.check_done, 0, 1), (SC_STATUS.state, 0, scChecked), (SC_STATUS.rule, 0, 0), (SC_STATUS.reg_addr, 0, 0), (SC_STATUS.result, 0, 0)])
      ∧ ∀ rule addr, firstViolation (s.raise SC_INT.check_done) = some (rule, addr) → Sets .checkDone s
        [(SC_INT.check_done, 0, 1), (SC_STATUS.state, 0, scFailed), (SC_STATUS.rule, 0, rule), (SC_STATUS.reg_addr, 0, addr),
         (SC_STATUS.result, 0, 2), (SC_INT.not_applied, 0, 1)])
  ∧ (st ≠ scChecking → Sets .checkDone s [])
  ∧ (let rules := [rule01 s, rule02 s, rule03 s, rule04 s, rule05 s, rule06 s, rule07 s, rule08 s, rule09 s, rule0A s, rule0B s];
      (firstViolation s = none ↔ ∀ l ∈ rules, l = [])
      ∧ ∀ rule addr, firstViolation s = some (rule, addr) →
        1 ≤ rule ∧ (∀ l ∈ rules.take (rule - 1), l = []) ∧ addr ∈ rules.getD (rule - 1) [] ∧ ∀ a ∈ rules.getD (rule - 1) [], addr ≤ a)
  ∧ (∀ f i, f.ty = .st → s.eff f i = (KV.get s.staged (f.id, i)).getD (s.get f i)) ∧ (∀ f i, f.ty ≠ .st → s.eff f i = s.get f i)

/-- A request to arm is refused with result 0x5, and nothing is applied, where instant_kind 3 names a DTIME already passed, and where
instant_kind 1 names an absent actuator or a wedge number not below wedges_per_rev (R63). -/
def Obligations.ArmRefused : Prop := ∀ s : State, coreUp s = true → s.get SC_STATUS.state = scChecked →
  (s.get SC_CTRL.instant_kind = 3 ∧ s.get SC_INSTANT.value < s.dtime)
    ∨ (s.get SC_CTRL.instant_kind = 1 ∧ (s.image.hasAct (s.get SC_CTRL.actuator) = false ∨ s.image.wedges ≤ s.get SC_INSTANT.value)) →
  Sets .armCommit s [(SC_STATUS.result, 0, 5), (SC_INT.not_applied, 0, 1)]

/-- Arming, cancelling, discarding, the strobe and the miss (R56, R60, R62): the strobe comes at the armed instant; at the deadline an armed
wedge or index commit is abandoned with result 4, or applied where miss_action says so. -/
def Obligations.CommitActions : Prop := ∀ s : State, coreUp s = true →
  let st := s.get SC_STATUS.state
  (st = scChecked → instantBad s = false → Sets .armCommit s [(SC_STATUS.state, 0, scArmed),
      (X.sc_deadline, 0, if s.get SC_DEADLINE.dtime = 0 then s.dtime + 2 * s.image.revNs else s.get SC_DEADLINE.dtime),
      (X.sc_kind, 0, s.get SC_CTRL.instant_kind), (X.sc_act, 0, s.get SC_CTRL.actuator), (X.sc_miss, 0, s.get SC_CTRL.miss_action),
      (X.sc_value, 0, s.get SC_INSTANT.value), (X.sc_old, 0, 1)])
  ∧ (st ≠ scChecked → st ≠ scArmed → Sets .armCommit s [(SC_STATUS.result, 0, 3), (SC_INT.not_applied, 0, 1)])
  ∧ (st = scArmed → Sets .armCommit s [(SC_STATUS.result, 0, 0xA), (SC_INT.not_applied, 0, 1)])
  ∧ (st = scArmed → Sets .cancelArmedCommit s [(SC_STATUS.state, 0, scChecked), (SC_STATUS.result, 0, 8), (SC_INT.not_applied, 0, 1)])
  ∧ (st ≠ scArmed → Sets .cancelArmedCommit s [])
  ∧ (st ≠ scArmed → Effect .discard s [(SC_STATUS.state, 0, scIdle)] (fun s => { s with staged := [], stagedSet := [] }))
  ∧ (st = scArmed → Effect .discard s [(SC_STATUS.state, 0, scIdle), (SC_STATUS.result, 0, 8), (SC_INT.not_applied, 0, 1)]
      (fun s => { s with staged := [], stagedSet := [] }))
  ∧ (st = scArmed → atInstant s = true → Gives .commitStrobe s (strobe s)) ∧ (st = scArmed → atInstant s = false → Sets .commitStrobe s [])
  ∧ (st = scArmed → (s.get X.sc_kind = 1 ∨ s.get X.sc_kind = 2) → s.get X.sc_deadline ≤ s.dtime →
      (s.on X.sc_miss = false → Sets .commitMissed s
        [(SC_STATUS.state, 0, scChecked), (SC_STATUS.result, 0, 4), (SC_INT.not_applied, 0, 1)])
      ∧ (s.on X.sc_miss = true → Gives .commitMissed s (strobe s)))

/-- The loss of a unit of any kind: the immediate response of its block; a unit that is absent or lost already changes nothing (R25 to
R27). -/
def Obligations.UnitLosses : Prop := ∀ s : State, coreUp s = true →
  (∀ h, h < 64 → Gives (.unitLoss (.head h)) s (if s.image.populated h then loseHead h s else s))
  ∧ (∀ x, x < 64 → let h := s.image.headOf x
      Gives (.unitLoss (.upLane x)) s (if h = 255 ∨ laneState s x = laneFailed then s
        else scLoss (.upLane x) (laneFail x (flumeLaneLost h (feedbackLost h (gateOff h gateLane s))))))
  ∧ (∀ y, y < 16 → Gives (.unitLoss (.downLane y)) s (if s.image.groupUsed y then
      scLoss (.downLane y) (groupFail y 5 (s.each (s.image.groupHeads y) (fun h t => gateOff h gateLane t))) else s))
  ∧ (∀ a, a < 4 → Gives (.unitLoss (.actuator a)) s (if s.image.hasAct a then retract a (loseAct a s) else s))
  ∧ (∀ f, f < 32 → Gives (.unitLoss (.flume f)) s (flumeFail f s))
  ∧ (∀ e, e < 8 → Gives (.unitLoss (.engine e)) s (engineLoss e s))
  ∧ (∀ d, d < 2 → Gives (.unitLoss (.gddr d)) s (if devConfigured s d then loseDevice d s else s))
  ∧ (∀ p, p < 2 → Gives (.unitLoss (.hostLane p)) s (if s.on HIF_PORT_STATUS.dl_up p ∧ 1 < s.get HIF_PORT_STATUS.width p then
      narrowPort p (s.get HIF_PORT_STATUS.width p / 2) s else s))

/-! The head link, HL. -/

/-- Groups come up and go down (R85, R480): what asks a group to come up or switches it off, what each state of its bring-up leads to, and
its keepalive. -/
def Obligations.LinkGroups : Prop := ∀ (s : State) (g : Nat), coreUp s = true → g < 16 →
  (s.image.groupUsed g = true → (grpState s g = grpOff ∨ grpState s g = grpFailed) → s.image.portOf 5 (g / 4) = none →
    Sets (.groupBringUp g) s [(X.hl_asked, g, 1)])
  ∧ (s.image.groupUsed g = true → (grpState s g = grpOff ∨ grpState s g = grpFailed) →
      ∀ p, s.image.portOf 5 (g / 4) = some p → hasGrant (s.set X.hl_asked g 1) p = false →
      Gives (.groupBringUp g) s (hgRequest p 0 false holderLink false (s.set X.hl_asked g 1)))
  ∧ Gives (.groupToOff g) s (groupOff g s)
  ∧ (s.on X.hl_asked g = true → hasGrantFor s 5 (g / 4) = true → (s.get CR_ACT_STATUS.in_reset).testBit (g / 4) = false →
      (grpState s g = grpOff → Gives (.detectEntry g) s (enterDetect g s))
      ∧ (grpState s g = grpFailed → Gives (.detectEntry g) s (enterDetect g (s.clear HL_GROUP_STATUS.attempts_used g))))
  ∧ (grpState s g = grpDetect → Gives (.detectTimeout g) s (groupFail g 1 s))
  ∧ (grpState s g = grpCapx → Gives (.capxTimeout g) s (enterSettle g s))
  ∧ (grpState s g = grpSettle → s.get X.hl_go g = 0 → Gives (.settleTimeout g) s (groupFail g 3 s))
  ∧ (grpState s g = grpSettle → s.on X.hl_go g = true → Gives (.trainEntry g) s (
      let t := ((s.set HL_GROUP_STATUS.state g grpTrain).clear X.hl_go g).each ((s.image.groupLanes g).filter (fun x => s.on X.hl_lane_ok x))
        (fun x t => startTraining x (t.set HL_ULANE_STATUS.state x laneTrain))
      ctFlush g (sendTrain g (t.on HL_GROUP_STATUS.ka_active g) [] (t.spend.set X.hl_prbs g t.fresh))))
  ∧ (grpState s g = grpTrain →
      let u := s.each ((s.image.groupLanes g).filter (fun x => laneState s x == laneTrain)) (fun x t => (laneFail x t).event 10 x 255)
      Gives (.trainTimeout g) s (if (u.image.groupLanes g).any (fun x => laneState u x == laneActive) then groupActive g u else groupFail g 4 u))
  ∧ (grpState s g = grpActive → Sets (.attemptCountClear g) s [(HL_GROUP_STATUS.attempts_used, g, 0)])
  ∧ (1 ≤ grpState s g → grpState s g ≤ 5 → s.get HL_GROUP_CTRL.ka_stop g = 0 → s.get X.hl_down_lost g = 0 →
      (s.get CR_ACT_STATUS.in_reset).testBit (g / 4) = false → gated s = false →
      Gives (.keepalive g) s (sendKeepalive g ((s.set HL_GROUP_STATUS.ka_active g 1).set X.hl_ka_last g s.dtime)))
  ∧ (s.get HL_GROUP_CTRL.ka_stop g ≠ 0 → Sets (.keepalive g) s [(HL_GROUP_STATUS.ka_active, g, 0)])

/-- HL_CTRL: with enable going from 0 to 1 every used group in OFF is asked to come up, and every group goes to OFF when it goes back;
otherwise only the settings change (R85). -/
def Obligations.LinkControl : Prop := ∀ (s : State) (v : Nat), coreUp s = true →
  (s.get HL_CTRL.enable = 0 → v % 2 = 1 → Gives (.hlCtrlWrite v) s ((writeReg HL_CTRL 0 (fun _ => true) v s).each (List.range 16) (groupAsk false)))
  ∧ (s.get HL_CTRL.enable = 1 → v % 2 = 0 → Gives (.hlCtrlWrite v) s ((writeReg HL_CTRL 0 (fun _ => true) v s).each (List.range 16) groupOff))
  ∧ (s.get HL_CTRL.enable = v % 2 → Sets (.hlCtrlWrite v) s
      [(HL_CTRL.enable, 0, v), (HL_CTRL.ka_period, 0, max 5 (min 20 (v / 2 % 32))), (HL_CTRL.auto_retrain, 0, v / 64),
       (HL_CTRL.attempts, 0, v / 128)])

/-- Bring-up messages of a lane, and its losses (R82 to R98). -/
def Obligations.LinkLanes : Prop := ∀ (s : State) (x : Nat), coreUp s = true → x < 64 →
  let y := laneGroup s x
  (∀ p, okPayload 1 p = true → grpState s y = grpCapx → x ∈ s.image.groupLanes y →
    (∃ z ∈ s.image.groupLanes y, z ≠ x ∧ KV.get s.feCap z = none) →
    Effect (.feCap x p) s [(HL_ULANE_STATUS.slot, x, (feCapOf p).slot)] (fun s => { s with feCap := KV.put natLt s.feCap x (feCapOf p) }))
  ∧ (grpState s y = grpSettle → s.on X.hl_lane_ok x = true → (∃ z ∈ s.image.groupLanes y, z ≠ x ∧ s.on X.hl_lane_ok z = true ∧ s.get X.hl_acked z = 0) →
      ∀ p, okPayload 4 p = true → ackSetCode p = 0 → ackSetCopies s y p = true → Sets (.ackSet x p) s [(X.hl_acked, x, 1)])
  ∧ (∀ d e t, laneState s x = laneTrain → eyeOk s (eyeHeight d e) (eyeWidth t) = true → s.on HL_HEAD_CFG.suspended (s.image.headOf x) = false →
      s.on X.hl_was_up x = false → s.on X.hl_redo x = false → grpState s y ≠ grpTrain →
      Gives (.laneActive x d e t) s (((setEye x d e t (laneFresh x s)).clear X.hl_fw_retrain x).set X.hl_was_up x 1))
  ∧ (laneState s x = laneActive → Gives (.lockLoss x) s (laneLoss x (s.inc HL_ULANE_ERR.lock_loss x)))
  ∧ (laneState s x = laneRecover → max (s.get HL_CTRL.attempts) (min 1 (s.get X.hl_fw_retrain x)) ≤ s.get HL_ULANE_STATUS.attempts_used x →
      Gives (.retrainAttemptTimeout x) s (laneFail x (s.clear X.hl_fw_retrain x)))
  ∧ (grpState s y = grpActive → laneState s x = laneFailed → Gives (.laneRetrain x) s
      (laneRetrain x ((suspend (s.image.headOf x) 1 (gateOff (s.image.headOf x) gateLane s)).set X.hl_fw_retrain x 1)))
  ∧ Gives (.laneSleep x) s (laneToSleep 3 x s)
  ∧ Gives (.laneWake x) s (laneWake x s)
  ∧ Sets (.clearLaneErr x) s [(HL_ULANE_ERR.lock_loss, x, 0), (HL_ULANE_ERR.seq_gap, x, 0), (HL_ULANE_ERR.crc_err, x, 0)]
  ∧ (∀ d e v, laneState s x = laneSleep → s.on X.hl_waking x = true → eyeOk s (eyeHeight d e) (eyeWidth v) = true → s.get X.hl_redo x = 0 →
      s.get HL_HEAD_CFG.susp_cause (s.image.headOf x) ≠ 3 → s.get HL_HEAD_CFG.susp_cause (s.image.headOf x) ≠ 4 →
      Gives (.wakeAdaptDone x d e v) s (setEye x d e v (laneFresh x s)))
  ∧ (∀ d e v, laneState s x = laneActive → eyeOk s (eyeHeight d e) (eyeWidth v) = true →
      Gives (.eyeRefresh x d e v) s ((setEye x d e v s).set HL_ULANE_EYE.valid x 1))

/-- The downstream lane of a group: its losses and its recovery (R86, R94). -/
def Obligations.LinkDownstream : Prop := ∀ (s : State) (g : Nat), coreUp s = true → g < 16 →
  (∀ c, c = 5 ∨ c = 7 ∨ c = 8 ∨ c = 9 → Gives (.downstreamLaneLoss g c) s (downLoss g c s))
  ∧ Gives (.transmitterPllUnlock g) s (downLoss g 5 s)
  ∧ (s.on X.hl_down_lost g = true → s.on HL_CTRL.auto_retrain = true → s.get HL_GROUP_STATUS.attempts_used g < s.get HL_CTRL.attempts →
      Gives (.downstreamRebringUp g) s (enterDetect g ((s.inc HL_GROUP_STATUS.attempts_used g).clear X.hl_by_action g)))
  ∧ (s.on X.hl_down_lost g = true → s.on HL_CTRL.auto_retrain = false →
      Gives (.downstreamRebringUp g) s (groupFail g (s.get HL_GROUP_STATUS.cause g) (s.clear X.hl_down_lost g)))
  ∧ (∀ k m, (KV.getD s.ctSent g [])[k]? = some m →
      (m.tries < 4 → Gives (.ctAnswerTimeout g k) s
        (ctEmit g m { s with ctSent := kset [] s.ctSent g ((KV.getD s.ctSent g []).set k { m with tries := m.tries + 1 }) }))
      ∧ (4 ≤ m.tries → m.fw = true → Gives (.ctAnswerTimeout g k) s (downLoss g 8
        (State.alarm { s with ctSent := kset [] s.ctSent g ((KV.getD s.ctSent g []).eraseIdx k) } HL_INT.ct_fail 0 10 g))))
  ∧ (∀ k, (KV.getD s.ctSent g [])[k]? = none → Sets (.ctAnswerTimeout g k) s [])
  ∧ (∀ hi, 32 ≤ ((KV.getD s.ctHeld g []).filter (fun m => m.fw)).length → Sets (.ctMessageQueue g hi) s [(HL_INT.tx_drop, 0, 1)])
  ∧ (∀ hi, ((KV.getD s.ctHeld g []).filter (fun m => m.fw)).length < 32 →
      let lo := s.get HL_CT_TXLO.bytes g
      let len := if lo % 256 / 64 = 0 then 4 else if lo % 256 / 64 = 1 then 8 else 16
      Gives (.ctMessageQueue g hi) s (ctQueue g
        ⟨lo / 256 % 256, lo % 256, (((leBytes lo 8 ++ leBytes hi 8).map (fun b => b.toNat)).take len).drop 2, true, 0⟩ s))
  ∧ Gives (.ctReceiveDequeue g) s (ctShow g { s with ctRx := kset [] s.ctRx g ((KV.getD s.ctRx g []).drop 1) })

/-- Front-end messages: answers, status, register data, faults, eye reports (R79, R97); and an upstream frame of an ACTIVE lane, good or
bad by its CRC, its type and its sequence number (R70, R71, R73, R76). -/
def Obligations.LinkMessages : Prop := ∀ (s : State) (x : Nat), coreUp s = true → x < 64 →
  let y := laneGroup s x
  (∀ slot op r, (ctTake y slot op s).1 = none → Sets (.ack x slot op r) s [])
  ∧ (∀ slot op r m, (ctTake y slot op s).1 = some m → m.fw = false → Gives (.ack x slot op r) s (ackEffect x m r (ctTake y slot op s).2))
  ∧ (∀ slot op r m, (ctTake y slot op s).1 = some m → m.fw = true → Gives (.ack x slot op r) s
      (ackEffect x m r (ctReceive y (0x11 + slot * 2 ^ 8 + op * 2 ^ 16 + r * 2 ^ 24) 0 (ctTake y slot op s).2)))
  ∧ (∀ slot pre post, (ctTake y slot 0x06 s).1 = none →
      Sets (.txeqAck x slot pre post) s [(HL_ULANE_EQ.tx_pre, x, pre), (HL_ULANE_EQ.tx_post, x, post)])
  ∧ (∀ slot c, c < 256 → slot < 16 → let h := 16 * (x / 16) + slot
      Sets (.status x slot 0 c) s [(HL_GROUP_STATUS.fe_safe, y, 0), (X.fe_flags, h, 0), (X.fe_cause, h, c), (X.fe_window, h, 0)])
  ∧ (∀ slot ra d, Gives (.regData x slot ra d) s
      (ctReceive y (0x51 + slot * 2 ^ 8 + ra % 65536 * 2 ^ 16 + d % 2 ^ 32 * 2 ^ 32) 0 (ctTake y slot 0x08 s).2))
  ∧ (∀ slot code d, slot < 16 → let h := 16 * (x / 16) + slot
      Gives (.fault x slot code d) s ((suspend h 5 (gateOff h gateLane
        (ctReceive y (0x52 + slot * 2 ^ 8 + code % 256 * 2 ^ 16 + d % 2 ^ 32 * 2 ^ 32) 0 s))).alarm HL_INT.fe_fault 0 10 x))
  ∧ (∀ h w b, h < 256 → w < 256 → Sets (.eyeDs x h w b) s [(X.ds_eye_h, y, h), (X.ds_eye_w, y, w), (HL_GROUP_STATUS.dcrc, y, min b 65535)])
  ∧ (∀ a, a < 4 → allOff s a = true → Sets (.hlrefStop a) s [(X.hlref, a, 0)])
  ∧ (∀ l, okLevels l = true → laneState s x = laneActive →
      let p := receiveFrame x l s
      (crcGood p.1 = true → frameTypeOk (hdrType p.1) = true → (p.2.get X.hl_seq_known x = 0 ∨ hdrSeq p.1 = seqDue p.2 x) →
        Gives (.upstreamFrame x l) s (goodFrame x p.1 p.2))
      ∧ ((crcGood p.1 = false ∨ frameTypeOk (hdrType p.1) = false ∨ (p.2.get X.hl_seq_known x ≠ 0 ∧ hdrSeq p.1 ≠ seqDue p.2 x)) →
        Gives (.upstreamFrame x l) s (badFrame x p.1 p.2)))

/-! Detection, DP. -/

/-- A request for a flume that nothing of R106 refuses waits for the arbiter, or goes on the flume that the thread keeps for the head; a
refused one is answered with its code; a thread holds one request for a slot (R104, R106, R166, R251). -/
def Obligations.FlumeRequests : Prop := ∀ (s : State) (q t : Nat) (r : FlumeReq), coreUp s = true → q < 4 → t < 4 → r.handover = false →
  let u := s.clearBitOf X.sq_fref (thrNo q t) (r.head % 16)
  ((slotsBusy s q t).contains (r.head % 16) = true → Sets (.flumeRequest q t r) s [])
  ∧ ((slotsBusy s q t).contains (r.head % 16) = false → flumeKept u q t r.head = none →
      (refusalCode u r none true = 0 →
        Effect (.flumeRequest q t r) s [(X.sq_fref, thrNo q t, clearBit (s.get X.sq_fref (thrNo q t)) (r.head % 16))]
          (fun s => { s with flumeReqs := s.flumeReqs ++ [⟨q, t, r, s.dtime, none⟩] }))
      ∧ (refusalCode u r none true ≠ 0 → Gives (.flumeRequest q t r) s (flumeRefuse (refusalCode u r none true) q t r none u)))
  ∧ ((slotsBusy s q t).contains (r.head % 16) = false → ∀ f, flumeKept u q t r.head = some f →
      (refusalCode u r (some f) true = 0 → Gives (.flumeRequest q t r) s (flumeAttach f ⟨q, t, r, 0, 0⟩ u))
      ∧ (refusalCode u r (some f) true ≠ 0 → Gives (.flumeRequest q t r) s (flumeRefuse (refusalCode u r (some f) true) q t r (some f) u)))

/-- The arbiter: disabled it grants nothing; enabled it serves the first request it can, in the order urgent first, then by issue (R102
to R105). The handover of a held flume: granted where the gap is at least min_gap and nothing of R106 refuses the incoming head, and
refused with 7 for a shorter gap; it switches after the outgoing request's last sector (R107, R108). -/
def Obligations.FlumeGrants : Prop := ∀ s : State, coreUp s = true →
  (s.get DP_CTRL.enable = 0 → Sets .flumeGrant s [])
  ∧ (∀ u, s.get DP_CTRL.enable ≠ 0 → (flumeOrder (flumeRejudge s)).findSome? (fun w => flumeServe w (flumeRejudge s)) = some u →
      Gives .flumeGrant s u)
  ∧ (∀ q t r gap f, q < 4 → t < 4 → heldFlume s q t = some f →
      let u := { s with flumeReqs := s.flumeReqs.filter (fun w => !(w.seq == q && w.thr == t && w.req.handover)) }
      (refusalCode u r (some f) true = 0 → s.get DP_CTRL.min_gap ≤ gap →
        Gives (.handover q t r gap) s (flumeShow f (setFlume f { flumeOf u f with incoming := some ⟨q, t, r, 0, 0⟩ } u)))
      ∧ (refusalCode u r (some f) true = 0 → gap < s.get DP_CTRL.min_gap → Gives (.handover q t r gap) s (flumeRefuse 7 q t r (some f) u))
      ∧ (refusalCode u r (some f) true ≠ 0 → Gives (.handover q t r gap) s (flumeRefuse (refusalCode u r (some f) true) q t r (some f) u)))
  ∧ (∀ f j gap, f < 32 → (flumeOf s f).cur = some j →
      (j.req.count ≤ j.next → Gives (.handoverSwitch f gap) s (flumeSwitch f s)) ∧ (j.next < j.req.count → Sets (.handoverSwitch f gap) s []))
  ∧ (∀ f j gap, f < 32 → (flumeOf s f).cur = none → (flumeOf s f).incoming = some j → s.get DP_CTRL.min_gap ≤ gap →
      Gives (.handoverSwitch f gap) s (flumeSwitch f s))

/-- Sync search, sector end and decode in a flume (R116 to R122, R128, R131): the best mark in the window is taken, a missed one is bridged
or ends the sector with status 4; the sector's code word goes to the decoder, or ends with status 5 where that is full; a decoded word's
result is posted, with its user bytes stored for a read. A flume with no sector in that state changes nothing. -/
def Obligations.FlumeSectors : Prop := ∀ (s : State) (f : Nat), coreUp s = true → f < 32 →
  (∀ j, (flumeOf s f).cur = some j → (flumeOf s f).sync = none → j.req.purpose ≠ 1 → j.next < j.req.count →
    (∀ b, bestMark (syncMarks s j) = some b →
      Effect (.syncSearchEnd f) s [] (setFlume f { flumeOf s f with sync := some (syncTaken s j (syncMarks s j) b) }))
    ∧ (bestMark (syncMarks s j) = none → s.on DP_SYNC.bridge = true →
      Effect (.syncSearchEnd f) s [] (setFlume f { flumeOf s f with
        sync := some { noSync with pos := (syncPredicted s j).toNat, bridged := true } }))
    ∧ (bestMark (syncMarks s j) = none → s.on DP_SYNC.bridge = false → Gives (.syncSearchEnd f) s (syncMissed f j s)))
  ∧ ((flumeOf s f).cur = none ∨ (flumeOf s f).sync ≠ none ∨ (∃ j, (flumeOf s f).cur = some j ∧ (j.req.purpose = 1 ∨ j.req.count ≤ j.next)) →
      Sets (.syncSearchEnd f) s [])
  ∧ (∀ j y, (flumeOf s f).cur = some j → (flumeOf s f).sync = some y →
      (∃ p, p = accumulate f j.req.acc (sectorSoft s j y) (sectorAdapt j y s (sectorTake f j s))
        ∧ Gives (.sectorEnd f) s (sectorDecode f j (syncFinal s j y) (sectorMse s j y) p.1 p.2))
      ∧ (j.req.acc = 0 → adapts s j (syncFinal s j y) = false → (flumeOf s f).dec.length < 2 →
        let u := sectorTake f j s
        Gives (.sectorEnd f) s (sectorDone f j (setFlume f { flumeOf u f with
          cur := some { j with next := j.next + 1 }, sync := none,
          dec := (flumeOf u f).dec ++ [⟨j, j.next, syncFinal s j y, sectorMse s j y, headTrack u j.req.head, sectorSoft s j y, true⟩] } u))))
  ∧ ((flumeOf s f).cur = none ∨ (flumeOf s f).sync = none → Sets (.sectorEnd f) s [])
  ∧ (∀ x rest, (flumeOf s f).dec = x :: rest →
      let r := x.job.req
      let out := decodeWord x.soft (if r.iter = 1 then s.get DP_ITER.recovery_max else s.get DP_ITER.inline_max)
      let st := decodeStatus out (s.image.surf r.head) (sectorAt s r x.idx) x.track
      let u := flumeRest f (flumeShow f (setFlume f { flumeOf s f with dec := rest } s))
      (x.live = false → Gives (.decodeDone f) s u)
      ∧ (x.live = true → r.purpose ≠ 0 → Gives (.decodeDone f) s (postSector x.job x.idx st out.iterations x.sync x.mse out.unsat u))
      ∧ (x.live = true → r.purpose = 0 →
        let v := u.cisternPut (r.dest + 4096 * x.idx) (decodedUser out)
        let v := if st = 0 then takeSector x.job (sectorAt v r x.idx) x.track (decodedUser out) v else v
        Gives (.decodeDone f) s (postSector x.job x.idx st out.iterations x.sync x.mse out.unsat v)))
  ∧ ((flumeOf s f).dec = [] → Sets (.decodeDone f) s [])

/-- A flume's other commands: idle release, fault, detach, accumulator (R103, R104, R106, R133). -/
def Obligations.FlumeControl : Prop := ∀ (s : State) (f : Nat), coreUp s = true → f < 32 →
  (s.get DP_FLUME_STATUS.state f = 1 → Gives (.idleRelease f) s (flumeOff f s))
  ∧ (s.get DP_FLUME_STATUS.state f ≠ 1 → Sets (.idleRelease f) s [])
  ∧ Gives (.flumeFault f) s (flumeFail f s)
  ∧ (s.get DP_FLUME_STATUS.state f = 5 → Sets (.flumeFault f) s [])
  ∧ (∀ j, (flumeOf s f).cur = some j → j.req.purpose ≠ 1 → (flumeOf s f).incoming = none → Gives (.detachNow f) s (flumeEndNow f 6 10 s))
  ∧ (∀ j, (flumeOf s f).cur = some j → j.req.purpose = 1 →
      let u := gateOff j.req.head gateAbort s
      (flumeOf u f).incoming = none → Gives (.detachNow f) s (flumeEndNow f 6 10 u))
  ∧ (∀ j i, (flumeOf s f).cur = some j → j.req.purpose ≠ 1 → (flumeOf s f).incoming = some i →
      Gives (.detachNow f) s (flumeOrphan f (flumeRefuse 10 j.seq j.thr j.req (some f) (sectorCut (flumeOf s f) j 6 s))))
  ∧ Effect (.clearAccumulator f) s [] (fun s => { s with dpSums := KV.del s.dpSums f })

/-- Calibration records and heads: a copy, a firmware write (turned away while a front half holds the record), stale marks, the valid
bits, the quality counters (R126, R130, R132). -/
def Obligations.Calibration : Prop := ∀ (s : State) (h : Nat), coreUp s = true → h < 64 →
  (let k := s.get DP_CAL_COPY.index
   Sets .calCopy s ((List.range 16).map (fun w => (DP_CAL_BUF.word, w, s.get DP_CAL.word (16 * k + w))) ++
     [(DP_CAL_COPY.done, 0, 1), (DP_INT.copy_done, 0, 1)]))
  ∧ (∀ core a i v, core < 8 → locateAddr a = some (DP_CAL, i, 0) → a % 8 = 0 →
      (calHeld s (i / 16) = true → Effect (.calRecordWrite core a 64 v) s [(DP_INT.cal_busy, 0, 1)]
        (fun s => { s with bus := some { core := core, err := false, data := 0 } }))
      ∧ (calHeld s (i / 16) = false → Effect (.calRecordWrite core a 64 v) s
        [(DP_CAL.word, i, calWordKept i v), (DP_HEAD_STATE.stale, i / 16 / 96, 1), (DP_HEAD_STATE.stale_cause, i / 16 / 96, 1)]
        (fun s => { s with bus := some { core := core, err := false, data := 0 } })))
  ∧ Sets (.markStale h) s [(DP_HEAD_STATE.stale, h, 1), (DP_HEAD_STATE.stale_cause, h, 5)]
  ∧ Gives (.clearValid h) s (s.each (List.range 96) (fun k t =>
      if calHeld t (96 * h + k) then t.raise DP_INT.cal_busy else t.clearBitOf DP_CAL.word (16 * (96 * h + k)) 63))
  ∧ Gives (.clearQualityCounters h) s (s.each (List.range 48) (fun b t =>
      (t.resetReg DP_QUAL_A (48 * h + b)).resetReg DP_QUAL_B (48 * h + b)))

/-! The write path, WP. -/

/-- The key registers: a load or zeroise by any core but the security core is denied; the security core's takes effect at once where no
data unit uses its slot, else it is busy until none does; then the slot holds the key or none (R138, R139). -/
def Obligations.Keys : Prop := ∀ s : State, coreUp s = true →
  let k := s.get WP_XTS_KEY_CTRL.slot
  let asked := fun (act : Nat) => (s.set X.key_act 0 act).set X.key_slot 0 k
  (∀ core, core < 10 → core ≠ secCore →
      Sets (.keyLoad core) s [(WP_INT.key_denied, 0, 1)] ∧ Sets (.keyZeroise core) s [(WP_INT.key_denied, 0, 1)])
  ∧ (s.on WP_XTS_KEY_CTRL.busy = true → Sets (.keyLoad secCore) s [] ∧ Sets (.keyZeroise secCore) s [])
  ∧ (s.on WP_XTS_KEY_CTRL.busy = false →
      (slotInUse (asked 1) k = true → Sets (.keyLoad secCore) s [(WP_XTS_KEY_CTRL.busy, 0, 1), (WP_XTS_KEY_CTRL.done, 0, 0),
        (X.key_act, 0, 1), (X.key_slot, 0, k)])
      ∧ (slotInUse (asked 2) k = true → Sets (.keyZeroise secCore) s [(WP_XTS_KEY_CTRL.busy, 0, 1), (WP_XTS_KEY_CTRL.done, 0, 0),
        (X.key_act, 0, 2), (X.key_slot, 0, k)])
      ∧ (slotInUse (asked 1) k = false → Gives (.keyLoad secCore) s (keyDone (asked 1)))
      ∧ (slotInUse (asked 2) k = false → Gives (.keyZeroise secCore) s (keyDone (asked 2))))
  ∧ (s.on WP_XTS_KEY_CTRL.busy = true → slotInUse s (s.get X.key_slot) = false → s.get X.key_act = 1 → Effect .keyActionComplete s
      ((List.range 8).map (fun i => (X.key_word, i, 0)) ++
        [(WP_XTS_SLOTS.loaded, 0, setBit (s.get WP_XTS_SLOTS.loaded) (s.get X.key_slot)), (WP_XTS_KEY_CTRL.busy, 0, 0),
         (WP_XTS_KEY_CTRL.done, 0, 1), (X.key_act, 0, 0)])
      (fun s => { s with
        keys := KV.put natLt s.keys (s.get X.key_slot) ((List.range 8).foldl (fun n i => n + s.get X.key_word i * 2 ^ (64 * i)) 0) }))
  ∧ (s.on WP_XTS_KEY_CTRL.busy = true → slotInUse s (s.get X.key_slot) = false → s.get X.key_act = 2 → Effect .keyActionComplete s
      [(WP_XTS_SLOTS.loaded, 0, clearBit (s.get WP_XTS_SLOTS.loaded) (s.get X.key_slot)), (WP_XTS_KEY_CTRL.busy, 0, 0),
       (WP_XTS_KEY_CTRL.done, 0, 1), (X.key_act, 0, 0)]
      (fun s => { s with keys := KV.del s.keys (s.get X.key_slot) }))
  ∧ (s.on WP_XTS_KEY_CTRL.busy = true → slotInUse s (s.get X.key_slot) = true → Sets .keyActionComplete s [])


/-- Write gate, shock, the end and the verdict of a written sector, rewrites (R146 to R163): the gate rises when every condition of R146
holds, and not outside the temperature window; a shock trip removes every gate while it is enabled; a rewrite places its unit again, or
fails its command after the attempts of WP_REWRITE.max. -/
def Obligations.WriteRuns : Prop := ∀ (s : State) (h : Nat), coreUp s = true → h < 64 →
  (KV.get s.wruns h = none → Sets (.writeGateAssert h) s [] ∧ Sets (.writeSectorEnd h) s [] ∧ Sets (.verifyResult h) s [])
  ∧ (∀ r, KV.get s.wruns h = some r → writing s h = false → s.on X.wp_ended h = false → gateOk s h r = true → needsSet s h r.band = false →
      let u := assertGate h r (alignVerify h r s)
      (tempsOk s h = true → Gives (.writeGateAssert h) s
        ((u.clear X.wp_peak h).set X.wp_first_sector h ((r.first + r.idx) % trackSectors u h r.band)))
      ∧ (tempsOk s h = false → Sets (.writeGateAssert h) s [(WP_INT.window, 0, 1)]))
  ∧ (∀ r, KV.get s.wruns h = some r → (writing s h = true ∨ s.on X.wp_ended h = true) → Sets (.writeGateAssert h) s [])
  ∧ (s.on WP_SHOCK.enable = true → Gives .shockTrip s (((gateOffAll gateShock s).set X.wp_hold_off 0 1).raise WP_INT.shock))
  ∧ (s.on WP_SHOCK.enable = false → Sets .shockTrip s [])
  ∧ Sets .shockHoldoffEnd s [(X.wp_hold_off, 0, 0)]
  ∧ (∀ r, KV.get s.wruns h = some r → r.opened = true →
      let ended := s.on X.wp_ended h || s.get X.wp_remove h != 0
      let t := ((endRemoval h (flumeWrote h s)).clear X.wp_ended h).clear X.wp_vfail h
      let t := if r.count ≤ r.idx + 1 then gateEnd h t else t.clear X.wp_sent h
      let gone := !r.armed || (ended && runOver t h)
      let t := setRun h { r with idx := r.idx + 1, marks := r.marks ++ [sectorMark s h], armed := !gone } t
      Gives (.writeSectorEnd h) s (if gone || (writeFlume t h).isNone then runFail h t else judgeKnown h t))
  ∧ (∀ r m, KV.get s.wruns h = some r → r.marks = 0 :: m →
      let v := verifyFinding s h r
      Gives (.verifyResult h) s (judgeKnown h (judgeSector h v.1 v.2 (verifyDrop h r s))))
  ∧ (∀ k u, s.rewrites[k]? = some u → u.out = false → partDispatched s u.zone = false →
      (s.get WP_REWRITE.max ≤ u.tries → Gives (.rewrite k) s (writeFault u s))
      ∧ (u.tries < s.get WP_REWRITE.max → Gives (.rewrite k) s (rewriteSend k u s)))
  ∧ (∀ k u, s.rewrites[k]? = some u → (u.out = true ∨ partDispatched s u.zone = true) → Sets (.rewrite k) s [])
  ∧ (∀ k, s.rewrites[k]? = none → Sets (.rewrite k) s [])

/-! The servo, SV. -/

/-- Servo fields, wedges and the failures of an engine (R180 to R188, R198, R210 to R212): a good field advances its head's wedge, a bad one
counts by its cause; an engine that is up is marked for the wedge. -/
def Obligations.ServoWedges : Prop := ∀ (s : State) (a : Nat), coreUp s = true → a < 4 →
  (∀ h fa fb, h < 64 → fa.code < 2 ^ 44 → fb.code < 2 ^ 44 →
      let f := demodField s h fa fb
      let u := gapSamples h (gapBegin h s)
      (s.image.populated h = false → Sets (.servoField h fa fb) s [])
      ∧ (s.image.populated h = true → samFound s h f = false → Gives (.servoField h fa fb) s (badWedge h 1 u))
      ∧ (s.image.populated h = true → samFound s h f = true → fieldCause s h f ≠ 0 →
        Gives (.servoField h fa fb) s (badWedge h (fieldCause s h f) (noteField h (fieldCause s h f) f u)))
      ∧ (s.image.populated h = true → samFound s h f = true → fieldCause s h f = 0 →
        Gives (.servoField h fa fb) s (goodWedge h f (noteField h 0 f u))))
  ∧ (∀ o, s.image.hasAct a = true → gated s = false → Gives (.servoWedgeEnd a o) s (wedgeEnd a o s))
  ∧ (∀ o, s.image.hasAct a = false ∨ gated s = true → Sets (.servoWedgeEnd a o) s [])
  ∧ (∀ e, e < 8 → engineUp s e = true → e % 2 = 0 → Sets (.servoDeadlineMiss e) s [(SV_INT.deadline, e / 2, 1),
      (SV_STATUS.deadline_miss, e / 2, min (s.get SV_STATUS.deadline_miss (e / 2) + 1) (2 ^ SV_STATUS.deadline_miss.width - 1)),
      (X.sv_miss0, e / 2, 1)])
  ∧ (∀ e, e < 8 → engineUp s e = true → e % 2 = 0 → Sets (.engineSelfCheck e) s [(X.sv_self0, e / 2, 1)])
  ∧ (∀ e, e < 8 → engineUp s e = true → e % 2 = 1 → Sets (.engineSelfCheck e) s [(X.sv_self1, e / 2, 1)])
  ∧ (∀ e, e < 8 → engineUp s e = false → Sets (.engineSelfCheck e) s [] ∧ Sets (.servoDeadlineMiss e) s [])
  ∧ (s.image.hasAct a = true → s.get SV_RED_STATUS.state a ≠ 2 →
      Sets (.legCheckFail a) s [(X.sv_setpoint, a, s.get X.sv_sp_prev a), (X.sv_leg_fail, a, 1)])

/-- Seeks, loads, parks and the comb plan (R193 to R202): a seek request is refused beyond the last position, while the loops are barred,
or when the arm does not follow a track. -/
def Obligations.ServoMoves : Prop := ∀ (s : State) (a : Nat), coreUp s = true → a < 4 →
  (∀ v, (maxPosition ≤ v % 2 ^ 32 ∨ svBarred s a = true ∨ ¬ (svState s a = svSeeking ∨ svState s a = svSettling ∨ svState s a = svTracking)) →
      Sets (.seekRequest a v) s [(SV_INT.refused, a, 1)])
  ∧ (∀ v, v % 2 ^ 32 < maxPosition → svBarred s a = false → svState s a = svTracking →
      Gives (.seekRequest a v) s (startSeek a (v % 2 ^ 32) (v.testBit 32) s))
  ∧ (s.image.hasAct a = true → svState s a ≠ svAcquiring → Gives (.loadAndAcquire a) s
      ((s.image.actHeads a).foldl (fun u h => ((u.clear X.sv_acqn h).clear X.sv_has h).clear X.sv_known h) (loadArm a s)))
  ∧ (s.image.hasAct a = true → s.get MP_PARK_STATUS.latch ≠ 0 → svState s a = svAcquiring → Sets (.loadAndAcquire a) s [])
  ∧ (svState s a = svAcquiring → Gives (.acquisitionFail a) s ((parkArm a s).alarm SV_INT.acq_fail a 13 a))
  ∧ (svState s a ≠ svAcquiring → Sets (.acquisitionFail a) s [])
  ∧ Gives (.park a) s (parkArm a s)
  ∧ (svState s a = svParked → Sets (.park a) s [])
  ∧ (s.on X.sv_plan_req a = true → (combPlan s a (s.get X.sv_plan_desc a)).length ≤ 1 →
      Effect (.combPlan a) s [(X.sv_plan_req, a, 0), (X.sv_plan_ok, a, 1)]
        (fun s => { s with combPlans := kset [] s.combPlans a (combPlan s a (s.get X.sv_plan_desc a)) }))
  ∧ (s.on X.sv_plan_req a = true → 1 < (combPlan s a (s.get X.sv_plan_desc a)).length →
      Effect (.combPlan a) s [(X.sv_plan_req, a, 0), (X.sv_plan_ok, a, 1), (SV_INT.comb_split, a, 1),
        (SV_STATUS.splits, a, min (s.get SV_STATUS.splits a + 1) (2 ^ SV_STATUS.splits.width - 1))]
        (fun s => { s with combPlans := kset [] s.combPlans a (combPlan s a (s.get X.sv_plan_desc a)) }))
  ∧ Sets (.clearSvCounters a) s [(SV_STATUS.splits, a, 0), (SV_STATUS.deadline_miss, a, 0), (SV_STATUS.sat_count, a, 0)]

/-- The trace, the injection and a forced switchover of an actuator's servo (R204 to R207, R216 to R218). -/
def Obligations.ServoTools : Prop := ∀ (s : State) (a : Nat), coreUp s = true → a < 4 →
  Sets (.traceArm a) s [(SV_TRACE_STATUS.state, a, 1), (SV_TRACE_STATUS.wrapped, a, 0), (SV_TRACE_STATUS.trig_index, a, 0),
    (X.sv_tr_n, a, 0), (X.sv_tr_post, a, 0), (X.sv_tr_dec, a, max 1 (s.get SV_TRACE_CTRL.decim a) - 1)]
  ∧ (s.get SV_TRACE_STATUS.state a = 1 → s.get SV_TRACE_CTRL.post a = 0 → Sets (.traceTriggerNow a) s
      [(SV_TRACE_STATUS.trig_index, a, s.get X.sv_tr_n a * 2 ^ s.get SV_TRACE_CTRL.nodes a), (X.sv_tr_post, a, 0),
       (SV_TRACE_STATUS.state, a, 3), (SV_INT.trace_done, a, 1)])
  ∧ (s.get SV_TRACE_STATUS.state a = 1 → s.get SV_TRACE_CTRL.post a ≠ 0 → Sets (.traceTriggerNow a) s
      [(SV_TRACE_STATUS.trig_index, a, s.get X.sv_tr_n a * 2 ^ s.get SV_TRACE_CTRL.nodes a), (X.sv_tr_post, a, 0),
       (SV_TRACE_STATUS.state, a, 2)])
  ∧ (s.get SV_TRACE_STATUS.state a ≠ 1 → Sets (.traceTriggerNow a) s [])
  ∧ (s.get SV_TRACE_STATUS.state a ≠ 3 → Sets (.traceStop a) s [(SV_TRACE_STATUS.state, a, 0)])
  ∧ (s.get SV_TRACE_STATUS.state a = 3 → Sets (.traceStop a) s [])
  ∧ (injNodeOk (s.get SV_INJ_CTRL.node a) = false → Sets (.injectionStart a) s [(SV_INT.refused, a, 1)])
  ∧ (injNodeOk (s.get SV_INJ_CTRL.node a) = true → s.get SV_TRACE_CTRL.trigger a ≠ 6 → Sets (.injectionStart a) s
      [(SV_INJ_CORR.sum, 4 * a, 0), (SV_INJ_CORR.sum, 4 * a + 1, 0), (SV_INJ_CORR.sum, 4 * a + 2, 0), (SV_INJ_CORR.sum, 4 * a + 3, 0),
       (X.sv_inj, a, 1), (X.sv_inj_n, a, 0), (X.sv_inj_phase, a, 0), (X.sv_lfsr, a, s.get SV_INJ_FREQ.step a % 2 ^ 31)])
  ∧ Sets (.injectionStop a) s [(X.sv_inj, a, 0), (X.sv_inj_val, a, 0)]
  ∧ (s.on X.sv_inj a = true → s.get SV_INJ_CTRL.length a ≤ s.get X.sv_inj_n a →
      Sets (.injectionEnd a) s [(X.sv_inj, a, 0), (X.sv_inj_val, a, 0), (SV_INT.inj_done, a, 1)])
  ∧ (s.get SV_RED_STATUS.state a ≠ 0 → Gives (.forcedSwap a) s (swapEnd a 3 s))
  ∧ (s.get SV_RED_STATUS.state a = 0 → svState s a ≠ svOff → svState s a ≠ svParked → s.on SV_RED_STATUS.swap_pending a = false →
      s.on X.sv_swap_check a = false →
      Sets (.forcedSwap a) s [(SV_RED_STATUS.swap_pending, a, 1), (SV_RED_STATUS.swap_result, a, 0), (X.sv_swap_n, a, 0)])
  ∧ (s.on SV_RED_STATUS.swap_pending a = true → Gives (.cancelSwap a) s (swapEnd a 3 s))
  ∧ (s.on SV_RED_STATUS.swap_pending a = false → Sets (.cancelSwap a) s [])

/-! The motors, MC. -/

/-- The spindle's commands and states (R222 to R235): starting, stopping by coasting and by braking, and what ends each state. -/
def Obligations.SpindleControl : Prop := ∀ s : State, coreUp s = true →
  (∀ v, s.on MC_CTRL.enable = true → v % 2 = 1 → v / 2 % 8 = 0 → Sets (.mcCtrlWrite v) s [(MC_CTRL.enable, 0, 1)])
  ∧ (∀ v, s.on MC_CTRL.enable = true → v % 2 = 0 → v / 2 % 8 = 0 → Gives (.mcCtrlWrite v) s (mcDisable (s.clear MC_CTRL.enable)))
  ∧ (s.get MP_PARK_STATUS.latch ≠ 0 → Sets .spindleStart s [])
  ∧ (s.get MP_PARK_STATUS.latch = 0 → Gives .spindleStart s (spinStart (s.set X.spin_over 0 1)))
  ∧ (spin s = spStopped → Sets .stopByCoasting s [(X.spin_over, 0, 1), (X.spin_curve, 0, 0), (X.spin_retry, 0, 0)])
  ∧ (spin s ≠ spStopped → Gives .stopByCoasting s (spinRundown (((s.set X.spin_over 0 1).clear X.spin_curve).clear X.spin_retry)))
  ∧ Gives .stopByBraking s (spinDown ((s.set X.spin_over 0 1).clear X.spin_curve))
  ∧ Gives .spindleGrant s (leaveCatch s)
  ∧ (spin s = spCatch → s.get X.spin_cross < 3 → Gives .catchTimeout s (leaveCatch (s.set X.spin_catch_out 0 1)))
  ∧ (spin s = spAlign → Gives .alignTimeout s (spinTo spRamp s))
  ∧ (spin s = spRamp → s.get X.spin_tries < s.get MC_SPIN_START.start_tries →
      Gives .rampTimeout s (spinRundown ((s.inc X.spin_tries).set X.spin_retry 0 1)))
  ∧ (spin s = spRamp → s.get MC_SPIN_START.start_tries ≤ s.get X.spin_tries →
      Gives .rampTimeout s ((spinRundown s).alarm MC_INT.start_fail 0 14 0))
  ∧ (spin s = spRundown → Gives .rundownTimeout s (spinStopped s))
  ∧ (spin s = spBrake → s.on X.spin_hold = true → Gives .brakeHoldEnd s (spinStopped s))
  ∧ (spin s = spCoast → s.get X.spin_known = 0 → Gives .reacquireTimeout s (flyPark s))
  ∧ (∀ d, s.get MP_PARK_STATUS.latch ≠ 0 → Sets (.idleDepthWrite d) s [])
  ∧ (∀ d, s.get MP_PARK_STATUS.latch = 0 →
      Gives (.idleDepthWrite d) s (applyCurve (((s.set MC_IDLE.depth 0 d).clear X.spin_over).clear X.spin_full)))

/-- What the spindle's sensing tells (R225 to R232): crossings, the observer, the speed loop. -/
def Obligations.SpindleSensing : Prop := ∀ s : State, coreUp s = true →
  (∀ v, Sets (.backEmfZeroCrossing false v) s [(X.spin_cross, 0, 0)])
  ∧ (∀ v, spin s = spCatch → Gives (.backEmfZeroCrossing true v) s
      (leaveCatch ((s.set X.spin_cross 0 (min 255 (s.get X.spin_cross + 1))).set MC_SPIN_STATUS.speed 0 v)))
  ∧ (∀ v, spin s = spRamp → s.get X.spin_cross < 5 → Sets (.backEmfZeroCrossing true v) s
      [(X.spin_cross, 0, s.get X.spin_cross + 1), (MC_SPIN_STATUS.speed, 0, v)])
  ∧ (∀ t v r, spin s = spRundown ∨ spin s = spBrake → Gives (.observerUpdate t v r) s (spinSpeed v s))
  ∧ (∀ t v r, spin s = spStopped ∨ spin s = spAlign → Sets (.observerUpdate t v r) s [])
  ∧ (spin s = spStopped ∨ spin s = spCoast → Sets .speedLoop s [(X.spin_out, 0, 0)])
  ∧ (∀ t v r, spin s = spSixStep → ∃ n l : Nat, Gives (.observerUpdate t v r) s
      (flySlow (judgeSpeed ((t + 65536 - s.get X.spin_theta) % 65536) (((((s.set X.spin_theta 0 t).set X.spin_lock_n 0 n).set MC_SPIN_STATUS.locked 0
        (b2n (decide (32 ≤ n)))).set X.spin_loss_n 0 l).set MC_SPIN_STATUS.speed 0 v)))
      ∧ (r < s.get MC_OBS_CFG.lock_thr → n = min 32 (s.get X.spin_lock_n + 1)) ∧ (s.get MC_OBS_CFG.lock_thr ≤ r → n = 0)
      ∧ (s.get MC_OBS_CFG.loss_thr < r → l = min 255 (s.get X.spin_loss_n + 1)) ∧ (r ≤ s.get MC_OBS_CFG.loss_thr → l = 0))
  ∧ (spin s = spSixStep ∨ spin s = spSine → ∃ i o : Int, o ≤ s.get MC_SPIN_RUN.run_ma ∧ -(s.get MC_SPIN_RUN.brake_ma : Int) ≤ o
      ∧ Gives .speedLoop s (judgeSpeed 0 ((((slewTarget s).setS X.spin_int 0 i).set X.spin_soft 0 (min 10 (s.get X.spin_soft + 1))).setS
        X.spin_out 0 o)))
  ∧ (spin s = spBrake → ∃ i o : Int, Gives .speedLoop s
      (judgeSpeed 0 (((s.setS X.spin_int 0 i).set X.spin_soft 0 (min 10 (s.get X.spin_soft + 1))).setS X.spin_out 0 o)))

/-- Motor faults and power (R224, R235, R239 to R241). -/
def Obligations.MotorFaults : Prop := ∀ (s : State) (a : Nat), coreUp s = true → a < 4 →
  (spinDriven s = false → Sets .spFlt s [(MC_INT.sp_fault, 0, 1)])
  ∧ (spinDriven s = true → Gives .spFlt s (((spinTo spCoast (s.raise MC_INT.sp_fault)).clear X.spin_known).clear X.spin_out))
  ∧ Gives (.vcmFlt a) s ((bridgeOff a ((s.set X.vcm_flt a 1).set MC_VCM_STATUS.mode a 4)).alarm MC_INT.vcm_fault 0 14 a)
  ∧ (s.on X.vcm_flt a = true → s.get X.act_lost a ≠ 1 → s.get X.vcm_phase a < 2 → armOut s a = false →
      Sets (.vcmFltClear a) s [(X.vcm_flt, a, 0), (MC_VCM_STATUS.mode, a, 0)])
  ∧ (s.on X.vcm_flt a = false → Sets (.vcmFltClear a) s [] ∧ Sets (.vcmFaultPersist a) s [])
  ∧ (s.on X.vcm_flt a = true → Gives (.vcmFaultPersist a) s (spinParked (loseAct a s)))
  ∧ (s.on X.brk_en = true → Gives .brkFlt s (overVoltage true (s.set X.chop_fault 0 1)))
  ∧ (s.on X.brk_en = false → spin s ≠ spBrake → Gives .brkFlt s ((s.set X.chop_fault 0 1).alarm MC_INT.brk_fault 0 14 0))
  ∧ Gives .overVoltage s (overVoltage false (s.set X.bus_ov 0 1))
  ∧ (∀ v, 4000 ≤ v → v ≤ s.get MC_BUS.brk_off →
      Sets (.brakeChopperSwitch v) s [(X.bus_ov, 0, b2n (decide (s.get MC_BUS.ov_thr ≤ v))), (X.brk_en, 0, 0)])
  ∧ Gives .powerLoss s (powerLoss s)
  ∧ (s.get X.vcm_phase a = 2 → s.get MC_VCM_STATUS.mode a = 2 → Gives (.retractVelocityEnd a) s
      ((((plRecord a (s.on X.vcm_ok a) s).set X.vcm_phase a 3).set MC_VCM_STATUS.mode a 3).clear MC_VCM_STATUS.loaded a))
  ∧ (s.get X.vcm_phase a ≠ 3 → Sets (.latchEnd a) s [])
  ∧ (s.get X.vcm_phase a = 3 → ∃ u, Gives (.latchEnd a) s (mcLateReset (spinParked u)) ∧ u.get MC_VCM_STATUS.parked a = 1
      ∧ u.get SV_STATUS.state a = svParked ∧ u.get X.vcm_phase a = 0 ∧ u.get MC_VCM_STATUS.mode a = 0)
  ∧ (∀ adc e, s.get MC_VCM_STATUS.mode a = 0 ∨ s.get MC_VCM_STATUS.mode a = 4 → Sets (.currentLoopTick a adc e) s
      [(X.vcm_hi_p, a, 0), (X.vcm_hi_n, a, 0), (X.vcm_end_p, a, 0), (X.vcm_end_n, a, 0), (MC_VCM_STATUS.depth, a, 0),
       (X.vcm_int, a, 0), (X.vcm_vel, a, 0),
       (MC_VCM_STATUS.current, a, toBits MC_VCM_STATUS.current.width (measuredCurrent s a adc))])
  ∧ (∀ adc e, let done := fun (t : State) => t.setS MC_VCM_STATUS.current a (measuredCurrent t a adc)
      (s.get MC_VCM_STATUS.mode a = 1 → Gives (.currentLoopTick a adc e) s (done (driveBridge a (currentLoop a (s.getS X.sv_setpoint a) s))))
      ∧ (s.get MC_VCM_STATUS.mode a = 3 → s.get MC_VCM_CFG.fs_ma a ≠ 0 → Gives (.currentLoopTick a adc e) s
        (done (driveBridge a (currentLoop a (towardRamp s a (s.get MC_VCM_RET.latch_ma a)) s))))
      ∧ (s.get MC_VCM_STATUS.mode a = 2 → s.get MC_VCM_CFG.fs_ma a ≠ 0 → s.get X.vcm_phase a = 2 →
        (s.get MC_VCM_RET.ret_vel a = 0 ∨ s.get MC_VCM_CAL.kb a = 0) → Gives (.currentLoopTick a adc e) s
        (done (driveBridge a (currentLoop a (towardRamp s a (s.get MC_VCM_RET.ret_ma a)) s)))))
  ∧ (∀ v, 4000 ≤ v → s.get MC_BUS.brk_off < v → s.get MC_BUS.brk_on ≤ v → spin s = spBrake → s.get X.chop_fault = 0 →
      Sets (.brakeChopperSwitch v) s [(X.bus_ov, 0, b2n (decide (s.get MC_BUS.ov_thr ≤ v))), (X.brk_en, 0, 1)])

/-! The media sequencers, SQ. -/

/-- The words that compute and branch (R247): an arithmetic word writes rd, g0 excepted, the condition of the word and the other threads
untouched; a branch, call or return whose condition is 0 and not inverted is taken; a fifth push and a return with nothing pushed fault with
code 6; JR through g14 unmasks events. -/
def Obligations.ComputeWords : Prop := ∀ (s : State) (q t : Nat),
  let w := wordOf s q t
  let a := gr s q t w.ra
  let b := gr s q t w.rb
  let k := thrNo q t
  let d := s.get X.sq_depth k
  let next := issuedCells s q t (pcOf s q t + 1)
  (Issues 0x00 q t s → Sets (.mwNop q t) s next)
  ∧ (Issues 0x01 q t s → Sets (.mwLdi q t) s (next ++ grCell q t w.rd w.imm))
  ∧ (Issues 0x02 q t s → Sets (.mwAdd q t) s (next ++ grCell q t w.rd (a + b + w.imm)))
  ∧ (Issues 0x03 q t s → Sets (.mwSub q t) s (next ++ grCell q t w.rd (a + (2 ^ 64 - b) + (2 ^ 64 - w.imm))))
  ∧ (Issues 0x04 q t s → Sets (.mwAnd q t) s (next ++ grCell q t w.rd (a &&& (b ||| w.imm))))
  ∧ (Issues 0x05 q t s → Sets (.mwOr q t) s (next ++ grCell q t w.rd (a ||| b ||| w.imm)))
  ∧ (Issues 0x06 q t s → Sets (.mwXor q t) s (next ++ grCell q t w.rd (a ^^^ b ^^^ w.imm)))
  ∧ (Issues 0x07 q t s → Sets (.mwExt q t) s (next ++ grCell q t w.rd (extField w a)))
  ∧ (Issues 0x08 q t s → Sets (.mwIns q t) s (next ++ grCell q t w.rd (insField w a b)))
  ∧ (Issues 0x09 q t s → w.cond = 0 →
      Sets (.mwBr q t) s (issuedCells s q t (if w.inv then pcOf s q t + 1 else w.target)))
  ∧ (Issues 0x0A q t s → w.cond = 0 → w.inv = false → d < 4 →
      Sets (.mwCall q t) s (issuedCells s q t w.target ++ [(X.sq_stk, 4 * k + d, pcOf s q t + 1), (X.sq_depth, k, d + 1)]))
  ∧ (Issues 0x0A q t s → w.cond = 0 → w.inv = false → 4 ≤ d →
      Gives (.mwCall q t) s (threadFault 6 q t (setPc q t (pcOf s q t) (issued s q t))))
  ∧ (Issues 0x0B q t s → w.cond = 0 → w.inv = false → 0 < d →
      Sets (.mwRet q t) s (issuedCells s q t (s.get X.sq_stk (4 * k + d - 1)) ++ [(X.sq_depth, k, d - 1)]))
  ∧ (Issues 0x0B q t s → w.cond = 0 → w.inv = false → d = 0 →
      Gives (.mwRet q t) s (threadFault 6 q t (setPc q t (pcOf s q t) (issued s q t))))
  ∧ (Issues 0x0C q t s → w.ra ≠ 14 → Sets (.mwJr q t) s (issuedCells s q t (gr s q t w.ra % 8192)))
  ∧ (Issues 0x0C q t s → w.ra = 14 → Sets (.mwJr q t) s (issuedCells s q t (gr s q t 14 % 8192) ++
      [(X.sq_masked, k, 0), (SQ_THR_STATE.state, k, thReady), (SQ_THR_STATE.cond, k, 0)]))

/-- Waiting, fetching, ending and signalling (R244 to R248, R254, R259). -/
def Obligations.WaitWords : Prop := ∀ (s : State) (q t : Nat),
  let w := wordOf s q t
  let k := thrNo q t
  (Issues 0x0D q t s → wordCond (issued s q t) q t w = true → Gives (.mwWait q t) s (condEffect q t w (issued s q t)))
  ∧ (Issues 0x0D q t s → wordCond (issued s q t) q t w = false → Sets (.mwWait q t) s
      (issuedCells s q t (pcOf s q t) ++ [(SQ_THR_STATE.state, k, thWaiting), (SQ_THR_STATE.cond, k, w.cond)]))
  ∧ (Issues 0x0E q t s → KV.get s.sqArrive k = none → Sets (.mwFetch q t) s
      (issuedCells s q t (pcOf s q t) ++ [(SQ_THR_STATE.state, k, thWaiting), (SQ_THR_STATE.cond, k, 1)]))
  ∧ (∀ o, Issues 0x0E q t s → KV.get s.sqArrive k = some o → Gives (.mwFetch q t) s (fetchOp q t (pcOf s q t) o (issued s q t)))
  ∧ (coreUp s = true → q < 4 → t < 4 → s.get SQ_THR_STATE.state k = thWaiting → gated s = false → interrupted q t w s = none →
      w.op ≠ 0x0E → wordCond s q t w = true →
      Gives (.waitWake q t) s (makeReady q t (setPc q t (pcOf s q t + 1) (condEffect q t w s))))
  ∧ (coreUp s = true → q < 4 → t < 4 → s.get SQ_THR_STATE.state k = thWaiting → gated s = false → interrupted q t w s = none →
      w.timeout ≠ 0 → Sets (.waitTimeout q t) s
        [(SQ_THR_STATE.pc, k, w.target), (SQ_THR_STATE.state, k, readyState s q t), (SQ_THR_STATE.cond, k, 0)])
  ∧ (Issues 0x0F q t s → holdsAny (issued s q t) q t = false →
      let u := endOp q t (w.imm % 256) (letGo q t (issued s q t))
      Gives (.mwEnd q t) s (makeReady q t (setPc q t (u.get SQ_VEC.addr (5 * q)) u)))
  ∧ (Issues 0x10 q t s → w.imm % 16 ≠ 1 → Sets (.mwPost q t) s (issuedCells s q t (pcOf s q t + 1)))
  ∧ (Issues 0x10 q t s → w.imm % 16 = 1 → Gives (.mwPost q t) s (ladPosted (thrNo q t) (gr s q t w.ra) (gr s q t w.rb) (issued s q t)))
  ∧ (Issues 0x11 q t s → Sets (.mwSig q t) s (issuedCells s q t (pcOf s q t + 1) ++
      [(SQ_INT.ucode, q, 1), (SQ_SIG.code, q, w.imm % 256), (SQ_SIG.thread, q, t)]))

/-- The read recovery ladder (R160 to R163, R165, R166, R170). A recovery result that microcode posts, for a thread with no operation, is
kept, of the part's own results the last 64, counted by its outcome under the final head, sets MS_RL_INT, and writes an event record where it
reached log_rung or lost the sector. Every attempt that the ladder plans has iter 1 and the fields of its rung, and keeps the head within
±1,000 nm at rung 3; a rung plans as many as MS_RL_CLASS allows. The recovery head is the one with the lower sum of unsat, on a tie the one
whose actuator wrote the data. The best setting of a rung is the one tried with the lowest sum, no settings at all among them. That rung 4 is
tried at offset 0, the 64 results and the one operation of rung 6 are the model's choices (log entries 96 and 113). -/
def Obligations.RecoveryLadder : Prop := ∀ s : State,
  (∀ q t, Issues 0x10 q t s → (wordOf s q t).imm % 16 = 1 → KV.get s.sqOps (thrNo q t) = none → KV.get s.ladNotes (thrNo q t) = none →
    let word := gr s q t (wordOf s q t).ra
    let track := gr s q t (wordOf s q t).rb
    let head := word / 2 ^ 46 % 64
    let rung := word / 2 ^ 43 % 8
    let outcome := word / 2 ^ 40 % 8
    let next := issuedCells s q t (pcOf s q t + 1)
    let own := s.recResults.filter (fun r => r.1 == 0)
    let keep := fun (u : State) => { u with recResults :=
      (if 64 ≤ own.length then s.recResults.erase (own.headD (0, (0, 0))) else s.recResults) ++ [(0, (track, word))] }
    (outcome = 0 → rung = 0 → 0 < s.get MS_RL_CTRL.log_rung → Effect (.mwPost q t) s next keep)
    ∧ (outcome = 0 → rung < s.get MS_RL_CTRL.log_rung →
        ∀ p ∈ [(1, MS_RL_HEAD_CNT0.rung1), (2, MS_RL_HEAD_CNT0.rung2), (3, MS_RL_HEAD_CNT1.rung3), (4, MS_RL_HEAD_CNT1.rung4),
          (5, MS_RL_HEAD_CNT1.rung5), (6, MS_RL_HEAD_CNT1.rung6)], p.1 = rung → s.get p.2 head < 2 ^ p.2.width - 1 →
        Effect (.mwPost q t) s (next ++ [(MS_RL_INT.recovered, 0, 1), (p.2, head, s.get p.2 head + 1)]) keep)
    ∧ (outcome = 0 → 1 ≤ rung → s.get MS_RL_CTRL.log_rung ≤ rung →
        ∀ p ∈ [(1, MS_RL_HEAD_CNT0.rung1), (2, MS_RL_HEAD_CNT0.rung2), (3, MS_RL_HEAD_CNT1.rung3), (4, MS_RL_HEAD_CNT1.rung4),
          (5, MS_RL_HEAD_CNT1.rung5), (6, MS_RL_HEAD_CNT1.rung6)], p.1 = rung →
        Gives (.mwPost q t) s ((((keep (issued s q t)).raise MS_RL_INT.recovered).inc p.2 head).event 2 head 0 [word, track]))
    ∧ (outcome = 3 → Gives (.mwPost q t) s ((((((keep (issued s q t)).inc MS_RL_HEAD_CNT2.urgent_stops head).raise MS_RL_INT.urgent_stop).raise
        MS_RL_INT.unrecovered)).event 2 head 2 [word, track]))
    ∧ ((outcome = 1 ∨ outcome = 2 ∨ outcome = 4) → Gives (.mwPost q t) s ((((keep (issued s q t)).inc MS_RL_HEAD_CNT2.unrecovered head).raise
        MS_RL_INT.unrecovered).event 2 head 1 [word, track])))
  ∧ (∀ l t, t ∈ ladPlan s l → 1 ≤ l.rung ∧ l.rung ≤ 6 ∧ t.iter = 1
      ∧ (l.rung ≠ 1 → t.shift = 0 ∧ t.runner = false)
      ∧ (l.rung < 3 → t.off = 0 ∧ t.alt = 0 ∧ t.weight = 0)
      ∧ (l.rung = 3 → t.alt = 0 ∧ t.weight = 0 ∧ (combOffset s l (ladHead s l) + puToNm s (ladHead s l / 16) t.off).natAbs ≤ 1000)
      ∧ (l.rung = 4 → 1 ≤ t.alt ∧ t.alt ≤ 8 ∧ t.off = 0 ∧ t.weight = 0 ∧ s.get DP_ALT_TARGET.target (t.alt - 1) ≠ 0)
      ∧ (5 ≤ l.rung → t.off = bestOff l (ladHead s l) ∧ t.alt = bestAlt l (ladHead s l))
      ∧ (l.rung = 6 → t.weight = bestWeight l (ladHead s l) ∧ t.acc = 1 ∧ t.combine = s.get MS_RL_CLASS.n_combine l.op.cls
          ∧ ∃ x ∈ l.secs, t.only = [x.sector])
      ∧ (l.rung ≠ 6 → t.acc = 0 ∧ t.combine = 0 ∧ t.only = []))
  ∧ (∀ l : Ladder, let c := l.op.cls
      (l.rung = 1 → (ladPlan s l).length = s.get MS_RL_CLASS.r1_tries c + (if s.get MS_RL_CLASS.runner_up c = 1 then 1 else 0)
        + min 4 (s.get MS_RL_CLASS.r1_shifts c))
      ∧ (l.rung = 2 → (ladPlan s l).length ≤ 1 ∧ (s.image.twin l.head0 = none → ladPlan s l = []))
      ∧ (l.rung = 3 → (ladPlan s l).length ≤ s.get MS_RL_CLASS.n_offsets c)
      ∧ (l.rung = 4 → (ladPlan s l).length ≤ s.get MS_RL_CLASS.n_targets c)
      ∧ (l.rung = 5 → (ladPlan s l).length ≤ s.get MS_RL_CLASS.n_weights c ∧ (s.get HL_HEAD_CFG.readers (ladHead s l) = 1 → ladPlan s l = []))
      ∧ (l.rung = 6 → (ladPlan s l).length = if s.get MS_RL_CLASS.n_combine c = 0 then 0 else l.secs.length))
  ∧ (∀ l : Ladder, (s.image.twin l.head0 = none → ladRec s l = l.head0)
      ∧ ∀ w a b, s.image.twin l.head0 = some w → ladSum l l.head0 = some a → ladSum l w = some b →
        (a < b → ladRec s l = l.head0) ∧ (b < a → ladRec s l = w)
        ∧ (a = b → ladRec s l = if w / 16 = writingAct s l.op.zone l.op.pos then w else l.head0))
  ∧ (∀ (l : Ladder) h,
      let plain := (ladSumOf l h zeroRead).getD 100000000
      let sum := fun (p : LadRead → Bool) (rung : Nat) => (ladSumOf l h (fun e => e.rung == rung && p e)).getD 100000000
      (∀ v ∈ triedAt l h 3 (fun t => t.off), sum (fun e => e.set.off == bestOff l h) 3 ≤ sum (fun e => e.set.off == v) 3 ∨ bestOff l h = 0)
      ∧ (∀ v ∈ triedAt l h 4 (fun t => t.alt), sum (fun e => e.set.alt == bestAlt l h) 4 ≤ sum (fun e => e.set.alt == v) 4 ∨ bestAlt l h = 0)
      ∧ (bestOff l h ≠ 0 → bestOff l h ∈ triedAt l h 3 (fun t => t.off) ∧ sum (fun e => e.set.off == bestOff l h) 3 < plain)
      ∧ (bestAlt l h ≠ 0 → bestAlt l h ∈ triedAt l h 4 (fun t => t.alt) ∧ sum (fun e => e.set.alt == bestAlt l h) 4 < plain)
      ∧ (bestWeight l h ≠ 0 → bestWeight l h ∈ triedAt l h 5 (fun t => t.weight)
        ∧ sum (fun e => e.set.weight == bestWeight l h) 5 < plain
        ∧ ∀ v ∈ triedAt l h 5 (fun t => t.weight), sum (fun e => e.set.weight == bestWeight l h) 5 ≤ sum (fun e => e.set.weight == v) 5))

/-- The words of the arm and of the servo (R190, R197, R247 to R250): the arm is granted at once when it is free; a servo word without
the arm faults with code 7. -/
def Obligations.ArmWords : Prop := ∀ (s : State) (q t : Nat),
  let w := wordOf s q t
  let u := issued s q t
  let next := issuedCells s q t (pcOf s q t + 1)
  (Issues 0x20 q t s → hasArm s q t = true → Sets (.mwArmAcq q t) s next)
  ∧ (Issues 0x20 q t s → hasArm s q t = false → s.get SQ_STATUS.arm_held q = 0 →
      ((∀ o, KV.get s.sqOps (thrNo q t) = some o → o.kind ≠ 8) → Sets (.mwArmAcq q t) s (next ++
        [(SQ_STATUS.arm_held, q, 1), (SQ_STATUS.arm_owner, q, t), (X.sq_want, thrNo q t, 0),
         (MS_ACT_STATE.arm_urgent, q, b2n (thrClass s q t == 0))]))
      ∧ Gives (.mwArmAcq q t) s (giveArm q t u))
  ∧ (Issues 0x21 q t s → Gives (.mwArmRel q t) s (releaseArm q t u))
  ∧ (Issues 0x22 q t s → hasArm s q t = true → Gives (.mwSeek q t) s (seekRequest q (gr s q t w.ra) (thrClass s q t == 0) u))
  ∧ (Issues 0x22 q t s → hasArm s q t = false → Gives (.mwSeek q t) s (threadFault 7 q t (setPc q t (pcOf s q t) u)))
  ∧ (Issues 0x23 q t s → hasArm s q t = true → Sets (.mwComb q t) s (next ++
      [(X.sv_plan_req, q, 1), (X.sv_plan_desc, q, gr s q t w.ra), (X.sv_plan_ok, q, 0)]))
  ∧ (Issues 0x24 q t s → hasArm s q t = true →
      Gives (.mwSubc q t) s (setGr q t w.rd (nextSub q (thrClass u q t == 0) u).1 (nextSub q (thrClass u q t == 0) u).2))
  ∧ (Issues 0x25 q t s → hasArm s q t = true → Gives (.mwOfs q t) s
      (setReadOffset (16 * q + gr u q t w.ra % 16) (signed 16 w.imm) (u.setBitOf X.sq_ofs (thrNo q t) (gr u q t w.ra % 16))))
  ∧ (Issues 0x26 q t s → Sets (.mwSpred q t) s (next ++ grCell q t w.rd (seekTime u q (gr s q t w.ra))))
  ∧ (Issues 0x27 q t s → hasArm s q t = true →
      Gives (.mwCrel q t) s ((releaseComb q (u.get X.sq_ofs (thrNo q t)) u).clear X.sq_ofs (thrNo q t)))

/-- The words of power, flumes, results and write runs (R247, R251 to R253). -/
def Obligations.ResourceWords : Prop := ∀ (s : State) (q t : Nat),
  let w := wordOf s q t
  let u := issued s q t
  let k := thrNo q t
  (Issues 0x28 q t s → (thrPorts s k).length < 8 →
      Gives (.mwPwrReq q t) s (hgRequest (gr u q t w.ra % 128) (w.imm % 16384) (thrClass u q t == 0) (200 + k) false u))
  ∧ (Issues 0x29 q t s → w.imm.testBit 15 = true → Gives (.mwPwrRel q t) s ((thrPorts u k).foldl (fun u p => hgRelease p (200 + k) u) u))
  ∧ (Issues 0x29 q t s → w.imm.testBit 15 = false → (thrPorts s k).contains (gr s q t w.ra % 128) = false →
      Sets (.mwPwrRel q t) s (issuedCells s q t (pcOf s q t + 1)))
  ∧ (Issues 0x2A q t s → let r := unpackReq (gr u q t w.ra) (gr u q t w.rb)
      ((slotsBusy u q t).contains (r.head % 16) && !r.handover) = false →
      Gives (.mwFlmReq q t) s (flumeAsk q t r (u.clearBitOf X.sq_fref k (r.head % 16))))
  ∧ (Issues 0x2B q t s → w.imm.testBit 15 = false → Gives (.mwFlmRel q t) s (flumeRelease q t (gr u q t w.ra % 16) u))
  ∧ (Issues 0x2C q t s → KV.getD s.sqRes k [] = [] → Gives (.mwResGet q t) s (setGr q t 12 0xFF (setGr q t w.rd ones64 u)))
  ∧ (∀ slot v r, Issues 0x2C q t s → KV.getD s.sqRes k [] = (slot, v) :: r →
      Gives (.mwResGet q t) s (setGr q t 12 slot (setGr q t w.rd v { u with sqRes := kset [] s.sqRes k r })))
  ∧ (∀ slot v r, Issues 0x2D q t s → KV.getD s.sqVres k [] = (slot, v) :: r →
      Gives (.mwVresGet q t) s (setGr q t 12 slot (setGr q t w.rd v { u with sqVres := kset [] s.sqVres k r })))
  ∧ (Issues 0x2E q t s → Gives (.mwWrArm q t) s (runArm q t (gr u q t w.ra % 16) u))
  ∧ (Issues 0x2F q t s → (runHeads u q t).contains (16 * q + gr u q t w.ra % 16) = true →
      Gives (.mwWrAbort q t) s (runAbort (w.imm.testBit 0) (16 * q + gr u q t w.ra % 16) u))

/-- Starting, halting, loading a sequencer (R259 to R261): a load and its words come from the security core alone, and end only from
LOADING; any other is denied. -/
def Obligations.SequencerControl : Prop := ∀ (s : State) (q : Nat), coreUp s = true → q < 4 →
  let st := s.get SQ_STATUS.state q
  (st = sqStopped → Gives (.sequencerStart q) s ((s.set SQ_STATUS.state q sqRunning).each (bitsOf 4 (s.get SQ_CTRL.thread_en q)) (fun t u =>
      if u.get SQ_THR_STATE.state (thrNo q t) = thFault then u else startThread q t u)))
  ∧ (st ≠ sqStopped → Sets (.sequencerStart q) s [])
  ∧ (st = sqRunning → Gives (.sequencerHalt q) s
      (haltCheck q ((s.set SQ_STATUS.state q sqHalting).each (List.range 4) (fun t u => leaveSoon q t 1 u))))
  ∧ (st = sqEmpty ∨ st = sqStopped ∨ st = sqFaulted → Sets (.beginLoad secCore q) s [(SQ_STATUS.state, q, sqLoading)])
  ∧ (∀ core, core < 10 → core ≠ secCore →
      Sets (.beginLoad core q) s [(SQ_INT.denied, q, 1)] ∧ Sets (.endLoad core q) s [(SQ_INT.denied, q, 1)]
      ∧ ∀ w h v, Sets (.controlStoreWrite core q w h v) s [(SQ_INT.denied, q, 1)])
  ∧ (st = sqLoading → Gives (.endLoad secCore q) s (endLoad q s))
  ∧ (∀ w h v, st = sqLoading → w < 8192 → Sets (.controlStoreWrite secCore q w h v) s [(SQ_CS.bits, (8192 * q + w) * 2 + h % 2, v)])
  ∧ (∀ v, v = s.get SQ_CTRL.thread_en q → v < 16 → Sets (.threadEnableWrite q v) s [])
  ∧ (∀ v, st = sqRunning → s.get SQ_CTRL.thread_en q = 0 → v < 16 → (∀ t, t < 4 → s.get X.sq_leave (thrNo q t) = 0) → Gives (.threadEnableWrite q v) s
      ((s.set SQ_CTRL.thread_en q v).each (bitsOf 4 v) (fun t u => startThread q t u)))
  ∧ (∀ w, st = sqRunning →
      let v := s.each (List.range 4) (fun t u =>
        (((abandon q t u).set SQ_THR_STATE.state (thrNo q t) thFault).clear SQ_THR_STATE.cond (thrNo q t)).clear X.sq_leave (thrNo q t))
      let v := (((v.set SQ_FAULT.code q 1).clear SQ_FAULT.thread q).set SQ_FAULT.pc q w).set SQ_STATUS.state q sqFaulted
      let v := v.alarm SQ_INT.cs_parity q 9 q [w]
      Gives (.csParity q w) s ((opsOf v q).foldl (fun u o => requeueTwin o u) (setOps q [] v)))
  ∧ (st ≠ sqRunning → st ≠ sqHalting → ∀ w, Sets (.csParity q w) s [])

/-! Zones, scheduling and compression: ZX, MS, CX. -/

/-- Namespaces, recovery and the journal (R263, R264, R271 to R273): a namespace that conflicts is not enabled; the replay restores what the
media holds or raises jrn_fail; up to 126 waiting entries are written at once. -/
def Obligations.ZoneTables : Prop := ∀ s : State, coreUp s = true →
  (∀ n, n < 64 → s.on ZX_NS.enable n = true → Sets (.nsEnable n) s [])
  ∧ (∀ n, n < 64 → s.on ZX_NS.enable n = false → nsConflict s n = true → Sets (.nsEnable n) s [(ZX_INT.ns_conflict, 0, 1)])
  ∧ (∀ n, n < 64 → s.on ZX_NS.enable n = false → nsConflict s n = false → s.on ZX_NS.pin n = false →
      Gives (.nsEnable n) s (showIndex n (s.set ZX_NS.enable n 1)))
  ∧ Sets .recover s [(X.zx_recovering, 0, 1)]
  ∧ (s.on X.zx_recovering = true → Sets (.recoveryComplete false) s [(X.zx_recovering, 0, 0), (ZX_INT.jrn_fail, 0, 1)])
  ∧ (s.on X.zx_recovering = true → s.get X.san_active = 0 → s.mediaZones = [] →
      Effect (.recoveryComplete true) s [(X.zx_recovering, 0, 0), (ZX_INT.recovered, 0, 1), (ZX_JRN_STATUS.active, 0, s.get X.zx_med_active),
        (ZX_JRN_STATUS.seq, 0, s.get X.zx_med_seq), (ZX_JRN_STATUS.used, 0, 0), (X.zx_ckpt, 0, 0)]
        (fun s => { s with zones := [], jrnWait := [], jrnPos := [] }))
  ∧ (s.on X.zx_recovering = false → ∀ ok, Sets (.recoveryComplete ok) s [])
  ∧ (s.on X.zx_stopped = true → Sets .checkpointNow s [] ∧ Sets .journalWrite s [])
  ∧ (s.on X.zx_stopped = false → Gives .checkpointNow s (jrnSwitch s))
  ∧ (s.on X.zx_stopped = false → s.on X.zx_ckpt = false → s.jrnWait.isEmpty = false → jrnFull s (s.get ZX_JRN_STATUS.active) = false →
      Gives .journalWrite s (jrnWrite (s.get ZX_JRN_STATUS.active) (s.jrnWait.take 126) { s with jrnWait := s.jrnWait.drop 126 }))

/-- The media scheduler (R278 to R290): nothing happens while it is disabled, in a reset, or under the park
latch; on a lost actuator queued reads only move or end; otherwise the operation picked goes to a free thread; slots follow one another. -/
def Obligations.Dispatching : Prop := ∀ (s : State) (a : Nat), coreUp s = true → a < 4 →
  ((s.get MS_CTRL.enable = 0 ∨ s.get ZX_CTRL.enable = 0 ∨ 2 ≤ s.get X.pwr_level ∨ s.get MP_PARK_STATUS.latch ≠ 0
      ∨ (s.get CR_ACT_STATUS.in_reset).testBit a = true) → Sets (.dispatch a) s [])
  ∧ (¬ (s.get MS_CTRL.enable = 0 ∨ s.get ZX_CTRL.enable = 0 ∨ 2 ≤ s.get X.pwr_level ∨ s.get MP_PARK_STATUS.latch ≠ 0
        ∨ (s.get CR_ACT_STATUS.in_reset).testBit a = true) → s.get X.act_lost a = 1 → Gives (.dispatch a) s (ladRecheck a (readRecheck s)))
  ∧ (¬ (s.get MS_CTRL.enable = 0 ∨ s.get ZX_CTRL.enable = 0 ∨ 2 ≤ s.get X.pwr_level ∨ s.get MP_PARK_STATUS.latch ≠ 0
        ∨ (s.get CR_ACT_STATUS.in_reset).testBit a = true) → s.get X.act_lost a ≠ 1 →
      let u := msReady a s
      let u := if (opsOf u a).isEmpty then u else leaveIdleA u
      let u := ((opsOf u a).filter (fun o => o.kind == 1 || o.kind == 4)).foldl (fun t o => askReservation o.zone (opEnd t o) t) u
      (pickOp u a = none → Gives (.dispatch a) s u)
      ∧ ∀ o aged, pickOp u a = some (o, aged) →
        (u.get SQ_STATUS.arm_held a = 1 ∧ o.cls ≠ 0 → Gives (.dispatch a) s u)
        ∧ (¬ (u.get SQ_STATUS.arm_held a = 1 ∧ o.cls ≠ 0) →
          (threadFor u a o.cls = none → Gives (.dispatch a) s u)
          ∧ ∀ t, threadFor u a o.cls = some t → Gives (.dispatch a) s (handOver a t o aged u).spend))
  ∧ Sets (.scheduleSlot a) s [(MS_ACT_STATE.slot_phase, a, (s.get MS_ACT_STATE.slot_phase a + 1) % max 1 (s.get MS_URG_CFG.slot_div))]

/-- The compression engines (R291 to R300): the first job goes to an idle engine; a compressed or an expanded chunk leaves its engine; a
fault puts the engine's jobs back; an idle engine is gated. -/
def Obligations.CompressionEngines : Prop := ∀ (s : State) (e : Nat), coreUp s = true → e < 8 →
  (cxFirst s = none → Sets .compressionJobStart s [])
  ∧ (∀ j k, cxFirst s = some j → s.get CX_CTRL.enable ≠ 0 → cxMay s j = true →
      ((List.range 8).filter (engUp s)).find? (fun e => (KV.get s.cxRun e).isNone && (KV.get s.cxSusp e).isNone) = some k →
      Gives .compressionJobStart s (cxBegin k j s))
  ∧ (∀ j k, KV.get s.cxRun e = some j → j.kind = 0 → j.retried = false → cxMay s j = true →
      let stream := deflate j.level (min (s.get CX_CFG.raw_limit) (4096 * j.blocks)) j.data
      let keep := fun (x : Extent) (t : State) => cxEnd e { t with packing := t.packing ++ [(x, j.job)] }
      (stream = none → Gives (.compressionDone e k) s (keep (jobExtent s j true j.data) (s.inc CX_STAT.raw)))
      ∧ ∀ p, stream = some p →
        (k = true → inflate (4096 * j.blocks) p = some j.data → Gives (.compressionDone e k) s (keep (jobExtent s j false p) s))
        ∧ ((k = false ∨ inflate (4096 * j.blocks) p ≠ some j.data) → Gives (.compressionDone e k) s
          (keep (jobExtent (s.alarm CX_INT.selfcheck 0 4 e [j.ns, j.chunk]) j true j.data) (s.alarm CX_INT.selfcheck 0 4 e [j.ns, j.chunk]))))
  ∧ (∀ j k, KV.get s.cxRun e = some j → j.kind = 0 → j.retried = true → cxMay s j = true →
      Gives (.compressionDone e k) s (shareSettled 2 j.job (cxEnd e s)))
  ∧ (∀ k, KV.get s.cxRun e = none → Sets (.compressionDone e k) s [] ∧ Sets (.expansionDone e) s [])
  ∧ (∀ j x, KV.get s.cxRun e = some j → j.kind ≠ 0 → cxMay s j = true → extentOf s j.ns j.chunk = some x →
      let out := expandExtent x j.data
      (out.1 = 0 → Gives (.expansionDone e) s (expansionGood j out.2 (cxEnd e s)))
      ∧ (out.1 ≠ 0 → Gives (.expansionDone e) s (expansionBad e out.1 j (cxEnd e s)))
      ∧ (out.1 = 0 → j.kind = 1 → Gives (.expansionDone e) s
        (ctxCheck j.job { cxEnd e s with expanded := KV.put pairLt (cxEnd e s).expanded (j.job, j.chunk) out.2 })))
  ∧ (∀ j k, KV.get s.cxRun e = some j → cxMay s j = false → Sets (.compressionDone e k) s [] ∧ Sets (.expansionDone e) s [])
  ∧ (s.get CX_ENG_STATUS.state e = 5 → Sets (.engineFault e) s [])
  ∧ (s.get CX_ENG_STATUS.state e ≠ 5 →
      let back := (KV.get s.cxRun e).toList ++ (KV.get s.cxSusp e).toList
      let u := { s with cxReady := back ++ s.cxReady, cxRun := KV.del s.cxRun e, cxSusp := KV.del s.cxSusp e }
      let u := ((u.set CX_ENG_STATUS.state e 5).clear CX_ENG_STATUS.suspended e).clear CX_ENG_STATUS.level e
      Gives (.engineFault e) s ((smartEvent u).alarm CX_INT.engine_fault 0 4 e))
  ∧ (s.get CX_ENG_STATUS.state e = 1 → cxPort s = none → Sets (.engineIdleGate e) s [(CX_ENG_STATUS.state, e, 0)])
  ∧ (s.get CX_ENG_STATUS.state e ≠ 1 → Sets (.engineIdleGate e) s [])

/-- Partial chunks and the index (R301 to R308). -/
def Obligations.CompressionIndex : Prop := ∀ s : State, coreUp s = true →
  (∀ n c, n < 64 → Gives (.partialChunkForce n c) s (forcePartial n c s))
  ∧ (∀ n c, n < 64 → s.partials.find? (fun p => p.ns == n && p.chunk == c) = none → Sets (.partialChunkForce n c) s [])
  ∧ Gives .indexCheckpoint s (indexCheckpoint s)
  ∧ Sets .rebuildIndex s [(X.cx_rebuild, 0, 1)]
  ∧ (s.on X.cx_rebuild = true → Effect (.rebuildComplete true) s [(X.cx_rebuild, 0, 0), (CX_INT.rebuilt, 0, 1)]
      (fun s => { s with extents := s.mediaExtents }))
  ∧ (s.on X.cx_rebuild = true → Sets (.rebuildComplete false) s [(X.cx_rebuild, 0, 0), (CX_INT.idx_fail, 0, 1)])
  ∧ (s.on X.cx_rebuild = false → ∀ ok, Sets (.rebuildComplete ok) s [])

/-! The host interface: HIF, QE. -/

/-- A host command's outcome stands in its context: the first failure stands, and a command that is to end without a completion frees its
context (R319, R323). -/
def Obligations.FirstFailureStands : Prop := ∀ (s : State) (c st : Nat) (x : Ctx), ctxOf s c = some x →
  (x.dead = true → ctxOf (ctxFinish c st s) c = none)
  ∧ (x.dead = false → ctxOf (ctxFinish c st s) c = some { x with stage := 3, status := if x.status = 0 then st else x.status })
  ∧ ∀ k, k ≠ c → ctxOf (ctxFinish c st s) k = ctxOf s k

/-- The links and the controllers (R309 to R314, R320, R323, R324, R388). -/
def Obligations.HostLinks : Prop := ∀ (s : State) (p : Nat), coreUp s = true → p < 2 →
  (portExists s p = true → s.on HIF_PORT_CFG.enable = true → s.get HIF_PORT_STATUS.perst p = 0 → s.get HIF_PORT_STATUS.dl_up p = 0 →
      s.get X.link_train p = 0 → s.get TH_STATUS.cutoff = 0 → imagelessState s = false → Effect (.linkTrainingStart p) s [(X.link_train, p, 1), (HIF_PORT_STATUS.ltssm, p, s.fresh)]
        (fun s => { s with freeCtr := s.freeCtr + 1 }))
  ∧ (s.on X.link_train p = true → portLanes s = 4 → Effect (.linkUp p 6 4) s
      [(X.link_train, p, 0), (HIF_PORT_STATUS.flit, p, 1), (HIF_PORT_STATUS.speed, p, 6), (HIF_PORT_STATUS.width, p, 4),
       (HIF_PORT_STATUS.dl_up, p, 1), (HIF_PORT_STATUS.ltssm, p, Config.free (s.freeCtr + 1)), (HIF_INT.link_up, 0, 1)]
      (fun s => { s with freeCtr := s.freeCtr + 2 }))
  ∧ (s.on X.link_train p = false → ∀ v w, Sets (.linkUp p v w) s [])
  ∧ (s.on HIF_PORT_STATUS.dl_up p = true → Gives (.dlDown p) s (ctlResetAll p (portDown p s)))
  ∧ (s.on HIF_PORT_STATUS.dl_up p = false → Sets (.dlDown p) s [])
  ∧ (portExists s p = true → Gives (.hotReset p) s (ctlResetAll p (portDown p s)))
  ∧ (∀ w, s.on HIF_PORT_STATUS.dl_up p = true → (w = 1 ∨ w = 2) → w < s.get HIF_PORT_STATUS.width p →
      Gives (.laneNarrowing p w) s (narrowPort p w s))
  ∧ Gives (.controllerReset p) s (ctlResetAll p s)
  ∧ (ctlExists s p = false → Sets (.controllerReset p) s [] ∧ (∀ v, Sets (.controllerEnable p v) s []) ∧ Sets (.shutdownNotification p) s [])
  ∧ (∀ v, ctlExists s p = true → s.on HIF_CTL_STATUS.en p = false → s.on X.ctl_down p = false → s.get HIF_PORT_STATUS.dl_up p ≠ 0 →
      s.on SB_STATUS.app_absent = true →
      Sets (.controllerEnable p v) s [(HIF_CTL_STATUS.en, p, 1), (HIF_CTL_STATUS.ams, p, v), (X.ctl_cfs, p, 1)])
  ∧ (∀ v n m, ctlExists s p = true → s.on HIF_CTL_STATUS.en p = false → s.on X.ctl_down p = false → s.get HIF_PORT_STATUS.dl_up p ≠ 0 →
      s.on SB_STATUS.app_absent = false →
      let u := ((s.set HIF_CTL_STATUS.en p 1).set HIF_CTL_STATUS.ams p v).spend.spend
      let size := 2 + Config.free (s.freeCtr + 1) % 4095
      freeRing u p = some n → freeRing (newRing n p 0 0 0 0 s.fresh size u) p = some m →
      Gives (.controllerEnable p v) s ((newRing m p 1 0 0 0 s.fresh size (newRing n p 0 0 0 0 s.fresh size u)).set HIF_CTL_STATUS.rdy p 1))
  ∧ (ctlExists s p = true → s.on HIF_CTL_STATUS.rdy p = true → s.on X.ctl_down p = false → s.get HIF_CTL_STATUS.shst p = 0 →
      Gives (.shutdownNotification p) s (forceWhere (fun _ => true) ((s.set HIF_CTL_STATUS.shst p 1).set X.ctl_shn p 1)))

/-- Doorbells, fetching, completing (R318 to R320, R323, R326): a doorbell of an admin queue moves its tail; a fetch takes the next entry
into the lowest free context, or raises ctx_exhausted; a completion posts a known outcome. -/
def Obligations.HostQueueing : Prop := ∀ (s : State) (c : Nat), coreUp s = true → c < 2 →
  (∀ q t, ringOf s c 0 q = none → Sets (.submissionDoorbell c q t) s [])
  ∧ (∀ t n r, ringOf s c 0 0 = some (n, r) → s.get HIF_CTL_STATUS.rdy c ≠ 0 → s.on X.ctl_down c = false → t < r.size →
      (t + r.size - r.tail) % r.size ≠ 0 → Effect (.submissionDoorbell c 0 t) s []
        (fun s => { s with
          rings := KV.put natLt s.rings n { r with tail := t, bells := r.bells ++ [((t + r.size - r.tail) % r.size, s.dtime)] } }))
  ∧ (∀ q t n r, q ≠ 0 → ringOf s c 0 q = some (n, r) → s.get HIF_CTL_STATUS.rdy c ≠ 0 → s.on X.ctl_down c = false → t < r.size →
      (t + r.size - r.tail) % r.size ≠ 0 →
      let u := { s with
        rings := KV.put natLt s.rings n { r with tail := t, bells := r.bells ++ [((t + r.size - r.tail) % r.size, s.dtime)] } }
      Gives (.submissionDoorbell c q t) s (urgStatus (pwrDoorbell (psWake c u))))
  ∧ (∀ cmd n r, okCmd cmd = true → ringOf s c 0 0 = some (n, r) → s.get QE_CTRL.enable ≠ 0 → s.get HIF_CTL_STATUS.rdy c ≠ 0 →
      s.on X.ctl_down c = false → s.on HIF_CTL_STATUS.fetch_paused c = false → s.on X.fw_act = false → s.get HIF_CTL_STATUS.shst c = 0 →
      r.waiting ≠ 0 → fetchClass s r = 4 →
      (ctxRoom s c 0 4 = false → Sets (.commandFetch c 0 cmd) s [(QE_INT.ctx_exhausted, 0, 1)])
      ∧ (ctxRoom s c 0 4 = true → s.aborts = [] → Effect (.commandFetch c 0 cmd) s [] (fun s => { s with
          ctxs := KV.put natLt s.ctxs (firstGap s.ctxs 0) { ctl := c, qid := 0, cqid := r.cqid, cmd := cmd, cls := 4, stage := 0, status := 0, dw0 := 0, left := 0, covered := false, waits := [], doorbell := (r.bells.head?.map (fun b => b.2)).getD s.dtime, dead := false, heads := [] },
          rings := KV.put natLt s.rings n { r with head := (r.head + 1) % max 1 r.size, bells := takeBell r.bells } })))
  ∧ (∀ k x, ctxOf s k = some x → x.stage = 3 → Gives (.completionPost k x.status) s (complete k x s))
  ∧ (∀ k st x, ctxOf s k = some x → (x.stage ≠ 3 ∨ x.status ≠ st) → Sets (.completionPost k st) s [])

/-- Abort, Asynchronous Event Request and the queue commands (R316, R318, R325, R326, R336). -/
def Obligations.QueueCommands : Prop := ∀ (s : State) (c : Nat) (x : Ctx),
  (Waits s c x true 0x08 → 64 ≤ (s.aborts.filter (fun y => y.ctl == x.ctl)).length →
      Effect (.nvmeAbort c) s [] (ctxFinish c stAbortLimit))
  ∧ (Waits s c x true 0x08 → (s.aborts.filter (fun y => y.ctl == x.ctl)).length < 64 →
      s.ctxs.find? (fun p => p.1 != c && p.2.ctl == x.ctl && p.2.qid == x.cmd.cdw10 % 65536 && p.2.cmd.cid == x.cmd.cdw10 / 65536 && !p.2.dead) = none →
      ringOf s x.ctl 0 (x.cmd.cdw10 % 65536) = none →
      Gives (.nvmeAbort c) s (abortEnd ⟨c, x.ctl, x.cmd.cdw10 % 65536, x.cmd.cdw10 / 65536, 0, none⟩ false s))
  ∧ (Waits s c x true 0x0C → s.aens.find? (fun e => e.1 == x.ctl) = none →
      let n := (s.ctxs.filter (fun p => p.2.ctl == x.ctl && isAer p.2 && p.2.stage == 1)).length
      (16 ≤ n → Effect (.asynchronousEventRequest c) s [] (ctxFinish c stAerLimit))
      ∧ (n < 16 → Effect (.asynchronousEventRequest c) s [] (updCtx c (fun y => { y with stage := 1 }))))
  ∧ (∀ e, Waits s c x true 0x0C → s.aens.find? (fun e => e.1 == x.ctl) = some e → Effect (.asynchronousEventRequest c) s []
      (fun s => ctxFinish c 0 (updCtx c (fun y => { y with dw0 := e.2 }) { s with aens := s.aens.erase e })))
  ∧ (Waits s c x true 0x05 → (x.cmd.cdw10 % 65536 = 0 ∨ 8191 < x.cmd.cdw10 % 65536) → Effect (.createIoQueue c) s [] (ctxFinish c stQueueId))
  ∧ (∀ n, Waits s c x true 0x05 → x.cmd.cdw10 % 65536 ≠ 0 → x.cmd.cdw10 % 65536 ≤ 8191 →
      ringOf s x.ctl 1 (x.cmd.cdw10 % 65536) = none → 1 ≤ x.cmd.cdw10 / 65536 → x.cmd.cdw10 / 65536 < 16384 → x.cmd.cdw11 / 65536 < msixVectors →
      freeRing s x.ctl = some n →
      Effect (.createIoQueue c) s []
        (fun s => ctxFinish c 0 (newRing n x.ctl 1 (x.cmd.cdw10 % 65536) (x.cmd.cdw10 % 65536) 0 x.cmd.slba (x.cmd.cdw10 / 65536 + 1) s)))
  ∧ (Waits s c x true 0x00 → x.cmd.cdw10 % 65536 = 0 → Effect (.deleteIoSubmissionQueue c) s [] (ctxFinish c stQueueId))
  ∧ (∀ n r, Waits s c x true 0x00 → x.cmd.cdw10 % 65536 ≠ 0 → ringOf s x.ctl 0 (x.cmd.cdw10 % 65536) = some (n, r) → s.aborts = [] →
      (∀ p ∈ s.ctxs, (p.2.ctl == x.ctl && p.2.qid == x.cmd.cdw10 % 65536) = false) →
      Effect (.deleteIoSubmissionQueue c) s [] (fun s => ctxFinish c 0 { s with rings := KV.del s.rings n }))
  ∧ (Waits s c x true 0x04 → x.cmd.cdw10 % 65536 = 0 → Effect (.deleteIoCompletionQueue c) s [] (ctxFinish c stQueueId))
  ∧ (∀ n r, Waits s c x true 0x04 → x.cmd.cdw10 % 65536 ≠ 0 → ringOf s x.ctl 1 (x.cmd.cdw10 % 65536) = some (n, r) →
      Effect (.deleteIoCompletionQueue c) s [] (fun s =>
        if s.rings.any (fun p => p.2.ctl == x.ctl && p.2.kind == 0 && p.2.cqid == x.cmd.cdw10 % 65536) then ctxFinish c stQueueDelete s
        else ctxFinish c 0 { s with rings := KV.del s.rings n }))

/-- Reads, writes, appends, flushes and deallocation (R315, R316, R265 to R269, R302): a command that a check turns away ends with the check's
status; otherwise it goes to the media or to the zones. -/
def Obligations.HostDataCommands : Prop := ∀ (s : State) (c : Nat) (x : Ctx),
  (Waits s c x false 0x02 → ioCheck s x false ≠ 0 → Effect (.nvmeRead c) s [] (ctxFinish c (ioCheck s x false)))
  ∧ (Waits s c x false 0x02 → ioCheck s x false = 0 → x.cls ≠ 0 → nsCompressed s (x.cmd.nsid - 1) = false →
      (rangeZones s (x.cmd.nsid - 1) x.cmd.slba (cmdBlocks x.cmd)).any (zoneWaiting s) = false →
      mergeWaiting s (x.cmd.nsid - 1) x.cmd.slba (cmdBlocks x.cmd) = false →
      let runs := readRuns s (x.cmd.nsid - 1) x.cmd.slba (cmdBlocks x.cmd)
      Gives (.nvmeRead c) s (ctxCheck c (submitAll c (x.cmd.nsid - 1) x.cmd.slba (cmdBlocks x.cmd) x.cls false
        (updCtx c (fun y => { y with stage := 1, covered := false, heads := runs.flatMap (fun r => touchedHeads s r.1 r.2.1 r.2.2) }) s))))
  ∧ (∀ d, Waits s c x false 0x01 → ioCheck s x true ≠ 0 → Effect (.nvmeWrite c d) s [] (ctxFinish c (ioCheck s x true)))
  ∧ (∀ d, Waits s c x false 0x01 → ioCheck s x true = 0 → s.on ZX_NS.zoned (x.cmd.nsid - 1) = true →
      (max 1 s.image.zoneSize < x.cmd.slba % max 1 s.image.zoneSize + cmdBlocks x.cmd → Effect (.nvmeWrite c d) s [] (ctxFinish c stZoneBoundary))
      ∧ (x.cmd.slba % max 1 s.image.zoneSize + cmdBlocks x.cmd ≤ max 1 s.image.zoneSize → zoneWaiting s (cmdZone s x.cmd) = false →
        Gives (.nvmeWrite c d) s (writeZone c (x.cmd.nsid - 1) (cmdZone s x.cmd) x.cmd.slba (cmdBlocks x.cmd)
          (some (x.cmd.slba % max 1 s.image.zoneSize)) d x s)))
  ∧ (∀ d, Waits s c x false 0x01 → ioCheck s x true = 0 → s.on ZX_NS.zoned (x.cmd.nsid - 1) = false →
      pagesMissing s (x.cmd.nsid - 1) x.cmd.slba (cmdBlocks x.cmd) = [] → mergeWaiting s (x.cmd.nsid - 1) x.cmd.slba (cmdBlocks x.cmd) = false →
      let z := s.get CX_NS.dest_zone (x.cmd.nsid - 1)
      (zoneAdmits s z (x.cmd.nsid - 1) x.cmd.slba (cmdBlocks x.cmd) (rangeChunks x.cmd.slba (cmdBlocks x.cmd)) = true →
        Gives (.nvmeWrite c d) s (writeChunks c (x.cmd.nsid - 1) z x.cmd.slba (cmdBlocks x.cmd) x.cls d x s))
      ∧ (zoneAdmits s z (x.cmd.nsid - 1) x.cmd.slba (cmdBlocks x.cmd) (rangeChunks x.cmd.slba (cmdBlocks x.cmd)) = false → Sets (.nvmeWrite c d) s [(CX_INT.dest_full, 0, 1)]))
  ∧ (∀ d, Waits s c x false 0x7D → ioCheck s x true ≠ 0 → Effect (.zoneAppend c d) s [] (ctxFinish c (ioCheck s x true)))
  ∧ (∀ d, Waits s c x false 0x7D → ioCheck s x true = 0 → s.on ZX_NS.zoned (x.cmd.nsid - 1) = true → x.cmd.slba % max 1 s.image.zoneSize = 0 →
      zoneWaiting s (cmdZone s x.cmd) = false →
      let lba := x.cmd.slba + writePoint s (cmdZone s x.cmd)
      Gives (.zoneAppend c d) s (writeZone c (x.cmd.nsid - 1) (cmdZone s x.cmd) lba (cmdBlocks x.cmd) none d x (updCtx c (fun y => { y with dw0 := lba }) s)))
  ∧ (Waits s c x false 0x00 → x.cmd.nsid ≠ 0xFFFFFFFF → cmdNs s x = none → Effect (.nvmeFlush c) s [] (ctxFinish c stNamespace))
  ∧ (Waits s c x false 0x00 → x.cmd.nsid = 0xFFFFFFFF →
      let u := forceWhere (fun _ => true) s
      let wids := (u.writes.filter (fun w => w.ctx.isNone && w.blocks != 0)).map (fun w => w.wid)
      (wids = [] → Gives (.nvmeFlush c) s (ctxFinish c 0 u))
      ∧ (wids ≠ [] → Gives (.nvmeFlush c) s (updCtx c (fun y => { y with stage := 2, waits := wids }) u)))
  ∧ (Waits s c x false 0x08 → Gives (.writeZeroes c) s (dealloc c x x.cmd.slba (cmdBlocks x.cmd) s))
  ∧ (Waits s c x false 0x09 → cmdNs s x = none → Effect (.datasetManagement c) s [] (ctxFinish c stNamespace))
  ∧ (∀ n, Waits s c x false 0x09 → cmdNs s x = some n → s.on ZX_NS.zoned n = false → x.cmd.cdw11.testBit 2 = false →
      Effect (.datasetManagement c) s [] (ctxFinish c 0))
  ∧ (∀ n, Waits s c x false 0x09 → cmdNs s x = some n → s.on ZX_NS.zoned n = false → x.cmd.cdw11.testBit 2 = true →
      Gives (.datasetManagement c) s (dealloc c x x.cmd.slba (x.cmd.cdw12 + 1) s))

/-- Zone management and reports (R270, R302, R315, R316). -/
def Obligations.HostZoneCommands : Prop := ∀ (s : State) (c : Nat) (x : Ctx),
  (Waits s c x false 0x79 →
      (x.cmd.cdw13 % 256 = 3 → Gives (.zoneOpen c) s (zoneCommand c 3 actOpen s))
      ∧ (x.cmd.cdw13 % 256 = 1 → Gives (.zoneClose c) s (zoneCommand c 1 actClose s))
      ∧ (x.cmd.cdw13 % 256 = 2 → Gives (.zoneFinish c) s (zoneCommand c 2 actFinish s))
      ∧ (x.cmd.cdw13 % 256 = 4 → Gives (.zoneReset c) s (zoneCommand c 4 actReset s))
      ∧ (x.cmd.cdw13 % 256 = 5 → Gives (.zoneOffline c) s (zoneCommand c 5 actOffline s))
      ∧ (x.cmd.cdw13 % 256 = 3 → cmdNs s x = none → Effect (.zoneOpen c) s [] (ctxFinish c stNamespace))
      ∧ ∀ n, cmdNs s x = some n → s.on ZX_NS.zoned n = false →
        (x.cmd.cdw13 % 256 = 3 → Effect (.zoneOpen c) s [] (ctxFinish c stOpcode))
        ∧ (x.cmd.cdw13 % 256 = 1 → Effect (.zoneClose c) s [] (ctxFinish c stOpcode))
        ∧ (x.cmd.cdw13 % 256 = 2 → Effect (.zoneFinish c) s [] (ctxFinish c stOpcode))
        ∧ (x.cmd.cdw13 % 256 = 4 → Effect (.zoneReset c) s [] (ctxFinish c stOpcode))
        ∧ (x.cmd.cdw13 % 256 = 5 → Effect (.zoneOffline c) s [] (ctxFinish c stOpcode)))
  ∧ (∀ n, Waits s c x false 0x7A → cmdNs s x = some n → s.on ZX_NS.zoned n = true → x.cmd.cdw13 = 0 → x.cmd.slba < nsBlocks s n →
      let zones := (nsZoneList s n).filter (fun z => decide (cmdZone s x.cmd ≤ z) && reportTakes 0 (zoneOf s z).state)
      let bytes := 4 * (x.cmd.cdw12 + 1)
      Effect (.reportZones c) s [] (fun s => ctxFinish c 0 { s with
        hostData := (leBytes zones.length 8 ++ List.replicate 56 (0 : Byte) ++
          (zones.take ((bytes - 64) / 64 + 1)).flatMap (zoneDescriptor s n)).take bytes }))

/-- Firmware download and commit, and the flash write after an activation (R327, R328): a download that overlaps another controller's
is turned away; a commit of an image that fails its check is too, and drops the staged image. -/
def Obligations.HostFirmwareCommands : Prop := ∀ (s : State) (c : Nat) (x : Ctx),
  (∀ d, Waits s c x true 0x11 →
      let n := 4 * (x.cmd.cdw10 + 1)
      let o := 4 * x.cmd.cdw11
      (stageSize < o + n → Effect (.firmwareImageDownload c d) s [] (ctxFinish c stField))
      ∧ (o + n ≤ stageSize → s.fwRanges.any (fun r => r.1 != x.ctl && overlap r.2.1 r.2.2 o n) = true →
        Effect (.firmwareImageDownload c d) s [] (ctxFinish c stFwImage))
      ∧ (o + n ≤ stageSize → s.fwRanges.any (fun r => r.1 != x.ctl && overlap r.2.1 r.2.2 o n) = false →
        Effect (.firmwareImageDownload c d) s [] (fun s => ctxFinish c 0 { s with
          fwStage := memWrite s.fwStage flashErased o (fit n d), fwRanges := s.fwRanges ++ [(x.ctl, (o, n))] })))
  ∧ (Waits s c x true 0x10 → 3 < x.cmd.cdw10 / 8 % 8 → Effect (.firmwareCommit c) s [] (ctxFinish c stField))
  ∧ (Waits s c x true 0x10 → x.cmd.cdw10 / 8 % 8 < 3 →
      let kind := if s.fwRanges.isEmpty then 5 else stagedKind (cellsRd s.fwStage)
      let done := fun (t : State) => ({ t with fwStage := [], fwRanges := [] } : State)
      (stagedOk s kind (cellsRd s.fwStage) = false → Effect (.firmwareCommit c) s [] (fun s => ctxFinish c stFwImage (done s)))
      ∧ (stagedOk s kind (cellsRd s.fwStage) = true → x.cmd.cdw10 % 8 = 0 → kind ≠ 3 →
        Gives (.firmwareCommit c) s (ctxFinish c 0 (done (storeItem kind (cellsRd s.fwStage) s)))))
  ∧ (coreUp s = true → s.on X.fw_flash = true → Effect (.activationFlashWriteEnd false) s [(X.fw_flash, 0, 0), (X.fw_ready, 0, 0)]
      (fun s => { s with fwWrite := [] }))
  ∧ (coreUp s = true → s.on X.fw_flash = false → ∀ ok, Sets (.activationFlashWriteEnd ok) s [])

/-- Identify, logs, features, power states, unsupported opcodes (R315, R317, R329, R332, R335). -/
def Obligations.HostAdminCommands : Prop := ∀ (s : State) (c : Nat) (x : Ctx),
  (Waits s c x true 0x06 →
      ((identifyOut s x.ctl x.cmd).1 ≠ 0 → Effect (.identify c) s [] (ctxFinish c (identifyOut s x.ctl x.cmd).1))
      ∧ ((identifyOut s x.ctl x.cmd).1 = 0 → Effect (.identify c) s []
        (fun s => ctxFinish c 0 { s with hostData := pageRead (identifyOut s x.ctl x.cmd).2 0 4096 })))
  ∧ (Waits s c x true 0x02 → logKnown (x.cmd.cdw10 % 256) = false → Effect (.getLogPage c) s [] (ctxFinish c stLogPage))
  ∧ (∀ p, Waits s c x true 0x02 → logKnown (x.cmd.cdw10 % 256) = true → x.cmd.cdw10.testBit 15 = true →
      logPage s x.ctl x.cmd.nsid (x.cmd.cdw10 % 256) (x.cmd.cdw10 / 256 % 128) (x.cmd.cdw11 / 65536) = some p →
      Effect (.getLogPage c) s [] (fun s => ctxFinish c 0 { s with
        hostData := pageRead p (x.cmd.cdw12 + 2 ^ 32 * x.cmd.cdw13) (4 * (x.cmd.cdw10 / 65536 + x.cmd.cdw11 % 65536 * 65536 + 1)) }))
  ∧ (Waits s c x true 0x09 → featureIds.contains (x.cmd.cdw10 % 256) = false → Effect (.setFeatures c) s [] (ctxFinish c stField))
  ∧ (Waits s c x true 0x09 → x.cmd.cdw10 % 256 = 7 → Effect (.setFeatures c) s []
      (fun s => ctxFinish c 0 (updCtx c (fun y => { y with dw0 := queuesAllowed }) s)))
  ∧ (Waits s c x true 0x09 → featureIds.contains (x.cmd.cdw10 % 256) = true → x.cmd.cdw10 % 256 ∉ [2, 6, 7, 0x0E] →
      Effect (.setFeatures c) s []
        (fun s => ctxFinish c 0 { s with feats := KV.put pairLt s.feats (x.ctl, featureKey x.cmd) x.cmd.cdw11 }))
  ∧ (Waits s c x true 0x09 → x.cmd.cdw10 % 256 = 2 → 4 < x.cmd.cdw11 % 32 → Effect (.powerStateChange c) s [] (ctxFinish c stField))
  ∧ (Waits s c x true 0x09 → x.cmd.cdw10 % 256 = 2 → x.cmd.cdw11 % 32 ≤ 4 →
      Gives (.powerStateChange c) s (ctxFinish c 0 (psAsk x.ctl (x.cmd.cdw11 % 32) s)))
  ∧ (Waits s c x true 0x0A → featureIds.contains (x.cmd.cdw10 % 256) = false → Effect (.getFeatures c) s [] (ctxFinish c stField))
  ∧ (Waits s c x true 0x0A → featureIds.contains (x.cmd.cdw10 % 256) = true → x.cmd.cdw10 % 256 ≠ 0x0E → Effect (.getFeatures c) s []
      (fun s => ctxFinish c 0 (updCtx c (fun y => { y with dw0 := featureValue s x.ctl x.cmd % 2 ^ 32 }) s)))
  ∧ (coreUp s = true → ctxOf s c = some x → x.stage = 0 →
      (if x.qid = 0 then adminOps.contains x.cmd.opcode else ioOps.contains x.cmd.opcode) = false →
      Effect (.unsupportedCommand c) s [] (ctxFinish c stOpcode))

/-- Sanitize, Format, the self-test, namespaces and reservations (R329 to R331, R333, R334). -/
def Obligations.HostNamespaceCommands : Prop := ∀ (s : State) (c : Nat) (x : Ctx),
  (Waits s c x true 0x84 → s.on X.san_active = true → Effect (.sanitize c) s [] (ctxFinish c stSanitize))
  ∧ (Waits s c x true 0x84 → s.on X.san_active = false → x.cmd.cdw10 % 8 = 1 → Effect (.sanitize c) s [] (ctxFinish c 0))
  ∧ (Waits s c x true 0x84 → s.on X.san_active = false → x.cmd.cdw10 % 8 = 3 → nsQuiet (dstEnd 9 s) none = true →
      let u := ((dstEnd 9 s).each (ctls s) (fun c t => t.clear HIF_CTL_STATUS.fetch_paused c)).clear X.san_done
      Gives (.sanitize c) s (ctxFinish c 0 (overwriteAll (((u.set X.san_active 0 2).set X.san_pattern 0 x.cmd.cdw11).set X.san_ctx 0 (c + 1)))))
  ∧ (Waits s c x true 0x80 → s.on X.san_active = false → cmdNs s x = none → Effect (.formatNvm c) s [] (ctxFinish c stNamespace))
  ∧ (∀ n, Waits s c x true 0x80 → s.on X.san_active = false → cmdNs s x = some n → x.cmd.cdw10 % 16 ≠ 0 →
      Effect (.formatNvm c) s [] (ctxFinish c stField))
  ∧ (∀ n, Waits s c x true 0x80 → s.on X.san_active = false → cmdNs s x = some n → x.cmd.cdw10 = 0 → nsQuiet s (some n) = true →
      s.get X.dst_ns ≠ 0 → s.get X.dst_ns ≠ n + 1 →
      let u := dropIndex n (updCtx c (fun y => { y with stage := 2 }) s)
      Gives (.formatNvm c) s (resetZones (c + 1) (nsZoneList u n) u))
  ∧ (Waits s c x true 0x14 → x.cmd.cdw10 % 16 = 15 → Gives (.deviceSelfTest c) s (ctxFinish c 0 (dstEnd 1 s)))
  ∧ (Waits s c x true 0x14 → x.cmd.cdw10 % 16 = 1 → s.on X.san_active = false → s.get X.dst_run ≠ 0 →
      Effect (.deviceSelfTest c) s [] (ctxFinish c stDstRunning))
  ∧ (Waits s c x true 0x14 → x.cmd.cdw10 % 16 = 1 → s.on X.san_active = false → s.get X.dst_run = 0 → x.cmd.nsid = 0 →
      Gives (.deviceSelfTest c) s (ctxFinish c 0 (testWork
        ((((((s.set X.dst_run 0 1).set X.dst_ctl 0 x.ctl).set X.dst_ns 0 0).clear X.dst_yield).clear X.dst_yielded).clear X.dst_result))))
  ∧ (coreUp s = true → s.get X.dst_run ≠ 0 → s.on X.dst_yield = true → Gives .selfTestResume s
      ((s.set X.dst_yielded 0 (s.get X.dst_yielded + (s.dtime - s.get X.dst_at))).clear X.dst_yield))
  ∧ (coreUp s = true → s.on X.dst_yield = false → Sets .selfTestResume s [])
  ∧ (Waits s c x true 0x0D → x.cmd.cdw10 % 16 = 0 → Gives (.namespaceManagement c) s (nsCreate c x s))
  ∧ (Waits s c x true 0x0D → x.cmd.cdw10 % 16 = 1 → 0 < x.cmd.nsid → x.cmd.nsid ≤ 64 → s.get ZX_NS.enable (x.cmd.nsid - 1) ≠ 0 →
      let v := dstEndFor 3 (x.cmd.nsid - 1) s
      nsQuiet v (some (x.cmd.nsid - 1)) = true → Gives (.namespaceManagement c) s (nsDelete c (x.cmd.nsid - 1) v))
  ∧ (Waits s c x true 0x15 → x.cmd.nsid = 0 → Effect (.namespaceAttachment c) s [] (ctxFinish c stNamespace))
  ∧ (Waits s c x true 0x15 → 0 < x.cmd.nsid → x.cmd.nsid ≤ 64 → s.get ZX_NS.enable (x.cmd.nsid - 1) ≠ 0 → x.cmd.cdw10 % 16 = 0 → x.cmd.cdw11 = 1 →
      s.get X.ns_off (2 * (x.cmd.nsid - 1)) ≠ 0 →
      let n := x.cmd.nsid - 1
      let u := hostEvent 0 (2 + 4 * 65536) (s.set X.ns_off (2 * n) 0)
      Gives (.namespaceAttachment c) s (ctxFinish c 0 { u with
        changedNs := u.changedNs.filter (fun k => decide (k < n)) ++ [n] ++ u.changedNs.filter (fun k => decide (n < k)) }))
  ∧ (∀ op, op ∈ [0x0D, 0x0E, 0x11, 0x15] → Waits s c x false op → cmdNs s x = none →
      Effect (.reservationCommand c) s [] (ctxFinish c stNamespace))
  ∧ (∀ n, Waits s c x false 0x0E → cmdNs s x = some n → Effect (.reservationCommand c) s []
      (fun s => ctxFinish c 0 { s with hostData := pageRead (pageOf 0x60E (resvReport s n)) 0 (4 * (x.cmd.cdw10 + 1)) }))
  ∧ (∀ n, Waits s c x false 0x0D → cmdNs s x = some n → Gives (.reservationCommand c) s (resvRegister c n x s))
  ∧ (∀ n, Waits s c x false 0x11 → cmdNs s x = some n → Gives (.reservationCommand c) s (resvAcquire c n x s))
  ∧ (∀ n, Waits s c x false 0x15 → cmdNs s x = some n → Gives (.reservationCommand c) s (resvRelease c n x s))

/-- Power grants (R339 to R351): the next request of the order is granted; a rebalance computes the pools afresh; a withdrawn grant's units
return once its consumer has stopped, and from a digitiser or lane group at the time limit; draw without a grant is recorded; a current
above its limit trips and its end clears the trip; a group with no grant powers off; a starved request blocks those behind it. -/
def Obligations.PowerGrants : Prop := ∀ (s : State) (p : Nat), coreUp s = true → p < 128 →
  (∀ r onU, hgNext s = some (r, onU) → r.port = p → r.spinUp = false → portKind s p ≠ 4 →
      Gives (.grant p) s (hgGrant p r.units { holder := r.holder, units := r.units, urgent := r.urgent } onU s))
  ∧ (hgNext s = none → Sets (.grant p) s [])
  ∧ (s.hgGrants = [] → s.hgReqs = [] → s.get X.hg_persist 0 = 0 → s.get X.hg_persist 1 = 0 →
      Gives .rebalance s (urgStatus (hgPools s)))
  ∧ (∀ g, grantOf s p = some g → g.withdrawing = true → hgStopped s p = true → Gives (.unitsReturn p) s (hgReturn p s))
  ∧ (∀ g, grantOf s p = some g → g.withdrawing = true → hgStopped s p = false → Sets (.unitsReturn p) s [])
  ∧ (∀ g, grantOf s p = some g → g.withdrawing = true → (portKind s p = 4 ∨ portKind s p = 5) →
      Gives (.withdrawalTimeout p) s (hgReturn p s))
  ∧ (s.on X.hg_stagger = true → Gives .staggerTimeout s (spinGrantDown (s.raise HG_INT.stagger)))
  ∧ (s.on X.hg_stagger = false → Sets .staggerTimeout s [])
  ∧ (∀ g, grantOf s p = some g → Sets (.unsanctionedDraw p) s [])
  ∧ (grantOf s p = none → portKind s p = 1 → Gives (.unsanctionedDraw p) s
      (((s.set HG_PORT_STATUS.unsanctioned p 1).inc HG_PORT_STATUS.unsanctioned_count p).alarm HG_INT.unsanctioned 0 15 p))
  ∧ (∀ mA, mA ≤ s.get HG_ILIM.i12_ma → Sets (.currentTrip false mA) s
      [(HG_RAIL.i12_ma, 0, mA), (X.hg_trip, 0, 0), (X.hg_persist, 0, 0)])
  ∧ (∀ mA, s.get HG_ILIM.i5_ma < mA → s.get X.hg_trip 1 = 0 → Gives (.currentTrip true mA) s
      ((gateOffAll gateCurrent ((s.set HG_RAIL.i5_ma 0 mA).set X.hg_trip 1 1)).alarm HG_INT.curlim5 0 15 0))
  ∧ (∀ rail, s.on X.hg_trip (b2n rail) = true → Sets (.currentPersist rail) s [(X.hg_persist, b2n rail, 1)])
  ∧ (∀ g, okPowerGroup g = true → (2 * s.get HG_GROUP_ON.force).testBit g = false →
      s.hgGrants.any (fun x => s.get HG_PORT_CFG.group x.port == g) = false →
      Gives (.groupPowerOff g) s (s.clearBitOf HG_GROUP_STATUS.on 0 g))
  ∧ (∀ g, okPowerGroup g = true → (2 * s.get HG_GROUP_ON.force).testBit g = true → Sets (.groupPowerOff g) s [])
  ∧ (s.hgReqs.any (fun r => r.port == p && !r.urgent && !r.spinUp) = true → s.get HG_PORT_STATUS.oversize p = 0 →
      Sets (.requestStarved p) s [(X.hg_starved, p, 1), (HG_INT.starve, 0, 1)])

/-- Temperatures (R355 to R362): a failed sensor is excluded; a reading outside −40 °C to 150 °C, or a diode's open or short, fails it;
T_j follows the samples, and the second sample in a row at the shutdown threshold shuts the part down; the throttle step rises and falls
by one at its timers, between its floor and 8; the cut-off 60 s after the spindle stopped; a release once T_j is low enough. -/
def Obligations.Temperatures : Prop := ∀ s : State, coreUp s = true →
  (∀ i t bad, i < 18 → s.on TH_SENSOR.failed i = true → Sets (.sensorSample i t bad) s [])
  ∧ (∀ i t bad, i < 18 → s.on TH_SENSOR.failed i = false → (signed 16 t < -320 ∨ 1200 < signed 16 t ∨ (bad = true ∧ 16 ≤ i)) →
      Gives (.sensorSample i t bad) s (tempEvents (sensorFail i s)))
  ∧ (∀ i t, i < 16 → s.on TH_SENSOR.failed i = false → -320 ≤ signed 16 t → signed 16 t ≤ 1200 →
      let u := judgeNear i ((s.set TH_SENSOR.temp i t).set X.th_seen i 1)
      (signed 16 t < u.getS TH_THR.shutdown → Gives (.sensorSample i t false) s (tempEvents (judgeTj (u.set X.th_shut i 0))))
      ∧ (u.getS TH_THR.shutdown ≤ signed 16 t → u.on X.th_shut i = false → Gives (.sensorSample i t false) s (tempEvents (judgeTj (u.set X.th_shut i 1))))
      ∧ (u.getS TH_THR.shutdown ≤ signed 16 t → u.on X.th_shut i = true →
        Gives (.sensorSample i t false) s (tempEvents (judgeTj (shutdown (u.set X.th_shut i 1))))))
  ∧ (∀ i t, 16 ≤ i → i < 18 → s.on TH_SENSOR.failed i = false → -320 ≤ signed 16 t → signed 16 t ≤ 1200 →
      Gives (.sensorSample i t false) s (tempEvents (judgeAir (judgeNear i ((s.set TH_SENSOR.temp i t).set X.th_seen i 1)))))
  ∧ (s.on X.th_throttle = true → s.getS TH_THR.throttle ≤ s.getS TH_STATUS.tj → s.get TH_STATUS.step < 8 →
      Gives .stepUpTimer s (setStep (s.get TH_STATUS.step + 1) s))
  ∧ (s.get TH_STATUS.step = 8 → Sets .stepUpTimer s [])
  ∧ (tjCool s = true → stepFloor s < s.get TH_STATUS.step → Gives .stepDownTimer s (setStep (s.get TH_STATUS.step - 1) s))
  ∧ (s.get TH_STATUS.step ≤ stepFloor s → Sets .stepDownTimer s [])
  ∧ (s.on TH_STATUS.shutdown = true → spin s = spStopped → s.getS TH_THR.shutdown ≤ s.getS TH_STATUS.tj →
      Gives .shutdownCutoff s (cutOff s))
  ∧ (s.getS TH_STATUS.tj < s.getS TH_THR.shutdown → Sets .shutdownCutoff s [])
  ∧ (tjCool s = true → Sets .releaseShutdown s [(TH_STATUS.shutdown, 0, 0)])
  ∧ (tjCool s = false → Sets .releaseShutdown s [])
  ∧ (∀ x k t, x < 64 → Gives (.temp x k 0 t) s (tempEvents (s.set TH_HEAD.head (16 * (x / 16) + k % 16) t)))
  ∧ (∀ h, h < 64 → headKept s h = true → Gives (.telemetryStale h) s (sendTelem h 1 ((s.set TH_HEAD.stale h 1).raise TH_INT.telem_stale)))

/-- Resets, watchdogs, DEEP and power states (R324, R328, R365 to R378, R463 to R468). -/
def Obligations.ResetsAndPower : Prop := ∀ s : State, auxUp s = true →
  (∀ straps, Gives (.auxRailPor straps) s (bigReset 1 1 false false ((s.set X.straps 0 straps).clear X.aux_off)))
  ∧ (∀ ns, (10000 ≤ ns → Gives (.sysRstNLow ns) s (takeReset 1 2 s)) ∧ (ns < 2000 → Sets (.sysRstNLow ns) s []))
  ∧ Gives .auxiliaryRailLoss s (((afterReset 1 false false s).set X.aux_off 0 1).set X.core_off 0 1)
  ∧ Gives .mgtReset s (mgtReset s)
  ∧ (∀ p, p < 2 → s.on X.core_off = true → Sets (.perstAssert p false) s [(X.perst_pin, p, 1)])
  ∧ (s.get X.core_off = 0 →
      let u := ((s.set X.perst_pin 0 1).set HIF_PORT_STATUS.perst 0 1).set HIF_PORT_STATUS.perst 1 (s.get X.perst_pin 1)
      (s.on HIF_PORT_CFG.mode = false → Gives (.perstAssert 0 false) s (takeReset 2 3 u))
      ∧ (s.on HIF_PORT_CFG.mode = true → s.on X.perst_pin 1 = false → Gives (.perstAssert 0 false) s (ctlResetAll 0 (portDown 0 u)))
      ∧ (s.on HIF_PORT_CFG.mode = true → s.on X.perst_pin 1 = true → Gives (.perstAssert 0 false) s (takeReset 2 4 u)))
  ∧ (∀ p, p < 2 → s.get X.core_off = 0 → Sets (.perstDeassert p) s [(X.perst_pin, p, 0), (HIF_PORT_STATUS.perst, p, 0)])
  ∧ (s.on X.core_off = true → s.get X.deep_in = 0 → Gives .pwrgdAssert s (bigReset 2 7 false false (dtimeResume s.fresh s.spend)))
  ∧ (coreUp s = true → Sets .pwrgdAssert s [])
  ∧ (s.on X.deep_in = true → s.on CR_DEEP_CFG.wake_timer = true → Sets .deepWakeTimer s [(X.deep_wake, 0, 1)])
  ∧ (∀ n, s.on X.deep_in = true → s.on X.deep_wake = true → Gives (.deepExit n) s
      (((bigReset 2 8 false false (dtimeResume n s)).set X.core_en 0 1).clear X.deep_in |>.clear X.deep_wake))
  ∧ (∀ n, s.on X.deep_wake = false → Sets (.deepExit n) s [])
  ∧ (coreUp s = true →
      ((∀ a, a < 4 → s.get X.vcm_phase a ≠ 2) → Gives .pwrgdDeassert s (railsGone s))
      ∧ (∀ src, 3 ≤ src → src ≤ 6 → s.on X.boot_wait = false → Gives (.warmReset src) s (bigReset 2 src true true s))
      ∧ (∀ src, 3 ≤ src → src ≤ 6 → s.on X.boot_wait = true → s.get CR_RST_CAUSE.cls ≤ 2 → Sets (.warmReset src) s [])
      ∧ (s.on X.boot_wait = false → Gives (.watchdogReset 9) s (bigReset 3 9 true true s))
      ∧ (∀ c, c < 10 → c ≠ secCore → Sets (.wrmCommand c) s [])
      ∧ (s.on X.boot_wait = false → Gives (.wrmCommand secCore) s (bigReset 2 6 true true s))
      ∧ (s.on X.fw_act = true → Gives .activationTimeout s (takeReset 3 10 (s.raise HIF_INT.fwact_fail)))
      ∧ (s.on X.fw_act = false → Sets .activationTimeout s [])
      ∧ (∀ m, Sets (.actReset mgtCore m) s [])
      ∧ (∀ c, c < 9 → Gives (.actReset c 1) s (resetActuator 0 s))
      ∧ (∀ a, a < 4 → (s.get CR_ACT_STATUS.in_reset).testBit a = true → s.get X.vcm_phase a = 0 →
        let u := (s.clearBitOf CR_ACT_STATUS.in_reset 0 a).raise CR_INT.act_done
        let u := u.each ((u.image.actHeads a).filter (fun h => u.get X.head_lost h == 2)) (fun h t => t.clear X.head_lost h)
        let v := hgFixedGrants (u.clear X.act_lost a)
        (v.on HL_CTRL.enable = false → Gives (.actResetEnd a) s v)
        ∧ (v.on HL_CTRL.enable = true → Gives (.actResetEnd a) s (v.each ((List.range 4).map (fun j => 4 * a + j)) (groupAsk false))))
      ∧ (∀ a, a < 4 → (s.get CR_ACT_STATUS.in_reset).testBit a = false → Sets (.actResetEnd a) s [])
      ∧ (∀ v, Gives (.wdtEnable v) s (wdtConfig v s))
      ∧ (∀ c, c < 8 → s.on CR_WDT_CFG.enable = true → Sets (.wdtKick c 0xC0DE) s
        [(CR_WDT_STATUS.stage, 0, 1), (CR_WDT_STATUS.last_kick, 0, s.us)])
      ∧ (∀ c v, c < 10 → v ≠ 0xC0DE → Gives (.wdtKick c v) s (wdtStage1 (s.set CR_WDT_STATUS.bad_kick 0 1)))
      ∧ (s.on CR_WDT_CFG.enable = true → s.get CR_WDT_STATUS.stage = 1 → Gives .wdtStage1 s (wdtStage1 s))
      ∧ (s.on CR_WDT_CFG.enable = true → s.get CR_WDT_STATUS.stage = 2 → s.on X.boot_wait = false →
        Gives .wdtStage2 s (bigReset 3 9 true true s))
      ∧ (s.on CR_WDT_CFG.enable = false → Sets .wdtStage1 s [] ∧ Sets .wdtStage2 s [])
      ∧ (s.on X.pwr_deep = true → s.get CR_PWR_STATUS.state = pwStandby → s.get CR_PWR_STATUS.in_transition = 0 →
        s.on X.er_deep_drain = true → s.on X.er_draining = false → Gives .deepEntry s (deepOff s))
      ∧ (s.on X.pwr_deep = false → Sets .deepEntry s [])
      ∧ (∀ ppm, (500 < ppm → Gives (.kclkCheck ppm) s (s.event 20 0 0xFF)) ∧ (ppm ≤ 500 → Sets (.kclkCheck ppm) s []))
      ∧ (∀ c, c < 10 → s.get CR_PWR_CTRL.target = pwIdleB → s.get CR_PWR_STATUS.in_transition = 0 →
        Gives (.powerStateGo c) s (pwrStart 1 pwIdleB s))
      ∧ (∀ c, c < 10 → s.get CR_PWR_CTRL.target = pwStandby → s.on CR_PWR_STATUS.in_transition = true →
        Sets (.powerStateGo c) s [(X.pwr_new, 0, pwStandby + 1)])
      ∧ (s.get CR_PWR_CTRL.target = 4 → s.get CR_PWR_STATUS.state = pwStandby → s.get CR_PWR_STATUS.in_transition = 0 →
        s.get HIF_PORT_STATUS.dl_up 0 = 0 → s.get HIF_PORT_STATUS.dl_up 1 = 0 → Sets (.powerStateGo secCore) s [(X.pwr_deep, 0, 1)])
      ∧ (∀ c, c < 10 → c ≠ secCore → s.get CR_PWR_CTRL.target = 4 → Sets (.powerStateGo c) s [])
      ∧ (s.on CR_PWR_STATUS.in_transition = true → Gives .powerTransitionStep s (pwrStep (stepBoundary s)))
      ∧ (s.on CR_PWR_STATUS.in_transition = false → Sets .powerTransitionStep s [])
      ∧ (s.on CR_PWR_CTRL.idle_a_en = true → s.get CR_PWR_STATUS.state = pwActive → s.get CR_PWR_STATUS.in_transition = 0 →
        idleNow s = true → (List.range 64).filter (fun x => laneState s x == laneActive) = [] →
        Gives .idleAEntry s ((((unitsOff s).set CR_PWR_STATUS.state 0 pwIdleA)).set CR_PWR_STATUS.entered 0 s.us))
      ∧ (s.on CR_PWR_CTRL.idle_a_en = false → Sets .idleAEntry s []))

/-- The boot and the actions of SB_CTRL and owner commands (R386 to R397): the management core's action is ignored. -/
def Obligations.BootActions : Prop := ∀ s : State, coreUp s = true → auxUp s = true →
  (s.on X.boot_wait = true → Gives .bootSequence s (bootAll s)) ∧ (s.on X.boot_wait = false → Sets .bootSequence s [])
  ∧ (∀ c, c < 10 → c ≠ mgtCore → Gives (.confirm c) s (confirm s) ∧ Gives (.raiseFloors c) s (raiseFloors s)
      ∧ ((s.get SQ_STATUS.state (s.get SB_CTRL.seq) = 1 ∨ s.get SQ_STATUS.state (s.get SB_CTRL.seq) = 3) →
        Sets (.reloadMicrocode c) s [(SQ_INT.denied, s.get SB_CTRL.seq, 1)])
      ∧ (s.get SQ_STATUS.state (s.get SB_CTRL.seq) = 2 → s.image.hasAct (s.get SB_CTRL.seq) = true → reloadOk s (s.get SB_CTRL.seq) = true →
        Gives (.reloadMicrocode c) s ((loadStore (s.get SB_CTRL.seq) s).raise SB_INT.reload_done))
      ∧ (s.get SQ_STATUS.state (s.get SB_CTRL.seq) = 2 → s.image.hasAct (s.get SB_CTRL.seq) = true → reloadOk s (s.get SB_CTRL.seq) = false →
        Gives (.reloadMicrocode c) s (reloadFailed (s.get SB_CTRL.seq) s)))
  ∧ (Sets (.confirm mgtCore) s [] ∧ Sets (.raiseFloors mgtCore) s [] ∧ Sets (.reloadMicrocode mgtCore) s [])
  ∧ (∀ b, ownerCause s b ≠ 0 →
      let cells := [(SB_CMD_STATUS.op, 0, numAt b 4 2), (SB_CMD_STATUS.result, 0, ownerCause s b), (SB_INT.cmd_rejected, 0, 1)]
      (numAt b 4 2 = 1 → Sets (.seal b) s cells) ∧ (numAt b 4 2 = 2 → Sets (.lifecycleTransition b) s cells)
      ∧ (numAt b 4 2 = 3 → Sets (.revokeSignKey b) s cells) ∧ (numAt b 4 2 = 4 → Sets (.programSignKey b) s cells)
      ∧ (numAt b 4 2 = 5 → Sets (.programOwnerKey b) s cells))
  ∧ (∀ b, ownerCause s b = 0 → (ownerRun b s).1 = 0 →
      let u := ((ownerRun b s).2.set SB_CMD_STATUS.op 0 (numAt b 4 2)).set SB_CMD_STATUS.result 0 0
      (numAt b 4 2 = 1 → Gives (.seal b) s u) ∧ (numAt b 4 2 = 2 → Gives (.lifecycleTransition b) s u)
      ∧ (numAt b 4 2 = 3 → Gives (.revokeSignKey b) s u) ∧ (numAt b 4 2 = 4 → Gives (.programSignKey b) s u)
      ∧ (numAt b 4 2 = 5 → Gives (.programOwnerKey b) s u))
  ∧ (∀ b m, s.img = some m → Gives (.ownerCommand b true) s (ownerComplete (ownerCommand b s)))
  ∧ (∀ b, s.img = none → mpAnswers s = true → Effect (.ownerCommand b false) s []
      (fun s => { s with mpResp := some { command := 0xC9, status := 0xE0, data := [] } }))

/-- The two data memories (R400 to R411, R415, R418, R424): an access outside the backed range or the Reservoir is a bus error; a store
writes its bytes and no other; a poisoned or uncorrectable unit delivers no data. A master that does not use the caches reads the bytes that
a cache holds; an application core's store waits in its write buffer, its miss for a fill, and while it is blocked its accesses wait. A
corrected error is counted; the scrub walks the units. How fills, drains and fences come as commands is the model's choice (log entry
115). -/
def Obligations.DataMemories : Prop := ∀ (s : State) (d : Nat), coreUp s = true → d < 2 →
  let uncached := s.l2 = [] ∧ s.victim = [] ∧ s.fills = []
  let refused := fun (m : Nat) (s : State) => ({ s with bus := some { core := m, err := true, data := 0 } } : State)
  (∀ m op a b n e, op = .read ∨ op = .write →
      (a < cisternBase → Effect (.cisternAccess m op a b n e) s [] (refused m))
      ∧ (inReservoir a = false → (∀ k, inPrivate k a = false) → Effect (.reservoirAccess m op a b n e) s [] (refused m)))
  ∧ (∀ m op a b n e, op = .read ∨ op = .write → appCoreOf m = none → cisternBase ≤ a → deviceOf s a = none → uncached →
      Effect (.cisternAccess m op a b n e) s [] (refused m))
  ∧ (∀ m a b n e, appCoreOf m = none → deviceOf s a = some d → devUp s d = false → Effect (.cisternAccess m .write a b n e) s [] (refused m))
  ∧ (∀ m a b n, appCoreOf m = none → deviceOf s a = some d → devState s d = devReady → a % 32 = 0 → b.length = 32 → uncached →
      Effect (.cisternAccess m .write a b n 0) s [] (fun s => { s with
        cisternPoison := s.cisternPoison.filter (fun x => x != a), cistern := memWrite s.cistern 0 a b,
        bus := some { core := m, err := false, data := 0 } }))
  ∧ (∀ m a b n, appCoreOf m = none → deviceOf s a = some d → devState s d = devReady → cisternGap s a n = none →
      (unitsOf a n).find? (fun u => s.cisternPoison.contains u) = none → uncached →
      Effect (.cisternAccess m .read a b n 0) s [] (fun s => { s with
        bus := some { core := m, err := false, data := leNat (memRead s.cistern 0 a n) } }))
  ∧ (∀ m a b n, appCoreOf m = none → deviceOf s a = some d → devState s d = devReady → cisternGap s a n = none → uncached →
      Gives (.cisternAccess m .read a b n 2) s (respond m true 0 (poisonedRead d m (m / 8192) (32 * (a / 32)) s)))
  ∧ (∀ m a b n e, appCoreOf m = none → cisternBase ≤ a → Gives (.cisternAccess m .write a b n e) s (dmaStore m a b e s)
      ∧ Gives (.cisternAccess m .read a b n e) s (dmaRead m a n e s))
  ∧ (∀ m a b n e x, appCoreOf m = none → cisternBase ≤ a → a < 0x1F0000000 → s.l1d = [] → KV.get s.l2 (a / 64) = some x → x.poison = 0 →
      x.data.length = 64 → 0 < n → a % 64 + n ≤ 64 → Effect (.cisternAccess m .read a b n e) s []
        (fun s => { s with bus := some { core := m, err := false, data := leNat ((x.data.drop (a % 64)).take n) } }))
  ∧ (∀ m c a b n e, appCoreOf m = some c → cisternBase ≤ a → coreBlocked s c = false → attrOf s a = 0 → (KV.getD s.wbufs c []).length < 8 →
      b ≠ [] → a % 64 + b.length ≤ 64 → cisternGap s a b.length = none → Effect (.cisternAccess m .write a b n e) s [] (fun s => { s with
        wbufs := kset [] s.wbufs c (KV.getD s.wbufs c [] ++ [{ master := m, addr := a, data := b }]),
        bus := some { core := m, err := false, data := 0 } }))
  ∧ (∀ m c a b n e, appCoreOf m = some c → cisternBase ≤ a → coreBlocked s c = false → attrOf s a ≠ 0 → s.get X.cache_inval = 0 →
      KV.getD s.wbufs c [] = [] → s.l1i = [] → s.l1d = [] → s.l2 = [] → s.victim = [] → 0 < n → Effect (.cisternAccess m .read a b n e) s []
        (fun s => { s with fills := KV.put natLt s.fills c { acc := { master := m, isWrite := false, addr := a, data := [], len := n, got := [], error := e }, attr := attrOf s a, read := none, dma := [] } }))
  ∧ (∀ m c a b n e, appCoreOf m = some c → cisternBase ≤ a → coreBlocked s c = true →
      Effect (.cisternAccess m .read a b n e) s [] (fun s => { s with
        coreWait := s.coreWait ++ [(c, { master := m, isWrite := false, addr := a, data := [], len := n, got := [], error := e })] })
      ∧ Effect (.cisternAccess m .write a b n e) s [] (fun s => { s with
        coreWait := s.coreWait ++ [(c, { master := m, isWrite := true, addr := a, data := b, len := b.length, got := [], error := e })] }))
  ∧ (∀ m c a b n e f, appCoreOf m = some c → KV.get s.fills c = some f →
      (cisternBase ≤ f.acc.addr → Gives (.cisternAccess m .fill a b n e) s (fillServed c e a f s))
      ∧ (inReservoir f.acc.addr = true → Gives (.reservoirAccess m .fill a b n e) s (fillServed c e a f s)))
  ∧ (∀ m c a b n e x r, appCoreOf m = some c → KV.getD s.wbufs c [] = x :: r →
      let u := bufWrite x e { s with wbufs := kset [] s.wbufs c r }
      (cisternBase ≤ x.addr → Gives (.cisternAccess m .drain a b n e) s u)
      ∧ (inReservoir x.addr = true → Gives (.reservoirAccess m .drain a b n e) s u))
  ∧ (∀ m c a b n e, appCoreOf m = some c → KV.get s.fills c = none → KV.getD s.wbufs c [] = [] →
      Sets (.cisternAccess m .fill a b n e) s [] ∧ Sets (.reservoirAccess m .fill a b n e) s []
      ∧ Sets (.cisternAccess m .drain a b n e) s [] ∧ Sets (.reservoirAccess m .drain a b n e) s []
      ∧ Sets (.cisternAccess m (.fence false) a b n e) s [] ∧ Sets (.reservoirAccess m (.fence false) a b n e) s []
      ∧ Effect (.cisternAccess m (.fence true) a b n e) s [] (fun s => { s with l1i := s.l1i.filter (fun p => p.1.1 != c) })
      ∧ Effect (.reservoirAccess m (.fence true) a b n e) s [] (fun s => { s with l1i := s.l1i.filter (fun p => p.1.1 != c) }))
  ∧ (∀ m c a b n e, appCoreOf m = some c → Gives (.cisternAccess m (.fence false) a b n e) s (drainAll c s)
      ∧ Gives (.reservoirAccess m (.fence false) a b n e) s (drainAll c s))
  ∧ Gives .bmEnable s (bmEnable s)
  ∧ (devState s d = devTraining → Gives (.deviceReady d false) s (loseDevice d (s.alarm BM_INT.train_fail 0 5 d)))
  ∧ (devState s d = devTraining → d ∈ mapDevices s →
      Effect (.deviceReady d true) s [(devField d, 0, devReady), (BM_STATUS.backed_mib, 0, 1920 * (mapDevices s).length)]
        (fun s => { s with
          cistern := s.cistern.filter (fun c => !(deviceOf s c.1 == some d)),
          cisternPoison := s.cisternPoison.filter (fun x => !(deviceOf s x == some d)) }))
  ∧ (devState s d = devReady → ∀ ok, Sets (.deviceReady d ok) s [])
  ∧ (∀ k, Sets (.periodicRetrain d k) s []) ∧ Sets .fullRetrain s []
  ∧ Sets .clearBmDevErr s [(BM_DEV_ERR.ce, 0, 0), (BM_DEV_ERR.ue, 0, 0), (BM_DEV_ERR.replays, 0, 0), (BM_DEV_ERR.retrains, 0, 0),
      (BM_DEV_ERR.ce, 1, 0), (BM_DEV_ERR.ue, 1, 0), (BM_DEV_ERR.replays, 1, 0), (BM_DEV_ERR.retrains, 1, 0)]
  ∧ (∀ k n, devState s d = devReady → 0 < n → n ≤ s.get BM_CFG.replay_max → s.get BM_DEV_ERR.replays d + n < 65536 →
      Sets (.edcMismatch d k n) s [(BM_DEV_ERR.replays, d, s.get BM_DEV_ERR.replays d + n), (BM_INT.replay, 0, 1)])
  ∧ (∀ k n, devState s d ≠ devReady → Sets (.edcMismatch d k n) s [])
  ∧ (∀ u e, s.get BM_CTRL.scrub_en = 0 → Sets (.scrub d u e) s [])
  ∧ (∀ u, s.get BM_CTRL.scrub_en ≠ 0 → devState s d = devReady → (mapDevices s) = [d] → u + 1 < deviceUnits →
      Sets (.scrub d u 0) s [(BM_SCRUB.progress, 0, (u + 1) * 65536 / deviceUnits)])
  ∧ (∀ m a b n e, appCoreOf m = none → inReservoir a = true → rvEnd < a + b.length → Effect (.reservoirAccess m .write a b n e) s [] (refused m))
  ∧ (∀ m a b n e, appCoreOf m = none → inReservoir a = true → rvEnd < a + n → uncached → Effect (.reservoirAccess m .read a b n e) s [] (refused m))
  ∧ (∀ m a b n e, appCoreOf m = none → inReservoir a = true → a + b.length ≤ rvEnd →
      Gives (.reservoirAccess m .write a b n e) s (respond m false 0 ((dmaWrites a b.length s).rvStore a b)))
  ∧ (∀ m a b n, appCoreOf m = none → inReservoir a = true → a + n ≤ rvEnd → uncached →
      s.rvBad.find? (fun x => decide (a ≤ x) && decide (x < a + n)) = none → Effect (.reservoirAccess m .read a b n 0) s [] (fun s => { s with
        freeCtr := s.freeCtr + n,
        bus := some { core := m, err := false, data := leNat ((List.range n).map (fun k => rvByte s a k)) } }))
  ∧ (∀ m a b n, appCoreOf m = none → inReservoir a = true → a + n ≤ rvEnd → uncached → s.rvBad = [] → Gives (.reservoirAccess m .read a b n 2) s
      (respond m true 0 (rvUncorrectable m (m / 8192) a s)))
  ∧ (∀ k a b n e, k = 8 ∨ k = 9 → inPrivate k a = true →
      Gives (.reservoirAccess (7 * 256 + k) .read a b n e) s (privAccess k false a [] n e s)
      ∧ Gives (.reservoirAccess (7 * 256 + k) .write a b n e) s (privAccess k true a b b.length e s)
      ∧ (a % 4 = 0 → a + 4 ≤ privBase + privSize k → Effect (.registerWrite k false a 32 0) s [] (fun s => { s with
        bus := some ⟨k, false, leNat (memRead (if k = 8 then s.secMem else s.mgtMem) 0 (a - privBase) 4)⟩ })))
  ∧ ((s.on X.rv_filling = true ∨ 0x80000 < s.get RV_FILL.start + s.get RV_FILL.len) → Sets .reservoirFill s [(RV_INT.fill_refused, 0, 1)])
  ∧ (s.on X.rv_filling = false → s.get RV_FILL.start + s.get RV_FILL.len ≤ 0x80000 → Gives .reservoirFill s
      ((s.rvZero (rvBase + 64 * s.get RV_FILL.start) (64 * s.get RV_FILL.len)).set X.rv_filling 0 1))
  ∧ (s.on X.rv_filling = true → Sets .fillDone s [(X.rv_filling, 0, 0), (RV_INT.fill_done, 0, 1)])
  ∧ (s.on X.rv_filling = false → Sets .fillDone s [])

/-- The cores, their caches and the interrupt controller (R412 to R435). -/
def Obligations.CoresAndInterrupts : Prop := ∀ (s : State) (c : Nat), coreUp s = true → c < 10 →
  (∀ t, t < 8 → mayRun c t = true → s.get AP_CORE_CTRL.run t = 0 → imagelessState s = false → s.get SB_STATUS.app_absent = 0 →
      Gives (.coreRun c t) s (icEval (coreStart t (startVec s t) s)))
  ∧ (∀ t, t < 8 → (imagelessState s = true ∨ s.on SB_STATUS.app_absent = true ∨ s.on AP_CORE_CTRL.run t = true) → Sets (.coreRun c t) s [])
  ∧ (∀ t, t < 8 → mayRun c t = false → Sets (.coreRun c t) s [] ∧ Sets (.coreStop c t) s [])
  ∧ (∀ t, t < 8 → mayRun c t = true → s.on AP_CORE_CTRL.run t = true →
      Gives (.coreStop c t) s (icEval (((coreQuiet t s).clear AP_CORE_CTRL.run t).set AP_CORE_STATUS.state t coreStopped)))
  ∧ (∀ t, t < 8 → s.get AP_CORE_CTRL.run t = 0 → Sets (.coreStop c t) s [])
  ∧ (∀ t, t < 8 → Sets (.machineTimer t) s [(X.ap_mtip, t, b2n (decide (s.get AP_MTIMECMP.value t ≤ s.dtime / 40)))])
  ∧ (s.coreWait = [] → (∀ t, t < 8 → s.get AP_CORE_STATUS.state t ≠ coreInval) → Gives .cacheInvalidateDone s (icEval (s.clear X.cache_inval)))
  ∧ (∀ v, (v % 65536 = 65535 → Sets (.l2LockWrite v) s [(AP_INT.lock_refused, 0, 1)])
      ∧ (v % 65536 ≠ 65535 → Sets (.l2LockWrite v) s [(AP_L2_LOCK.ways, 0, v)]))
  ∧ (s.on AP_CMO_STATUS.busy = true → Sets .clean s [(AP_CMO_STATUS.result, 0, 2)] ∧ Sets .invalidate s [(AP_CMO_STATUS.result, 0, 2)]
      ∧ Sets .cleanAndInvalidate s [(AP_CMO_STATUS.result, 0, 2)] ∧ Sets .lockFill s [(AP_CMO_STATUS.result, 0, 2)]
      ∧ Sets .invalidateIncludingLocked s [(AP_CMO_STATUS.result, 0, 2)] ∧ Sets .cleanAndInvalidateAll s [(AP_CMO_STATUS.result, 0, 2)]
      ∧ (s.get X.cmo_held = 0 → Sets .cmoDone s [(AP_CMO_STATUS.busy, 0, 0), (AP_CMO_STATUS.result, 0, s.get X.cmo_end),
        (AP_CMO_STATUS.addr, 0, s.get X.cmo_addr), (X.cmo_op, 0, 0), (AP_INT.cmo_done, 0, 1)])
      ∧ (s.get X.cmo_held ≠ 0 → Sets .cmoDone s []))
  ∧ (s.on AP_CMO_STATUS.busy = false →
      let begun := fun (op addr : Nat) => [(AP_CMO_STATUS.locked_skipped, 0, 0), (AP_CMO_STATUS.busy, 0, 1), (AP_CMO_STATUS.result, 0, 0),
        (X.cmo_op, 0, op), (X.cmo_end, 0, 1), (X.cmo_addr, 0, addr)]
      let zero := s.clear AP_CMO_STATUS.locked_skipped
      let whole := fun (op : Nat) => cmoGo op (cmoFirst s) (cmoFirst s + cmoLines s) (cmoEnds 1 (cmoLast s) (cmoBegin op zero))
      Gives .clean s (whole 1) ∧ Gives .invalidate s (whole 2) ∧ Gives .cleanAndInvalidate s (whole 3)
      ∧ Gives .invalidateIncludingLocked s (whole 5) ∧ Gives .cleanAndInvalidateAll s (cmoGo 6 0 allLines (cmoEnds 1 0 (cmoBegin 6 zero)))
      ∧ Sets .cmoDone s []
      ∧ (s.fills = [] → cachedSpan s (cmoFirst s) (cmoFirst s + cmoLines s) = [] →
        Sets .clean s (begun 1 (cmoLast s)) ∧ Sets .invalidate s (begun 2 (cmoLast s)) ∧ Sets .cleanAndInvalidate s (begun 3 (cmoLast s))
        ∧ Sets .invalidateIncludingLocked s (begun 5 (cmoLast s)))
      ∧ (s.fills = [] → s.l2 = [] → s.victim = [] → Sets .cleanAndInvalidateAll s (begun 6 0))
      ∧ (∀ line x, s.fills = [] → s.victim = [] → s.l2 = [(line, x)] → cmoFirst s ≤ line → line < cmoFirst s + cmoLines s →
        (x.dirty = false → lineLocked s line = false → s.l1d = [] → s.l1i = [] → Effect .invalidate s (begun 2 (cmoLast s)) (fun s => { s with l2 := [] })
          ∧ Effect .cleanAndInvalidate s (begun 3 (cmoLast s)) (fun s => { s with l2 := [] }))
        ∧ (x.dirty = true → s.l1d = [] → s.l1i = [] → lineLocked s line = false →
          Effect .invalidate s (begun 2 (cmoLast s)) (fun s => { s with l2 := [] }))
        ∧ (lineLocked s line = true → s.l1d = [] → s.l1i = [] → Sets .invalidate s ((begun 2 (cmoLast s)).tail ++
          [(AP_CMO_STATUS.locked_skipped, 0, 1), (AP_INT.locked_hit, 0, 1)])))
      ∧ ((s.get AP_L2_LOCK.ways).testBit (s.get AP_CMO_CTRL.way) = false →
        Sets .lockFill s [(AP_CMO_STATUS.locked_skipped, 0, 0), (AP_CMO_STATUS.result, 0, 3)])
      ∧ ((s.get AP_L2_LOCK.ways).testBit (s.get AP_CMO_CTRL.way) = true → Gives .lockFill s
        (lockFill (s.get AP_CMO_CTRL.way) (lockSpan s (cmoFirst s)) (cmoFirst s) (cmoEnds 1 (cmoLast s) (cmoBegin 4 zero))))
      ∧ ((s.get AP_L2_LOCK.ways).testBit (s.get AP_CMO_CTRL.way) = true → cmoLines s = 0 → Sets .lockFill s (begun 4 (cmoLast s))))
  ∧ (∀ k kind a, c < 8 → cacheErr k kind = .corrected → s.get AP_ERR_CNT.ce < 65535 →
      (k ≤ 3 → kind = 1 → Sets (.cacheProtectionError k c kind a) s [(AP_ERR_CNT.ce, 0, s.get AP_ERR_CNT.ce + 1), (AP_INT.ce, 0, 1)])
      ∧ (k = 0 → kind = 0 → Effect (.cacheProtectionError k c kind a) s [(AP_ERR_CNT.ce, 0, s.get AP_ERR_CNT.ce + 1), (AP_INT.ce, 0, 1)]
        (fun s => { s with l1i := KV.del s.l1i (c, a / 64) }))
      ∧ (k = 1 → kind = 2 ∨ kind = 4 → Effect (.cacheProtectionError k c kind a) s [(AP_ERR_CNT.ce, 0, s.get AP_ERR_CNT.ce + 1), (AP_INT.ce, 0, 1)]
        (fun s => { s with l1d := KV.del s.l1d (c, a / 64) })))
  ∧ (∀ k kind a, c < 8 → cacheErr k kind = .uncorrectable → Gives (.cacheProtectionError k c kind a) s
      (respond c true 0 ((errAt k c a (errLine k c kind a s)).alarm AP_INT.ue 0 7 (if k ≤ 1 then c else 0))))
  ∧ (∀ k kind a, c < 8 → cacheErr k kind = .tagLost → Gives (.cacheProtectionError k c kind a) s
      ((errAt k c 0 (errLine k c kind a s)).alarm AP_INT.tag_lost 0 7 (if k ≤ 1 then c else 0)))
  ∧ (∀ n, n < 960 → sourceInput s n = false → Gives (.sourceAssert n false) s (icEval ((s.set X.ic_in n 0).clear X.ic_rel n)))
  ∧ (∀ n, n < 960 → sourceInput s n = true → s.get X.ic_in n = 0 → Gives (.sourceAssert n true) s (icEval (arrive n (s.set X.ic_in n 1))))
  ∧ (∀ n, 960 ≤ n → n < 1024 → s.on X.ic_latch n = true → Gives (.sourceAssert n true) s
      (icEval (arrive n ((s.clear X.ic_latch n).set IC_SRC.pending n 1))))
  ∧ (∀ n, 960 ≤ n → n < 1024 → Sets (.softwareSourceRaise n) s [(X.ic_latch, n, 1)])
  ∧ (∀ n, n < 960 → Sets (.softwareSourceRaise n) s [])
  ∧ (∀ n t, n < 1024 → s.on IC_SRC.offered n = true →
      (offerTargets s n (s.get X.ic_to n)).find? (fun t => t != s.get X.ic_to n) = some t →
      Gives (.offerTimeout n) s (icEval (s.set X.ic_to n t)))
  ∧ (∀ n, n < 1024 → s.on IC_SRC.offered n = false → Sets (.offerTimeout n) s [])
  ∧ Gives (.moderationRelease c) s (icEval (releaseHeld c s))

/-- Claims and completions (R431): a read of IC_CLAIM by its target returns the eligible source of highest priority, ties to the lowest
number, puts it in service, returns and clears its arrival count and raises the running priority; with none eligible it returns 0 and counts
a spurious claim; by any other core it returns 0 and claims nothing. A completion takes the source out of service and the running priority
falls to the highest still in service; one that names a source not in service for the target sets bad_complete alone. -/
def Obligations.Claims : Prop := ∀ (s : State) (c : Nat), coreUp s = true → c < 10 →
  let highest := fun (t : State) (k p : Nat) => (∀ n, n < 1024 → t.get X.ic_serv n = k + 1 → t.get IC_SRC.priority n ≤ p)
    ∧ (p = 0 ∨ ∃ n, n < 1024 ∧ t.get X.ic_serv n = k + 1 ∧ t.get IC_SRC.priority n = p)
  (∀ n, 0 < n → n < 1024 → eligible s n c = true →
    (∀ m, 0 < m → m < 1024 → eligible s m c = true →
      s.get IC_SRC.priority m < s.get IC_SRC.priority n ∨ (s.get IC_SRC.priority m = s.get IC_SRC.priority n ∧ n ≤ m)) →
    ∃ t, exec (.claim c c) s = .next t ∧ t.bus = some { core := c, err := false, data := s.get IC_SRC.count n * 1024 + n }
      ∧ t.get X.ic_serv n = c + 1 ∧ t.get IC_SRC.in_service n = 1 ∧ t.get IC_SRC.count n = 0
      ∧ (∃ p, highest t c p ∧ t.get IC_TGT_STATUS.running c = p % 16))
  ∧ ((∀ n, 0 < n → n < 1024 → eligible s n c = false) → s.get IC_TGT_STATUS.spurious c < 65535 →
    Effect (.claim c c) s [(IC_TGT_STATUS.spurious, c, s.get IC_TGT_STATUS.spurious c + 1)]
      (fun s => { s with bus := some { core := c, err := false, data := 0 } }))
  ∧ (∀ t, t < 10 → t ≠ c → Effect (.claim c t) s [] (fun s => { s with bus := some { core := c, err := false, data := 0 } }))
  ∧ (∀ k n, k < 10 → n < 1024 → s.get X.ic_serv n = k + 1 →
    ∃ t, exec (.complete c k n) s = .next t ∧ t.get X.ic_serv n = 0 ∧ t.get IC_SRC.in_service n = 0
      ∧ (∀ m, m ≠ n → t.get X.ic_serv m = s.get X.ic_serv m) ∧ (∃ p, highest t k p ∧ t.get IC_TGT_STATUS.running k = p % 16))
  ∧ (∀ k n, k < 10 → n < 1024 → s.get X.ic_serv n ≠ k + 1 → Sets (.complete c k n) s [(IC_INT.bad_complete, 0, 1)])

/-- The chapter is full when the next record would leave fewer than 32 bytes before its end: a chapter-full record is written, ER_STATUS.full
and ER_INT.full are set and nothing more is programmed; events accepted then are refused and counted, and are not lost (R442). -/
def Obligations.ChapterFull : Prop := ∀ s : State, coreUp s = true →
  (∀ r o, let wp := s.get ER_POS.write_point
      let left := 0x10000 - wp % 0x10000
      let pad := if left < recLen r.payload then left else 0
      let t := erProgram r o s
      (erSize < wp + pad + recLen r.payload + 32 → t.on ER_STATUS.full = true ∧ t.on ER_INT.full = true
        ∧ t.flash = flashProg s.flash (erBase + wp) (recBytes (ownRec s 2 (List.replicate 16 0)) 0x5245))
      ∧ (wp + pad + recLen r.payload + 32 ≤ erSize → t.get ER_STATUS.full = s.get ER_STATUS.full))
  ∧ (s.on ER_STATUS.full = true → erStart s = s)
  ∧ (∀ src code b, b.length ≤ 240 → s.on ER_STATUS.full = true → s.get ER_STATUS.refused < 2 ^ 32 - 1 →
      Sets (.eventAccept src code b) s [(ER_STATUS.refused, 0, s.get ER_STATUS.refused + 1)])

/-- The event recorder (R436 to R449): a full chapter refuses and counts an event; a record whose mark is programmed moves the write point
on and changes no flash byte outside its mark; a restart of the chapter erases it sector by sector. -/
def Obligations.EventRecorder : Prop := ∀ s : State, coreUp s = true →
  (∀ src code b, b.length ≤ 240 → Gives (.eventAccept src code b) s (erAccept src code b s))
  ∧ (∀ c code n, c < 10 → ER_FW_CTRL.len16.rule.reserved n = true → Gives (.firmwareRecordSubmit c code n) s
      (erAccept (0x20 + c) (code % 65536)
        (((List.range 30).flatMap (fun w => leBytes (s.get ER_FW_DATA.word (32 * c + w)) 8)).take (16 * s.get ER_FW_CTRL.len16 - 16)) s))
  ∧ (s.erProg = none → Sets .recordProgrammed s [])
  ∧ (∀ r off, s.erProg = some (r, off) → s.on X.er_deep_drain = false → Gives .recordProgrammed s
      (erDrainCheck (erStart (((State.flashProgram { s with erProg := none } (erBase + off) (leBytes 0x5245 2)).set
        ER_POS.write_point 0 (off + recLen r.payload)).inc ER_POS.records))))
  ∧ Gives .recordClose s (erClose s) ∧ Gives .drain s (erDrain s)
  ∧ (s.on ER_GASP.log_failed = true → Sets .restartChapter s [(ER_INT.refused, 0, 1)])
  ∧ (s.on ER_GASP.log_failed = false → s.erOpen = none → s.erProg = none → Effect .restartChapter s
      [(ER_POS.write_point, 0, 0), (ER_POS.records, 0, 0), (ER_STATUS.full, 0, 0), (ER_STATUS.erasing, 0, 1), (X.er_erase_next, 0, 0)]
      (fun s => { s with
        erFifo := ownRec s 4 (leBytes (s.get ER_POS.records) 4 ++ leBytes 0 4 ++ leBytes (s.get ER_POS.write_point) 4) :: s.erFifo }))
  ∧ (s.on ER_STATUS.erasing = false → Sets .sectorEraseDone s [])
  ∧ (s.on ER_STATUS.erasing = true → s.get X.er_erase_next + 1 < 512 → Gives .sectorEraseDone s
      (erStart ((s.flashErase (erBase + 0x10000 * s.get X.er_erase_next) 0x10000).set X.er_erase_next 0 (s.get X.er_erase_next + 1))))
  ∧ Sets (.probeFlash false) s [(ER_INT.log_failed, 0, 1)]
  ∧ (let sec := s.get ER_POS.write_point / 0x10000;
      let wp := 0x10000 * (sec + 1)
      let u := ((s.flashErase (erBase + 0x10000 * sec) 0x10000).clear ER_GASP.log_failed).set ER_POS.write_point 0 wp
      sec < 511 → Gives (.probeFlash true) s (erStart (u.set ER_POS.records 0 (min (erCount u wp (wp / 16 + 1) 0) (2 ^ 32 - 1)))))
  ∧ (let kind1 := (List.range 8).filter (fun i => (s.get ER_GASP.used).testBit i && !(s.get ER_GASP.deferred).testBit i)
      let u := { s with erOpen := s.erOpen.filter (fun o => match o.slot with | some i => !kind1.contains i | none => true) }
      Gives .freeKind1Slots s (u.each kind1
      (fun i t => (t.each (List.range 32) (fun w t => t.clear ER_GASP_SLOT.word (32 * i + w))).clearBitOf ER_GASP.used 0 i)))
  ∧ ((s.erProg.isSome = true ∨ s.on ER_STATUS.erasing = true) → Gives .programTimeout s (erFail 3 s))
  ∧ (s.erProg = none → s.on ER_STATUS.erasing = false → Sets .programTimeout s [])
  ∧ (∀ k, 1 ≤ k → k ≤ 4 → s.get ER_GASP.log_failed = 0 → Gives (.logMemoryFailed k) s (erFail k s))
  ∧ (∀ k, s.get ER_GASP.log_failed ≠ 0 → Sets (.logMemoryFailed k) s [])
  ∧ (s.on X.er_found = true → Sets .writePointSearch s [])
  ∧ (s.on X.er_found = false → erSearch s 10 0 512 = 0 → s.get ER_GASP.deferred = 0 → s.on CR_WDT_STATUS.fired = false →
      s.on MC_PL_STATUS.valid = false → s.on X.mp_wdt_ev = false → Gives .writePointSearch s
      (erStart (((s.set ER_POS.write_point 0 0).set ER_POS.records 0 0).set X.er_found 0 1)))
  ∧ (s.on X.er_deep_drain = true → s.on X.er_draining = true → Gives .drainTimeLimit s (erDrainEnd s))
  ∧ (s.on X.er_draining = false → Sets .drainTimeLimit s [])
  ∧ (∀ a n m b, n < a ∨ a + b.length ≤ n → memByte (flashProg m a b) flashErased n = memByte m flashErased n)

/-- The management port (R451 to R459, R399, R381): an answer stands in `mpResp`; what needs the core rails or an image is turned away
with its code; nothing is answered while MP_CTRL.enable is clear or the management core does not run. -/
def Obligations.ManagementCommands : Prop := ∀ s : State, auxUp s = true →
  (mpAnswers s = false →
    Sets .getEndpointId s [] ∧ Sets .getHealth s [] ∧ Sets .parkCommand s [] ∧ Sets .wake s [] ∧ Sets .getVersion s [])
  ∧ (mpAnswers s = true →
    let reply := fun (c : Instr) (cmd st : Nat) (b : List Byte) =>
      Effect c s [] (fun s => { s with mpResp := some { command := cmd, status := st, data := b } })
    (∀ b p d som eom n g ty l, b ≠ s.get MP_STATUS.bus → Sets (.mctpPacket b p d som eom n g ty l) s [])
    ∧ (∀ p n g ty l, ty ∈ [0, 4, 5] → l.length ≤ 64 → s.get MP_STATUS.bus = 1 →
      Effect (.mctpPacket 1 p (s.get MP_STATUS.eid) true true n g ty l) s [(MP_INT.rx, 0, 1)] (fun s => { s with mpAsm := KV.del s.mpAsm ty }))
    ∧ (∀ a, (s.on MP_STATUS.bus = true → Sets (.entdaa a) s [(MP_STATUS.dyn_addr, 0, a)] ∧
        Sets (.setdasa (s.get MP_STATUS.addr) a) s [(MP_STATUS.dyn_addr, 0, a)])
      ∧ (s.on MP_STATUS.bus = false → Sets (.entdaa a) s [] ∧ Sets (.setdasa (s.get MP_STATUS.addr) a) s []))
    ∧ (∀ op eid, op ≤ 1 → eid ≠ 0 → eid < 0xFF → Effect (.setEndpointId op eid) s [(MP_STATUS.eid, 0, eid)]
        (fun s => { s with mpResp := some { command := 0x101, status := 0, data := leBytes eid 1 } }))
    ∧ (∀ op, reply (.setEndpointId op 0) 0x101 2 [])
    ∧ reply .getEndpointId 0x102 0 (leBytes (s.get MP_STATUS.eid) 1)
    ∧ reply .getEndpointUuid 0x103 0 ((List.range 16).map (Config.openByte 0x503))
    ∧ reply (.getMctpVersionSupport 0) 0x104 0 [1, 0xF1, 0xF3, 0xFF, 0]
    ∧ reply .getMessageTypeSupport 0x105 0 [3, 0, 4, 5]
    ∧ (∀ i, reply (.readNvmeMiDataStructure 2 i) 0 0 (leBytes (ctls s).length 2 ++ (ctls s).flatMap (fun c => leBytes c 2)))
    ∧ (∀ cl, coreUp s = true → reply (.subsystemHealthStatusPoll cl) 1 0 (subsystemPoll s))
    ∧ (∀ c, c < 2 → coreUp s = true → reply (.controllerHealthStatusPoll c) 2 0 (controllerPoll s c))
    ∧ reply (.configurationGet 3) 4 0 (leBytes 64 2)
    ∧ (∀ v, 1 ≤ v → v ≤ 3 → Effect (.configurationSet 1 v) s [(X.mp_freq, 0, v)]
        (fun s => { s with mpResp := some { command := 3, status := 0, data := [] } }))
    ∧ (∀ c op n w x y z, c < 2 → op ∉ [2, 6, 10] → reply (.tunnelledAdmin c op n w x y z) (0x300 + op) miOpcode [])
    ∧ (∀ c n w x y z, c < 2 → coreUp s = true → imageless s = false → featureIds.contains (w % 256) = true →
        reply (.tunnelledAdmin c 10 n w x y z) 0x30A 0 (leBytes (featureValue s c
          { opcode := 10, cid := 0, nsid := n, slba := 0, cdw10 := w, cdw11 := x, cdw12 := y, cdw13 := z, cdw14 := 0, cdw15 := 0 }) 8))
    ∧ (imageless s = true → reply .getHealth 0xC0 miPower [] ∧ reply .parkCommand 0xC1 0 (leBytes 0 4)
        ∧ reply .parkAndSpinDownCommand 0xC2 0 (leBytes 0 4) ∧ reply .powerDownCommand 0xC4 miPower [])
    ∧ (coreUp s = true → imageless s = false →
        reply .getHealth 0xC0 0 (healthBytes s)
        ∧ (s.mpWait = [] → Effect .parkCommand s [] (fun s => { s with mpWait := [0xC1] })
          ∧ Effect .parkAndSpinDownCommand s [] (fun s => { s with mpWait := [0xC2] })
          ∧ Effect .powerDownCommand s [] (fun s => { s with mpWait := [0xC4] })))
    ∧ (s.mpWait = [] → Effect .endParkCommand s [] (fun s => { s with mpWait := [0xC3] }))
    ∧ (s.on X.deep_in = true → Effect .wake s [(X.deep_wake, 0, 1)]
        (fun s => { s with mpResp := some { command := 0xC5, status := 0, data := [] } }))
    ∧ (∀ d, d ≠ 0 → reply (.fullReset d) 0xC6 miField [] ∧ reply (.releaseShutdownCommand d) 0xCA miField [])
    ∧ (s.on X.deep_in = false → coreUp s = true → Gives (.fullReset 0) s
        (takeReset 2 5 { s with mpResp := some { command := 0xC6, status := 0, data := [] } }))
    ∧ (coreUp s = true → tjCool s = true → Effect (.releaseShutdownCommand 0) s [(TH_STATUS.shutdown, 0, 0)]
        (fun s => { s with mpResp := some { command := 0xCA, status := 0, data := [] } }))
    ∧ (∀ k o l, stageBarred s k = true → reply (.stageData k o l) 0xC7 miPower [] ∧ reply (.stageCommit k) 0xC8 miPower [])
    ∧ (∀ k o l x, stageBarred s k = false → k ≤ 4 → l ≠ [] → l.length ≤ 4096 → o + l.length ≤ stageSize → stageConflict s k = false →
        KV.get s.mpStage k = some x → Effect (.stageData k o l) s [] (fun s => { s with
          mpStage := KV.put natLt s.mpStage k ⟨memWrite x.cells flashErased o l, max x.size (o + l.length), s.dtime⟩,
          mpResp := some { command := 0xC7, status := 0, data := [] } }))
    ∧ (∀ k x, stageBarred s k = false → stageConflict s k = false → KV.get s.mpStage k = some x → stagedKind (cellsRd x.cells) ≠ k →
        Effect (.stageCommit k) s [] (fun s => { s with
          mpStage := KV.del s.mpStage k, mpResp := some { command := 0xC8, status := miField, data := [] } }))
    ∧ (∀ k x, stageBarred s k = false → stageConflict s k = false → KV.get s.mpStage k = some x → stagedKind (cellsRd x.cells) = k →
        stagedOk s k (cellsRd x.cells) = true → k ≠ 3 → Gives (.stageCommit k) s
          (mpReply 0xC8 0 [] (storeItem k (cellsRd x.cells) { s with mpStage := KV.del s.mpStage k })))
    ∧ reply .getVersion 0x484 0 [0x12] ∧ reply .getCapabilities 0x4E1 0 (leBytes 0x16 4)
    ∧ (∀ x y, x.testBit 7 = true → y.testBit 1 = true → reply (.negotiateAlgorithms x y) 0x4E3 0 (leBytes 0x80 4 ++ leBytes 2 4))
    ∧ (∀ x y, x.testBit 7 = false → reply (.negotiateAlgorithms x y) 0x4E3 spdmInvalid [])
    ∧ (coreUp s = true → reply .getDigests 0x481 0 ([1] ++ sha (chain s))
        ∧ (∀ x o n, x ≠ 0 → reply (.getCertificate x o n) 0x482 spdmInvalid [])
        ∧ ∀ o n, o < (chain s).length → let p := ((chain s).drop o).take n;
          reply (.getCertificate 0 o n) 0x482 0 (leBytes p.length 2 ++ leBytes ((chain s).length - o - p.length) 2 ++ p))
    ∧ (∀ x n, signBarred s ≠ 0 → reply (.challenge x n) 0x483 (signBarred s) [])
    ∧ (∀ x n, signBarred s = 0 → x ≠ 0 → reply (.challenge x n) 0x483 spdmInvalid [])
    ∧ (∀ n, signBarred s = 0 → Effect (.challenge 0 n) s [] (fun s => { s with
          freeCtr := s.freeCtr + 1,
          mpResp := some ⟨0x483, 0, sha (chain s) ++ spdmSign s (sha (chain s) ++ n)⟩ }))
    ∧ (∀ n, reply (.getMeasurements 0 false n) 0x4E0 0 (leBytes ((List.range 14).filter (fun i => (measContent s i).isSome)).length 1)))
  ∧ (∀ c, c < 10 → c ≠ secCore → c ≠ mgtCore → ∀ v, Sets (.mpWdtEnable c v) s [])
  ∧ (∀ c v, (c = secCore ∨ c = mgtCore) → Gives (.mpWdtEnable c v) s (writeReg MP_WDT 0 (fun f => decide (32 ≤ f.lo)) v s))
  ∧ (∀ c v, c < 10 → Gives (.mpWdtKick c v) s (mpKick c v s))
  ∧ (s.on MP_WDT.enable = true → Gives .mpWdtExpiry s (mpWdtReset s)) ∧ (s.on MP_WDT.enable = false → Sets .mpWdtExpiry s [])
  ∧ (∀ c, c < 10 → Gives (.mpPark c) s (mpPark c 1 s) ∧ Gives (.mpParkAndSpinDown c) s (mpPark c 2 s)
      ∧ Gives (.mpEndPark c) s (mpPark c 3 s) ∧ Gives (.mpPowerDown c) s (mpPark c 4 s))
  ∧ (coreUp s = true →
    ((s.get MP_PARK_STATUS.latch).testBit 0 = false → Sets .parkComplete s [])
    ∧ ((s.get MP_PARK_STATUS.latch).testBit 0 = true → allParked s = true →
      let v := stoppedNow (parkedNow s)
      (v.on X.mp_ending = false → Gives .parkComplete s v) ∧ (v.on X.mp_ending = true → parkDone v = true → Gives .parkComplete s (parkEnd v)))
    ∧ (∀ k, Effect (.stagingTimeout k) s [] (fun s => { s with mpStage := KV.del s.mpStage k }))
    ∧ (∀ r o l, xspiOk s r o = true → Effect (.xspiWrite r true o l) s []
        (fun s => s.flashErase (o / 0x10000 * 0x10000) 0x10000))
    ∧ (∀ r o l, xspiOk s r o = false → Gives (.xspiWrite r true o l) s (s.event 18 0 0xFF))
    ∧ (∀ r o l, (List.range l.length).all (fun i => xspiOk s r (o + i)) = true → Effect (.xspiWrite r false o l) s []
        (fun s => s.flashProgram o l)))
end

