-- ==== Sys2Proof/Laws/Dispatch.lean ====
section
/-! SUPPORT. One equation per command: its meaning. -/

namespace Sys2Proof.Machine

@[simp] theorem exec_registerWrite core isWrite addr width value (s : State) :
    exec (.registerWrite core isWrite addr width value) s = execRegisterWrite core isWrite addr width value s := rfl
@[simp] theorem exec_stFieldWrite core addr width value (s : State) :
    exec (.stFieldWrite core addr width value) s = execStFieldWrite core addr width value s := rfl
@[simp] theorem exec_check (s : State) :
    exec (.check) s = execCheck s := rfl
@[simp] theorem exec_checkDone (s : State) :
    exec (.checkDone) s = execCheckDone s := rfl
@[simp] theorem exec_armCommit (s : State) :
    exec (.armCommit) s = execArmCommit s := rfl
@[simp] theorem exec_cancelArmedCommit (s : State) :
    exec (.cancelArmedCommit) s = execCancelArmedCommit s := rfl
@[simp] theorem exec_discard (s : State) :
    exec (.discard) s = execDiscard s := rfl
@[simp] theorem exec_commitStrobe (s : State) :
    exec (.commitStrobe) s = execCommitStrobe s := rfl
@[simp] theorem exec_commitMissed (s : State) :
    exec (.commitMissed) s = execCommitMissed s := rfl
@[simp] theorem exec_unitLoss unit (s : State) :
    exec (.unitLoss unit) s = execUnitLoss unit s := rfl
@[simp] theorem exec_auxRailPor straps (s : State) :
    exec (.auxRailPor straps) s = execAuxRailPor straps s := rfl
@[simp] theorem exec_sysRstNLow ns (s : State) :
    exec (.sysRstNLow ns) s = execSysRstNLow ns s := rfl
@[simp] theorem exec_perstAssert port both (s : State) :
    exec (.perstAssert port both) s = execPerstAssert port both s := rfl
@[simp] theorem exec_perstDeassert port (s : State) :
    exec (.perstDeassert port) s = execPerstDeassert port s := rfl
@[simp] theorem exec_pwrgdDeassert (s : State) :
    exec (.pwrgdDeassert) s = execPwrgdDeassert s := rfl
@[simp] theorem exec_pwrgdAssert (s : State) :
    exec (.pwrgdAssert) s = execPwrgdAssert s := rfl
@[simp] theorem exec_warmReset src (s : State) :
    exec (.warmReset src) s = execWarmReset src s := rfl
@[simp] theorem exec_watchdogReset src (s : State) :
    exec (.watchdogReset src) s = execWatchdogReset src s := rfl
@[simp] theorem exec_bootSequence (s : State) :
    exec (.bootSequence) s = execBootSequence s := rfl
@[simp] theorem exec_cacheInvalidateDone (s : State) :
    exec (.cacheInvalidateDone) s = execCacheInvalidateDone s := rfl
@[simp] theorem exec_actReset core mask (s : State) :
    exec (.actReset core mask) s = execActReset core mask s := rfl
@[simp] theorem exec_actResetEnd act (s : State) :
    exec (.actResetEnd act) s = execActResetEnd act s := rfl
@[simp] theorem exec_mgtReset (s : State) :
    exec (.mgtReset) s = execMgtReset s := rfl
@[simp] theorem exec_wrmCommand core (s : State) :
    exec (.wrmCommand core) s = execWrmCommand core s := rfl
@[simp] theorem exec_wdtEnable value (s : State) :
    exec (.wdtEnable value) s = execWdtEnable value s := rfl
@[simp] theorem exec_wdtKick core value (s : State) :
    exec (.wdtKick core value) s = execWdtKick core value s := rfl
@[simp] theorem exec_wdtStage1 (s : State) :
    exec (.wdtStage1) s = execWdtStage1 s := rfl
@[simp] theorem exec_wdtStage2 (s : State) :
    exec (.wdtStage2) s = execWdtStage2 s := rfl
@[simp] theorem exec_powerStateGo core (s : State) :
    exec (.powerStateGo core) s = execPowerStateGo core s := rfl
@[simp] theorem exec_powerTransitionStep (s : State) :
    exec (.powerTransitionStep) s = execPowerTransitionStep s := rfl
@[simp] theorem exec_idleAEntry (s : State) :
    exec (.idleAEntry) s = execIdleAEntry s := rfl
@[simp] theorem exec_deepEntry (s : State) :
    exec (.deepEntry) s = execDeepEntry s := rfl
@[simp] theorem exec_deepWakeTimer (s : State) :
    exec (.deepWakeTimer) s = execDeepWakeTimer s := rfl
@[simp] theorem exec_deepExit periods (s : State) :
    exec (.deepExit periods) s = execDeepExit periods s := rfl
@[simp] theorem exec_kclkCheck ppm (s : State) :
    exec (.kclkCheck ppm) s = execKclkCheck ppm s := rfl
@[simp] theorem exec_groupBringUp group (s : State) :
    exec (.groupBringUp group) s = execGroupBringUp group s := rfl
@[simp] theorem exec_groupToOff group (s : State) :
    exec (.groupToOff group) s = execGroupToOff group s := rfl
@[simp] theorem exec_hlCtrlWrite value (s : State) :
    exec (.hlCtrlWrite value) s = execHlCtrlWrite value s := rfl
@[simp] theorem exec_detectEntry group (s : State) :
    exec (.detectEntry group) s = execDetectEntry group s := rfl
@[simp] theorem exec_detectTimeout group (s : State) :
    exec (.detectTimeout group) s = execDetectTimeout group s := rfl
@[simp] theorem exec_feCap lane payload (s : State) :
    exec (.feCap lane payload) s = execFeCap lane payload s := rfl
@[simp] theorem exec_capxTimeout group (s : State) :
    exec (.capxTimeout group) s = execCapxTimeout group s := rfl
@[simp] theorem exec_ackSet lane payload (s : State) :
    exec (.ackSet lane payload) s = execAckSet lane payload s := rfl
@[simp] theorem exec_settleTimeout group (s : State) :
    exec (.settleTimeout group) s = execSettleTimeout group s := rfl
@[simp] theorem exec_trainEntry group (s : State) :
    exec (.trainEntry group) s = execTrainEntry group s := rfl
@[simp] theorem exec_laneActive lane spacing eRms tRms (s : State) :
    exec (.laneActive lane spacing eRms tRms) s = execLaneActive lane spacing eRms tRms s := rfl
@[simp] theorem exec_trainTimeout group (s : State) :
    exec (.trainTimeout group) s = execTrainTimeout group s := rfl
@[simp] theorem exec_attemptCountClear group (s : State) :
    exec (.attemptCountClear group) s = execAttemptCountClear group s := rfl
@[simp] theorem exec_keepalive group (s : State) :
    exec (.keepalive group) s = execKeepalive group s := rfl
@[simp] theorem exec_upstreamFrame lane levels (s : State) :
    exec (.upstreamFrame lane levels) s = execUpstreamFrame lane levels s := rfl
@[simp] theorem exec_lockLoss lane (s : State) :
    exec (.lockLoss lane) s = execLockLoss lane s := rfl
@[simp] theorem exec_retrainAttemptTimeout lane (s : State) :
    exec (.retrainAttemptTimeout lane) s = execRetrainAttemptTimeout lane s := rfl
@[simp] theorem exec_downstreamLaneLoss group cause (s : State) :
    exec (.downstreamLaneLoss group cause) s = execDownstreamLaneLoss group cause s := rfl
@[simp] theorem exec_transmitterPllUnlock group (s : State) :
    exec (.transmitterPllUnlock group) s = execTransmitterPllUnlock group s := rfl
@[simp] theorem exec_downstreamRebringUp group (s : State) :
    exec (.downstreamRebringUp group) s = execDownstreamRebringUp group s := rfl
@[simp] theorem exec_ack lane slot op result (s : State) :
    exec (.ack lane slot op result) s = execAck lane slot op result s := rfl
@[simp] theorem exec_txeqAck lane slot pre post (s : State) :
    exec (.txeqAck lane slot pre post) s = execTxeqAck lane slot pre post s := rfl
@[simp] theorem exec_status lane slot flags cause (s : State) :
    exec (.status lane slot flags cause) s = execStatus lane slot flags cause s := rfl
@[simp] theorem exec_temp lane slot item temp (s : State) :
    exec (.temp lane slot item temp) s = execTemp lane slot item temp s := rfl
@[simp] theorem exec_regData lane slot regAddr data (s : State) :
    exec (.regData lane slot regAddr data) s = execRegData lane slot regAddr data s := rfl
@[simp] theorem exec_fault lane slot code detail (s : State) :
    exec (.fault lane slot code detail) s = execFault lane slot code detail s := rfl
@[simp] theorem exec_eyeDs lane height width bad (s : State) :
    exec (.eyeDs lane height width bad) s = execEyeDs lane height width bad s := rfl
@[simp] theorem exec_ctAnswerTimeout group message (s : State) :
    exec (.ctAnswerTimeout group message) s = execCtAnswerTimeout group message s := rfl
@[simp] theorem exec_ctMessageQueue group hi (s : State) :
    exec (.ctMessageQueue group hi) s = execCtMessageQueue group hi s := rfl
@[simp] theorem exec_ctReceiveDequeue group (s : State) :
    exec (.ctReceiveDequeue group) s = execCtReceiveDequeue group s := rfl
@[simp] theorem exec_laneRetrain lane (s : State) :
    exec (.laneRetrain lane) s = execLaneRetrain lane s := rfl
@[simp] theorem exec_laneSleep lane (s : State) :
    exec (.laneSleep lane) s = execLaneSleep lane s := rfl
@[simp] theorem exec_laneWake lane (s : State) :
    exec (.laneWake lane) s = execLaneWake lane s := rfl
@[simp] theorem exec_clearLaneErr lane (s : State) :
    exec (.clearLaneErr lane) s = execClearLaneErr lane s := rfl
@[simp] theorem exec_wakeAdaptDone lane spacing eRms tRms (s : State) :
    exec (.wakeAdaptDone lane spacing eRms tRms) s = execWakeAdaptDone lane spacing eRms tRms s := rfl
@[simp] theorem exec_eyeRefresh lane spacing eRms tRms (s : State) :
    exec (.eyeRefresh lane spacing eRms tRms) s = execEyeRefresh lane spacing eRms tRms s := rfl
@[simp] theorem exec_flumeRequest seq thread req (s : State) :
    exec (.flumeRequest seq thread req) s = execFlumeRequest seq thread req s := rfl
@[simp] theorem exec_flumeGrant (s : State) :
    exec (.flumeGrant) s = execFlumeGrant s := rfl
@[simp] theorem exec_handover seq thread req gapNs (s : State) :
    exec (.handover seq thread req gapNs) s = execHandover seq thread req gapNs s := rfl
@[simp] theorem exec_handoverSwitch flume gapNs (s : State) :
    exec (.handoverSwitch flume gapNs) s = execHandoverSwitch flume gapNs s := rfl
@[simp] theorem exec_syncSearchEnd flume (s : State) :
    exec (.syncSearchEnd flume) s = execSyncSearchEnd flume s := rfl
@[simp] theorem exec_sectorEnd flume (s : State) :
    exec (.sectorEnd flume) s = execSectorEnd flume s := rfl
@[simp] theorem exec_decodeDone flume (s : State) :
    exec (.decodeDone flume) s = execDecodeDone flume s := rfl
@[simp] theorem exec_idleRelease flume (s : State) :
    exec (.idleRelease flume) s = execIdleRelease flume s := rfl
@[simp] theorem exec_flumeFault flume (s : State) :
    exec (.flumeFault flume) s = execFlumeFault flume s := rfl
@[simp] theorem exec_calCopy (s : State) :
    exec (.calCopy) s = execCalCopy s := rfl
@[simp] theorem exec_calRecordWrite core addr width value (s : State) :
    exec (.calRecordWrite core addr width value) s = execCalRecordWrite core addr width value s := rfl
@[simp] theorem exec_detachNow flume (s : State) :
    exec (.detachNow flume) s = execDetachNow flume s := rfl
@[simp] theorem exec_clearAccumulator flume (s : State) :
    exec (.clearAccumulator flume) s = execClearAccumulator flume s := rfl
@[simp] theorem exec_markStale head (s : State) :
    exec (.markStale head) s = execMarkStale head s := rfl
@[simp] theorem exec_clearValid head (s : State) :
    exec (.clearValid head) s = execClearValid head s := rfl
@[simp] theorem exec_clearQualityCounters head (s : State) :
    exec (.clearQualityCounters head) s = execClearQualityCounters head s := rfl
@[simp] theorem exec_keyLoad core (s : State) :
    exec (.keyLoad core) s = execKeyLoad core s := rfl
@[simp] theorem exec_keyZeroise core (s : State) :
    exec (.keyZeroise core) s = execKeyZeroise core s := rfl
@[simp] theorem exec_keyActionComplete (s : State) :
    exec (.keyActionComplete) s = execKeyActionComplete s := rfl
@[simp] theorem exec_writeGateAssert head (s : State) :
    exec (.writeGateAssert head) s = execWriteGateAssert head s := rfl
@[simp] theorem exec_shockTrip (s : State) :
    exec (.shockTrip) s = execShockTrip s := rfl
@[simp] theorem exec_shockHoldoffEnd (s : State) :
    exec (.shockHoldoffEnd) s = execShockHoldoffEnd s := rfl
@[simp] theorem exec_verifyResult head (s : State) :
    exec (.verifyResult head) s = execVerifyResult head s := rfl
@[simp] theorem exec_rewrite unit (s : State) :
    exec (.rewrite unit) s = execRewrite unit s := rfl
@[simp] theorem exec_servoField head a b (s : State) :
    exec (.servoField head a b) s = execServoField head a b s := rfl
@[simp] theorem exec_servoWedgeEnd act obs (s : State) :
    exec (.servoWedgeEnd act obs) s = execServoWedgeEnd act obs s := rfl
@[simp] theorem exec_servoDeadlineMiss eng (s : State) :
    exec (.servoDeadlineMiss eng) s = execServoDeadlineMiss eng s := rfl
@[simp] theorem exec_engineSelfCheck eng (s : State) :
    exec (.engineSelfCheck eng) s = execEngineSelfCheck eng s := rfl
@[simp] theorem exec_legCheckFail act (s : State) :
    exec (.legCheckFail act) s = execLegCheckFail act s := rfl
@[simp] theorem exec_combPlan act (s : State) :
    exec (.combPlan act) s = execCombPlan act s := rfl
@[simp] theorem exec_seekRequest act value (s : State) :
    exec (.seekRequest act value) s = execSeekRequest act value s := rfl
@[simp] theorem exec_loadAndAcquire act (s : State) :
    exec (.loadAndAcquire act) s = execLoadAndAcquire act s := rfl
@[simp] theorem exec_acquisitionFail act (s : State) :
    exec (.acquisitionFail act) s = execAcquisitionFail act s := rfl
@[simp] theorem exec_park act (s : State) :
    exec (.park act) s = execPark act s := rfl
@[simp] theorem exec_clearSvCounters act (s : State) :
    exec (.clearSvCounters act) s = execClearSvCounters act s := rfl
@[simp] theorem exec_traceArm act (s : State) :
    exec (.traceArm act) s = execTraceArm act s := rfl
@[simp] theorem exec_traceTriggerNow act (s : State) :
    exec (.traceTriggerNow act) s = execTraceTriggerNow act s := rfl
@[simp] theorem exec_traceStop act (s : State) :
    exec (.traceStop act) s = execTraceStop act s := rfl
@[simp] theorem exec_injectionStart act (s : State) :
    exec (.injectionStart act) s = execInjectionStart act s := rfl
@[simp] theorem exec_injectionStop act (s : State) :
    exec (.injectionStop act) s = execInjectionStop act s := rfl
@[simp] theorem exec_injectionEnd act (s : State) :
    exec (.injectionEnd act) s = execInjectionEnd act s := rfl
@[simp] theorem exec_forcedSwap act (s : State) :
    exec (.forcedSwap act) s = execForcedSwap act s := rfl
@[simp] theorem exec_cancelSwap act (s : State) :
    exec (.cancelSwap act) s = execCancelSwap act s := rfl
@[simp] theorem exec_currentLoopTick act adc vcoil (s : State) :
    exec (.currentLoopTick act adc vcoil) s = execCurrentLoopTick act adc vcoil s := rfl
@[simp] theorem exec_mcCtrlWrite value (s : State) :
    exec (.mcCtrlWrite value) s = execMcCtrlWrite value s := rfl
@[simp] theorem exec_spindleStart (s : State) :
    exec (.spindleStart) s = execSpindleStart s := rfl
@[simp] theorem exec_stopByCoasting (s : State) :
    exec (.stopByCoasting) s = execStopByCoasting s := rfl
@[simp] theorem exec_stopByBraking (s : State) :
    exec (.stopByBraking) s = execStopByBraking s := rfl
@[simp] theorem exec_backEmfZeroCrossing consistent speed (s : State) :
    exec (.backEmfZeroCrossing consistent speed) s = execBackEmfZeroCrossing consistent speed s := rfl
@[simp] theorem exec_spindleGrant (s : State) :
    exec (.spindleGrant) s = execSpindleGrant s := rfl
@[simp] theorem exec_catchTimeout (s : State) :
    exec (.catchTimeout) s = execCatchTimeout s := rfl
@[simp] theorem exec_alignTimeout (s : State) :
    exec (.alignTimeout) s = execAlignTimeout s := rfl
@[simp] theorem exec_rampTimeout (s : State) :
    exec (.rampTimeout) s = execRampTimeout s := rfl
@[simp] theorem exec_rundownTimeout (s : State) :
    exec (.rundownTimeout) s = execRundownTimeout s := rfl
@[simp] theorem exec_brakeHoldEnd (s : State) :
    exec (.brakeHoldEnd) s = execBrakeHoldEnd s := rfl
@[simp] theorem exec_observerUpdate theta speed residual (s : State) :
    exec (.observerUpdate theta speed residual) s = execObserverUpdate theta speed residual s := rfl
@[simp] theorem exec_speedLoop (s : State) :
    exec (.speedLoop) s = execSpeedLoop s := rfl
@[simp] theorem exec_reacquireTimeout (s : State) :
    exec (.reacquireTimeout) s = execReacquireTimeout s := rfl
@[simp] theorem exec_idleDepthWrite depth (s : State) :
    exec (.idleDepthWrite depth) s = execIdleDepthWrite depth s := rfl
@[simp] theorem exec_spFlt (s : State) :
    exec (.spFlt) s = execSpFlt s := rfl
@[simp] theorem exec_vcmFlt act (s : State) :
    exec (.vcmFlt act) s = execVcmFlt act s := rfl
@[simp] theorem exec_vcmFaultPersist act (s : State) :
    exec (.vcmFaultPersist act) s = execVcmFaultPersist act s := rfl
@[simp] theorem exec_brkFlt (s : State) :
    exec (.brkFlt) s = execBrkFlt s := rfl
@[simp] theorem exec_overVoltage (s : State) :
    exec (.overVoltage) s = execOverVoltage s := rfl
@[simp] theorem exec_brakeChopperSwitch vm (s : State) :
    exec (.brakeChopperSwitch vm) s = execBrakeChopperSwitch vm s := rfl
@[simp] theorem exec_powerLoss (s : State) :
    exec (.powerLoss) s = execPowerLoss s := rfl
@[simp] theorem exec_retractVelocityEnd act (s : State) :
    exec (.retractVelocityEnd act) s = execRetractVelocityEnd act s := rfl
@[simp] theorem exec_latchEnd act (s : State) :
    exec (.latchEnd act) s = execLatchEnd act s := rfl
@[simp] theorem exec_mwNop seq thread (s : State) :
    exec (.mwNop seq thread) s = execMwNop seq thread s := rfl
@[simp] theorem exec_mwLdi seq thread (s : State) :
    exec (.mwLdi seq thread) s = execMwLdi seq thread s := rfl
@[simp] theorem exec_mwAdd seq thread (s : State) :
    exec (.mwAdd seq thread) s = execMwAdd seq thread s := rfl
@[simp] theorem exec_mwSub seq thread (s : State) :
    exec (.mwSub seq thread) s = execMwSub seq thread s := rfl
@[simp] theorem exec_mwAnd seq thread (s : State) :
    exec (.mwAnd seq thread) s = execMwAnd seq thread s := rfl
@[simp] theorem exec_mwOr seq thread (s : State) :
    exec (.mwOr seq thread) s = execMwOr seq thread s := rfl
@[simp] theorem exec_mwXor seq thread (s : State) :
    exec (.mwXor seq thread) s = execMwXor seq thread s := rfl
@[simp] theorem exec_mwExt seq thread (s : State) :
    exec (.mwExt seq thread) s = execMwExt seq thread s := rfl
@[simp] theorem exec_mwIns seq thread (s : State) :
    exec (.mwIns seq thread) s = execMwIns seq thread s := rfl
@[simp] theorem exec_mwBr seq thread (s : State) :
    exec (.mwBr seq thread) s = execMwBr seq thread s := rfl
@[simp] theorem exec_mwCall seq thread (s : State) :
    exec (.mwCall seq thread) s = execMwCall seq thread s := rfl
@[simp] theorem exec_mwRet seq thread (s : State) :
    exec (.mwRet seq thread) s = execMwRet seq thread s := rfl
@[simp] theorem exec_mwJr seq thread (s : State) :
    exec (.mwJr seq thread) s = execMwJr seq thread s := rfl
@[simp] theorem exec_mwWait seq thread (s : State) :
    exec (.mwWait seq thread) s = execMwWait seq thread s := rfl
@[simp] theorem exec_waitWake seq thread (s : State) :
    exec (.waitWake seq thread) s = execWaitWake seq thread s := rfl
@[simp] theorem exec_waitTimeout seq thread (s : State) :
    exec (.waitTimeout seq thread) s = execWaitTimeout seq thread s := rfl
@[simp] theorem exec_mwFetch seq thread (s : State) :
    exec (.mwFetch seq thread) s = execMwFetch seq thread s := rfl
@[simp] theorem exec_mwEnd seq thread (s : State) :
    exec (.mwEnd seq thread) s = execMwEnd seq thread s := rfl
@[simp] theorem exec_mwPost seq thread (s : State) :
    exec (.mwPost seq thread) s = execMwPost seq thread s := rfl
@[simp] theorem exec_mwSig seq thread (s : State) :
    exec (.mwSig seq thread) s = execMwSig seq thread s := rfl
@[simp] theorem exec_mwArmAcq seq thread (s : State) :
    exec (.mwArmAcq seq thread) s = execMwArmAcq seq thread s := rfl
@[simp] theorem exec_mwArmRel seq thread (s : State) :
    exec (.mwArmRel seq thread) s = execMwArmRel seq thread s := rfl
@[simp] theorem exec_mwSeek seq thread (s : State) :
    exec (.mwSeek seq thread) s = execMwSeek seq thread s := rfl
@[simp] theorem exec_mwComb seq thread (s : State) :
    exec (.mwComb seq thread) s = execMwComb seq thread s := rfl
@[simp] theorem exec_mwSubc seq thread (s : State) :
    exec (.mwSubc seq thread) s = execMwSubc seq thread s := rfl
@[simp] theorem exec_mwOfs seq thread (s : State) :
    exec (.mwOfs seq thread) s = execMwOfs seq thread s := rfl
@[simp] theorem exec_mwSpred seq thread (s : State) :
    exec (.mwSpred seq thread) s = execMwSpred seq thread s := rfl
@[simp] theorem exec_mwCrel seq thread (s : State) :
    exec (.mwCrel seq thread) s = execMwCrel seq thread s := rfl
@[simp] theorem exec_mwPwrReq seq thread (s : State) :
    exec (.mwPwrReq seq thread) s = execMwPwrReq seq thread s := rfl
@[simp] theorem exec_mwPwrRel seq thread (s : State) :
    exec (.mwPwrRel seq thread) s = execMwPwrRel seq thread s := rfl
@[simp] theorem exec_mwFlmReq seq thread (s : State) :
    exec (.mwFlmReq seq thread) s = execMwFlmReq seq thread s := rfl
@[simp] theorem exec_mwFlmRel seq thread (s : State) :
    exec (.mwFlmRel seq thread) s = execMwFlmRel seq thread s := rfl
@[simp] theorem exec_mwResGet seq thread (s : State) :
    exec (.mwResGet seq thread) s = execMwResGet seq thread s := rfl
@[simp] theorem exec_mwVresGet seq thread (s : State) :
    exec (.mwVresGet seq thread) s = execMwVresGet seq thread s := rfl
@[simp] theorem exec_mwWrArm seq thread (s : State) :
    exec (.mwWrArm seq thread) s = execMwWrArm seq thread s := rfl
@[simp] theorem exec_mwWrAbort seq thread (s : State) :
    exec (.mwWrAbort seq thread) s = execMwWrAbort seq thread s := rfl
@[simp] theorem exec_csParity seq word (s : State) :
    exec (.csParity seq word) s = execCsParity seq word s := rfl
@[simp] theorem exec_sequencerStart seq (s : State) :
    exec (.sequencerStart seq) s = execSequencerStart seq s := rfl
@[simp] theorem exec_sequencerHalt seq (s : State) :
    exec (.sequencerHalt seq) s = execSequencerHalt seq s := rfl
@[simp] theorem exec_beginLoad core seq (s : State) :
    exec (.beginLoad core seq) s = execBeginLoad core seq s := rfl
@[simp] theorem exec_endLoad core seq (s : State) :
    exec (.endLoad core seq) s = execEndLoad core seq s := rfl
@[simp] theorem exec_threadEnableWrite seq mask (s : State) :
    exec (.threadEnableWrite seq mask) s = execThreadEnableWrite seq mask s := rfl
@[simp] theorem exec_controlStoreWrite core seq word half value (s : State) :
    exec (.controlStoreWrite core seq word half value) s = execControlStoreWrite core seq word half value s := rfl
@[simp] theorem exec_nsEnable ns (s : State) :
    exec (.nsEnable ns) s = execNsEnable ns s := rfl
@[simp] theorem exec_recover (s : State) :
    exec (.recover) s = execRecover s := rfl
@[simp] theorem exec_recoveryComplete ok (s : State) :
    exec (.recoveryComplete ok) s = execRecoveryComplete ok s := rfl
@[simp] theorem exec_checkpointNow (s : State) :
    exec (.checkpointNow) s = execCheckpointNow s := rfl
@[simp] theorem exec_journalWrite (s : State) :
    exec (.journalWrite) s = execJournalWrite s := rfl
@[simp] theorem exec_dispatch act (s : State) :
    exec (.dispatch act) s = execDispatch act s := rfl
@[simp] theorem exec_scheduleSlot act (s : State) :
    exec (.scheduleSlot act) s = execScheduleSlot act s := rfl
@[simp] theorem exec_compressionJobStart (s : State) :
    exec (.compressionJobStart) s = execCompressionJobStart s := rfl
@[simp] theorem exec_compressionDone eng selfCheckOk (s : State) :
    exec (.compressionDone eng selfCheckOk) s = execCompressionDone eng selfCheckOk s := rfl
@[simp] theorem exec_expansionDone eng (s : State) :
    exec (.expansionDone eng) s = execExpansionDone eng s := rfl
@[simp] theorem exec_engineFault eng (s : State) :
    exec (.engineFault eng) s = execEngineFault eng s := rfl
@[simp] theorem exec_engineIdleGate eng (s : State) :
    exec (.engineIdleGate eng) s = execEngineIdleGate eng s := rfl
@[simp] theorem exec_partialChunkForce ns chunk (s : State) :
    exec (.partialChunkForce ns chunk) s = execPartialChunkForce ns chunk s := rfl
@[simp] theorem exec_indexCheckpoint (s : State) :
    exec (.indexCheckpoint) s = execIndexCheckpoint s := rfl
@[simp] theorem exec_rebuildIndex (s : State) :
    exec (.rebuildIndex) s = execRebuildIndex s := rfl
@[simp] theorem exec_rebuildComplete ok (s : State) :
    exec (.rebuildComplete ok) s = execRebuildComplete ok s := rfl
@[simp] theorem exec_linkUp port speed width (s : State) :
    exec (.linkUp port speed width) s = execLinkUp port speed width s := rfl
@[simp] theorem exec_linkTrainingStart port (s : State) :
    exec (.linkTrainingStart port) s = execLinkTrainingStart port s := rfl
@[simp] theorem exec_dlDown port (s : State) :
    exec (.dlDown port) s = execDlDown port s := rfl
@[simp] theorem exec_hotReset port (s : State) :
    exec (.hotReset port) s = execHotReset port s := rfl
@[simp] theorem exec_laneNarrowing port width (s : State) :
    exec (.laneNarrowing port width) s = execLaneNarrowing port width s := rfl
@[simp] theorem exec_submissionDoorbell ctl qid tail (s : State) :
    exec (.submissionDoorbell ctl qid tail) s = execSubmissionDoorbell ctl qid tail s := rfl
@[simp] theorem exec_commandFetch ctl qid cmd (s : State) :
    exec (.commandFetch ctl qid cmd) s = execCommandFetch ctl qid cmd s := rfl
@[simp] theorem exec_controllerReset ctl (s : State) :
    exec (.controllerReset ctl) s = execControllerReset ctl s := rfl
@[simp] theorem exec_controllerEnable ctl ams (s : State) :
    exec (.controllerEnable ctl ams) s = execControllerEnable ctl ams s := rfl
@[simp] theorem exec_shutdownNotification ctl (s : State) :
    exec (.shutdownNotification ctl) s = execShutdownNotification ctl s := rfl
@[simp] theorem exec_nvmeRead ctx (s : State) :
    exec (.nvmeRead ctx) s = execNvmeRead ctx s := rfl
@[simp] theorem exec_nvmeWrite ctx data (s : State) :
    exec (.nvmeWrite ctx data) s = execNvmeWrite ctx data s := rfl
@[simp] theorem exec_nvmeFlush ctx (s : State) :
    exec (.nvmeFlush ctx) s = execNvmeFlush ctx s := rfl
@[simp] theorem exec_zoneAppend ctx data (s : State) :
    exec (.zoneAppend ctx data) s = execZoneAppend ctx data s := rfl
@[simp] theorem exec_writeZeroes ctx (s : State) :
    exec (.writeZeroes ctx) s = execWriteZeroes ctx s := rfl
@[simp] theorem exec_datasetManagement ctx (s : State) :
    exec (.datasetManagement ctx) s = execDatasetManagement ctx s := rfl
@[simp] theorem exec_zoneOpen ctx (s : State) :
    exec (.zoneOpen ctx) s = execZoneOpen ctx s := rfl
@[simp] theorem exec_zoneClose ctx (s : State) :
    exec (.zoneClose ctx) s = execZoneClose ctx s := rfl
@[simp] theorem exec_zoneFinish ctx (s : State) :
    exec (.zoneFinish ctx) s = execZoneFinish ctx s := rfl
@[simp] theorem exec_zoneReset ctx (s : State) :
    exec (.zoneReset ctx) s = execZoneReset ctx s := rfl
@[simp] theorem exec_zoneOffline ctx (s : State) :
    exec (.zoneOffline ctx) s = execZoneOffline ctx s := rfl
@[simp] theorem exec_reportZones ctx (s : State) :
    exec (.reportZones ctx) s = execReportZones ctx s := rfl
@[simp] theorem exec_nvmeAbort ctx (s : State) :
    exec (.nvmeAbort ctx) s = execNvmeAbort ctx s := rfl
@[simp] theorem exec_asynchronousEventRequest ctx (s : State) :
    exec (.asynchronousEventRequest ctx) s = execAsynchronousEventRequest ctx s := rfl
@[simp] theorem exec_completionPost ctx status (s : State) :
    exec (.completionPost ctx status) s = execCompletionPost ctx status s := rfl
@[simp] theorem exec_deviceSelfTest ctx (s : State) :
    exec (.deviceSelfTest ctx) s = execDeviceSelfTest ctx s := rfl
@[simp] theorem exec_selfTestResume (s : State) :
    exec (.selfTestResume) s = execSelfTestResume s := rfl
@[simp] theorem exec_firmwareImageDownload ctx data (s : State) :
    exec (.firmwareImageDownload ctx data) s = execFirmwareImageDownload ctx data s := rfl
@[simp] theorem exec_firmwareCommit ctx (s : State) :
    exec (.firmwareCommit ctx) s = execFirmwareCommit ctx s := rfl
@[simp] theorem exec_activationTimeout (s : State) :
    exec (.activationTimeout) s = execActivationTimeout s := rfl
@[simp] theorem exec_formatNvm ctx (s : State) :
    exec (.formatNvm ctx) s = execFormatNvm ctx s := rfl
@[simp] theorem exec_sanitize ctx (s : State) :
    exec (.sanitize ctx) s = execSanitize ctx s := rfl
@[simp] theorem exec_namespaceManagement ctx (s : State) :
    exec (.namespaceManagement ctx) s = execNamespaceManagement ctx s := rfl
@[simp] theorem exec_namespaceAttachment ctx (s : State) :
    exec (.namespaceAttachment ctx) s = execNamespaceAttachment ctx s := rfl
@[simp] theorem exec_reservationCommand ctx (s : State) :
    exec (.reservationCommand ctx) s = execReservationCommand ctx s := rfl
@[simp] theorem exec_createIoQueue ctx (s : State) :
    exec (.createIoQueue ctx) s = execCreateIoQueue ctx s := rfl
@[simp] theorem exec_deleteIoSubmissionQueue ctx (s : State) :
    exec (.deleteIoSubmissionQueue ctx) s = execDeleteIoSubmissionQueue ctx s := rfl
@[simp] theorem exec_deleteIoCompletionQueue ctx (s : State) :
    exec (.deleteIoCompletionQueue ctx) s = execDeleteIoCompletionQueue ctx s := rfl
@[simp] theorem exec_identify ctx (s : State) :
    exec (.identify ctx) s = execIdentify ctx s := rfl
@[simp] theorem exec_getLogPage ctx (s : State) :
    exec (.getLogPage ctx) s = execGetLogPage ctx s := rfl
@[simp] theorem exec_setFeatures ctx (s : State) :
    exec (.setFeatures ctx) s = execSetFeatures ctx s := rfl
@[simp] theorem exec_getFeatures ctx (s : State) :
    exec (.getFeatures ctx) s = execGetFeatures ctx s := rfl
@[simp] theorem exec_powerStateChange ctx (s : State) :
    exec (.powerStateChange ctx) s = execPowerStateChange ctx s := rfl
@[simp] theorem exec_unsupportedCommand ctx (s : State) :
    exec (.unsupportedCommand ctx) s = execUnsupportedCommand ctx s := rfl
@[simp] theorem exec_grant port (s : State) :
    exec (.grant port) s = execGrant port s := rfl
@[simp] theorem exec_rebalance (s : State) :
    exec (.rebalance) s = execRebalance s := rfl
@[simp] theorem exec_unitsReturn port (s : State) :
    exec (.unitsReturn port) s = execUnitsReturn port s := rfl
@[simp] theorem exec_withdrawalTimeout port (s : State) :
    exec (.withdrawalTimeout port) s = execWithdrawalTimeout port s := rfl
@[simp] theorem exec_staggerTimeout (s : State) :
    exec (.staggerTimeout) s = execStaggerTimeout s := rfl
@[simp] theorem exec_unsanctionedDraw port (s : State) :
    exec (.unsanctionedDraw port) s = execUnsanctionedDraw port s := rfl
@[simp] theorem exec_currentTrip rail5 milliamps (s : State) :
    exec (.currentTrip rail5 milliamps) s = execCurrentTrip rail5 milliamps s := rfl
@[simp] theorem exec_currentPersist rail5 (s : State) :
    exec (.currentPersist rail5) s = execCurrentPersist rail5 s := rfl
@[simp] theorem exec_groupPowerOff group (s : State) :
    exec (.groupPowerOff group) s = execGroupPowerOff group s := rfl
@[simp] theorem exec_sensorSample sensor temp bad (s : State) :
    exec (.sensorSample sensor temp bad) s = execSensorSample sensor temp bad s := rfl
@[simp] theorem exec_stepUpTimer (s : State) :
    exec (.stepUpTimer) s = execStepUpTimer s := rfl
@[simp] theorem exec_stepDownTimer (s : State) :
    exec (.stepDownTimer) s = execStepDownTimer s := rfl
@[simp] theorem exec_shutdownCutoff (s : State) :
    exec (.shutdownCutoff) s = execShutdownCutoff s := rfl
@[simp] theorem exec_releaseShutdown (s : State) :
    exec (.releaseShutdown) s = execReleaseShutdown s := rfl
@[simp] theorem exec_telemetryStale head (s : State) :
    exec (.telemetryStale head) s = execTelemetryStale head s := rfl
@[simp] theorem exec_confirm core (s : State) :
    exec (.confirm core) s = execConfirm core s := rfl
@[simp] theorem exec_raiseFloors core (s : State) :
    exec (.raiseFloors core) s = execRaiseFloors core s := rfl
@[simp] theorem exec_reloadMicrocode core (s : State) :
    exec (.reloadMicrocode core) s = execReloadMicrocode core s := rfl
@[simp] theorem exec_seal block (s : State) :
    exec (.seal block) s = execSeal block s := rfl
@[simp] theorem exec_lifecycleTransition block (s : State) :
    exec (.lifecycleTransition block) s = execLifecycleTransition block s := rfl
@[simp] theorem exec_revokeSignKey block (s : State) :
    exec (.revokeSignKey block) s = execRevokeSignKey block s := rfl
@[simp] theorem exec_programSignKey block (s : State) :
    exec (.programSignKey block) s = execProgramSignKey block s := rfl
@[simp] theorem exec_programOwnerKey block (s : State) :
    exec (.programOwnerKey block) s = execProgramOwnerKey block s := rfl
@[simp] theorem exec_ownerCommand block fromHost (s : State) :
    exec (.ownerCommand block fromHost) s = execOwnerCommand block fromHost s := rfl
@[simp] theorem exec_getVersion (s : State) :
    exec (.getVersion) s = execGetVersion s := rfl
@[simp] theorem exec_getCapabilities (s : State) :
    exec (.getCapabilities) s = execGetCapabilities s := rfl
@[simp] theorem exec_negotiateAlgorithms asym hash (s : State) :
    exec (.negotiateAlgorithms asym hash) s = execNegotiateAlgorithms asym hash s := rfl
@[simp] theorem exec_getDigests (s : State) :
    exec (.getDigests) s = execGetDigests s := rfl
@[simp] theorem exec_getCertificate slot offset length (s : State) :
    exec (.getCertificate slot offset length) s = execGetCertificate slot offset length s := rfl
@[simp] theorem exec_challenge slot nonce (s : State) :
    exec (.challenge slot nonce) s = execChallenge slot nonce s := rfl
@[simp] theorem exec_getMeasurements index signed nonce (s : State) :
    exec (.getMeasurements index signed nonce) s = execGetMeasurements index signed nonce s := rfl
@[simp] theorem exec_bmEnable (s : State) :
    exec (.bmEnable) s = execBmEnable s := rfl
@[simp] theorem exec_deviceReady dev ok (s : State) :
    exec (.deviceReady dev ok) s = execDeviceReady dev ok s := rfl
@[simp] theorem exec_periodicRetrain dev channel (s : State) :
    exec (.periodicRetrain dev channel) s = execPeriodicRetrain dev channel s := rfl
@[simp] theorem exec_fullRetrain (s : State) :
    exec (.fullRetrain) s = execFullRetrain s := rfl
@[simp] theorem exec_clearBmDevErr (s : State) :
    exec (.clearBmDevErr) s = execClearBmDevErr s := rfl
@[simp] theorem exec_edcMismatch dev channel outcome (s : State) :
    exec (.edcMismatch dev channel outcome) s = execEdcMismatch dev channel outcome s := rfl
@[simp] theorem exec_cisternAccess master op addr data len error (s : State) :
    exec (.cisternAccess master op addr data len error) s = execCisternAccess master op addr data len error s := rfl
@[simp] theorem exec_scrub dev unit error (s : State) :
    exec (.scrub dev unit error) s = execScrub dev unit error s := rfl
@[simp] theorem exec_reservoirAccess master op addr data len error (s : State) :
    exec (.reservoirAccess master op addr data len error) s = execReservoirAccess master op addr data len error s := rfl
@[simp] theorem exec_reservoirFill (s : State) :
    exec (.reservoirFill) s = execReservoirFill s := rfl
@[simp] theorem exec_fillDone (s : State) :
    exec (.fillDone) s = execFillDone s := rfl
@[simp] theorem exec_coreRun core target (s : State) :
    exec (.coreRun core target) s = execCoreRun core target s := rfl
@[simp] theorem exec_coreStop core target (s : State) :
    exec (.coreStop core target) s = execCoreStop core target s := rfl
@[simp] theorem exec_machineTimer core (s : State) :
    exec (.machineTimer core) s = execMachineTimer core s := rfl
@[simp] theorem exec_l2LockWrite value (s : State) :
    exec (.l2LockWrite value) s = execL2LockWrite value s := rfl
@[simp] theorem exec_clean (s : State) :
    exec (.clean) s = execClean s := rfl
@[simp] theorem exec_invalidate (s : State) :
    exec (.invalidate) s = execInvalidate s := rfl
@[simp] theorem exec_cleanAndInvalidate (s : State) :
    exec (.cleanAndInvalidate) s = execCleanAndInvalidate s := rfl
@[simp] theorem exec_lockFill (s : State) :
    exec (.lockFill) s = execLockFill s := rfl
@[simp] theorem exec_invalidateIncludingLocked (s : State) :
    exec (.invalidateIncludingLocked) s = execInvalidateIncludingLocked s := rfl
@[simp] theorem exec_cleanAndInvalidateAll (s : State) :
    exec (.cleanAndInvalidateAll) s = execCleanAndInvalidateAll s := rfl
@[simp] theorem exec_cmoDone (s : State) :
    exec (.cmoDone) s = execCmoDone s := rfl
@[simp] theorem exec_cacheProtectionError cache core kind addr (s : State) :
    exec (.cacheProtectionError cache core kind addr) s = execCacheProtectionError cache core kind addr s := rfl
@[simp] theorem exec_sourceAssert src level (s : State) :
    exec (.sourceAssert src level) s = execSourceAssert src level s := rfl
@[simp] theorem exec_softwareSourceRaise src (s : State) :
    exec (.softwareSourceRaise src) s = execSoftwareSourceRaise src s := rfl
@[simp] theorem exec_offerTimeout src (s : State) :
    exec (.offerTimeout src) s = execOfferTimeout src s := rfl
@[simp] theorem exec_moderationRelease target (s : State) :
    exec (.moderationRelease target) s = execModerationRelease target s := rfl
@[simp] theorem exec_claim core target (s : State) :
    exec (.claim core target) s = execClaim core target s := rfl
@[simp] theorem exec_complete core target src (s : State) :
    exec (.complete core target src) s = execComplete core target src s := rfl
@[simp] theorem exec_eventAccept src code payload (s : State) :
    exec (.eventAccept src code payload) s = execEventAccept src code payload s := rfl
@[simp] theorem exec_firmwareRecordSubmit core code len16 (s : State) :
    exec (.firmwareRecordSubmit core code len16) s = execFirmwareRecordSubmit core code len16 s := rfl
@[simp] theorem exec_recordProgrammed (s : State) :
    exec (.recordProgrammed) s = execRecordProgrammed s := rfl
@[simp] theorem exec_recordClose (s : State) :
    exec (.recordClose) s = execRecordClose s := rfl
@[simp] theorem exec_drain (s : State) :
    exec (.drain) s = execDrain s := rfl
@[simp] theorem exec_restartChapter (s : State) :
    exec (.restartChapter) s = execRestartChapter s := rfl
@[simp] theorem exec_sectorEraseDone (s : State) :
    exec (.sectorEraseDone) s = execSectorEraseDone s := rfl
@[simp] theorem exec_probeFlash ok (s : State) :
    exec (.probeFlash ok) s = execProbeFlash ok s := rfl
@[simp] theorem exec_freeKind1Slots (s : State) :
    exec (.freeKind1Slots) s = execFreeKind1Slots s := rfl
@[simp] theorem exec_programTimeout (s : State) :
    exec (.programTimeout) s = execProgramTimeout s := rfl
@[simp] theorem exec_logMemoryFailed cause (s : State) :
    exec (.logMemoryFailed cause) s = execLogMemoryFailed cause s := rfl
@[simp] theorem exec_writePointSearch (s : State) :
    exec (.writePointSearch) s = execWritePointSearch s := rfl
@[simp] theorem exec_xspiWrite requester erase offset data (s : State) :
    exec (.xspiWrite requester erase offset data) s = execXspiWrite requester erase offset data s := rfl
@[simp] theorem exec_mctpPacket bus pecOk dest som eom seqNo tag type_ data (s : State) :
    exec (.mctpPacket bus pecOk dest som eom seqNo tag type_ data) s = execMctpPacket bus pecOk dest som eom seqNo tag type_ data s := rfl
@[simp] theorem exec_entdaa addr (s : State) :
    exec (.entdaa addr) s = execEntdaa addr s := rfl
@[simp] theorem exec_setdasa static_ addr (s : State) :
    exec (.setdasa static_ addr) s = execSetdasa static_ addr s := rfl
@[simp] theorem exec_setEndpointId op eid (s : State) :
    exec (.setEndpointId op eid) s = execSetEndpointId op eid s := rfl
@[simp] theorem exec_getEndpointId (s : State) :
    exec (.getEndpointId) s = execGetEndpointId s := rfl
@[simp] theorem exec_getEndpointUuid (s : State) :
    exec (.getEndpointUuid) s = execGetEndpointUuid s := rfl
@[simp] theorem exec_getMctpVersionSupport type_ (s : State) :
    exec (.getMctpVersionSupport type_) s = execGetMctpVersionSupport type_ s := rfl
@[simp] theorem exec_getMessageTypeSupport (s : State) :
    exec (.getMessageTypeSupport) s = execGetMessageTypeSupport s := rfl
@[simp] theorem exec_readNvmeMiDataStructure kind index (s : State) :
    exec (.readNvmeMiDataStructure kind index) s = execReadNvmeMiDataStructure kind index s := rfl
@[simp] theorem exec_subsystemHealthStatusPoll clear (s : State) :
    exec (.subsystemHealthStatusPoll clear) s = execSubsystemHealthStatusPoll clear s := rfl
@[simp] theorem exec_controllerHealthStatusPoll ctl (s : State) :
    exec (.controllerHealthStatusPoll ctl) s = execControllerHealthStatusPoll ctl s := rfl
@[simp] theorem exec_configurationGet ident (s : State) :
    exec (.configurationGet ident) s = execConfigurationGet ident s := rfl
@[simp] theorem exec_configurationSet ident value (s : State) :
    exec (.configurationSet ident value) s = execConfigurationSet ident value s := rfl
@[simp] theorem exec_tunnelledAdmin ctl opcode nsid cdw10 cdw11 cdw12 cdw13 (s : State) :
    exec (.tunnelledAdmin ctl opcode nsid cdw10 cdw11 cdw12 cdw13) s = execTunnelledAdmin ctl opcode nsid cdw10 cdw11 cdw12 cdw13 s := rfl
@[simp] theorem exec_getHealth (s : State) :
    exec (.getHealth) s = execGetHealth s := rfl
@[simp] theorem exec_parkCommand (s : State) :
    exec (.parkCommand) s = execParkCommand s := rfl
@[simp] theorem exec_parkAndSpinDownCommand (s : State) :
    exec (.parkAndSpinDownCommand) s = execParkAndSpinDownCommand s := rfl
@[simp] theorem exec_endParkCommand (s : State) :
    exec (.endParkCommand) s = execEndParkCommand s := rfl
@[simp] theorem exec_powerDownCommand (s : State) :
    exec (.powerDownCommand) s = execPowerDownCommand s := rfl
@[simp] theorem exec_wake (s : State) :
    exec (.wake) s = execWake s := rfl
@[simp] theorem exec_fullReset dword1 (s : State) :
    exec (.fullReset dword1) s = execFullReset dword1 s := rfl
@[simp] theorem exec_stageData kind offset data (s : State) :
    exec (.stageData kind offset data) s = execStageData kind offset data s := rfl
@[simp] theorem exec_stageCommit kind (s : State) :
    exec (.stageCommit kind) s = execStageCommit kind s := rfl
@[simp] theorem exec_stagingTimeout kind (s : State) :
    exec (.stagingTimeout kind) s = execStagingTimeout kind s := rfl
@[simp] theorem exec_releaseShutdownCommand dword1 (s : State) :
    exec (.releaseShutdownCommand dword1) s = execReleaseShutdownCommand dword1 s := rfl
@[simp] theorem exec_mpPark core (s : State) :
    exec (.mpPark core) s = execMpPark core s := rfl
@[simp] theorem exec_mpParkAndSpinDown core (s : State) :
    exec (.mpParkAndSpinDown core) s = execMpParkAndSpinDown core s := rfl
@[simp] theorem exec_mpEndPark core (s : State) :
    exec (.mpEndPark core) s = execMpEndPark core s := rfl
@[simp] theorem exec_mpPowerDown core (s : State) :
    exec (.mpPowerDown core) s = execMpPowerDown core s := rfl
@[simp] theorem exec_parkComplete (s : State) :
    exec (.parkComplete) s = execParkComplete s := rfl
@[simp] theorem exec_mpWdtKick core value (s : State) :
    exec (.mpWdtKick core value) s = execMpWdtKick core value s := rfl
@[simp] theorem exec_mpWdtEnable core value (s : State) :
    exec (.mpWdtEnable core value) s = execMpWdtEnable core value s := rfl
@[simp] theorem exec_mpWdtExpiry (s : State) :
    exec (.mpWdtExpiry) s = execMpWdtExpiry s := rfl
@[simp] theorem exec_vcmFltClear act (s : State) :
    exec (.vcmFltClear act) s = execVcmFltClear act s := rfl
@[simp] theorem exec_requestStarved port (s : State) :
    exec (.requestStarved port) s = execRequestStarved port s := rfl
@[simp] theorem exec_auxiliaryRailLoss (s : State) :
    exec (.auxiliaryRailLoss) s = execAuxiliaryRailLoss s := rfl
@[simp] theorem exec_hlrefStop act (s : State) :
    exec (.hlrefStop act) s = execHlrefStop act s := rfl
@[simp] theorem exec_drainTimeLimit (s : State) :
    exec (.drainTimeLimit) s = execDrainTimeLimit s := rfl
@[simp] theorem exec_writeSectorEnd head (s : State) :
    exec (.writeSectorEnd head) s = execWriteSectorEnd head s := rfl
@[simp] theorem exec_activationFlashWriteEnd ok (s : State) :
    exec (.activationFlashWriteEnd ok) s = execActivationFlashWriteEnd ok s := rfl

end Sys2Proof.Machine
end

