-- ==== Sys2Proof/Laws/KV.lean ====
section
/-! SUPPORT. Sparse maps: reading after listing and unlisting, and the canonical form. -/

namespace Sys2Proof.Machine

section
variable {κ β : Type} [DecidableEq κ]

@[simp] theorem KV.get_nil (k : κ) : KV.get ([] : List (κ × β)) k = none := rfl

@[simp] theorem KV.get_put_same (lt : κ → κ → Bool) (m : List (κ × β)) (k : κ) (v : β) :
    KV.get (KV.put lt m k v) k = some v := by
  induction m with
  | nil => simp [KV.put, KV.get]
  | cons c r ih =>
    obtain ⟨a, w⟩ := c
    unfold KV.put
    split
    · simp [KV.get]
    · split
      · simp [KV.get]
      · simp [KV.get, *]

theorem KV.get_put_ne (lt : κ → κ → Bool) (m : List (κ × β)) {k j : κ} (v : β) (h : k ≠ j) :
    KV.get (KV.put lt m k v) j = KV.get m j := by
  induction m with
  | nil => simp [KV.put, KV.get, h]
  | cons c r ih =>
    obtain ⟨a, w⟩ := c
    unfold KV.put
    split
    · subst_vars; simp [KV.get, h]
    · split
      · simp [KV.get, h]
      · simp [KV.get, ih]

@[simp] theorem KV.get_del_same (m : List (κ × β)) (k : κ) : KV.get (KV.del m k) k = none := by
  induction m with
  | nil => rfl
  | cons c r ih =>
    obtain ⟨a, w⟩ := c
    by_cases h : a = k <;> simp [KV.del, KV.get, h, ih]

theorem KV.get_del_ne (m : List (κ × β)) {k j : κ} (h : k ≠ j) : KV.get (KV.del m k) j = KV.get m j := by
  induction m with
  | nil => rfl
  | cons c r ih =>
    obtain ⟨a, w⟩ := c
    by_cases e : a = k
    · subst e; simp [KV.del, KV.get, h, ih]
    · simp [KV.del, KV.get, e, ih]

/-- A member of a map after listing is the new entry or was there. -/
theorem KV.mem_put (lt : κ → κ → Bool) {m : List (κ × β)} {k : κ} {v : β} {c : κ × β}
    (h : c ∈ KV.put lt m k v) : c = (k, v) ∨ c ∈ m := by
  induction m with
  | nil => simpa [KV.put] using h
  | cons d r ih =>
    obtain ⟨a, w⟩ := d
    unfold KV.put at h
    split at h
    · simp at h; tauto
    · split at h
      · simp at h ⊢; tauto
      · simp at h ⊢
        rcases h with h | h
        · tauto
        · rcases ih h with h | h <;> tauto

theorem KV.mem_del {m : List (κ × β)} {k : κ} {c : κ × β} (h : c ∈ KV.del m k) : c ∈ m := by
  induction m with
  | nil => simp [KV.del] at h
  | cons d r ih =>
    obtain ⟨a, w⟩ := d
    unfold KV.del at h
    split at h
    · exact List.mem_cons_of_mem _ (ih h)
    · simp at h ⊢
      rcases h with h | h
      · tauto
      · exact Or.inr (ih h)

/-- Listing keeps the canonical form, for a transitive total order. -/
theorem KV.sorted_put (lt : κ → κ → Bool) (tr : ∀ a b c, lt a b = true → lt b c = true → lt a c = true)
    (tot : ∀ a b, a ≠ b → lt a b = false → lt b a = true) (m : List (κ × β)) (k : κ) (v : β)
    (h : KV.sorted lt m = true) : KV.sorted lt (KV.put lt m k v) = true := by
  induction m with
  | nil => simp [KV.put, KV.sorted]
  | cons c r ih =>
    obtain ⟨a, w⟩ := c
    simp only [KV.sorted, Bool.and_eq_true, List.all_eq_true] at h
    unfold KV.put
    split
    · subst_vars; simpa [KV.sorted, List.all_eq_true] using h
    · split
      · rename_i hlt
        simp only [KV.sorted, Bool.and_eq_true, List.all_eq_true]
        refine ⟨?_, by simpa using h.1, h.2⟩
        intro x hx
        rcases List.mem_cons.1 hx with rfl | hx
        · exact hlt
        · exact tr _ _ _ hlt (h.1 x hx)
      · rename_i hne hlt
        simp only [KV.sorted, Bool.and_eq_true, List.all_eq_true]
        refine ⟨?_, ih h.2⟩
        intro x hx
        rcases KV.mem_put lt hx with rfl | hx
        · exact tot _ _ (Ne.symm hne) (by simpa using hlt)
        · exact h.1 x hx

theorem KV.sorted_del (lt : κ → κ → Bool) (m : List (κ × β)) (k : κ) (h : KV.sorted lt m = true) :
    KV.sorted lt (KV.del m k) = true := by
  induction m with
  | nil => rfl
  | cons c r ih =>
    obtain ⟨a, w⟩ := c
    simp only [KV.sorted, Bool.and_eq_true, List.all_eq_true] at h
    unfold KV.del
    split
    · exact ih h.2
    · simp only [KV.sorted, Bool.and_eq_true, List.all_eq_true]
      exact ⟨fun x hx => h.1 x (KV.mem_del hx), ih h.2⟩

omit [DecidableEq κ] in
theorem KV.sorted_filter (lt : κ → κ → Bool) (p : κ × β → Bool) (m : List (κ × β)) (h : KV.sorted lt m = true) :
    KV.sorted lt (m.filter p) = true := by
  induction m with
  | nil => rfl
  | cons c r ih =>
    obtain ⟨a, w⟩ := c
    simp only [KV.sorted, Bool.and_eq_true, List.all_eq_true] at h
    rw [List.filter_cons]
    split
    · simp only [KV.sorted, Bool.and_eq_true, List.all_eq_true]
      exact ⟨fun x hx => h.1 x (List.mem_of_mem_filter hx), ih h.2⟩
    · exact ih h.2

end

theorem natLt_trans (a b c : Nat) (h : natLt a b = true) (g : natLt b c = true) : natLt a c = true := by
  simp [natLt] at *; omega

theorem natLt_total (a b : Nat) (h : a ≠ b) (g : natLt a b = false) : natLt b a = true := by
  simp [natLt] at *; omega

theorem pairLt_trans (a b c : Nat × Nat) (h : pairLt a b = true) (g : pairLt b c = true) : pairLt a c = true := by
  simp [pairLt] at *; omega

theorem pairLt_total (a b : Nat × Nat) (h : a ≠ b) (g : pairLt a b = false) : pairLt b a = true := by
  obtain ⟨a1, a2⟩ := a
  obtain ⟨b1, b2⟩ := b
  simp [pairLt] at *; omega

end Sys2Proof.Machine
end

