-- ==== Sys2Proof/Laws/State.lean ====
section
/-! SUPPORT. The state under its updates: a register write touches its own cell, and nothing that is no register. -/

namespace Sys2Proof.Machine

theorem State.get_set_same (s : State) (f : Fld) (i v : Nat) : (s.set f i v).get f i = v % 2 ^ f.width := by
  unfold State.get State.set
  dsimp only
  split <;> simp_all

theorem State.get_set_ne (s : State) (f g : Fld) (i j v : Nat) (h : f.id ≠ g.id) : (s.set f i v).get g j = s.get g j := by
  unfold State.get State.set
  dsimp only
  split
  · rw [KV.get_del_ne _ (by simp [h])]
  · rw [KV.get_put_ne _ _ _ (by simp [h])]

theorem State.get_set_inst (s : State) (f g : Fld) (i j v : Nat) (h : i ≠ j) : (s.set f i v).get g j = s.get g j := by
  unfold State.get State.set
  dsimp only
  split
  · rw [KV.get_del_ne _ (by simp [h])]
  · rw [KV.get_put_ne _ _ _ (by simp [h])]

/-- A register write, seen as a change of the register list alone. -/
theorem State.set_eq (s : State) (f : Fld) (i v : Nat) : s.set f i v = { s with regs := (s.set f i v).regs } := rfl

/-- A cell reads the same in states with the same registers. -/
theorem State.get_of_regs {s t : State} (h : s.regs = t.regs) (f : Fld) (i : Nat) : s.get f i = t.get f i := by
  unfold State.get; rw [h]

@[simp] theorem State.set_staged (s : State) (f : Fld) (i v : Nat) : (s.set f i v).staged = s.staged := rfl
@[simp] theorem State.set_stagedSet (s : State) (f : Fld) (i v : Nat) : (s.set f i v).stagedSet = s.stagedSet := rfl
@[simp] theorem State.set_locked (s : State) (f : Fld) (i v : Nat) : (s.set f i v).locked = s.locked := rfl
@[simp] theorem State.set_dtime (s : State) (f : Fld) (i v : Nat) : (s.set f i v).dtime = s.dtime := rfl
@[simp] theorem State.set_freeCtr (s : State) (f : Fld) (i v : Nat) : (s.set f i v).freeCtr = s.freeCtr := rfl
@[simp] theorem State.set_img (s : State) (f : Fld) (i v : Nat) : (s.set f i v).img = s.img := rfl
@[simp] theorem State.set_capHigh (s : State) (f : Fld) (i v : Nat) : (s.set f i v).capHigh = s.capHigh := rfl
@[simp] theorem State.set_heldLow (s : State) (f : Fld) (i v : Nat) : (s.set f i v).heldLow = s.heldLow := rfl
@[simp] theorem State.set_bus (s : State) (f : Fld) (i v : Nat) : (s.set f i v).bus = s.bus := rfl
@[simp] theorem State.set_flash (s : State) (f : Fld) (i v : Nat) : (s.set f i v).flash = s.flash := rfl
@[simp] theorem State.set_erFifo (s : State) (f : Fld) (i v : Nat) : (s.set f i v).erFifo = s.erFifo := rfl
@[simp] theorem State.set_erProg (s : State) (f : Fld) (i v : Nat) : (s.set f i v).erProg = s.erProg := rfl
@[simp] theorem State.set_erOpen (s : State) (f : Fld) (i v : Nat) : (s.set f i v).erOpen = s.erOpen := rfl
@[simp] theorem State.set_erCopies (s : State) (f : Fld) (i v : Nat) : (s.set f i v).erCopies = s.erCopies := rfl
@[simp] theorem State.set_ctHeld (s : State) (f : Fld) (i v : Nat) : (s.set f i v).ctHeld = s.ctHeld := rfl
@[simp] theorem State.set_ctSent (s : State) (f : Fld) (i v : Nat) : (s.set f i v).ctSent = s.ctSent := rfl
@[simp] theorem State.set_ctRx (s : State) (f : Fld) (i v : Nat) : (s.set f i v).ctRx = s.ctRx := rfl
@[simp] theorem State.set_feCap (s : State) (f : Fld) (i v : Nat) : (s.set f i v).feCap = s.feCap := rfl
@[simp] theorem State.set_downFrame (s : State) (f : Fld) (i v : Nat) : (s.set f i v).downFrame = s.downFrame := rfl
@[simp] theorem State.set_downLine (s : State) (f : Fld) (i v : Nat) : (s.set f i v).downLine = s.downLine := rfl
@[simp] theorem State.set_samples (s : State) (f : Fld) (i v : Nat) : (s.set f i v).samples = s.samples := rfl
@[simp] theorem State.set_msQueue (s : State) (f : Fld) (i v : Nat) : (s.set f i v).msQueue = s.msQueue := rfl
@[simp] theorem State.set_msHold (s : State) (f : Fld) (i v : Nat) : (s.set f i v).msHold = s.msHold := rfl
@[simp] theorem State.set_hgReqs (s : State) (f : Fld) (i v : Nat) : (s.set f i v).hgReqs = s.hgReqs := rfl
@[simp] theorem State.set_hgGrants (s : State) (f : Fld) (i v : Nat) : (s.set f i v).hgGrants = s.hgGrants := rfl
@[simp] theorem State.set_cistern (s : State) (f : Fld) (i v : Nat) : (s.set f i v).cistern = s.cistern := rfl
@[simp] theorem State.set_cisternPoison (s : State) (f : Fld) (i v : Nat) : (s.set f i v).cisternPoison = s.cisternPoison := rfl
@[simp] theorem State.set_bmUeTimes (s : State) (f : Fld) (i v : Nat) : (s.set f i v).bmUeTimes = s.bmUeTimes := rfl
@[simp] theorem State.set_reservoir (s : State) (f : Fld) (i v : Nat) : (s.set f i v).reservoir = s.reservoir := rfl
@[simp] theorem State.set_rvWritten (s : State) (f : Fld) (i v : Nat) : (s.set f i v).rvWritten = s.rvWritten := rfl
@[simp] theorem State.set_flumes (s : State) (f : Fld) (i v : Nat) : (s.set f i v).flumes = s.flumes := rfl
@[simp] theorem State.set_dpSums (s : State) (f : Fld) (i v : Nat) : (s.set f i v).dpSums = s.dpSums := rfl
@[simp] theorem State.set_flumeReqs (s : State) (f : Fld) (i v : Nat) : (s.set f i v).flumeReqs = s.flumeReqs := rfl
@[simp] theorem State.set_sqRes (s : State) (f : Fld) (i v : Nat) : (s.set f i v).sqRes = s.sqRes := rfl
@[simp] theorem State.set_sqVres (s : State) (f : Fld) (i v : Nat) : (s.set f i v).sqVres = s.sqVres := rfl
@[simp] theorem State.set_ladNotes (s : State) (f : Fld) (i v : Nat) : (s.set f i v).ladNotes = s.ladNotes := rfl
@[simp] theorem State.set_ladHeld (s : State) (f : Fld) (i v : Nat) : (s.set f i v).ladHeld = s.ladHeld := rfl
@[simp] theorem State.set_recResults (s : State) (f : Fld) (i v : Nat) : (s.set f i v).recResults = s.recResults := rfl
@[simp] theorem State.set_ladders (s : State) (f : Fld) (i v : Nat) : (s.set f i v).ladders = s.ladders := rfl
@[simp] theorem State.set_sqOps (s : State) (f : Fld) (i v : Nat) : (s.set f i v).sqOps = s.sqOps := rfl
@[simp] theorem State.set_sqArrive (s : State) (f : Fld) (i v : Nat) : (s.set f i v).sqArrive = s.sqArrive := rfl
@[simp] theorem State.set_zones (s : State) (f : Fld) (i v : Nat) : (s.set f i v).zones = s.zones := rfl
@[simp] theorem State.set_mediaZones (s : State) (f : Fld) (i v : Nat) : (s.set f i v).mediaZones = s.mediaZones := rfl
@[simp] theorem State.set_jrnWait (s : State) (f : Fld) (i v : Nat) : (s.set f i v).jrnWait = s.jrnWait := rfl
@[simp] theorem State.set_jrnPos (s : State) (f : Fld) (i v : Nat) : (s.set f i v).jrnPos = s.jrnPos := rfl
@[simp] theorem State.set_writes (s : State) (f : Fld) (i v : Nat) : (s.set f i v).writes = s.writes := rfl
@[simp] theorem State.set_rewrites (s : State) (f : Fld) (i v : Nat) : (s.set f i v).rewrites = s.rewrites := rfl
@[simp] theorem State.set_wruns (s : State) (f : Fld) (i v : Nat) : (s.set f i v).wruns = s.wruns := rfl
@[simp] theorem State.set_wdata (s : State) (f : Fld) (i v : Nat) : (s.set f i v).wdata = s.wdata := rfl
@[simp] theorem State.set_source (s : State) (f : Fld) (i v : Nat) : (s.set f i v).source = s.source := rfl
@[simp] theorem State.set_fetched (s : State) (f : Fld) (i v : Nat) : (s.set f i v).fetched = s.fetched := rfl
@[simp] theorem State.set_expanded (s : State) (f : Fld) (i v : Nat) : (s.set f i v).expanded = s.expanded := rfl
@[simp] theorem State.set_merges (s : State) (f : Fld) (i v : Nat) : (s.set f i v).merges = s.merges := rfl
@[simp] theorem State.set_ctxs (s : State) (f : Fld) (i v : Nat) : (s.set f i v).ctxs = s.ctxs := rfl
@[simp] theorem State.set_rings (s : State) (f : Fld) (i v : Nat) : (s.set f i v).rings = s.rings := rfl
@[simp] theorem State.set_lastCpl (s : State) (f : Fld) (i v : Nat) : (s.set f i v).lastCpl = s.lastCpl := rfl
@[simp] theorem State.set_aborts (s : State) (f : Fld) (i v : Nat) : (s.set f i v).aborts = s.aborts := rfl
@[simp] theorem State.set_extents (s : State) (f : Fld) (i v : Nat) : (s.set f i v).extents = s.extents := rfl
@[simp] theorem State.set_mediaExtents (s : State) (f : Fld) (i v : Nat) : (s.set f i v).mediaExtents = s.mediaExtents := rfl
@[simp] theorem State.set_packing (s : State) (f : Fld) (i v : Nat) : (s.set f i v).packing = s.packing := rfl
@[simp] theorem State.set_partials (s : State) (f : Fld) (i v : Nat) : (s.set f i v).partials = s.partials := rfl
@[simp] theorem State.set_cxReady (s : State) (f : Fld) (i v : Nat) : (s.set f i v).cxReady = s.cxReady := rfl
@[simp] theorem State.set_cxRun (s : State) (f : Fld) (i v : Nat) : (s.set f i v).cxRun = s.cxRun := rfl
@[simp] theorem State.set_cxSusp (s : State) (f : Fld) (i v : Nat) : (s.set f i v).cxSusp = s.cxSusp := rfl
@[simp] theorem State.set_keys (s : State) (f : Fld) (i v : Nat) : (s.set f i v).keys = s.keys := rfl
@[simp] theorem State.set_combPlans (s : State) (f : Fld) (i v : Nat) : (s.set f i v).combPlans = s.combPlans := rfl
@[simp] theorem State.set_svAmps (s : State) (f : Fld) (i v : Nat) : (s.set f i v).svAmps = s.svAmps := rfl
@[simp] theorem State.set_svOfs (s : State) (f : Fld) (i v : Nat) : (s.set f i v).svOfs = s.svOfs := rfl
@[simp] theorem State.set_sqPwd (s : State) (f : Fld) (i v : Nat) : (s.set f i v).sqPwd = s.sqPwd := rfl
@[simp] theorem State.set_packs (s : State) (f : Fld) (i v : Nat) : (s.set f i v).packs = s.packs := rfl
@[simp] theorem State.set_idxCached (s : State) (f : Fld) (i v : Nat) : (s.set f i v).idxCached = s.idxCached := rfl
@[simp] theorem State.set_idxDirty (s : State) (f : Fld) (i v : Nat) : (s.set f i v).idxDirty = s.idxDirty := rfl
@[simp] theorem State.set_idxMedia (s : State) (f : Fld) (i v : Nat) : (s.set f i v).idxMedia = s.idxMedia := rfl
@[simp] theorem State.set_l1i (s : State) (f : Fld) (i v : Nat) : (s.set f i v).l1i = s.l1i := rfl
@[simp] theorem State.set_l1d (s : State) (f : Fld) (i v : Nat) : (s.set f i v).l1d = s.l1d := rfl
@[simp] theorem State.set_l2 (s : State) (f : Fld) (i v : Nat) : (s.set f i v).l2 = s.l2 := rfl
@[simp] theorem State.set_victim (s : State) (f : Fld) (i v : Nat) : (s.set f i v).victim = s.victim := rfl
@[simp] theorem State.set_fills (s : State) (f : Fld) (i v : Nat) : (s.set f i v).fills = s.fills := rfl
@[simp] theorem State.set_wbufs (s : State) (f : Fld) (i v : Nat) : (s.set f i v).wbufs = s.wbufs := rfl
@[simp] theorem State.set_coreWait (s : State) (f : Fld) (i v : Nat) : (s.set f i v).coreWait = s.coreWait := rfl
@[simp] theorem State.set_rvBad (s : State) (f : Fld) (i v : Nat) : (s.set f i v).rvBad = s.rvBad := rfl
@[simp] theorem State.set_otp (s : State) (f : Fld) (i v : Nat) : (s.set f i v).otp = s.otp := rfl
@[simp] theorem State.set_items (s : State) (f : Fld) (i v : Nat) : (s.set f i v).items = s.items := rfl
@[simp] theorem State.set_secMem (s : State) (f : Fld) (i v : Nat) : (s.set f i v).secMem = s.secMem := rfl
@[simp] theorem State.set_mgtMem (s : State) (f : Fld) (i v : Nat) : (s.set f i v).mgtMem = s.mgtMem := rfl
@[simp] theorem State.set_aoRecord (s : State) (f : Fld) (i v : Nat) : (s.set f i v).aoRecord = s.aoRecord := rfl
@[simp] theorem State.set_aoMicro (s : State) (f : Fld) (i v : Nat) : (s.set f i v).aoMicro = s.aoMicro := rfl
@[simp] theorem State.set_aoAct (s : State) (f : Fld) (i v : Nat) : (s.set f i v).aoAct = s.aoAct := rfl
@[simp] theorem State.set_aoHealth (s : State) (f : Fld) (i v : Nat) : (s.set f i v).aoHealth = s.aoHealth := rfl
@[simp] theorem State.set_mpAsm (s : State) (f : Fld) (i v : Nat) : (s.set f i v).mpAsm = s.mpAsm := rfl
@[simp] theorem State.set_mpStage (s : State) (f : Fld) (i v : Nat) : (s.set f i v).mpStage = s.mpStage := rfl
@[simp] theorem State.set_mpWait (s : State) (f : Fld) (i v : Nat) : (s.set f i v).mpWait = s.mpWait := rfl
@[simp] theorem State.set_mpResp (s : State) (f : Fld) (i v : Nat) : (s.set f i v).mpResp = s.mpResp := rfl
@[simp] theorem State.set_fwStage (s : State) (f : Fld) (i v : Nat) : (s.set f i v).fwStage = s.fwStage := rfl
@[simp] theorem State.set_fwRanges (s : State) (f : Fld) (i v : Nat) : (s.set f i v).fwRanges = s.fwRanges := rfl
@[simp] theorem State.set_fwWrite (s : State) (f : Fld) (i v : Nat) : (s.set f i v).fwWrite = s.fwWrite := rfl
@[simp] theorem State.set_feats (s : State) (f : Fld) (i v : Nat) : (s.set f i v).feats = s.feats := rfl
@[simp] theorem State.set_aens (s : State) (f : Fld) (i v : Nat) : (s.set f i v).aens = s.aens := rfl
@[simp] theorem State.set_errLog (s : State) (f : Fld) (i v : Nat) : (s.set f i v).errLog = s.errLog := rfl
@[simp] theorem State.set_changedZones (s : State) (f : Fld) (i v : Nat) : (s.set f i v).changedZones = s.changedZones := rfl
@[simp] theorem State.set_changedNs (s : State) (f : Fld) (i v : Nat) : (s.set f i v).changedNs = s.changedNs := rfl
@[simp] theorem State.set_resvNotes (s : State) (f : Fld) (i v : Nat) : (s.set f i v).resvNotes = s.resvNotes := rfl
@[simp] theorem State.set_resv (s : State) (f : Fld) (i v : Nat) : (s.set f i v).resv = s.resv := rfl
@[simp] theorem State.set_hostData (s : State) (f : Fld) (i v : Nat) : (s.set f i v).hostData = s.hostData := rfl
@[simp] theorem State.set_pending (s : State) (f : Fld) (i v : Nat) : (s.set f i v).pending = s.pending := rfl

@[simp] theorem State.spend_regs (s : State) : (s.spend).regs = s.regs := rfl
@[simp] theorem State.spend_staged (s : State) : (s.spend).staged = s.staged := rfl
@[simp] theorem State.spend_stagedSet (s : State) : (s.spend).stagedSet = s.stagedSet := rfl
@[simp] theorem State.spend_locked (s : State) : (s.spend).locked = s.locked := rfl
@[simp] theorem State.spend_dtime (s : State) : (s.spend).dtime = s.dtime := rfl
@[simp] theorem State.spend_img (s : State) : (s.spend).img = s.img := rfl
@[simp] theorem State.spend_capHigh (s : State) : (s.spend).capHigh = s.capHigh := rfl
@[simp] theorem State.spend_heldLow (s : State) : (s.spend).heldLow = s.heldLow := rfl
@[simp] theorem State.spend_bus (s : State) : (s.spend).bus = s.bus := rfl
@[simp] theorem State.spend_flash (s : State) : (s.spend).flash = s.flash := rfl
@[simp] theorem State.spend_erFifo (s : State) : (s.spend).erFifo = s.erFifo := rfl
@[simp] theorem State.spend_erProg (s : State) : (s.spend).erProg = s.erProg := rfl
@[simp] theorem State.spend_erOpen (s : State) : (s.spend).erOpen = s.erOpen := rfl
@[simp] theorem State.spend_erCopies (s : State) : (s.spend).erCopies = s.erCopies := rfl
@[simp] theorem State.spend_ctHeld (s : State) : (s.spend).ctHeld = s.ctHeld := rfl
@[simp] theorem State.spend_ctSent (s : State) : (s.spend).ctSent = s.ctSent := rfl
@[simp] theorem State.spend_ctRx (s : State) : (s.spend).ctRx = s.ctRx := rfl
@[simp] theorem State.spend_feCap (s : State) : (s.spend).feCap = s.feCap := rfl
@[simp] theorem State.spend_downFrame (s : State) : (s.spend).downFrame = s.downFrame := rfl
@[simp] theorem State.spend_downLine (s : State) : (s.spend).downLine = s.downLine := rfl
@[simp] theorem State.spend_samples (s : State) : (s.spend).samples = s.samples := rfl
@[simp] theorem State.spend_msQueue (s : State) : (s.spend).msQueue = s.msQueue := rfl
@[simp] theorem State.spend_msHold (s : State) : (s.spend).msHold = s.msHold := rfl
@[simp] theorem State.spend_hgReqs (s : State) : (s.spend).hgReqs = s.hgReqs := rfl
@[simp] theorem State.spend_hgGrants (s : State) : (s.spend).hgGrants = s.hgGrants := rfl
@[simp] theorem State.spend_cistern (s : State) : (s.spend).cistern = s.cistern := rfl
@[simp] theorem State.spend_cisternPoison (s : State) : (s.spend).cisternPoison = s.cisternPoison := rfl
@[simp] theorem State.spend_bmUeTimes (s : State) : (s.spend).bmUeTimes = s.bmUeTimes := rfl
@[simp] theorem State.spend_reservoir (s : State) : (s.spend).reservoir = s.reservoir := rfl
@[simp] theorem State.spend_rvWritten (s : State) : (s.spend).rvWritten = s.rvWritten := rfl
@[simp] theorem State.spend_flumes (s : State) : (s.spend).flumes = s.flumes := rfl
@[simp] theorem State.spend_dpSums (s : State) : (s.spend).dpSums = s.dpSums := rfl
@[simp] theorem State.spend_flumeReqs (s : State) : (s.spend).flumeReqs = s.flumeReqs := rfl
@[simp] theorem State.spend_sqRes (s : State) : (s.spend).sqRes = s.sqRes := rfl
@[simp] theorem State.spend_sqVres (s : State) : (s.spend).sqVres = s.sqVres := rfl
@[simp] theorem State.spend_ladNotes (s : State) : (s.spend).ladNotes = s.ladNotes := rfl
@[simp] theorem State.spend_ladHeld (s : State) : (s.spend).ladHeld = s.ladHeld := rfl
@[simp] theorem State.spend_recResults (s : State) : (s.spend).recResults = s.recResults := rfl
@[simp] theorem State.spend_ladders (s : State) : (s.spend).ladders = s.ladders := rfl
@[simp] theorem State.spend_sqOps (s : State) : (s.spend).sqOps = s.sqOps := rfl
@[simp] theorem State.spend_sqArrive (s : State) : (s.spend).sqArrive = s.sqArrive := rfl
@[simp] theorem State.spend_zones (s : State) : (s.spend).zones = s.zones := rfl
@[simp] theorem State.spend_mediaZones (s : State) : (s.spend).mediaZones = s.mediaZones := rfl
@[simp] theorem State.spend_jrnWait (s : State) : (s.spend).jrnWait = s.jrnWait := rfl
@[simp] theorem State.spend_jrnPos (s : State) : (s.spend).jrnPos = s.jrnPos := rfl
@[simp] theorem State.spend_writes (s : State) : (s.spend).writes = s.writes := rfl
@[simp] theorem State.spend_rewrites (s : State) : (s.spend).rewrites = s.rewrites := rfl
@[simp] theorem State.spend_wruns (s : State) : (s.spend).wruns = s.wruns := rfl
@[simp] theorem State.spend_wdata (s : State) : (s.spend).wdata = s.wdata := rfl
@[simp] theorem State.spend_source (s : State) : (s.spend).source = s.source := rfl
@[simp] theorem State.spend_fetched (s : State) : (s.spend).fetched = s.fetched := rfl
@[simp] theorem State.spend_expanded (s : State) : (s.spend).expanded = s.expanded := rfl
@[simp] theorem State.spend_merges (s : State) : (s.spend).merges = s.merges := rfl
@[simp] theorem State.spend_ctxs (s : State) : (s.spend).ctxs = s.ctxs := rfl
@[simp] theorem State.spend_rings (s : State) : (s.spend).rings = s.rings := rfl
@[simp] theorem State.spend_lastCpl (s : State) : (s.spend).lastCpl = s.lastCpl := rfl
@[simp] theorem State.spend_aborts (s : State) : (s.spend).aborts = s.aborts := rfl
@[simp] theorem State.spend_extents (s : State) : (s.spend).extents = s.extents := rfl
@[simp] theorem State.spend_mediaExtents (s : State) : (s.spend).mediaExtents = s.mediaExtents := rfl
@[simp] theorem State.spend_packing (s : State) : (s.spend).packing = s.packing := rfl
@[simp] theorem State.spend_partials (s : State) : (s.spend).partials = s.partials := rfl
@[simp] theorem State.spend_cxReady (s : State) : (s.spend).cxReady = s.cxReady := rfl
@[simp] theorem State.spend_cxRun (s : State) : (s.spend).cxRun = s.cxRun := rfl
@[simp] theorem State.spend_cxSusp (s : State) : (s.spend).cxSusp = s.cxSusp := rfl
@[simp] theorem State.spend_keys (s : State) : (s.spend).keys = s.keys := rfl
@[simp] theorem State.spend_combPlans (s : State) : (s.spend).combPlans = s.combPlans := rfl
@[simp] theorem State.spend_svAmps (s : State) : (s.spend).svAmps = s.svAmps := rfl
@[simp] theorem State.spend_svOfs (s : State) : (s.spend).svOfs = s.svOfs := rfl
@[simp] theorem State.spend_sqPwd (s : State) : (s.spend).sqPwd = s.sqPwd := rfl
@[simp] theorem State.spend_packs (s : State) : (s.spend).packs = s.packs := rfl
@[simp] theorem State.spend_idxCached (s : State) : (s.spend).idxCached = s.idxCached := rfl
@[simp] theorem State.spend_idxDirty (s : State) : (s.spend).idxDirty = s.idxDirty := rfl
@[simp] theorem State.spend_idxMedia (s : State) : (s.spend).idxMedia = s.idxMedia := rfl
@[simp] theorem State.spend_l1i (s : State) : (s.spend).l1i = s.l1i := rfl
@[simp] theorem State.spend_l1d (s : State) : (s.spend).l1d = s.l1d := rfl
@[simp] theorem State.spend_l2 (s : State) : (s.spend).l2 = s.l2 := rfl
@[simp] theorem State.spend_victim (s : State) : (s.spend).victim = s.victim := rfl
@[simp] theorem State.spend_fills (s : State) : (s.spend).fills = s.fills := rfl
@[simp] theorem State.spend_wbufs (s : State) : (s.spend).wbufs = s.wbufs := rfl
@[simp] theorem State.spend_coreWait (s : State) : (s.spend).coreWait = s.coreWait := rfl
@[simp] theorem State.spend_rvBad (s : State) : (s.spend).rvBad = s.rvBad := rfl
@[simp] theorem State.spend_otp (s : State) : (s.spend).otp = s.otp := rfl
@[simp] theorem State.spend_items (s : State) : (s.spend).items = s.items := rfl
@[simp] theorem State.spend_secMem (s : State) : (s.spend).secMem = s.secMem := rfl
@[simp] theorem State.spend_mgtMem (s : State) : (s.spend).mgtMem = s.mgtMem := rfl
@[simp] theorem State.spend_aoRecord (s : State) : (s.spend).aoRecord = s.aoRecord := rfl
@[simp] theorem State.spend_aoMicro (s : State) : (s.spend).aoMicro = s.aoMicro := rfl
@[simp] theorem State.spend_aoAct (s : State) : (s.spend).aoAct = s.aoAct := rfl
@[simp] theorem State.spend_aoHealth (s : State) : (s.spend).aoHealth = s.aoHealth := rfl
@[simp] theorem State.spend_mpAsm (s : State) : (s.spend).mpAsm = s.mpAsm := rfl
@[simp] theorem State.spend_mpStage (s : State) : (s.spend).mpStage = s.mpStage := rfl
@[simp] theorem State.spend_mpWait (s : State) : (s.spend).mpWait = s.mpWait := rfl
@[simp] theorem State.spend_mpResp (s : State) : (s.spend).mpResp = s.mpResp := rfl
@[simp] theorem State.spend_fwStage (s : State) : (s.spend).fwStage = s.fwStage := rfl
@[simp] theorem State.spend_fwRanges (s : State) : (s.spend).fwRanges = s.fwRanges := rfl
@[simp] theorem State.spend_fwWrite (s : State) : (s.spend).fwWrite = s.fwWrite := rfl
@[simp] theorem State.spend_feats (s : State) : (s.spend).feats = s.feats := rfl
@[simp] theorem State.spend_aens (s : State) : (s.spend).aens = s.aens := rfl
@[simp] theorem State.spend_errLog (s : State) : (s.spend).errLog = s.errLog := rfl
@[simp] theorem State.spend_changedZones (s : State) : (s.spend).changedZones = s.changedZones := rfl
@[simp] theorem State.spend_changedNs (s : State) : (s.spend).changedNs = s.changedNs := rfl
@[simp] theorem State.spend_resvNotes (s : State) : (s.spend).resvNotes = s.resvNotes := rfl
@[simp] theorem State.spend_resv (s : State) : (s.spend).resv = s.resv := rfl
@[simp] theorem State.spend_hostData (s : State) : (s.spend).hostData = s.hostData := rfl
@[simp] theorem State.spend_pending (s : State) : (s.spend).pending = s.pending := rfl

@[simp] theorem State.flashProgram_regs (s : State) (a : Nat) (bs : List Byte) : (s.flashProgram a bs).regs = s.regs := rfl
@[simp] theorem State.flashProgram_staged (s : State) (a : Nat) (bs : List Byte) : (s.flashProgram a bs).staged = s.staged := rfl
@[simp] theorem State.flashProgram_stagedSet (s : State) (a : Nat) (bs : List Byte) : (s.flashProgram a bs).stagedSet = s.stagedSet := rfl
@[simp] theorem State.flashProgram_locked (s : State) (a : Nat) (bs : List Byte) : (s.flashProgram a bs).locked = s.locked := rfl
@[simp] theorem State.flashProgram_dtime (s : State) (a : Nat) (bs : List Byte) : (s.flashProgram a bs).dtime = s.dtime := rfl
@[simp] theorem State.flashProgram_freeCtr (s : State) (a : Nat) (bs : List Byte) : (s.flashProgram a bs).freeCtr = s.freeCtr := rfl
@[simp] theorem State.flashProgram_img (s : State) (a : Nat) (bs : List Byte) : (s.flashProgram a bs).img = s.img := rfl
@[simp] theorem State.flashProgram_capHigh (s : State) (a : Nat) (bs : List Byte) : (s.flashProgram a bs).capHigh = s.capHigh := rfl
@[simp] theorem State.flashProgram_heldLow (s : State) (a : Nat) (bs : List Byte) : (s.flashProgram a bs).heldLow = s.heldLow := rfl
@[simp] theorem State.flashProgram_bus (s : State) (a : Nat) (bs : List Byte) : (s.flashProgram a bs).bus = s.bus := rfl
@[simp] theorem State.flashProgram_erFifo (s : State) (a : Nat) (bs : List Byte) : (s.flashProgram a bs).erFifo = s.erFifo := rfl
@[simp] theorem State.flashProgram_erProg (s : State) (a : Nat) (bs : List Byte) : (s.flashProgram a bs).erProg = s.erProg := rfl
@[simp] theorem State.flashProgram_erOpen (s : State) (a : Nat) (bs : List Byte) : (s.flashProgram a bs).erOpen = s.erOpen := rfl
@[simp] theorem State.flashProgram_erCopies (s : State) (a : Nat) (bs : List Byte) : (s.flashProgram a bs).erCopies = s.erCopies := rfl
@[simp] theorem State.flashProgram_ctHeld (s : State) (a : Nat) (bs : List Byte) : (s.flashProgram a bs).ctHeld = s.ctHeld := rfl
@[simp] theorem State.flashProgram_ctSent (s : State) (a : Nat) (bs : List Byte) : (s.flashProgram a bs).ctSent = s.ctSent := rfl
@[simp] theorem State.flashProgram_ctRx (s : State) (a : Nat) (bs : List Byte) : (s.flashProgram a bs).ctRx = s.ctRx := rfl
@[simp] theorem State.flashProgram_feCap (s : State) (a : Nat) (bs : List Byte) : (s.flashProgram a bs).feCap = s.feCap := rfl
@[simp] theorem State.flashProgram_downFrame (s : State) (a : Nat) (bs : List Byte) : (s.flashProgram a bs).downFrame = s.downFrame := rfl
@[simp] theorem State.flashProgram_downLine (s : State) (a : Nat) (bs : List Byte) : (s.flashProgram a bs).downLine = s.downLine := rfl
@[simp] theorem State.flashProgram_samples (s : State) (a : Nat) (bs : List Byte) : (s.flashProgram a bs).samples = s.samples := rfl
@[simp] theorem State.flashProgram_msQueue (s : State) (a : Nat) (bs : List Byte) : (s.flashProgram a bs).msQueue = s.msQueue := rfl
@[simp] theorem State.flashProgram_msHold (s : State) (a : Nat) (bs : List Byte) : (s.flashProgram a bs).msHold = s.msHold := rfl
@[simp] theorem State.flashProgram_hgReqs (s : State) (a : Nat) (bs : List Byte) : (s.flashProgram a bs).hgReqs = s.hgReqs := rfl
@[simp] theorem State.flashProgram_hgGrants (s : State) (a : Nat) (bs : List Byte) : (s.flashProgram a bs).hgGrants = s.hgGrants := rfl
@[simp] theorem State.flashProgram_cistern (s : State) (a : Nat) (bs : List Byte) : (s.flashProgram a bs).cistern = s.cistern := rfl
@[simp] theorem State.flashProgram_cisternPoison (s : State) (a : Nat) (bs : List Byte) : (s.flashProgram a bs).cisternPoison = s.cisternPoison := rfl
@[simp] theorem State.flashProgram_bmUeTimes (s : State) (a : Nat) (bs : List Byte) : (s.flashProgram a bs).bmUeTimes = s.bmUeTimes := rfl
@[simp] theorem State.flashProgram_reservoir (s : State) (a : Nat) (bs : List Byte) : (s.flashProgram a bs).reservoir = s.reservoir := rfl
@[simp] theorem State.flashProgram_rvWritten (s : State) (a : Nat) (bs : List Byte) : (s.flashProgram a bs).rvWritten = s.rvWritten := rfl
@[simp] theorem State.flashProgram_flumes (s : State) (a : Nat) (bs : List Byte) : (s.flashProgram a bs).flumes = s.flumes := rfl
@[simp] theorem State.flashProgram_dpSums (s : State) (a : Nat) (bs : List Byte) : (s.flashProgram a bs).dpSums = s.dpSums := rfl
@[simp] theorem State.flashProgram_flumeReqs (s : State) (a : Nat) (bs : List Byte) : (s.flashProgram a bs).flumeReqs = s.flumeReqs := rfl
@[simp] theorem State.flashProgram_sqRes (s : State) (a : Nat) (bs : List Byte) : (s.flashProgram a bs).sqRes = s.sqRes := rfl
@[simp] theorem State.flashProgram_sqVres (s : State) (a : Nat) (bs : List Byte) : (s.flashProgram a bs).sqVres = s.sqVres := rfl
@[simp] theorem State.flashProgram_ladNotes (s : State) (a : Nat) (bs : List Byte) : (s.flashProgram a bs).ladNotes = s.ladNotes := rfl
@[simp] theorem State.flashProgram_ladHeld (s : State) (a : Nat) (bs : List Byte) : (s.flashProgram a bs).ladHeld = s.ladHeld := rfl
@[simp] theorem State.flashProgram_recResults (s : State) (a : Nat) (bs : List Byte) : (s.flashProgram a bs).recResults = s.recResults := rfl
@[simp] theorem State.flashProgram_ladders (s : State) (a : Nat) (bs : List Byte) : (s.flashProgram a bs).ladders = s.ladders := rfl
@[simp] theorem State.flashProgram_sqOps (s : State) (a : Nat) (bs : List Byte) : (s.flashProgram a bs).sqOps = s.sqOps := rfl
@[simp] theorem State.flashProgram_sqArrive (s : State) (a : Nat) (bs : List Byte) : (s.flashProgram a bs).sqArrive = s.sqArrive := rfl
@[simp] theorem State.flashProgram_zones (s : State) (a : Nat) (bs : List Byte) : (s.flashProgram a bs).zones = s.zones := rfl
@[simp] theorem State.flashProgram_mediaZones (s : State) (a : Nat) (bs : List Byte) : (s.flashProgram a bs).mediaZones = s.mediaZones := rfl
@[simp] theorem State.flashProgram_jrnWait (s : State) (a : Nat) (bs : List Byte) : (s.flashProgram a bs).jrnWait = s.jrnWait := rfl
@[simp] theorem State.flashProgram_jrnPos (s : State) (a : Nat) (bs : List Byte) : (s.flashProgram a bs).jrnPos = s.jrnPos := rfl
@[simp] theorem State.flashProgram_writes (s : State) (a : Nat) (bs : List Byte) : (s.flashProgram a bs).writes = s.writes := rfl
@[simp] theorem State.flashProgram_rewrites (s : State) (a : Nat) (bs : List Byte) : (s.flashProgram a bs).rewrites = s.rewrites := rfl
@[simp] theorem State.flashProgram_wruns (s : State) (a : Nat) (bs : List Byte) : (s.flashProgram a bs).wruns = s.wruns := rfl
@[simp] theorem State.flashProgram_wdata (s : State) (a : Nat) (bs : List Byte) : (s.flashProgram a bs).wdata = s.wdata := rfl
@[simp] theorem State.flashProgram_source (s : State) (a : Nat) (bs : List Byte) : (s.flashProgram a bs).source = s.source := rfl
@[simp] theorem State.flashProgram_fetched (s : State) (a : Nat) (bs : List Byte) : (s.flashProgram a bs).fetched = s.fetched := rfl
@[simp] theorem State.flashProgram_expanded (s : State) (a : Nat) (bs : List Byte) : (s.flashProgram a bs).expanded = s.expanded := rfl
@[simp] theorem State.flashProgram_merges (s : State) (a : Nat) (bs : List Byte) : (s.flashProgram a bs).merges = s.merges := rfl
@[simp] theorem State.flashProgram_ctxs (s : State) (a : Nat) (bs : List Byte) : (s.flashProgram a bs).ctxs = s.ctxs := rfl
@[simp] theorem State.flashProgram_rings (s : State) (a : Nat) (bs : List Byte) : (s.flashProgram a bs).rings = s.rings := rfl
@[simp] theorem State.flashProgram_lastCpl (s : State) (a : Nat) (bs : List Byte) : (s.flashProgram a bs).lastCpl = s.lastCpl := rfl
@[simp] theorem State.flashProgram_aborts (s : State) (a : Nat) (bs : List Byte) : (s.flashProgram a bs).aborts = s.aborts := rfl
@[simp] theorem State.flashProgram_extents (s : State) (a : Nat) (bs : List Byte) : (s.flashProgram a bs).extents = s.extents := rfl
@[simp] theorem State.flashProgram_mediaExtents (s : State) (a : Nat) (bs : List Byte) : (s.flashProgram a bs).mediaExtents = s.mediaExtents := rfl
@[simp] theorem State.flashProgram_packing (s : State) (a : Nat) (bs : List Byte) : (s.flashProgram a bs).packing = s.packing := rfl
@[simp] theorem State.flashProgram_partials (s : State) (a : Nat) (bs : List Byte) : (s.flashProgram a bs).partials = s.partials := rfl
@[simp] theorem State.flashProgram_cxReady (s : State) (a : Nat) (bs : List Byte) : (s.flashProgram a bs).cxReady = s.cxReady := rfl
@[simp] theorem State.flashProgram_cxRun (s : State) (a : Nat) (bs : List Byte) : (s.flashProgram a bs).cxRun = s.cxRun := rfl
@[simp] theorem State.flashProgram_cxSusp (s : State) (a : Nat) (bs : List Byte) : (s.flashProgram a bs).cxSusp = s.cxSusp := rfl
@[simp] theorem State.flashProgram_keys (s : State) (a : Nat) (bs : List Byte) : (s.flashProgram a bs).keys = s.keys := rfl
@[simp] theorem State.flashProgram_combPlans (s : State) (a : Nat) (bs : List Byte) : (s.flashProgram a bs).combPlans = s.combPlans := rfl
@[simp] theorem State.flashProgram_svAmps (s : State) (a : Nat) (bs : List Byte) : (s.flashProgram a bs).svAmps = s.svAmps := rfl
@[simp] theorem State.flashProgram_svOfs (s : State) (a : Nat) (bs : List Byte) : (s.flashProgram a bs).svOfs = s.svOfs := rfl
@[simp] theorem State.flashProgram_sqPwd (s : State) (a : Nat) (bs : List Byte) : (s.flashProgram a bs).sqPwd = s.sqPwd := rfl
@[simp] theorem State.flashProgram_packs (s : State) (a : Nat) (bs : List Byte) : (s.flashProgram a bs).packs = s.packs := rfl
@[simp] theorem State.flashProgram_idxCached (s : State) (a : Nat) (bs : List Byte) : (s.flashProgram a bs).idxCached = s.idxCached := rfl
@[simp] theorem State.flashProgram_idxDirty (s : State) (a : Nat) (bs : List Byte) : (s.flashProgram a bs).idxDirty = s.idxDirty := rfl
@[simp] theorem State.flashProgram_idxMedia (s : State) (a : Nat) (bs : List Byte) : (s.flashProgram a bs).idxMedia = s.idxMedia := rfl
@[simp] theorem State.flashProgram_l1i (s : State) (a : Nat) (bs : List Byte) : (s.flashProgram a bs).l1i = s.l1i := rfl
@[simp] theorem State.flashProgram_l1d (s : State) (a : Nat) (bs : List Byte) : (s.flashProgram a bs).l1d = s.l1d := rfl
@[simp] theorem State.flashProgram_l2 (s : State) (a : Nat) (bs : List Byte) : (s.flashProgram a bs).l2 = s.l2 := rfl
@[simp] theorem State.flashProgram_victim (s : State) (a : Nat) (bs : List Byte) : (s.flashProgram a bs).victim = s.victim := rfl
@[simp] theorem State.flashProgram_fills (s : State) (a : Nat) (bs : List Byte) : (s.flashProgram a bs).fills = s.fills := rfl
@[simp] theorem State.flashProgram_wbufs (s : State) (a : Nat) (bs : List Byte) : (s.flashProgram a bs).wbufs = s.wbufs := rfl
@[simp] theorem State.flashProgram_coreWait (s : State) (a : Nat) (bs : List Byte) : (s.flashProgram a bs).coreWait = s.coreWait := rfl
@[simp] theorem State.flashProgram_rvBad (s : State) (a : Nat) (bs : List Byte) : (s.flashProgram a bs).rvBad = s.rvBad := rfl
@[simp] theorem State.flashProgram_otp (s : State) (a : Nat) (bs : List Byte) : (s.flashProgram a bs).otp = s.otp := rfl
@[simp] theorem State.flashProgram_items (s : State) (a : Nat) (bs : List Byte) : (s.flashProgram a bs).items = s.items := rfl
@[simp] theorem State.flashProgram_secMem (s : State) (a : Nat) (bs : List Byte) : (s.flashProgram a bs).secMem = s.secMem := rfl
@[simp] theorem State.flashProgram_mgtMem (s : State) (a : Nat) (bs : List Byte) : (s.flashProgram a bs).mgtMem = s.mgtMem := rfl
@[simp] theorem State.flashProgram_aoRecord (s : State) (a : Nat) (bs : List Byte) : (s.flashProgram a bs).aoRecord = s.aoRecord := rfl
@[simp] theorem State.flashProgram_aoMicro (s : State) (a : Nat) (bs : List Byte) : (s.flashProgram a bs).aoMicro = s.aoMicro := rfl
@[simp] theorem State.flashProgram_aoAct (s : State) (a : Nat) (bs : List Byte) : (s.flashProgram a bs).aoAct = s.aoAct := rfl
@[simp] theorem State.flashProgram_aoHealth (s : State) (a : Nat) (bs : List Byte) : (s.flashProgram a bs).aoHealth = s.aoHealth := rfl
@[simp] theorem State.flashProgram_mpAsm (s : State) (a : Nat) (bs : List Byte) : (s.flashProgram a bs).mpAsm = s.mpAsm := rfl
@[simp] theorem State.flashProgram_mpStage (s : State) (a : Nat) (bs : List Byte) : (s.flashProgram a bs).mpStage = s.mpStage := rfl
@[simp] theorem State.flashProgram_mpWait (s : State) (a : Nat) (bs : List Byte) : (s.flashProgram a bs).mpWait = s.mpWait := rfl
@[simp] theorem State.flashProgram_mpResp (s : State) (a : Nat) (bs : List Byte) : (s.flashProgram a bs).mpResp = s.mpResp := rfl
@[simp] theorem State.flashProgram_fwStage (s : State) (a : Nat) (bs : List Byte) : (s.flashProgram a bs).fwStage = s.fwStage := rfl
@[simp] theorem State.flashProgram_fwRanges (s : State) (a : Nat) (bs : List Byte) : (s.flashProgram a bs).fwRanges = s.fwRanges := rfl
@[simp] theorem State.flashProgram_fwWrite (s : State) (a : Nat) (bs : List Byte) : (s.flashProgram a bs).fwWrite = s.fwWrite := rfl
@[simp] theorem State.flashProgram_feats (s : State) (a : Nat) (bs : List Byte) : (s.flashProgram a bs).feats = s.feats := rfl
@[simp] theorem State.flashProgram_aens (s : State) (a : Nat) (bs : List Byte) : (s.flashProgram a bs).aens = s.aens := rfl
@[simp] theorem State.flashProgram_errLog (s : State) (a : Nat) (bs : List Byte) : (s.flashProgram a bs).errLog = s.errLog := rfl
@[simp] theorem State.flashProgram_changedZones (s : State) (a : Nat) (bs : List Byte) : (s.flashProgram a bs).changedZones = s.changedZones := rfl
@[simp] theorem State.flashProgram_changedNs (s : State) (a : Nat) (bs : List Byte) : (s.flashProgram a bs).changedNs = s.changedNs := rfl
@[simp] theorem State.flashProgram_resvNotes (s : State) (a : Nat) (bs : List Byte) : (s.flashProgram a bs).resvNotes = s.resvNotes := rfl
@[simp] theorem State.flashProgram_resv (s : State) (a : Nat) (bs : List Byte) : (s.flashProgram a bs).resv = s.resv := rfl
@[simp] theorem State.flashProgram_hostData (s : State) (a : Nat) (bs : List Byte) : (s.flashProgram a bs).hostData = s.hostData := rfl
@[simp] theorem State.flashProgram_pending (s : State) (a : Nat) (bs : List Byte) : (s.flashProgram a bs).pending = s.pending := rfl

@[simp] theorem State.flashErase_regs (s : State) (a n : Nat) : (s.flashErase a n).regs = s.regs := rfl
@[simp] theorem State.flashErase_staged (s : State) (a n : Nat) : (s.flashErase a n).staged = s.staged := rfl
@[simp] theorem State.flashErase_stagedSet (s : State) (a n : Nat) : (s.flashErase a n).stagedSet = s.stagedSet := rfl
@[simp] theorem State.flashErase_locked (s : State) (a n : Nat) : (s.flashErase a n).locked = s.locked := rfl
@[simp] theorem State.flashErase_dtime (s : State) (a n : Nat) : (s.flashErase a n).dtime = s.dtime := rfl
@[simp] theorem State.flashErase_freeCtr (s : State) (a n : Nat) : (s.flashErase a n).freeCtr = s.freeCtr := rfl
@[simp] theorem State.flashErase_img (s : State) (a n : Nat) : (s.flashErase a n).img = s.img := rfl
@[simp] theorem State.flashErase_capHigh (s : State) (a n : Nat) : (s.flashErase a n).capHigh = s.capHigh := rfl
@[simp] theorem State.flashErase_heldLow (s : State) (a n : Nat) : (s.flashErase a n).heldLow = s.heldLow := rfl
@[simp] theorem State.flashErase_bus (s : State) (a n : Nat) : (s.flashErase a n).bus = s.bus := rfl
@[simp] theorem State.flashErase_erFifo (s : State) (a n : Nat) : (s.flashErase a n).erFifo = s.erFifo := rfl
@[simp] theorem State.flashErase_erProg (s : State) (a n : Nat) : (s.flashErase a n).erProg = s.erProg := rfl
@[simp] theorem State.flashErase_erOpen (s : State) (a n : Nat) : (s.flashErase a n).erOpen = s.erOpen := rfl
@[simp] theorem State.flashErase_erCopies (s : State) (a n : Nat) : (s.flashErase a n).erCopies = s.erCopies := rfl
@[simp] theorem State.flashErase_ctHeld (s : State) (a n : Nat) : (s.flashErase a n).ctHeld = s.ctHeld := rfl
@[simp] theorem State.flashErase_ctSent (s : State) (a n : Nat) : (s.flashErase a n).ctSent = s.ctSent := rfl
@[simp] theorem State.flashErase_ctRx (s : State) (a n : Nat) : (s.flashErase a n).ctRx = s.ctRx := rfl
@[simp] theorem State.flashErase_feCap (s : State) (a n : Nat) : (s.flashErase a n).feCap = s.feCap := rfl
@[simp] theorem State.flashErase_downFrame (s : State) (a n : Nat) : (s.flashErase a n).downFrame = s.downFrame := rfl
@[simp] theorem State.flashErase_downLine (s : State) (a n : Nat) : (s.flashErase a n).downLine = s.downLine := rfl
@[simp] theorem State.flashErase_samples (s : State) (a n : Nat) : (s.flashErase a n).samples = s.samples := rfl
@[simp] theorem State.flashErase_msQueue (s : State) (a n : Nat) : (s.flashErase a n).msQueue = s.msQueue := rfl
@[simp] theorem State.flashErase_msHold (s : State) (a n : Nat) : (s.flashErase a n).msHold = s.msHold := rfl
@[simp] theorem State.flashErase_hgReqs (s : State) (a n : Nat) : (s.flashErase a n).hgReqs = s.hgReqs := rfl
@[simp] theorem State.flashErase_hgGrants (s : State) (a n : Nat) : (s.flashErase a n).hgGrants = s.hgGrants := rfl
@[simp] theorem State.flashErase_cistern (s : State) (a n : Nat) : (s.flashErase a n).cistern = s.cistern := rfl
@[simp] theorem State.flashErase_cisternPoison (s : State) (a n : Nat) : (s.flashErase a n).cisternPoison = s.cisternPoison := rfl
@[simp] theorem State.flashErase_bmUeTimes (s : State) (a n : Nat) : (s.flashErase a n).bmUeTimes = s.bmUeTimes := rfl
@[simp] theorem State.flashErase_reservoir (s : State) (a n : Nat) : (s.flashErase a n).reservoir = s.reservoir := rfl
@[simp] theorem State.flashErase_rvWritten (s : State) (a n : Nat) : (s.flashErase a n).rvWritten = s.rvWritten := rfl
@[simp] theorem State.flashErase_flumes (s : State) (a n : Nat) : (s.flashErase a n).flumes = s.flumes := rfl
@[simp] theorem State.flashErase_dpSums (s : State) (a n : Nat) : (s.flashErase a n).dpSums = s.dpSums := rfl
@[simp] theorem State.flashErase_flumeReqs (s : State) (a n : Nat) : (s.flashErase a n).flumeReqs = s.flumeReqs := rfl
@[simp] theorem State.flashErase_sqRes (s : State) (a n : Nat) : (s.flashErase a n).sqRes = s.sqRes := rfl
@[simp] theorem State.flashErase_sqVres (s : State) (a n : Nat) : (s.flashErase a n).sqVres = s.sqVres := rfl
@[simp] theorem State.flashErase_ladNotes (s : State) (a n : Nat) : (s.flashErase a n).ladNotes = s.ladNotes := rfl
@[simp] theorem State.flashErase_ladHeld (s : State) (a n : Nat) : (s.flashErase a n).ladHeld = s.ladHeld := rfl
@[simp] theorem State.flashErase_recResults (s : State) (a n : Nat) : (s.flashErase a n).recResults = s.recResults := rfl
@[simp] theorem State.flashErase_ladders (s : State) (a n : Nat) : (s.flashErase a n).ladders = s.ladders := rfl
@[simp] theorem State.flashErase_sqOps (s : State) (a n : Nat) : (s.flashErase a n).sqOps = s.sqOps := rfl
@[simp] theorem State.flashErase_sqArrive (s : State) (a n : Nat) : (s.flashErase a n).sqArrive = s.sqArrive := rfl
@[simp] theorem State.flashErase_zones (s : State) (a n : Nat) : (s.flashErase a n).zones = s.zones := rfl
@[simp] theorem State.flashErase_mediaZones (s : State) (a n : Nat) : (s.flashErase a n).mediaZones = s.mediaZones := rfl
@[simp] theorem State.flashErase_jrnWait (s : State) (a n : Nat) : (s.flashErase a n).jrnWait = s.jrnWait := rfl
@[simp] theorem State.flashErase_jrnPos (s : State) (a n : Nat) : (s.flashErase a n).jrnPos = s.jrnPos := rfl
@[simp] theorem State.flashErase_writes (s : State) (a n : Nat) : (s.flashErase a n).writes = s.writes := rfl
@[simp] theorem State.flashErase_rewrites (s : State) (a n : Nat) : (s.flashErase a n).rewrites = s.rewrites := rfl
@[simp] theorem State.flashErase_wruns (s : State) (a n : Nat) : (s.flashErase a n).wruns = s.wruns := rfl
@[simp] theorem State.flashErase_wdata (s : State) (a n : Nat) : (s.flashErase a n).wdata = s.wdata := rfl
@[simp] theorem State.flashErase_source (s : State) (a n : Nat) : (s.flashErase a n).source = s.source := rfl
@[simp] theorem State.flashErase_fetched (s : State) (a n : Nat) : (s.flashErase a n).fetched = s.fetched := rfl
@[simp] theorem State.flashErase_expanded (s : State) (a n : Nat) : (s.flashErase a n).expanded = s.expanded := rfl
@[simp] theorem State.flashErase_merges (s : State) (a n : Nat) : (s.flashErase a n).merges = s.merges := rfl
@[simp] theorem State.flashErase_ctxs (s : State) (a n : Nat) : (s.flashErase a n).ctxs = s.ctxs := rfl
@[simp] theorem State.flashErase_rings (s : State) (a n : Nat) : (s.flashErase a n).rings = s.rings := rfl
@[simp] theorem State.flashErase_lastCpl (s : State) (a n : Nat) : (s.flashErase a n).lastCpl = s.lastCpl := rfl
@[simp] theorem State.flashErase_aborts (s : State) (a n : Nat) : (s.flashErase a n).aborts = s.aborts := rfl
@[simp] theorem State.flashErase_extents (s : State) (a n : Nat) : (s.flashErase a n).extents = s.extents := rfl
@[simp] theorem State.flashErase_mediaExtents (s : State) (a n : Nat) : (s.flashErase a n).mediaExtents = s.mediaExtents := rfl
@[simp] theorem State.flashErase_packing (s : State) (a n : Nat) : (s.flashErase a n).packing = s.packing := rfl
@[simp] theorem State.flashErase_partials (s : State) (a n : Nat) : (s.flashErase a n).partials = s.partials := rfl
@[simp] theorem State.flashErase_cxReady (s : State) (a n : Nat) : (s.flashErase a n).cxReady = s.cxReady := rfl
@[simp] theorem State.flashErase_cxRun (s : State) (a n : Nat) : (s.flashErase a n).cxRun = s.cxRun := rfl
@[simp] theorem State.flashErase_cxSusp (s : State) (a n : Nat) : (s.flashErase a n).cxSusp = s.cxSusp := rfl
@[simp] theorem State.flashErase_keys (s : State) (a n : Nat) : (s.flashErase a n).keys = s.keys := rfl
@[simp] theorem State.flashErase_combPlans (s : State) (a n : Nat) : (s.flashErase a n).combPlans = s.combPlans := rfl
@[simp] theorem State.flashErase_svAmps (s : State) (a n : Nat) : (s.flashErase a n).svAmps = s.svAmps := rfl
@[simp] theorem State.flashErase_svOfs (s : State) (a n : Nat) : (s.flashErase a n).svOfs = s.svOfs := rfl
@[simp] theorem State.flashErase_sqPwd (s : State) (a n : Nat) : (s.flashErase a n).sqPwd = s.sqPwd := rfl
@[simp] theorem State.flashErase_packs (s : State) (a n : Nat) : (s.flashErase a n).packs = s.packs := rfl
@[simp] theorem State.flashErase_idxCached (s : State) (a n : Nat) : (s.flashErase a n).idxCached = s.idxCached := rfl
@[simp] theorem State.flashErase_idxDirty (s : State) (a n : Nat) : (s.flashErase a n).idxDirty = s.idxDirty := rfl
@[simp] theorem State.flashErase_idxMedia (s : State) (a n : Nat) : (s.flashErase a n).idxMedia = s.idxMedia := rfl
@[simp] theorem State.flashErase_l1i (s : State) (a n : Nat) : (s.flashErase a n).l1i = s.l1i := rfl
@[simp] theorem State.flashErase_l1d (s : State) (a n : Nat) : (s.flashErase a n).l1d = s.l1d := rfl
@[simp] theorem State.flashErase_l2 (s : State) (a n : Nat) : (s.flashErase a n).l2 = s.l2 := rfl
@[simp] theorem State.flashErase_victim (s : State) (a n : Nat) : (s.flashErase a n).victim = s.victim := rfl
@[simp] theorem State.flashErase_fills (s : State) (a n : Nat) : (s.flashErase a n).fills = s.fills := rfl
@[simp] theorem State.flashErase_wbufs (s : State) (a n : Nat) : (s.flashErase a n).wbufs = s.wbufs := rfl
@[simp] theorem State.flashErase_coreWait (s : State) (a n : Nat) : (s.flashErase a n).coreWait = s.coreWait := rfl
@[simp] theorem State.flashErase_rvBad (s : State) (a n : Nat) : (s.flashErase a n).rvBad = s.rvBad := rfl
@[simp] theorem State.flashErase_otp (s : State) (a n : Nat) : (s.flashErase a n).otp = s.otp := rfl
@[simp] theorem State.flashErase_items (s : State) (a n : Nat) : (s.flashErase a n).items = s.items := rfl
@[simp] theorem State.flashErase_secMem (s : State) (a n : Nat) : (s.flashErase a n).secMem = s.secMem := rfl
@[simp] theorem State.flashErase_mgtMem (s : State) (a n : Nat) : (s.flashErase a n).mgtMem = s.mgtMem := rfl
@[simp] theorem State.flashErase_aoRecord (s : State) (a n : Nat) : (s.flashErase a n).aoRecord = s.aoRecord := rfl
@[simp] theorem State.flashErase_aoMicro (s : State) (a n : Nat) : (s.flashErase a n).aoMicro = s.aoMicro := rfl
@[simp] theorem State.flashErase_aoAct (s : State) (a n : Nat) : (s.flashErase a n).aoAct = s.aoAct := rfl
@[simp] theorem State.flashErase_aoHealth (s : State) (a n : Nat) : (s.flashErase a n).aoHealth = s.aoHealth := rfl
@[simp] theorem State.flashErase_mpAsm (s : State) (a n : Nat) : (s.flashErase a n).mpAsm = s.mpAsm := rfl
@[simp] theorem State.flashErase_mpStage (s : State) (a n : Nat) : (s.flashErase a n).mpStage = s.mpStage := rfl
@[simp] theorem State.flashErase_mpWait (s : State) (a n : Nat) : (s.flashErase a n).mpWait = s.mpWait := rfl
@[simp] theorem State.flashErase_mpResp (s : State) (a n : Nat) : (s.flashErase a n).mpResp = s.mpResp := rfl
@[simp] theorem State.flashErase_fwStage (s : State) (a n : Nat) : (s.flashErase a n).fwStage = s.fwStage := rfl
@[simp] theorem State.flashErase_fwRanges (s : State) (a n : Nat) : (s.flashErase a n).fwRanges = s.fwRanges := rfl
@[simp] theorem State.flashErase_fwWrite (s : State) (a n : Nat) : (s.flashErase a n).fwWrite = s.fwWrite := rfl
@[simp] theorem State.flashErase_feats (s : State) (a n : Nat) : (s.flashErase a n).feats = s.feats := rfl
@[simp] theorem State.flashErase_aens (s : State) (a n : Nat) : (s.flashErase a n).aens = s.aens := rfl
@[simp] theorem State.flashErase_errLog (s : State) (a n : Nat) : (s.flashErase a n).errLog = s.errLog := rfl
@[simp] theorem State.flashErase_changedZones (s : State) (a n : Nat) : (s.flashErase a n).changedZones = s.changedZones := rfl
@[simp] theorem State.flashErase_changedNs (s : State) (a n : Nat) : (s.flashErase a n).changedNs = s.changedNs := rfl
@[simp] theorem State.flashErase_resvNotes (s : State) (a n : Nat) : (s.flashErase a n).resvNotes = s.resvNotes := rfl
@[simp] theorem State.flashErase_resv (s : State) (a n : Nat) : (s.flashErase a n).resv = s.resv := rfl
@[simp] theorem State.flashErase_hostData (s : State) (a n : Nat) : (s.flashErase a n).hostData = s.hostData := rfl
@[simp] theorem State.flashErase_pending (s : State) (a n : Nat) : (s.flashErase a n).pending = s.pending := rfl

@[simp] theorem State.resetClasses_staged (s : State) (p : Nat → Bool) : (s.resetClasses p).staged = s.staged := rfl
@[simp] theorem State.resetClasses_stagedSet (s : State) (p : Nat → Bool) : (s.resetClasses p).stagedSet = s.stagedSet := rfl
@[simp] theorem State.resetClasses_dtime (s : State) (p : Nat → Bool) : (s.resetClasses p).dtime = s.dtime := rfl
@[simp] theorem State.resetClasses_freeCtr (s : State) (p : Nat → Bool) : (s.resetClasses p).freeCtr = s.freeCtr := rfl
@[simp] theorem State.resetClasses_img (s : State) (p : Nat → Bool) : (s.resetClasses p).img = s.img := rfl
@[simp] theorem State.resetClasses_capHigh (s : State) (p : Nat → Bool) : (s.resetClasses p).capHigh = s.capHigh := rfl
@[simp] theorem State.resetClasses_heldLow (s : State) (p : Nat → Bool) : (s.resetClasses p).heldLow = s.heldLow := rfl
@[simp] theorem State.resetClasses_bus (s : State) (p : Nat → Bool) : (s.resetClasses p).bus = s.bus := rfl
@[simp] theorem State.resetClasses_flash (s : State) (p : Nat → Bool) : (s.resetClasses p).flash = s.flash := rfl
@[simp] theorem State.resetClasses_erFifo (s : State) (p : Nat → Bool) : (s.resetClasses p).erFifo = s.erFifo := rfl
@[simp] theorem State.resetClasses_erProg (s : State) (p : Nat → Bool) : (s.resetClasses p).erProg = s.erProg := rfl
@[simp] theorem State.resetClasses_erOpen (s : State) (p : Nat → Bool) : (s.resetClasses p).erOpen = s.erOpen := rfl
@[simp] theorem State.resetClasses_erCopies (s : State) (p : Nat → Bool) : (s.resetClasses p).erCopies = s.erCopies := rfl
@[simp] theorem State.resetClasses_ctHeld (s : State) (p : Nat → Bool) : (s.resetClasses p).ctHeld = s.ctHeld := rfl
@[simp] theorem State.resetClasses_ctSent (s : State) (p : Nat → Bool) : (s.resetClasses p).ctSent = s.ctSent := rfl
@[simp] theorem State.resetClasses_ctRx (s : State) (p : Nat → Bool) : (s.resetClasses p).ctRx = s.ctRx := rfl
@[simp] theorem State.resetClasses_feCap (s : State) (p : Nat → Bool) : (s.resetClasses p).feCap = s.feCap := rfl
@[simp] theorem State.resetClasses_downFrame (s : State) (p : Nat → Bool) : (s.resetClasses p).downFrame = s.downFrame := rfl
@[simp] theorem State.resetClasses_downLine (s : State) (p : Nat → Bool) : (s.resetClasses p).downLine = s.downLine := rfl
@[simp] theorem State.resetClasses_samples (s : State) (p : Nat → Bool) : (s.resetClasses p).samples = s.samples := rfl
@[simp] theorem State.resetClasses_msQueue (s : State) (p : Nat → Bool) : (s.resetClasses p).msQueue = s.msQueue := rfl
@[simp] theorem State.resetClasses_msHold (s : State) (p : Nat → Bool) : (s.resetClasses p).msHold = s.msHold := rfl
@[simp] theorem State.resetClasses_hgReqs (s : State) (p : Nat → Bool) : (s.resetClasses p).hgReqs = s.hgReqs := rfl
@[simp] theorem State.resetClasses_hgGrants (s : State) (p : Nat → Bool) : (s.resetClasses p).hgGrants = s.hgGrants := rfl
@[simp] theorem State.resetClasses_cistern (s : State) (p : Nat → Bool) : (s.resetClasses p).cistern = s.cistern := rfl
@[simp] theorem State.resetClasses_cisternPoison (s : State) (p : Nat → Bool) : (s.resetClasses p).cisternPoison = s.cisternPoison := rfl
@[simp] theorem State.resetClasses_bmUeTimes (s : State) (p : Nat → Bool) : (s.resetClasses p).bmUeTimes = s.bmUeTimes := rfl
@[simp] theorem State.resetClasses_reservoir (s : State) (p : Nat → Bool) : (s.resetClasses p).reservoir = s.reservoir := rfl
@[simp] theorem State.resetClasses_rvWritten (s : State) (p : Nat → Bool) : (s.resetClasses p).rvWritten = s.rvWritten := rfl
@[simp] theorem State.resetClasses_flumes (s : State) (p : Nat → Bool) : (s.resetClasses p).flumes = s.flumes := rfl
@[simp] theorem State.resetClasses_dpSums (s : State) (p : Nat → Bool) : (s.resetClasses p).dpSums = s.dpSums := rfl
@[simp] theorem State.resetClasses_flumeReqs (s : State) (p : Nat → Bool) : (s.resetClasses p).flumeReqs = s.flumeReqs := rfl
@[simp] theorem State.resetClasses_sqRes (s : State) (p : Nat → Bool) : (s.resetClasses p).sqRes = s.sqRes := rfl
@[simp] theorem State.resetClasses_sqVres (s : State) (p : Nat → Bool) : (s.resetClasses p).sqVres = s.sqVres := rfl
@[simp] theorem State.resetClasses_ladNotes (s : State) (p : Nat → Bool) : (s.resetClasses p).ladNotes = s.ladNotes := rfl
@[simp] theorem State.resetClasses_ladHeld (s : State) (p : Nat → Bool) : (s.resetClasses p).ladHeld = s.ladHeld := rfl
@[simp] theorem State.resetClasses_recResults (s : State) (p : Nat → Bool) : (s.resetClasses p).recResults = s.recResults := rfl
@[simp] theorem State.resetClasses_ladders (s : State) (p : Nat → Bool) : (s.resetClasses p).ladders = s.ladders := rfl
@[simp] theorem State.resetClasses_sqOps (s : State) (p : Nat → Bool) : (s.resetClasses p).sqOps = s.sqOps := rfl
@[simp] theorem State.resetClasses_sqArrive (s : State) (p : Nat → Bool) : (s.resetClasses p).sqArrive = s.sqArrive := rfl
@[simp] theorem State.resetClasses_zones (s : State) (p : Nat → Bool) : (s.resetClasses p).zones = s.zones := rfl
@[simp] theorem State.resetClasses_mediaZones (s : State) (p : Nat → Bool) : (s.resetClasses p).mediaZones = s.mediaZones := rfl
@[simp] theorem State.resetClasses_jrnWait (s : State) (p : Nat → Bool) : (s.resetClasses p).jrnWait = s.jrnWait := rfl
@[simp] theorem State.resetClasses_jrnPos (s : State) (p : Nat → Bool) : (s.resetClasses p).jrnPos = s.jrnPos := rfl
@[simp] theorem State.resetClasses_writes (s : State) (p : Nat → Bool) : (s.resetClasses p).writes = s.writes := rfl
@[simp] theorem State.resetClasses_rewrites (s : State) (p : Nat → Bool) : (s.resetClasses p).rewrites = s.rewrites := rfl
@[simp] theorem State.resetClasses_wruns (s : State) (p : Nat → Bool) : (s.resetClasses p).wruns = s.wruns := rfl
@[simp] theorem State.resetClasses_wdata (s : State) (p : Nat → Bool) : (s.resetClasses p).wdata = s.wdata := rfl
@[simp] theorem State.resetClasses_source (s : State) (p : Nat → Bool) : (s.resetClasses p).source = s.source := rfl
@[simp] theorem State.resetClasses_fetched (s : State) (p : Nat → Bool) : (s.resetClasses p).fetched = s.fetched := rfl
@[simp] theorem State.resetClasses_expanded (s : State) (p : Nat → Bool) : (s.resetClasses p).expanded = s.expanded := rfl
@[simp] theorem State.resetClasses_merges (s : State) (p : Nat → Bool) : (s.resetClasses p).merges = s.merges := rfl
@[simp] theorem State.resetClasses_ctxs (s : State) (p : Nat → Bool) : (s.resetClasses p).ctxs = s.ctxs := rfl
@[simp] theorem State.resetClasses_rings (s : State) (p : Nat → Bool) : (s.resetClasses p).rings = s.rings := rfl
@[simp] theorem State.resetClasses_lastCpl (s : State) (p : Nat → Bool) : (s.resetClasses p).lastCpl = s.lastCpl := rfl
@[simp] theorem State.resetClasses_aborts (s : State) (p : Nat → Bool) : (s.resetClasses p).aborts = s.aborts := rfl
@[simp] theorem State.resetClasses_extents (s : State) (p : Nat → Bool) : (s.resetClasses p).extents = s.extents := rfl
@[simp] theorem State.resetClasses_mediaExtents (s : State) (p : Nat → Bool) : (s.resetClasses p).mediaExtents = s.mediaExtents := rfl
@[simp] theorem State.resetClasses_packing (s : State) (p : Nat → Bool) : (s.resetClasses p).packing = s.packing := rfl
@[simp] theorem State.resetClasses_partials (s : State) (p : Nat → Bool) : (s.resetClasses p).partials = s.partials := rfl
@[simp] theorem State.resetClasses_cxReady (s : State) (p : Nat → Bool) : (s.resetClasses p).cxReady = s.cxReady := rfl
@[simp] theorem State.resetClasses_cxRun (s : State) (p : Nat → Bool) : (s.resetClasses p).cxRun = s.cxRun := rfl
@[simp] theorem State.resetClasses_cxSusp (s : State) (p : Nat → Bool) : (s.resetClasses p).cxSusp = s.cxSusp := rfl
@[simp] theorem State.resetClasses_keys (s : State) (p : Nat → Bool) : (s.resetClasses p).keys = s.keys := rfl
@[simp] theorem State.resetClasses_combPlans (s : State) (p : Nat → Bool) : (s.resetClasses p).combPlans = s.combPlans := rfl
@[simp] theorem State.resetClasses_svAmps (s : State) (p : Nat → Bool) : (s.resetClasses p).svAmps = s.svAmps := rfl
@[simp] theorem State.resetClasses_svOfs (s : State) (p : Nat → Bool) : (s.resetClasses p).svOfs = s.svOfs := rfl
@[simp] theorem State.resetClasses_sqPwd (s : State) (p : Nat → Bool) : (s.resetClasses p).sqPwd = s.sqPwd := rfl
@[simp] theorem State.resetClasses_packs (s : State) (p : Nat → Bool) : (s.resetClasses p).packs = s.packs := rfl
@[simp] theorem State.resetClasses_idxCached (s : State) (p : Nat → Bool) : (s.resetClasses p).idxCached = s.idxCached := rfl
@[simp] theorem State.resetClasses_idxDirty (s : State) (p : Nat → Bool) : (s.resetClasses p).idxDirty = s.idxDirty := rfl
@[simp] theorem State.resetClasses_idxMedia (s : State) (p : Nat → Bool) : (s.resetClasses p).idxMedia = s.idxMedia := rfl
@[simp] theorem State.resetClasses_l1i (s : State) (p : Nat → Bool) : (s.resetClasses p).l1i = s.l1i := rfl
@[simp] theorem State.resetClasses_l1d (s : State) (p : Nat → Bool) : (s.resetClasses p).l1d = s.l1d := rfl
@[simp] theorem State.resetClasses_l2 (s : State) (p : Nat → Bool) : (s.resetClasses p).l2 = s.l2 := rfl
@[simp] theorem State.resetClasses_victim (s : State) (p : Nat → Bool) : (s.resetClasses p).victim = s.victim := rfl
@[simp] theorem State.resetClasses_fills (s : State) (p : Nat → Bool) : (s.resetClasses p).fills = s.fills := rfl
@[simp] theorem State.resetClasses_wbufs (s : State) (p : Nat → Bool) : (s.resetClasses p).wbufs = s.wbufs := rfl
@[simp] theorem State.resetClasses_coreWait (s : State) (p : Nat → Bool) : (s.resetClasses p).coreWait = s.coreWait := rfl
@[simp] theorem State.resetClasses_rvBad (s : State) (p : Nat → Bool) : (s.resetClasses p).rvBad = s.rvBad := rfl
@[simp] theorem State.resetClasses_otp (s : State) (p : Nat → Bool) : (s.resetClasses p).otp = s.otp := rfl
@[simp] theorem State.resetClasses_items (s : State) (p : Nat → Bool) : (s.resetClasses p).items = s.items := rfl
@[simp] theorem State.resetClasses_secMem (s : State) (p : Nat → Bool) : (s.resetClasses p).secMem = s.secMem := rfl
@[simp] theorem State.resetClasses_mgtMem (s : State) (p : Nat → Bool) : (s.resetClasses p).mgtMem = s.mgtMem := rfl
@[simp] theorem State.resetClasses_aoRecord (s : State) (p : Nat → Bool) : (s.resetClasses p).aoRecord = s.aoRecord := rfl
@[simp] theorem State.resetClasses_aoMicro (s : State) (p : Nat → Bool) : (s.resetClasses p).aoMicro = s.aoMicro := rfl
@[simp] theorem State.resetClasses_aoAct (s : State) (p : Nat → Bool) : (s.resetClasses p).aoAct = s.aoAct := rfl
@[simp] theorem State.resetClasses_aoHealth (s : State) (p : Nat → Bool) : (s.resetClasses p).aoHealth = s.aoHealth := rfl
@[simp] theorem State.resetClasses_mpAsm (s : State) (p : Nat → Bool) : (s.resetClasses p).mpAsm = s.mpAsm := rfl
@[simp] theorem State.resetClasses_mpStage (s : State) (p : Nat → Bool) : (s.resetClasses p).mpStage = s.mpStage := rfl
@[simp] theorem State.resetClasses_mpWait (s : State) (p : Nat → Bool) : (s.resetClasses p).mpWait = s.mpWait := rfl
@[simp] theorem State.resetClasses_mpResp (s : State) (p : Nat → Bool) : (s.resetClasses p).mpResp = s.mpResp := rfl
@[simp] theorem State.resetClasses_fwStage (s : State) (p : Nat → Bool) : (s.resetClasses p).fwStage = s.fwStage := rfl
@[simp] theorem State.resetClasses_fwRanges (s : State) (p : Nat → Bool) : (s.resetClasses p).fwRanges = s.fwRanges := rfl
@[simp] theorem State.resetClasses_fwWrite (s : State) (p : Nat → Bool) : (s.resetClasses p).fwWrite = s.fwWrite := rfl
@[simp] theorem State.resetClasses_feats (s : State) (p : Nat → Bool) : (s.resetClasses p).feats = s.feats := rfl
@[simp] theorem State.resetClasses_aens (s : State) (p : Nat → Bool) : (s.resetClasses p).aens = s.aens := rfl
@[simp] theorem State.resetClasses_errLog (s : State) (p : Nat → Bool) : (s.resetClasses p).errLog = s.errLog := rfl
@[simp] theorem State.resetClasses_changedZones (s : State) (p : Nat → Bool) : (s.resetClasses p).changedZones = s.changedZones := rfl
@[simp] theorem State.resetClasses_changedNs (s : State) (p : Nat → Bool) : (s.resetClasses p).changedNs = s.changedNs := rfl
@[simp] theorem State.resetClasses_resvNotes (s : State) (p : Nat → Bool) : (s.resetClasses p).resvNotes = s.resvNotes := rfl
@[simp] theorem State.resetClasses_resv (s : State) (p : Nat → Bool) : (s.resetClasses p).resv = s.resv := rfl
@[simp] theorem State.resetClasses_hostData (s : State) (p : Nat → Bool) : (s.resetClasses p).hostData = s.hostData := rfl
@[simp] theorem State.resetClasses_pending (s : State) (p : Nat → Bool) : (s.resetClasses p).pending = s.pending := rfl

@[simp] theorem State.get_spend (s : State) (f : Fld) (i : Nat) : s.spend.get f i = s.get f i := rfl
@[simp] theorem State.get_flashProgram (s : State) (a : Nat) (bs : List Byte) (f : Fld) (i : Nat) : (s.flashProgram a bs).get f i = s.get f i := rfl
@[simp] theorem State.get_flashErase (s : State) (a n : Nat) (f : Fld) (i : Nat) : (s.flashErase a n).get f i = s.get f i := rfl

end Sys2Proof.Machine
end

