-- ==== Sys2Proof/Laws/Settle.lean ====
section
/-! SUPPORT. What bringing the mirrors up to date does: it writes mirrors and nothing else, and afterwards they agree. -/

namespace Sys2Proof.Machine

/-- `t` differs from `s` at most in the register fields listed. -/
structure Only (ids : List Nat) (s t : State) : Prop where
  rest : t = { s with regs := t.regs }
  get : ∀ f i, f.id ∉ ids → t.get f i = s.get f i

theorem Only.refl (ids : List Nat) (s : State) : Only ids s s := ⟨rfl, fun _ _ _ => rfl⟩

theorem Only.trans {ids : List Nat} {s t u : State} (h : Only ids s t) (g : Only ids t u) : Only ids s u :=
  ⟨by rw [g.rest, h.rest], fun f i hf => (g.get f i hf).trans (h.get f i hf)⟩

theorem Only.set {ids : List Nat} (s : State) (f : Fld) (i v : Nat) (h : f.id ∈ ids) : Only ids s (s.set f i v) :=
  ⟨rfl, fun _ _ hg => State.get_set_ne _ _ _ _ _ _ (fun e => hg (e ▸ h))⟩

theorem Only.step {ids : List Nat} {s t : State} (h : Only ids s t) (f : Fld) (i v : Nat) (hf : f.id ∈ ids) :
    Only ids s (t.set f i v) := h.trans (Only.set t f i v hf)

theorem Only.ite {ids : List Nat} {s t u : State} (c : Prop) [Decidable c] (h : Only ids s t) (g : Only ids s u) :
    Only ids s (if c then t else u) := by split <;> assumption

theorem Only.each {ids : List Nat} (l : List Nat) (g : Nat → State → State) (h : ∀ i t, Only ids t (g i t)) (s : State) :
    Only ids s (s.each l g) := by
  unfold State.each
  induction l generalizing s with
  | nil => exact Only.refl _ _
  | cons a r ih => exact (h a s).trans (ih _)

theorem Only.fieldsOf {ids : List Nat} {s t : State} (h : Only ids s t) (r : List ((Nat × Nat) × Nat)) :
    { t with regs := r } = { s with regs := r } := by rw [h.rest]

theorem Only.mono {ids ids' : List Nat} {s t : State} (h : Only ids s t) (le : ∀ i ∈ ids, i ∈ ids') : Only ids' s t :=
  ⟨h.rest, fun f i hf => h.get f i (fun e => hf (le _ e))⟩

/-- The mirrors that each part of settling writes. -/
def ctlIds : List Nat := [X.ctl_down.id, HIF_CTL_STATUS.rdy.id, HIF_CTL_STATUS.draining.id, HIF_CTL_STATUS.shst.id]
def ctxIds : List Nat := [QE_CTX_STATUS.ctl0.id, QE_CTX_STATUS.ctl1.id, QE_CTX_STATUS.urgent.id, QE_ABORT_STATUS.pending.id]
def ringIds : List Nat :=
  [QE_RING_INFO.owner.id, QE_RING_INFO.purpose.id, QE_RING_INFO.active.id, QE_RING_INFO.phase.id, QE_RING_INFO.entry_log2.id,
   QE_RING_INFO.size_m1.id, QE_RING_INFO.tail.id, QE_RING_INFO.head.id, QE_RING_BASE.addr.id]
def threadIds : List Nat :=
  [SQ_THR_STATE.arm.id, SQ_THR_STATE.grants.id, SQ_THR_STATE.flumes.id, SQ_STATUS.thr_fault.id, SQ_STATUS.thr_busy.id]
def mediaIds : List Nat :=
  [MS_HQ_STATE.used.id, MS_HQ_STATE.urgent.id, MS_HQ_STATE.oldest_ms.id, MS_ACT_STATE.urgent.id, MS_ACT_STATE.single_served.id]
def queueIds : List Nat := [HL_CT_QSTAT.rx_count.id, HL_CT_QSTAT.tx_free.id]

theorem only_showCtl (c : Nat) (s : State) : Only ctlIds s (showCtl c s) := by
  have h1 : Only ctlIds s (if s.on X.ctl_down c && ctlQuiet s c then
      ((s.clear X.ctl_down c).clear HIF_CTL_STATUS.rdy c).clear HIF_CTL_STATUS.draining c else s) :=
    Only.ite _ ((((Only.refl _ s).step _ _ _ (by decide)).step _ _ _ (by decide)).step _ _ _ (by decide)) (Only.refl _ _)
  exact Only.ite _ (h1.step _ _ _ (by decide)) h1

theorem only_showCtxs (s : State) : Only ctxIds s (showCtxs s) := by
  unfold showCtxs
  refine Only.trans ?_ (Only.each _ _ (fun c t => (Only.refl _ t).step _ _ _ (by decide)) _)
  exact (((Only.refl _ s).step _ _ _ (by decide)).step _ _ _ (by decide)).step _ _ _ (by decide)

theorem only_showRing (s : State) : Only ringIds s (showRing s) := by
  unfold showRing
  dsimp only
  split
  · repeat' first | exact Only.refl _ _ | refine Only.step ?_ _ _ _ (by decide)
  · unfold State.clear
    repeat' first | exact Only.refl _ _ | refine Only.step ?_ _ _ _ (by decide)

theorem only_showTest (s : State) : Only [X.dst_run.id] s (showTest s) := by
  unfold showTest
  dsimp only
  exact Only.ite _ ((Only.refl _ s).step _ _ _ (by decide)) (Only.refl _ _)

theorem only_flag (f : Fld) (q t : Nat) (b : Bool) (s : State) (h : f.id ∈ threadIds) :
    Only threadIds s (if b = true then s.setBitOf f q t else s.clearBitOf f q t) :=
  Only.ite _ ((Only.refl _ s).step _ _ _ h) ((Only.refl _ s).step _ _ _ h)

theorem only_showThread (k : Nat) (s : State) : Only threadIds s (showThread k s) := by
  unfold showThread
  dsimp only
  refine Only.trans ?_ (only_flag _ _ _ _ _ (by decide))
  refine Only.trans ?_ (only_flag _ _ _ _ _ (by decide))
  exact (((Only.refl _ s).step _ _ _ (by decide)).step _ _ _ (by decide)).step _ _ _ (by decide)

theorem only_showDomains (s : State) : Only [HG_DOMAIN_STATUS.on.id] s (showDomains s) := by
  unfold showDomains
  exact (((Only.refl _ s).step _ _ _ (by decide)).step _ _ _ (by decide)).step _ _ _ (by decide)

theorem only_showClock (s : State) : Only [CR_DTIME.ns.id] s (showClock s) := (Only.refl _ s).step _ _ _ (by decide)

theorem only_showRecorder (s : State) : Only [ER_STATUS.fifo.id, ER_STATUS.log_failed.id] s (showRecorder s) :=
  ((Only.refl _ s).step _ _ _ (by decide)).step _ _ _ (by decide)

theorem only_showPairs (s : State) : Only [SV_RED_STATUS.active.id] s (showPairs s) :=
  Only.each _ _ (fun _ t => (Only.refl _ t).step _ _ _ (by decide)) s

theorem only_showThreads (s : State) : Only threadIds s (showThreads s) := Only.each _ _ only_showThread s

theorem only_showPool (s : State) : Only [HG_POOL.held_g.id, HG_POOL.x.id] s (showPool s) :=
  ((Only.refl _ s).step _ _ _ (by decide)).step _ _ _ (by decide)

theorem only_showHq (h : Nat) (s : State) : Only mediaIds s (showHq h s) :=
  (((Only.refl _ s).step _ _ _ (by decide)).step _ _ _ (by decide)).step _ _ _ (by decide)

theorem only_showMedia (a : Nat) (s : State) : Only mediaIds s (showMedia a s) :=
  ((Only.each _ _ only_showHq s).step _ _ _ (by decide)).step _ _ _ (by decide)

theorem only_showQueue (y : Nat) (s : State) : Only queueIds s (showQueue y s) :=
  ((Only.refl _ s).step _ _ _ (by decide)).step _ _ _ (by decide)

/-- The parts of settling before the clock. -/
def showHost (s : State) : State := showTest (showRing (showCtxs (showCtl 1 (showCtl 0 s))))

theorem only_showHost (s : State) : Only (ctlIds ++ ctxIds ++ ringIds ++ [X.dst_run.id]) s (showHost s) :=
  (((((only_showCtl 0 s).trans (only_showCtl 1 _)).mono (by decide)).trans ((only_showCtxs _).mono (by decide))).trans
    ((only_showRing _).mono (by decide))).trans ((only_showTest _).mono (by decide))

/-- Settling, as the chain of its parts. -/
theorem settle_eq (s : State) : settle s =
    ((showPool (showDomains (showThreads (showPairs (showRecorder (showClock (showHost s))))))).each (List.range 4) showMedia).each
      (List.range 16) showQueue := rfl

/-- Bringing the mirrors up to date changes mirrors alone. -/
theorem only_settle (s : State) : Only mirrors s (settle s) := by
  rw [settle_eq]
  refine Only.trans ?_ (Only.each _ _ (fun y t => (only_showQueue y t).mono (by decide)) _)
  refine Only.trans ?_ (Only.each _ _ (fun a t => (only_showMedia a t).mono (by decide)) _)
  refine Only.trans ?_ ((only_showPool _).mono (by decide))
  refine Only.trans ?_ ((only_showDomains _).mono (by decide))
  refine Only.trans ?_ ((only_showThreads _).mono (by decide))
  refine Only.trans ?_ ((only_showPairs _).mono (by decide))
  refine Only.trans ?_ ((only_showRecorder _).mono (by decide))
  refine Only.trans ?_ ((only_showClock _).mono (by decide))
  exact (only_showHost s).mono (by decide)

/-- A fold over instances that each write their own instance of a field: what one reads afterwards. -/
theorem each_get (l : List Nat) (g : Nat → State → State) (f : Fld) (v : State → Nat → Nat) (P : State → State → Prop)
    (hP : ∀ i t, P t (g i t))
    (own : ∀ i t, (g i t).get f i = v t i) (other : ∀ i j t, i ≠ j → (g i t).get f j = t.get f j)
    (stable : ∀ s t i, P s t → v t i = v s i) (s : State) (i : Nat) (hi : i ∈ l) (nd : l.Nodup) :
    (s.each l g).get f i = v s i := by
  unfold State.each
  induction l generalizing s with
  | nil => simp at hi
  | cons a r ih =>
    simp only [List.foldl_cons]
    by_cases h : i = a
    · subst h
      have keep : ∀ (r : List Nat) (t : State), i ∉ r → (r.foldl (fun t i => g i t) t).get f i = t.get f i := by
        intro r
        induction r with
        | nil => intros; rfl
        | cons b q ihq =>
          intro t hn
          simp only [List.mem_cons, not_or] at hn
          rw [List.foldl_cons, ihq _ hn.2, other _ _ _ (Ne.symm hn.1)]
      rw [keep _ _ (List.nodup_cons.1 nd).1, own]
    · have hr : i ∈ r := by simpa [h] using hi
      rw [ih _ hr (List.nodup_cons.1 nd).2, stable _ _ _ (hP _ _)]

/-- A register that is no mirror keeps its value. -/
theorem settle_get (s : State) (f : Fld) (i : Nat) (h : f.id ∉ mirrors) : (settle s).get f i = s.get f i := (only_settle s).get f i h

theorem settled_get (s u : State) (f : Fld) (i : Nat) (h : f.id ∉ mirrors) : (settled s u).get f i = u.get f i :=
  (State.get_of_regs (by simp only [settled]) f i).trans (settle_get u f i h)

/-- What is no register is as the effect left it. -/
theorem settled_rest (s u : State) (r : List ((Nat × Nat) × Nat)) :
    { settled s u with regs := r } = { u with regs := r, pending := s.pending } := by
  have h := (only_settle u).fieldsOf r
  unfold settled
  exact congrArg (fun (x : State) => { x with pending := s.pending }) h

theorem settled_pending (s u : State) : (settled s u).pending = s.pending := by simp only [settled]

end Sys2Proof.Machine
end

