-- ==== Sys2Proof/Laws/Exec.lean ====
section
/-! SUPPORT. What a command can answer: every meaning ends in `answer`. -/

namespace Sys2Proof.Machine

/-- A well-formed command answers a settled state; an ill-formed one is refused. -/
def Answers (wf : Bool) (s : State) (r : Res) : Prop := if wf then ∃ u, r = .next (settled s u) else r = .refused .illFormed

theorem answer_answers (live wf : Bool) (s : State) (eff : State → State) : Answers wf s (answer live wf s eff) := by
  unfold Answers answer settled
  cases wf
  · simp
  · exact ⟨_, rfl⟩

theorem run_answers (wf : Bool) (s : State) (eff : State → State) : Answers wf s (run wf s eff) := answer_answers _ _ _ _

theorem runAO_answers (wf : Bool) (s : State) (eff : State → State) : Answers wf s (runAO wf s eff) := answer_answers _ _ _ _

theorem mpRun_answers (wf : Bool) (s : State) (eff : State → State) : Answers wf s (mpRun wf s eff) := answer_answers _ _ _ _

theorem micro_answers (op q t : Nat) (g : Nat → MicroWord → State → State) (s : State) :
    Answers (okSeq q && okThread t) s (micro op q t g s) := answer_answers _ _ _ _

theorem alu_answers (op q t : Nat) (g : MicroWord → Nat → Nat → Nat) (s : State) :
    Answers (okSeq q && okThread t) s (alu op q t g s) := answer_answers _ _ _ _

theorem servoWord_answers (op q t : Nat) (g : MicroWord → State → State) (s : State) :
    Answers (okSeq q && okThread t) s (servoWord op q t g s) := answer_answers _ _ _ _

theorem execRegisterWrite_answers (core : Nat) (isWrite : Bool) (addr : Nat) (width : Nat) (value : Nat) (s : State) : Answers (Instr.wf (.registerWrite core isWrite addr width value)) s (execRegisterWrite core isWrite addr width value s) := runAO_answers _ _ _
theorem execStFieldWrite_answers (core : Nat) (addr : Nat) (width : Nat) (value : Nat) (s : State) : Answers (Instr.wf (.stFieldWrite core addr width value)) s (execStFieldWrite core addr width value s) := run_answers _ _ _
theorem execCheck_answers (s : State) : Answers (Instr.wf (.check)) s (execCheck s) := run_answers _ _ _
theorem execCheckDone_answers (s : State) : Answers (Instr.wf (.checkDone)) s (execCheckDone s) := run_answers _ _ _
theorem execArmCommit_answers (s : State) : Answers (Instr.wf (.armCommit)) s (execArmCommit s) := run_answers _ _ _
theorem execCancelArmedCommit_answers (s : State) : Answers (Instr.wf (.cancelArmedCommit)) s (execCancelArmedCommit s) := run_answers _ _ _
theorem execDiscard_answers (s : State) : Answers (Instr.wf (.discard)) s (execDiscard s) := run_answers _ _ _
theorem execCommitStrobe_answers (s : State) : Answers (Instr.wf (.commitStrobe)) s (execCommitStrobe s) := run_answers _ _ _
theorem execCommitMissed_answers (s : State) : Answers (Instr.wf (.commitMissed)) s (execCommitMissed s) := run_answers _ _ _
theorem execUnitLoss_answers (unit : LossUnit) (s : State) : Answers (Instr.wf (.unitLoss unit)) s (execUnitLoss unit s) := run_answers _ _ _
theorem execAuxRailPor_answers (straps : Nat) (s : State) : Answers (Instr.wf (.auxRailPor straps)) s (execAuxRailPor straps s) := answer_answers _ _ _ _
theorem execSysRstNLow_answers (ns : Nat) (s : State) : Answers (Instr.wf (.sysRstNLow ns)) s (execSysRstNLow ns s) := runAO_answers _ _ _
theorem execPerstAssert_answers (port : Nat) (both : Bool) (s : State) : Answers (Instr.wf (.perstAssert port both)) s (execPerstAssert port both s) := runAO_answers _ _ _
theorem execPerstDeassert_answers (port : Nat) (s : State) : Answers (Instr.wf (.perstDeassert port)) s (execPerstDeassert port s) := runAO_answers _ _ _
theorem execPwrgdDeassert_answers (s : State) : Answers (Instr.wf (.pwrgdDeassert)) s (execPwrgdDeassert s) := run_answers _ _ _
theorem execPwrgdAssert_answers (s : State) : Answers (Instr.wf (.pwrgdAssert)) s (execPwrgdAssert s) := runAO_answers _ _ _
theorem execWarmReset_answers (src : Nat) (s : State) : Answers (Instr.wf (.warmReset src)) s (execWarmReset src s) := run_answers _ _ _
theorem execWatchdogReset_answers (src : Nat) (s : State) : Answers (Instr.wf (.watchdogReset src)) s (execWatchdogReset src s) := run_answers _ _ _
theorem execBootSequence_answers (s : State) : Answers (Instr.wf (.bootSequence)) s (execBootSequence s) := run_answers _ _ _
theorem execCacheInvalidateDone_answers (s : State) : Answers (Instr.wf (.cacheInvalidateDone)) s (execCacheInvalidateDone s) := run_answers _ _ _
theorem execActReset_answers (core : Nat) (mask : Nat) (s : State) : Answers (Instr.wf (.actReset core mask)) s (execActReset core mask s) := run_answers _ _ _
theorem execActResetEnd_answers (act : Nat) (s : State) : Answers (Instr.wf (.actResetEnd act)) s (execActResetEnd act s) := run_answers _ _ _
theorem execMgtReset_answers (s : State) : Answers (Instr.wf (.mgtReset)) s (execMgtReset s) := runAO_answers _ _ _
theorem execWrmCommand_answers (core : Nat) (s : State) : Answers (Instr.wf (.wrmCommand core)) s (execWrmCommand core s) := run_answers _ _ _
theorem execWdtEnable_answers (value : Nat) (s : State) : Answers (Instr.wf (.wdtEnable value)) s (execWdtEnable value s) := run_answers _ _ _
theorem execWdtKick_answers (core : Nat) (value : Nat) (s : State) : Answers (Instr.wf (.wdtKick core value)) s (execWdtKick core value s) := run_answers _ _ _
theorem execWdtStage1_answers (s : State) : Answers (Instr.wf (.wdtStage1)) s (execWdtStage1 s) := run_answers _ _ _
theorem execWdtStage2_answers (s : State) : Answers (Instr.wf (.wdtStage2)) s (execWdtStage2 s) := run_answers _ _ _
theorem execPowerStateGo_answers (core : Nat) (s : State) : Answers (Instr.wf (.powerStateGo core)) s (execPowerStateGo core s) := run_answers _ _ _
theorem execPowerTransitionStep_answers (s : State) : Answers (Instr.wf (.powerTransitionStep)) s (execPowerTransitionStep s) := run_answers _ _ _
theorem execIdleAEntry_answers (s : State) : Answers (Instr.wf (.idleAEntry)) s (execIdleAEntry s) := run_answers _ _ _
theorem execDeepEntry_answers (s : State) : Answers (Instr.wf (.deepEntry)) s (execDeepEntry s) := run_answers _ _ _
theorem execDeepWakeTimer_answers (s : State) : Answers (Instr.wf (.deepWakeTimer)) s (execDeepWakeTimer s) := runAO_answers _ _ _
theorem execDeepExit_answers (periods : Nat) (s : State) : Answers (Instr.wf (.deepExit periods)) s (execDeepExit periods s) := runAO_answers _ _ _
theorem execKclkCheck_answers (ppm : Nat) (s : State) : Answers (Instr.wf (.kclkCheck ppm)) s (execKclkCheck ppm s) := run_answers _ _ _
theorem execGroupBringUp_answers (group : Nat) (s : State) : Answers (Instr.wf (.groupBringUp group)) s (execGroupBringUp group s) := run_answers _ _ _
theorem execGroupToOff_answers (group : Nat) (s : State) : Answers (Instr.wf (.groupToOff group)) s (execGroupToOff group s) := run_answers _ _ _
theorem execHlCtrlWrite_answers (value : Nat) (s : State) : Answers (Instr.wf (.hlCtrlWrite value)) s (execHlCtrlWrite value s) := run_answers _ _ _
theorem execDetectEntry_answers (group : Nat) (s : State) : Answers (Instr.wf (.detectEntry group)) s (execDetectEntry group s) := run_answers _ _ _
theorem execDetectTimeout_answers (group : Nat) (s : State) : Answers (Instr.wf (.detectTimeout group)) s (execDetectTimeout group s) := run_answers _ _ _
theorem execFeCap_answers (lane : Nat) (payload : List Byte) (s : State) : Answers (Instr.wf (.feCap lane payload)) s (execFeCap lane payload s) := run_answers _ _ _
theorem execCapxTimeout_answers (group : Nat) (s : State) : Answers (Instr.wf (.capxTimeout group)) s (execCapxTimeout group s) := run_answers _ _ _
theorem execAckSet_answers (lane : Nat) (payload : List Byte) (s : State) : Answers (Instr.wf (.ackSet lane payload)) s (execAckSet lane payload s) := run_answers _ _ _
theorem execSettleTimeout_answers (group : Nat) (s : State) : Answers (Instr.wf (.settleTimeout group)) s (execSettleTimeout group s) := run_answers _ _ _
theorem execTrainEntry_answers (group : Nat) (s : State) : Answers (Instr.wf (.trainEntry group)) s (execTrainEntry group s) := run_answers _ _ _
theorem execLaneActive_answers (lane : Nat) (spacing : Nat) (eRms : Nat) (tRms : Nat) (s : State) : Answers (Instr.wf (.laneActive lane spacing eRms tRms)) s (execLaneActive lane spacing eRms tRms s) := run_answers _ _ _
theorem execTrainTimeout_answers (group : Nat) (s : State) : Answers (Instr.wf (.trainTimeout group)) s (execTrainTimeout group s) := run_answers _ _ _
theorem execAttemptCountClear_answers (group : Nat) (s : State) : Answers (Instr.wf (.attemptCountClear group)) s (execAttemptCountClear group s) := run_answers _ _ _
theorem execKeepalive_answers (group : Nat) (s : State) : Answers (Instr.wf (.keepalive group)) s (execKeepalive group s) := run_answers _ _ _
theorem execUpstreamFrame_answers (lane : Nat) (levels : List Int) (s : State) : Answers (Instr.wf (.upstreamFrame lane levels)) s (execUpstreamFrame lane levels s) := run_answers _ _ _
theorem execLockLoss_answers (lane : Nat) (s : State) : Answers (Instr.wf (.lockLoss lane)) s (execLockLoss lane s) := run_answers _ _ _
theorem execRetrainAttemptTimeout_answers (lane : Nat) (s : State) : Answers (Instr.wf (.retrainAttemptTimeout lane)) s (execRetrainAttemptTimeout lane s) := run_answers _ _ _
theorem execDownstreamLaneLoss_answers (group : Nat) (cause : Nat) (s : State) : Answers (Instr.wf (.downstreamLaneLoss group cause)) s (execDownstreamLaneLoss group cause s) := run_answers _ _ _
theorem execTransmitterPllUnlock_answers (group : Nat) (s : State) : Answers (Instr.wf (.transmitterPllUnlock group)) s (execTransmitterPllUnlock group s) := run_answers _ _ _
theorem execDownstreamRebringUp_answers (group : Nat) (s : State) : Answers (Instr.wf (.downstreamRebringUp group)) s (execDownstreamRebringUp group s) := run_answers _ _ _
theorem execAck_answers (lane : Nat) (slot : Nat) (op : Nat) (result : Nat) (s : State) : Answers (Instr.wf (.ack lane slot op result)) s (execAck lane slot op result s) := run_answers _ _ _
theorem execTxeqAck_answers (lane : Nat) (slot : Nat) (pre : Nat) (post : Nat) (s : State) : Answers (Instr.wf (.txeqAck lane slot pre post)) s (execTxeqAck lane slot pre post s) := run_answers _ _ _
theorem execStatus_answers (lane : Nat) (slot : Nat) (flags : Nat) (cause : Nat) (s : State) : Answers (Instr.wf (.status lane slot flags cause)) s (execStatus lane slot flags cause s) := run_answers _ _ _
theorem execTemp_answers (lane : Nat) (slot : Nat) (item : Nat) (temp : Nat) (s : State) : Answers (Instr.wf (.temp lane slot item temp)) s (execTemp lane slot item temp s) := run_answers _ _ _
theorem execRegData_answers (lane : Nat) (slot : Nat) (regAddr : Nat) (data : Nat) (s : State) : Answers (Instr.wf (.regData lane slot regAddr data)) s (execRegData lane slot regAddr data s) := run_answers _ _ _
theorem execFault_answers (lane : Nat) (slot : Nat) (code : Nat) (detail : Nat) (s : State) : Answers (Instr.wf (.fault lane slot code detail)) s (execFault lane slot code detail s) := run_answers _ _ _
theorem execEyeDs_answers (lane : Nat) (height : Nat) (width : Nat) (bad : Nat) (s : State) : Answers (Instr.wf (.eyeDs lane height width bad)) s (execEyeDs lane height width bad s) := run_answers _ _ _
theorem execCtAnswerTimeout_answers (group : Nat) (message : Nat) (s : State) : Answers (Instr.wf (.ctAnswerTimeout group message)) s (execCtAnswerTimeout group message s) := run_answers _ _ _
theorem execCtMessageQueue_answers (group : Nat) (hi : Nat) (s : State) : Answers (Instr.wf (.ctMessageQueue group hi)) s (execCtMessageQueue group hi s) := run_answers _ _ _
theorem execCtReceiveDequeue_answers (group : Nat) (s : State) : Answers (Instr.wf (.ctReceiveDequeue group)) s (execCtReceiveDequeue group s) := run_answers _ _ _
theorem execLaneRetrain_answers (lane : Nat) (s : State) : Answers (Instr.wf (.laneRetrain lane)) s (execLaneRetrain lane s) := run_answers _ _ _
theorem execLaneSleep_answers (lane : Nat) (s : State) : Answers (Instr.wf (.laneSleep lane)) s (execLaneSleep lane s) := run_answers _ _ _
theorem execLaneWake_answers (lane : Nat) (s : State) : Answers (Instr.wf (.laneWake lane)) s (execLaneWake lane s) := run_answers _ _ _
theorem execClearLaneErr_answers (lane : Nat) (s : State) : Answers (Instr.wf (.clearLaneErr lane)) s (execClearLaneErr lane s) := run_answers _ _ _
theorem execWakeAdaptDone_answers (lane : Nat) (spacing : Nat) (eRms : Nat) (tRms : Nat) (s : State) : Answers (Instr.wf (.wakeAdaptDone lane spacing eRms tRms)) s (execWakeAdaptDone lane spacing eRms tRms s) := run_answers _ _ _
theorem execEyeRefresh_answers (lane : Nat) (spacing : Nat) (eRms : Nat) (tRms : Nat) (s : State) : Answers (Instr.wf (.eyeRefresh lane spacing eRms tRms)) s (execEyeRefresh lane spacing eRms tRms s) := run_answers _ _ _
theorem execFlumeRequest_answers (seq : Nat) (thread : Nat) (req : FlumeReq) (s : State) : Answers (Instr.wf (.flumeRequest seq thread req)) s (execFlumeRequest seq thread req s) := run_answers _ _ _
theorem execFlumeGrant_answers (s : State) : Answers (Instr.wf (.flumeGrant)) s (execFlumeGrant s) := run_answers _ _ _
theorem execHandover_answers (seq : Nat) (thread : Nat) (req : FlumeReq) (gapNs : Nat) (s : State) : Answers (Instr.wf (.handover seq thread req gapNs)) s (execHandover seq thread req gapNs s) := run_answers _ _ _
theorem execHandoverSwitch_answers (flume : Nat) (gapNs : Nat) (s : State) : Answers (Instr.wf (.handoverSwitch flume gapNs)) s (execHandoverSwitch flume gapNs s) := run_answers _ _ _
theorem execSyncSearchEnd_answers (flume : Nat) (s : State) : Answers (Instr.wf (.syncSearchEnd flume)) s (execSyncSearchEnd flume s) := run_answers _ _ _
theorem execSectorEnd_answers (flume : Nat) (s : State) : Answers (Instr.wf (.sectorEnd flume)) s (execSectorEnd flume s) := run_answers _ _ _
theorem execDecodeDone_answers (flume : Nat) (s : State) : Answers (Instr.wf (.decodeDone flume)) s (execDecodeDone flume s) := run_answers _ _ _
theorem execIdleRelease_answers (flume : Nat) (s : State) : Answers (Instr.wf (.idleRelease flume)) s (execIdleRelease flume s) := run_answers _ _ _
theorem execFlumeFault_answers (flume : Nat) (s : State) : Answers (Instr.wf (.flumeFault flume)) s (execFlumeFault flume s) := run_answers _ _ _
theorem execCalCopy_answers (s : State) : Answers (Instr.wf (.calCopy)) s (execCalCopy s) := run_answers _ _ _
theorem execCalRecordWrite_answers (core : Nat) (addr : Nat) (width : Nat) (value : Nat) (s : State) : Answers (Instr.wf (.calRecordWrite core addr width value)) s (execCalRecordWrite core addr width value s) := run_answers _ _ _
theorem execDetachNow_answers (flume : Nat) (s : State) : Answers (Instr.wf (.detachNow flume)) s (execDetachNow flume s) := run_answers _ _ _
theorem execClearAccumulator_answers (flume : Nat) (s : State) : Answers (Instr.wf (.clearAccumulator flume)) s (execClearAccumulator flume s) := run_answers _ _ _
theorem execMarkStale_answers (head : Nat) (s : State) : Answers (Instr.wf (.markStale head)) s (execMarkStale head s) := run_answers _ _ _
theorem execClearValid_answers (head : Nat) (s : State) : Answers (Instr.wf (.clearValid head)) s (execClearValid head s) := run_answers _ _ _
theorem execClearQualityCounters_answers (head : Nat) (s : State) : Answers (Instr.wf (.clearQualityCounters head)) s (execClearQualityCounters head s) := run_answers _ _ _
theorem execKeyLoad_answers (core : Nat) (s : State) : Answers (Instr.wf (.keyLoad core)) s (execKeyLoad core s) := run_answers _ _ _
theorem execKeyZeroise_answers (core : Nat) (s : State) : Answers (Instr.wf (.keyZeroise core)) s (execKeyZeroise core s) := run_answers _ _ _
theorem execKeyActionComplete_answers (s : State) : Answers (Instr.wf (.keyActionComplete)) s (execKeyActionComplete s) := run_answers _ _ _
theorem execWriteGateAssert_answers (head : Nat) (s : State) : Answers (Instr.wf (.writeGateAssert head)) s (execWriteGateAssert head s) := run_answers _ _ _
theorem execShockTrip_answers (s : State) : Answers (Instr.wf (.shockTrip)) s (execShockTrip s) := run_answers _ _ _
theorem execShockHoldoffEnd_answers (s : State) : Answers (Instr.wf (.shockHoldoffEnd)) s (execShockHoldoffEnd s) := run_answers _ _ _
theorem execVerifyResult_answers (head : Nat) (s : State) : Answers (Instr.wf (.verifyResult head)) s (execVerifyResult head s) := run_answers _ _ _
theorem execRewrite_answers (unit : Nat) (s : State) : Answers (Instr.wf (.rewrite unit)) s (execRewrite unit s) := run_answers _ _ _
theorem execServoField_answers (head : Nat) (a b : ServoField) (s : State) : Answers (Instr.wf (.servoField head a b)) s (execServoField head a b s) := run_answers _ _ _
theorem execServoWedgeEnd_answers (act : Nat) (obs : WedgeObs) (s : State) : Answers (Instr.wf (.servoWedgeEnd act obs)) s (execServoWedgeEnd act obs s) := run_answers _ _ _
theorem execServoDeadlineMiss_answers (eng : Nat) (s : State) : Answers (Instr.wf (.servoDeadlineMiss eng)) s (execServoDeadlineMiss eng s) := run_answers _ _ _
theorem execEngineSelfCheck_answers (eng : Nat) (s : State) : Answers (Instr.wf (.engineSelfCheck eng)) s (execEngineSelfCheck eng s) := run_answers _ _ _
theorem execLegCheckFail_answers (act : Nat) (s : State) : Answers (Instr.wf (.legCheckFail act)) s (execLegCheckFail act s) := run_answers _ _ _
theorem execCombPlan_answers (act : Nat) (s : State) : Answers (Instr.wf (.combPlan act)) s (execCombPlan act s) := run_answers _ _ _
theorem execSeekRequest_answers (act : Nat) (value : Nat) (s : State) : Answers (Instr.wf (.seekRequest act value)) s (execSeekRequest act value s) := run_answers _ _ _
theorem execLoadAndAcquire_answers (act : Nat) (s : State) : Answers (Instr.wf (.loadAndAcquire act)) s (execLoadAndAcquire act s) := run_answers _ _ _
theorem execAcquisitionFail_answers (act : Nat) (s : State) : Answers (Instr.wf (.acquisitionFail act)) s (execAcquisitionFail act s) := run_answers _ _ _
theorem execPark_answers (act : Nat) (s : State) : Answers (Instr.wf (.park act)) s (execPark act s) := run_answers _ _ _
theorem execClearSvCounters_answers (act : Nat) (s : State) : Answers (Instr.wf (.clearSvCounters act)) s (execClearSvCounters act s) := run_answers _ _ _
theorem execTraceArm_answers (act : Nat) (s : State) : Answers (Instr.wf (.traceArm act)) s (execTraceArm act s) := run_answers _ _ _
theorem execTraceTriggerNow_answers (act : Nat) (s : State) : Answers (Instr.wf (.traceTriggerNow act)) s (execTraceTriggerNow act s) := run_answers _ _ _
theorem execTraceStop_answers (act : Nat) (s : State) : Answers (Instr.wf (.traceStop act)) s (execTraceStop act s) := run_answers _ _ _
theorem execInjectionStart_answers (act : Nat) (s : State) : Answers (Instr.wf (.injectionStart act)) s (execInjectionStart act s) := run_answers _ _ _
theorem execInjectionStop_answers (act : Nat) (s : State) : Answers (Instr.wf (.injectionStop act)) s (execInjectionStop act s) := run_answers _ _ _
theorem execInjectionEnd_answers (act : Nat) (s : State) : Answers (Instr.wf (.injectionEnd act)) s (execInjectionEnd act s) := run_answers _ _ _
theorem execForcedSwap_answers (act : Nat) (s : State) : Answers (Instr.wf (.forcedSwap act)) s (execForcedSwap act s) := run_answers _ _ _
theorem execCancelSwap_answers (act : Nat) (s : State) : Answers (Instr.wf (.cancelSwap act)) s (execCancelSwap act s) := run_answers _ _ _
theorem execCurrentLoopTick_answers (act : Nat) (adc : Nat) (vcoil : Int) (s : State) : Answers (Instr.wf (.currentLoopTick act adc vcoil)) s (execCurrentLoopTick act adc vcoil s) := run_answers _ _ _
theorem execMcCtrlWrite_answers (value : Nat) (s : State) : Answers (Instr.wf (.mcCtrlWrite value)) s (execMcCtrlWrite value s) := run_answers _ _ _
theorem execSpindleStart_answers (s : State) : Answers (Instr.wf (.spindleStart)) s (execSpindleStart s) := run_answers _ _ _
theorem execStopByCoasting_answers (s : State) : Answers (Instr.wf (.stopByCoasting)) s (execStopByCoasting s) := run_answers _ _ _
theorem execStopByBraking_answers (s : State) : Answers (Instr.wf (.stopByBraking)) s (execStopByBraking s) := run_answers _ _ _
theorem execBackEmfZeroCrossing_answers (consistent : Bool) (speed : Nat) (s : State) : Answers (Instr.wf (.backEmfZeroCrossing consistent speed)) s (execBackEmfZeroCrossing consistent speed s) := run_answers _ _ _
theorem execSpindleGrant_answers (s : State) : Answers (Instr.wf (.spindleGrant)) s (execSpindleGrant s) := run_answers _ _ _
theorem execCatchTimeout_answers (s : State) : Answers (Instr.wf (.catchTimeout)) s (execCatchTimeout s) := run_answers _ _ _
theorem execAlignTimeout_answers (s : State) : Answers (Instr.wf (.alignTimeout)) s (execAlignTimeout s) := run_answers _ _ _
theorem execRampTimeout_answers (s : State) : Answers (Instr.wf (.rampTimeout)) s (execRampTimeout s) := run_answers _ _ _
theorem execRundownTimeout_answers (s : State) : Answers (Instr.wf (.rundownTimeout)) s (execRundownTimeout s) := run_answers _ _ _
theorem execBrakeHoldEnd_answers (s : State) : Answers (Instr.wf (.brakeHoldEnd)) s (execBrakeHoldEnd s) := run_answers _ _ _
theorem execObserverUpdate_answers (theta : Nat) (speed : Nat) (residual : Nat) (s : State) : Answers (Instr.wf (.observerUpdate theta speed residual)) s (execObserverUpdate theta speed residual s) := run_answers _ _ _
theorem execSpeedLoop_answers (s : State) : Answers (Instr.wf (.speedLoop)) s (execSpeedLoop s) := run_answers _ _ _
theorem execReacquireTimeout_answers (s : State) : Answers (Instr.wf (.reacquireTimeout)) s (execReacquireTimeout s) := run_answers _ _ _
theorem execIdleDepthWrite_answers (depth : Nat) (s : State) : Answers (Instr.wf (.idleDepthWrite depth)) s (execIdleDepthWrite depth s) := run_answers _ _ _
theorem execSpFlt_answers (s : State) : Answers (Instr.wf (.spFlt)) s (execSpFlt s) := run_answers _ _ _
theorem execVcmFlt_answers (act : Nat) (s : State) : Answers (Instr.wf (.vcmFlt act)) s (execVcmFlt act s) := run_answers _ _ _
theorem execVcmFaultPersist_answers (act : Nat) (s : State) : Answers (Instr.wf (.vcmFaultPersist act)) s (execVcmFaultPersist act s) := run_answers _ _ _
theorem execBrkFlt_answers (s : State) : Answers (Instr.wf (.brkFlt)) s (execBrkFlt s) := run_answers _ _ _
theorem execOverVoltage_answers (s : State) : Answers (Instr.wf (.overVoltage)) s (execOverVoltage s) := run_answers _ _ _
theorem execBrakeChopperSwitch_answers (vm : Nat) (s : State) : Answers (Instr.wf (.brakeChopperSwitch vm)) s (execBrakeChopperSwitch vm s) := run_answers _ _ _
theorem execPowerLoss_answers (s : State) : Answers (Instr.wf (.powerLoss)) s (execPowerLoss s) := run_answers _ _ _
theorem execRetractVelocityEnd_answers (act : Nat) (s : State) : Answers (Instr.wf (.retractVelocityEnd act)) s (execRetractVelocityEnd act s) := run_answers _ _ _
theorem execLatchEnd_answers (act : Nat) (s : State) : Answers (Instr.wf (.latchEnd act)) s (execLatchEnd act s) := run_answers _ _ _
theorem execMwNop_answers (seq : Nat) (thread : Nat) (s : State) : Answers (Instr.wf (.mwNop seq thread)) s (execMwNop seq thread s) := micro_answers _ _ _ _ _
theorem execMwLdi_answers (seq : Nat) (thread : Nat) (s : State) : Answers (Instr.wf (.mwLdi seq thread)) s (execMwLdi seq thread s) := alu_answers _ _ _ _ _
theorem execMwAdd_answers (seq : Nat) (thread : Nat) (s : State) : Answers (Instr.wf (.mwAdd seq thread)) s (execMwAdd seq thread s) := alu_answers _ _ _ _ _
theorem execMwSub_answers (seq : Nat) (thread : Nat) (s : State) : Answers (Instr.wf (.mwSub seq thread)) s (execMwSub seq thread s) := alu_answers _ _ _ _ _
theorem execMwAnd_answers (seq : Nat) (thread : Nat) (s : State) : Answers (Instr.wf (.mwAnd seq thread)) s (execMwAnd seq thread s) := alu_answers _ _ _ _ _
theorem execMwOr_answers (seq : Nat) (thread : Nat) (s : State) : Answers (Instr.wf (.mwOr seq thread)) s (execMwOr seq thread s) := alu_answers _ _ _ _ _
theorem execMwXor_answers (seq : Nat) (thread : Nat) (s : State) : Answers (Instr.wf (.mwXor seq thread)) s (execMwXor seq thread s) := alu_answers _ _ _ _ _
theorem execMwExt_answers (seq : Nat) (thread : Nat) (s : State) : Answers (Instr.wf (.mwExt seq thread)) s (execMwExt seq thread s) := alu_answers _ _ _ _ _
theorem execMwIns_answers (seq : Nat) (thread : Nat) (s : State) : Answers (Instr.wf (.mwIns seq thread)) s (execMwIns seq thread s) := alu_answers _ _ _ _ _
theorem execMwBr_answers (seq : Nat) (thread : Nat) (s : State) : Answers (Instr.wf (.mwBr seq thread)) s (execMwBr seq thread s) := micro_answers _ _ _ _ _
theorem execMwCall_answers (seq : Nat) (thread : Nat) (s : State) : Answers (Instr.wf (.mwCall seq thread)) s (execMwCall seq thread s) := micro_answers _ _ _ _ _
theorem execMwRet_answers (seq : Nat) (thread : Nat) (s : State) : Answers (Instr.wf (.mwRet seq thread)) s (execMwRet seq thread s) := micro_answers _ _ _ _ _
theorem execMwJr_answers (seq : Nat) (thread : Nat) (s : State) : Answers (Instr.wf (.mwJr seq thread)) s (execMwJr seq thread s) := micro_answers _ _ _ _ _
theorem execMwWait_answers (seq : Nat) (thread : Nat) (s : State) : Answers (Instr.wf (.mwWait seq thread)) s (execMwWait seq thread s) := micro_answers _ _ _ _ _
theorem execWaitWake_answers (seq : Nat) (thread : Nat) (s : State) : Answers (Instr.wf (.waitWake seq thread)) s (execWaitWake seq thread s) := run_answers _ _ _
theorem execWaitTimeout_answers (seq : Nat) (thread : Nat) (s : State) : Answers (Instr.wf (.waitTimeout seq thread)) s (execWaitTimeout seq thread s) := run_answers _ _ _
theorem execMwFetch_answers (seq : Nat) (thread : Nat) (s : State) : Answers (Instr.wf (.mwFetch seq thread)) s (execMwFetch seq thread s) := micro_answers _ _ _ _ _
theorem execMwEnd_answers (seq : Nat) (thread : Nat) (s : State) : Answers (Instr.wf (.mwEnd seq thread)) s (execMwEnd seq thread s) := micro_answers _ _ _ _ _
theorem execMwPost_answers (seq : Nat) (thread : Nat) (s : State) : Answers (Instr.wf (.mwPost seq thread)) s (execMwPost seq thread s) := micro_answers _ _ _ _ _
theorem execMwSig_answers (seq : Nat) (thread : Nat) (s : State) : Answers (Instr.wf (.mwSig seq thread)) s (execMwSig seq thread s) := micro_answers _ _ _ _ _
theorem execMwArmAcq_answers (seq : Nat) (thread : Nat) (s : State) : Answers (Instr.wf (.mwArmAcq seq thread)) s (execMwArmAcq seq thread s) := micro_answers _ _ _ _ _
theorem execMwArmRel_answers (seq : Nat) (thread : Nat) (s : State) : Answers (Instr.wf (.mwArmRel seq thread)) s (execMwArmRel seq thread s) := micro_answers _ _ _ _ _
theorem execMwSeek_answers (seq : Nat) (thread : Nat) (s : State) : Answers (Instr.wf (.mwSeek seq thread)) s (execMwSeek seq thread s) := servoWord_answers _ _ _ _ _
theorem execMwComb_answers (seq : Nat) (thread : Nat) (s : State) : Answers (Instr.wf (.mwComb seq thread)) s (execMwComb seq thread s) := servoWord_answers _ _ _ _ _
theorem execMwSubc_answers (seq : Nat) (thread : Nat) (s : State) : Answers (Instr.wf (.mwSubc seq thread)) s (execMwSubc seq thread s) := servoWord_answers _ _ _ _ _
theorem execMwOfs_answers (seq : Nat) (thread : Nat) (s : State) : Answers (Instr.wf (.mwOfs seq thread)) s (execMwOfs seq thread s) := servoWord_answers _ _ _ _ _
theorem execMwSpred_answers (seq : Nat) (thread : Nat) (s : State) : Answers (Instr.wf (.mwSpred seq thread)) s (execMwSpred seq thread s) := micro_answers _ _ _ _ _
theorem execMwCrel_answers (seq : Nat) (thread : Nat) (s : State) : Answers (Instr.wf (.mwCrel seq thread)) s (execMwCrel seq thread s) := servoWord_answers _ _ _ _ _
theorem execMwPwrReq_answers (seq : Nat) (thread : Nat) (s : State) : Answers (Instr.wf (.mwPwrReq seq thread)) s (execMwPwrReq seq thread s) := micro_answers _ _ _ _ _
theorem execMwPwrRel_answers (seq : Nat) (thread : Nat) (s : State) : Answers (Instr.wf (.mwPwrRel seq thread)) s (execMwPwrRel seq thread s) := micro_answers _ _ _ _ _
theorem execMwFlmReq_answers (seq : Nat) (thread : Nat) (s : State) : Answers (Instr.wf (.mwFlmReq seq thread)) s (execMwFlmReq seq thread s) := micro_answers _ _ _ _ _
theorem execMwFlmRel_answers (seq : Nat) (thread : Nat) (s : State) : Answers (Instr.wf (.mwFlmRel seq thread)) s (execMwFlmRel seq thread s) := micro_answers _ _ _ _ _
theorem execMwResGet_answers (seq : Nat) (thread : Nat) (s : State) : Answers (Instr.wf (.mwResGet seq thread)) s (execMwResGet seq thread s) := micro_answers _ _ _ _ _
theorem execMwVresGet_answers (seq : Nat) (thread : Nat) (s : State) : Answers (Instr.wf (.mwVresGet seq thread)) s (execMwVresGet seq thread s) := micro_answers _ _ _ _ _
theorem execMwWrArm_answers (seq : Nat) (thread : Nat) (s : State) : Answers (Instr.wf (.mwWrArm seq thread)) s (execMwWrArm seq thread s) := micro_answers _ _ _ _ _
theorem execMwWrAbort_answers (seq : Nat) (thread : Nat) (s : State) : Answers (Instr.wf (.mwWrAbort seq thread)) s (execMwWrAbort seq thread s) := micro_answers _ _ _ _ _
theorem execCsParity_answers (seq : Nat) (word : Nat) (s : State) : Answers (Instr.wf (.csParity seq word)) s (execCsParity seq word s) := run_answers _ _ _
theorem execSequencerStart_answers (seq : Nat) (s : State) : Answers (Instr.wf (.sequencerStart seq)) s (execSequencerStart seq s) := run_answers _ _ _
theorem execSequencerHalt_answers (seq : Nat) (s : State) : Answers (Instr.wf (.sequencerHalt seq)) s (execSequencerHalt seq s) := run_answers _ _ _
theorem execBeginLoad_answers (core : Nat) (seq : Nat) (s : State) : Answers (Instr.wf (.beginLoad core seq)) s (execBeginLoad core seq s) := run_answers _ _ _
theorem execEndLoad_answers (core : Nat) (seq : Nat) (s : State) : Answers (Instr.wf (.endLoad core seq)) s (execEndLoad core seq s) := run_answers _ _ _
theorem execThreadEnableWrite_answers (seq : Nat) (mask : Nat) (s : State) : Answers (Instr.wf (.threadEnableWrite seq mask)) s (execThreadEnableWrite seq mask s) := run_answers _ _ _
theorem execControlStoreWrite_answers (core : Nat) (seq : Nat) (word : Nat) (half : Nat) (value : Nat) (s : State) : Answers (Instr.wf (.controlStoreWrite core seq word half value)) s (execControlStoreWrite core seq word half value s) := run_answers _ _ _
theorem execNsEnable_answers (ns : Nat) (s : State) : Answers (Instr.wf (.nsEnable ns)) s (execNsEnable ns s) := run_answers _ _ _
theorem execRecover_answers (s : State) : Answers (Instr.wf (.recover)) s (execRecover s) := run_answers _ _ _
theorem execRecoveryComplete_answers (ok : Bool) (s : State) : Answers (Instr.wf (.recoveryComplete ok)) s (execRecoveryComplete ok s) := run_answers _ _ _
theorem execCheckpointNow_answers (s : State) : Answers (Instr.wf (.checkpointNow)) s (execCheckpointNow s) := run_answers _ _ _
theorem execJournalWrite_answers (s : State) : Answers (Instr.wf (.journalWrite)) s (execJournalWrite s) := run_answers _ _ _
theorem execDispatch_answers (act : Nat) (s : State) : Answers (Instr.wf (.dispatch act)) s (execDispatch act s) := run_answers _ _ _
theorem execScheduleSlot_answers (act : Nat) (s : State) : Answers (Instr.wf (.scheduleSlot act)) s (execScheduleSlot act s) := run_answers _ _ _
theorem execCompressionJobStart_answers (s : State) : Answers (Instr.wf (.compressionJobStart)) s (execCompressionJobStart s) := run_answers _ _ _
theorem execCompressionDone_answers (eng : Nat) (selfCheckOk : Bool) (s : State) : Answers (Instr.wf (.compressionDone eng selfCheckOk)) s (execCompressionDone eng selfCheckOk s) := run_answers _ _ _
theorem execExpansionDone_answers (eng : Nat) (s : State) : Answers (Instr.wf (.expansionDone eng)) s (execExpansionDone eng s) := run_answers _ _ _
theorem execEngineFault_answers (eng : Nat) (s : State) : Answers (Instr.wf (.engineFault eng)) s (execEngineFault eng s) := run_answers _ _ _
theorem execEngineIdleGate_answers (eng : Nat) (s : State) : Answers (Instr.wf (.engineIdleGate eng)) s (execEngineIdleGate eng s) := run_answers _ _ _
theorem execPartialChunkForce_answers (ns : Nat) (chunk : Nat) (s : State) : Answers (Instr.wf (.partialChunkForce ns chunk)) s (execPartialChunkForce ns chunk s) := run_answers _ _ _
theorem execIndexCheckpoint_answers (s : State) : Answers (Instr.wf (.indexCheckpoint)) s (execIndexCheckpoint s) := run_answers _ _ _
theorem execRebuildIndex_answers (s : State) : Answers (Instr.wf (.rebuildIndex)) s (execRebuildIndex s) := run_answers _ _ _
theorem execRebuildComplete_answers (ok : Bool) (s : State) : Answers (Instr.wf (.rebuildComplete ok)) s (execRebuildComplete ok s) := run_answers _ _ _
theorem execLinkUp_answers (port : Nat) (speed : Nat) (width : Nat) (s : State) : Answers (Instr.wf (.linkUp port speed width)) s (execLinkUp port speed width s) := run_answers _ _ _
theorem execLinkTrainingStart_answers (port : Nat) (s : State) : Answers (Instr.wf (.linkTrainingStart port)) s (execLinkTrainingStart port s) := run_answers _ _ _
theorem execDlDown_answers (port : Nat) (s : State) : Answers (Instr.wf (.dlDown port)) s (execDlDown port s) := run_answers _ _ _
theorem execHotReset_answers (port : Nat) (s : State) : Answers (Instr.wf (.hotReset port)) s (execHotReset port s) := run_answers _ _ _
theorem execLaneNarrowing_answers (port : Nat) (width : Nat) (s : State) : Answers (Instr.wf (.laneNarrowing port width)) s (execLaneNarrowing port width s) := run_answers _ _ _
theorem execSubmissionDoorbell_answers (ctl : Nat) (qid : Nat) (tail : Nat) (s : State) : Answers (Instr.wf (.submissionDoorbell ctl qid tail)) s (execSubmissionDoorbell ctl qid tail s) := run_answers _ _ _
theorem execCommandFetch_answers (ctl : Nat) (qid : Nat) (cmd : NvmeCmd) (s : State) : Answers (Instr.wf (.commandFetch ctl qid cmd)) s (execCommandFetch ctl qid cmd s) := run_answers _ _ _
theorem execControllerReset_answers (ctl : Nat) (s : State) : Answers (Instr.wf (.controllerReset ctl)) s (execControllerReset ctl s) := run_answers _ _ _
theorem execControllerEnable_answers (ctl : Nat) (ams : Nat) (s : State) : Answers (Instr.wf (.controllerEnable ctl ams)) s (execControllerEnable ctl ams s) := run_answers _ _ _
theorem execShutdownNotification_answers (ctl : Nat) (s : State) : Answers (Instr.wf (.shutdownNotification ctl)) s (execShutdownNotification ctl s) := run_answers _ _ _
theorem execNvmeRead_answers (ctx : Nat) (s : State) : Answers (Instr.wf (.nvmeRead ctx)) s (execNvmeRead ctx s) := run_answers _ _ _
theorem execNvmeWrite_answers (ctx : Nat) (data : List Byte) (s : State) : Answers (Instr.wf (.nvmeWrite ctx data)) s (execNvmeWrite ctx data s) := run_answers _ _ _
theorem execNvmeFlush_answers (ctx : Nat) (s : State) : Answers (Instr.wf (.nvmeFlush ctx)) s (execNvmeFlush ctx s) := run_answers _ _ _
theorem execZoneAppend_answers (ctx : Nat) (data : List Byte) (s : State) : Answers (Instr.wf (.zoneAppend ctx data)) s (execZoneAppend ctx data s) := run_answers _ _ _
theorem execWriteZeroes_answers (ctx : Nat) (s : State) : Answers (Instr.wf (.writeZeroes ctx)) s (execWriteZeroes ctx s) := run_answers _ _ _
theorem execDatasetManagement_answers (ctx : Nat) (s : State) : Answers (Instr.wf (.datasetManagement ctx)) s (execDatasetManagement ctx s) := run_answers _ _ _
theorem execZoneOpen_answers (ctx : Nat) (s : State) : Answers (Instr.wf (.zoneOpen ctx)) s (execZoneOpen ctx s) := run_answers _ _ _
theorem execZoneClose_answers (ctx : Nat) (s : State) : Answers (Instr.wf (.zoneClose ctx)) s (execZoneClose ctx s) := run_answers _ _ _
theorem execZoneFinish_answers (ctx : Nat) (s : State) : Answers (Instr.wf (.zoneFinish ctx)) s (execZoneFinish ctx s) := run_answers _ _ _
theorem execZoneReset_answers (ctx : Nat) (s : State) : Answers (Instr.wf (.zoneReset ctx)) s (execZoneReset ctx s) := run_answers _ _ _
theorem execZoneOffline_answers (ctx : Nat) (s : State) : Answers (Instr.wf (.zoneOffline ctx)) s (execZoneOffline ctx s) := run_answers _ _ _
theorem execReportZones_answers (ctx : Nat) (s : State) : Answers (Instr.wf (.reportZones ctx)) s (execReportZones ctx s) := run_answers _ _ _
theorem execNvmeAbort_answers (ctx : Nat) (s : State) : Answers (Instr.wf (.nvmeAbort ctx)) s (execNvmeAbort ctx s) := run_answers _ _ _
theorem execAsynchronousEventRequest_answers (ctx : Nat) (s : State) : Answers (Instr.wf (.asynchronousEventRequest ctx)) s (execAsynchronousEventRequest ctx s) := run_answers _ _ _
theorem execCompletionPost_answers (ctx : Nat) (status : Nat) (s : State) : Answers (Instr.wf (.completionPost ctx status)) s (execCompletionPost ctx status s) := run_answers _ _ _
theorem execDeviceSelfTest_answers (ctx : Nat) (s : State) : Answers (Instr.wf (.deviceSelfTest ctx)) s (execDeviceSelfTest ctx s) := run_answers _ _ _
theorem execSelfTestResume_answers (s : State) : Answers (Instr.wf (.selfTestResume)) s (execSelfTestResume s) := run_answers _ _ _
theorem execFirmwareImageDownload_answers (ctx : Nat) (data : List Byte) (s : State) : Answers (Instr.wf (.firmwareImageDownload ctx data)) s (execFirmwareImageDownload ctx data s) := run_answers _ _ _
theorem execFirmwareCommit_answers (ctx : Nat) (s : State) : Answers (Instr.wf (.firmwareCommit ctx)) s (execFirmwareCommit ctx s) := run_answers _ _ _
theorem execActivationTimeout_answers (s : State) : Answers (Instr.wf (.activationTimeout)) s (execActivationTimeout s) := run_answers _ _ _
theorem execFormatNvm_answers (ctx : Nat) (s : State) : Answers (Instr.wf (.formatNvm ctx)) s (execFormatNvm ctx s) := run_answers _ _ _
theorem execSanitize_answers (ctx : Nat) (s : State) : Answers (Instr.wf (.sanitize ctx)) s (execSanitize ctx s) := run_answers _ _ _
theorem execNamespaceManagement_answers (ctx : Nat) (s : State) : Answers (Instr.wf (.namespaceManagement ctx)) s (execNamespaceManagement ctx s) := run_answers _ _ _
theorem execNamespaceAttachment_answers (ctx : Nat) (s : State) : Answers (Instr.wf (.namespaceAttachment ctx)) s (execNamespaceAttachment ctx s) := run_answers _ _ _
theorem execReservationCommand_answers (ctx : Nat) (s : State) : Answers (Instr.wf (.reservationCommand ctx)) s (execReservationCommand ctx s) := run_answers _ _ _
theorem execCreateIoQueue_answers (ctx : Nat) (s : State) : Answers (Instr.wf (.createIoQueue ctx)) s (execCreateIoQueue ctx s) := run_answers _ _ _
theorem execDeleteIoSubmissionQueue_answers (ctx : Nat) (s : State) : Answers (Instr.wf (.deleteIoSubmissionQueue ctx)) s (execDeleteIoSubmissionQueue ctx s) := run_answers _ _ _
theorem execDeleteIoCompletionQueue_answers (ctx : Nat) (s : State) : Answers (Instr.wf (.deleteIoCompletionQueue ctx)) s (execDeleteIoCompletionQueue ctx s) := run_answers _ _ _
theorem execIdentify_answers (ctx : Nat) (s : State) : Answers (Instr.wf (.identify ctx)) s (execIdentify ctx s) := run_answers _ _ _
theorem execGetLogPage_answers (ctx : Nat) (s : State) : Answers (Instr.wf (.getLogPage ctx)) s (execGetLogPage ctx s) := run_answers _ _ _
theorem execSetFeatures_answers (ctx : Nat) (s : State) : Answers (Instr.wf (.setFeatures ctx)) s (execSetFeatures ctx s) := run_answers _ _ _
theorem execGetFeatures_answers (ctx : Nat) (s : State) : Answers (Instr.wf (.getFeatures ctx)) s (execGetFeatures ctx s) := run_answers _ _ _
theorem execPowerStateChange_answers (ctx : Nat) (s : State) : Answers (Instr.wf (.powerStateChange ctx)) s (execPowerStateChange ctx s) := run_answers _ _ _
theorem execUnsupportedCommand_answers (ctx : Nat) (s : State) : Answers (Instr.wf (.unsupportedCommand ctx)) s (execUnsupportedCommand ctx s) := run_answers _ _ _
theorem execGrant_answers (port : Nat) (s : State) : Answers (Instr.wf (.grant port)) s (execGrant port s) := run_answers _ _ _
theorem execRebalance_answers (s : State) : Answers (Instr.wf (.rebalance)) s (execRebalance s) := run_answers _ _ _
theorem execUnitsReturn_answers (port : Nat) (s : State) : Answers (Instr.wf (.unitsReturn port)) s (execUnitsReturn port s) := run_answers _ _ _
theorem execWithdrawalTimeout_answers (port : Nat) (s : State) : Answers (Instr.wf (.withdrawalTimeout port)) s (execWithdrawalTimeout port s) := run_answers _ _ _
theorem execStaggerTimeout_answers (s : State) : Answers (Instr.wf (.staggerTimeout)) s (execStaggerTimeout s) := run_answers _ _ _
theorem execUnsanctionedDraw_answers (port : Nat) (s : State) : Answers (Instr.wf (.unsanctionedDraw port)) s (execUnsanctionedDraw port s) := run_answers _ _ _
theorem execCurrentTrip_answers (rail5 : Bool) (milliamps : Nat) (s : State) : Answers (Instr.wf (.currentTrip rail5 milliamps)) s (execCurrentTrip rail5 milliamps s) := run_answers _ _ _
theorem execCurrentPersist_answers (rail5 : Bool) (s : State) : Answers (Instr.wf (.currentPersist rail5)) s (execCurrentPersist rail5 s) := run_answers _ _ _
theorem execGroupPowerOff_answers (group : Nat) (s : State) : Answers (Instr.wf (.groupPowerOff group)) s (execGroupPowerOff group s) := run_answers _ _ _
theorem execSensorSample_answers (sensor : Nat) (temp : Nat) (bad : Bool) (s : State) : Answers (Instr.wf (.sensorSample sensor temp bad)) s (execSensorSample sensor temp bad s) := run_answers _ _ _
theorem execStepUpTimer_answers (s : State) : Answers (Instr.wf (.stepUpTimer)) s (execStepUpTimer s) := run_answers _ _ _
theorem execStepDownTimer_answers (s : State) : Answers (Instr.wf (.stepDownTimer)) s (execStepDownTimer s) := run_answers _ _ _
theorem execShutdownCutoff_answers (s : State) : Answers (Instr.wf (.shutdownCutoff)) s (execShutdownCutoff s) := run_answers _ _ _
theorem execReleaseShutdown_answers (s : State) : Answers (Instr.wf (.releaseShutdown)) s (execReleaseShutdown s) := run_answers _ _ _
theorem execTelemetryStale_answers (head : Nat) (s : State) : Answers (Instr.wf (.telemetryStale head)) s (execTelemetryStale head s) := run_answers _ _ _
theorem execConfirm_answers (core : Nat) (s : State) : Answers (Instr.wf (.confirm core)) s (execConfirm core s) := run_answers _ _ _
theorem execRaiseFloors_answers (core : Nat) (s : State) : Answers (Instr.wf (.raiseFloors core)) s (execRaiseFloors core s) := run_answers _ _ _
theorem execReloadMicrocode_answers (core : Nat) (s : State) : Answers (Instr.wf (.reloadMicrocode core)) s (execReloadMicrocode core s) := run_answers _ _ _
theorem execSeal_answers (block : List Byte) (s : State) : Answers (Instr.wf (.seal block)) s (execSeal block s) := run_answers _ _ _
theorem execLifecycleTransition_answers (block : List Byte) (s : State) : Answers (Instr.wf (.lifecycleTransition block)) s (execLifecycleTransition block s) := run_answers _ _ _
theorem execRevokeSignKey_answers (block : List Byte) (s : State) : Answers (Instr.wf (.revokeSignKey block)) s (execRevokeSignKey block s) := run_answers _ _ _
theorem execProgramSignKey_answers (block : List Byte) (s : State) : Answers (Instr.wf (.programSignKey block)) s (execProgramSignKey block s) := run_answers _ _ _
theorem execProgramOwnerKey_answers (block : List Byte) (s : State) : Answers (Instr.wf (.programOwnerKey block)) s (execProgramOwnerKey block s) := run_answers _ _ _
theorem execOwnerCommand_answers (block : List Byte) (fromHost : Bool) (s : State) : Answers (Instr.wf (.ownerCommand block fromHost)) s (execOwnerCommand block fromHost s) := runAO_answers _ _ _
theorem execGetVersion_answers (s : State) : Answers (Instr.wf (.getVersion)) s (execGetVersion s) := mpRun_answers _ _ _
theorem execGetCapabilities_answers (s : State) : Answers (Instr.wf (.getCapabilities)) s (execGetCapabilities s) := mpRun_answers _ _ _
theorem execNegotiateAlgorithms_answers (asym : Nat) (hash : Nat) (s : State) : Answers (Instr.wf (.negotiateAlgorithms asym hash)) s (execNegotiateAlgorithms asym hash s) := mpRun_answers _ _ _
theorem execGetDigests_answers (s : State) : Answers (Instr.wf (.getDigests)) s (execGetDigests s) := mpRun_answers _ _ _
theorem execGetCertificate_answers (slot : Nat) (offset : Nat) (length : Nat) (s : State) : Answers (Instr.wf (.getCertificate slot offset length)) s (execGetCertificate slot offset length s) := mpRun_answers _ _ _
theorem execChallenge_answers (slot : Nat) (nonce : List Byte) (s : State) : Answers (Instr.wf (.challenge slot nonce)) s (execChallenge slot nonce s) := mpRun_answers _ _ _
theorem execGetMeasurements_answers (index : Nat) (signed : Bool) (nonce : List Byte) (s : State) : Answers (Instr.wf (.getMeasurements index signed nonce)) s (execGetMeasurements index signed nonce s) := mpRun_answers _ _ _
theorem execBmEnable_answers (s : State) : Answers (Instr.wf (.bmEnable)) s (execBmEnable s) := run_answers _ _ _
theorem execDeviceReady_answers (dev : Nat) (ok : Bool) (s : State) : Answers (Instr.wf (.deviceReady dev ok)) s (execDeviceReady dev ok s) := run_answers _ _ _
theorem execPeriodicRetrain_answers (dev : Nat) (channel : Nat) (s : State) : Answers (Instr.wf (.periodicRetrain dev channel)) s (execPeriodicRetrain dev channel s) := run_answers _ _ _
theorem execFullRetrain_answers (s : State) : Answers (Instr.wf (.fullRetrain)) s (execFullRetrain s) := run_answers _ _ _
theorem execClearBmDevErr_answers (s : State) : Answers (Instr.wf (.clearBmDevErr)) s (execClearBmDevErr s) := run_answers _ _ _
theorem execEdcMismatch_answers (dev : Nat) (channel : Nat) (outcome : Nat) (s : State) : Answers (Instr.wf (.edcMismatch dev channel outcome)) s (execEdcMismatch dev channel outcome s) := run_answers _ _ _
theorem execCisternAccess_answers (master : Nat) (op : MemOp) (addr : Nat) (data : List Byte) (len : Nat) (error : Nat) (s : State) : Answers (Instr.wf (.cisternAccess master op addr data len error)) s (execCisternAccess master op addr data len error s) := run_answers _ _ _
theorem execScrub_answers (dev : Nat) (unit : Nat) (error : Nat) (s : State) : Answers (Instr.wf (.scrub dev unit error)) s (execScrub dev unit error s) := run_answers _ _ _
theorem execReservoirAccess_answers (master : Nat) (op : MemOp) (addr : Nat) (data : List Byte) (len : Nat) (error : Nat) (s : State) : Answers (Instr.wf (.reservoirAccess master op addr data len error)) s (execReservoirAccess master op addr data len error s) := run_answers _ _ _
theorem execReservoirFill_answers (s : State) : Answers (Instr.wf (.reservoirFill)) s (execReservoirFill s) := run_answers _ _ _
theorem execFillDone_answers (s : State) : Answers (Instr.wf (.fillDone)) s (execFillDone s) := run_answers _ _ _
theorem execCoreRun_answers (core : Nat) (target : Nat) (s : State) : Answers (Instr.wf (.coreRun core target)) s (execCoreRun core target s) := run_answers _ _ _
theorem execCoreStop_answers (core : Nat) (target : Nat) (s : State) : Answers (Instr.wf (.coreStop core target)) s (execCoreStop core target s) := run_answers _ _ _
theorem execMachineTimer_answers (core : Nat) (s : State) : Answers (Instr.wf (.machineTimer core)) s (execMachineTimer core s) := run_answers _ _ _
theorem execL2LockWrite_answers (value : Nat) (s : State) : Answers (Instr.wf (.l2LockWrite value)) s (execL2LockWrite value s) := run_answers _ _ _
theorem execClean_answers (s : State) : Answers (Instr.wf (.clean)) s (execClean s) := run_answers _ _ _
theorem execInvalidate_answers (s : State) : Answers (Instr.wf (.invalidate)) s (execInvalidate s) := run_answers _ _ _
theorem execCleanAndInvalidate_answers (s : State) : Answers (Instr.wf (.cleanAndInvalidate)) s (execCleanAndInvalidate s) := run_answers _ _ _
theorem execLockFill_answers (s : State) : Answers (Instr.wf (.lockFill)) s (execLockFill s) := run_answers _ _ _
theorem execInvalidateIncludingLocked_answers (s : State) : Answers (Instr.wf (.invalidateIncludingLocked)) s (execInvalidateIncludingLocked s) := run_answers _ _ _
theorem execCleanAndInvalidateAll_answers (s : State) : Answers (Instr.wf (.cleanAndInvalidateAll)) s (execCleanAndInvalidateAll s) := run_answers _ _ _
theorem execCmoDone_answers (s : State) : Answers (Instr.wf (.cmoDone)) s (execCmoDone s) := run_answers _ _ _
theorem execCacheProtectionError_answers (cache : Nat) (core : Nat) (kind : Nat) (addr : Nat) (s : State) : Answers (Instr.wf (.cacheProtectionError cache core kind addr)) s (execCacheProtectionError cache core kind addr s) := run_answers _ _ _
theorem execSourceAssert_answers (src : Nat) (level : Bool) (s : State) : Answers (Instr.wf (.sourceAssert src level)) s (execSourceAssert src level s) := run_answers _ _ _
theorem execSoftwareSourceRaise_answers (src : Nat) (s : State) : Answers (Instr.wf (.softwareSourceRaise src)) s (execSoftwareSourceRaise src s) := run_answers _ _ _
theorem execOfferTimeout_answers (src : Nat) (s : State) : Answers (Instr.wf (.offerTimeout src)) s (execOfferTimeout src s) := run_answers _ _ _
theorem execModerationRelease_answers (target : Nat) (s : State) : Answers (Instr.wf (.moderationRelease target)) s (execModerationRelease target s) := run_answers _ _ _
theorem execClaim_answers (core : Nat) (target : Nat) (s : State) : Answers (Instr.wf (.claim core target)) s (execClaim core target s) := run_answers _ _ _
theorem execComplete_answers (core : Nat) (target : Nat) (src : Nat) (s : State) : Answers (Instr.wf (.complete core target src)) s (execComplete core target src s) := run_answers _ _ _
theorem execEventAccept_answers (src : Nat) (code : Nat) (payload : List Byte) (s : State) : Answers (Instr.wf (.eventAccept src code payload)) s (execEventAccept src code payload s) := run_answers _ _ _
theorem execFirmwareRecordSubmit_answers (core : Nat) (code : Nat) (len16 : Nat) (s : State) : Answers (Instr.wf (.firmwareRecordSubmit core code len16)) s (execFirmwareRecordSubmit core code len16 s) := run_answers _ _ _
theorem execRecordProgrammed_answers (s : State) : Answers (Instr.wf (.recordProgrammed)) s (execRecordProgrammed s) := run_answers _ _ _
theorem execRecordClose_answers (s : State) : Answers (Instr.wf (.recordClose)) s (execRecordClose s) := run_answers _ _ _
theorem execDrain_answers (s : State) : Answers (Instr.wf (.drain)) s (execDrain s) := run_answers _ _ _
theorem execRestartChapter_answers (s : State) : Answers (Instr.wf (.restartChapter)) s (execRestartChapter s) := run_answers _ _ _
theorem execSectorEraseDone_answers (s : State) : Answers (Instr.wf (.sectorEraseDone)) s (execSectorEraseDone s) := run_answers _ _ _
theorem execProbeFlash_answers (ok : Bool) (s : State) : Answers (Instr.wf (.probeFlash ok)) s (execProbeFlash ok s) := run_answers _ _ _
theorem execFreeKind1Slots_answers (s : State) : Answers (Instr.wf (.freeKind1Slots)) s (execFreeKind1Slots s) := run_answers _ _ _
theorem execProgramTimeout_answers (s : State) : Answers (Instr.wf (.programTimeout)) s (execProgramTimeout s) := run_answers _ _ _
theorem execLogMemoryFailed_answers (cause : Nat) (s : State) : Answers (Instr.wf (.logMemoryFailed cause)) s (execLogMemoryFailed cause s) := run_answers _ _ _
theorem execWritePointSearch_answers (s : State) : Answers (Instr.wf (.writePointSearch)) s (execWritePointSearch s) := run_answers _ _ _
theorem execXspiWrite_answers (requester : Nat) (erase : Bool) (offset : Nat) (data : List Byte) (s : State) : Answers (Instr.wf (.xspiWrite requester erase offset data)) s (execXspiWrite requester erase offset data s) := run_answers _ _ _
theorem execMctpPacket_answers (bus : Nat) (pecOk : Bool) (dest : Nat) (som : Bool) (eom : Bool) (seqNo : Nat) (tag : Nat) (type_ : Nat) (data : List Byte) (s : State) : Answers (Instr.wf (.mctpPacket bus pecOk dest som eom seqNo tag type_ data)) s (execMctpPacket bus pecOk dest som eom seqNo tag type_ data s) := mpRun_answers _ _ _
theorem execEntdaa_answers (addr : Nat) (s : State) : Answers (Instr.wf (.entdaa addr)) s (execEntdaa addr s) := mpRun_answers _ _ _
theorem execSetdasa_answers (static_ : Nat) (addr : Nat) (s : State) : Answers (Instr.wf (.setdasa static_ addr)) s (execSetdasa static_ addr s) := mpRun_answers _ _ _
theorem execSetEndpointId_answers (op : Nat) (eid : Nat) (s : State) : Answers (Instr.wf (.setEndpointId op eid)) s (execSetEndpointId op eid s) := mpRun_answers _ _ _
theorem execGetEndpointId_answers (s : State) : Answers (Instr.wf (.getEndpointId)) s (execGetEndpointId s) := mpRun_answers _ _ _
theorem execGetEndpointUuid_answers (s : State) : Answers (Instr.wf (.getEndpointUuid)) s (execGetEndpointUuid s) := mpRun_answers _ _ _
theorem execGetMctpVersionSupport_answers (type_ : Nat) (s : State) : Answers (Instr.wf (.getMctpVersionSupport type_)) s (execGetMctpVersionSupport type_ s) := mpRun_answers _ _ _
theorem execGetMessageTypeSupport_answers (s : State) : Answers (Instr.wf (.getMessageTypeSupport)) s (execGetMessageTypeSupport s) := mpRun_answers _ _ _
theorem execReadNvmeMiDataStructure_answers (kind : Nat) (index : Nat) (s : State) : Answers (Instr.wf (.readNvmeMiDataStructure kind index)) s (execReadNvmeMiDataStructure kind index s) := mpRun_answers _ _ _
theorem execSubsystemHealthStatusPoll_answers (clear : Bool) (s : State) : Answers (Instr.wf (.subsystemHealthStatusPoll clear)) s (execSubsystemHealthStatusPoll clear s) := mpRun_answers _ _ _
theorem execControllerHealthStatusPoll_answers (ctl : Nat) (s : State) : Answers (Instr.wf (.controllerHealthStatusPoll ctl)) s (execControllerHealthStatusPoll ctl s) := mpRun_answers _ _ _
theorem execConfigurationGet_answers (ident : Nat) (s : State) : Answers (Instr.wf (.configurationGet ident)) s (execConfigurationGet ident s) := mpRun_answers _ _ _
theorem execConfigurationSet_answers (ident : Nat) (value : Nat) (s : State) : Answers (Instr.wf (.configurationSet ident value)) s (execConfigurationSet ident value s) := mpRun_answers _ _ _
theorem execTunnelledAdmin_answers (ctl : Nat) (opcode : Nat) (nsid : Nat) (cdw10 : Nat) (cdw11 : Nat) (cdw12 : Nat) (cdw13 : Nat) (s : State) : Answers (Instr.wf (.tunnelledAdmin ctl opcode nsid cdw10 cdw11 cdw12 cdw13)) s (execTunnelledAdmin ctl opcode nsid cdw10 cdw11 cdw12 cdw13 s) := mpRun_answers _ _ _
theorem execGetHealth_answers (s : State) : Answers (Instr.wf (.getHealth)) s (execGetHealth s) := mpRun_answers _ _ _
theorem execParkCommand_answers (s : State) : Answers (Instr.wf (.parkCommand)) s (execParkCommand s) := mpRun_answers _ _ _
theorem execParkAndSpinDownCommand_answers (s : State) : Answers (Instr.wf (.parkAndSpinDownCommand)) s (execParkAndSpinDownCommand s) := mpRun_answers _ _ _
theorem execEndParkCommand_answers (s : State) : Answers (Instr.wf (.endParkCommand)) s (execEndParkCommand s) := mpRun_answers _ _ _
theorem execPowerDownCommand_answers (s : State) : Answers (Instr.wf (.powerDownCommand)) s (execPowerDownCommand s) := mpRun_answers _ _ _
theorem execWake_answers (s : State) : Answers (Instr.wf (.wake)) s (execWake s) := mpRun_answers _ _ _
theorem execFullReset_answers (dword1 : Nat) (s : State) : Answers (Instr.wf (.fullReset dword1)) s (execFullReset dword1 s) := mpRun_answers _ _ _
theorem execStageData_answers (kind : Nat) (offset : Nat) (data : List Byte) (s : State) : Answers (Instr.wf (.stageData kind offset data)) s (execStageData kind offset data s) := mpRun_answers _ _ _
theorem execStageCommit_answers (kind : Nat) (s : State) : Answers (Instr.wf (.stageCommit kind)) s (execStageCommit kind s) := mpRun_answers _ _ _
theorem execStagingTimeout_answers (kind : Nat) (s : State) : Answers (Instr.wf (.stagingTimeout kind)) s (execStagingTimeout kind s) := run_answers _ _ _
theorem execReleaseShutdownCommand_answers (dword1 : Nat) (s : State) : Answers (Instr.wf (.releaseShutdownCommand dword1)) s (execReleaseShutdownCommand dword1 s) := mpRun_answers _ _ _
theorem execMpPark_answers (core : Nat) (s : State) : Answers (Instr.wf (.mpPark core)) s (execMpPark core s) := runAO_answers _ _ _
theorem execMpParkAndSpinDown_answers (core : Nat) (s : State) : Answers (Instr.wf (.mpParkAndSpinDown core)) s (execMpParkAndSpinDown core s) := runAO_answers _ _ _
theorem execMpEndPark_answers (core : Nat) (s : State) : Answers (Instr.wf (.mpEndPark core)) s (execMpEndPark core s) := runAO_answers _ _ _
theorem execMpPowerDown_answers (core : Nat) (s : State) : Answers (Instr.wf (.mpPowerDown core)) s (execMpPowerDown core s) := runAO_answers _ _ _
theorem execParkComplete_answers (s : State) : Answers (Instr.wf (.parkComplete)) s (execParkComplete s) := run_answers _ _ _
theorem execMpWdtKick_answers (core : Nat) (value : Nat) (s : State) : Answers (Instr.wf (.mpWdtKick core value)) s (execMpWdtKick core value s) := runAO_answers _ _ _
theorem execMpWdtEnable_answers (core : Nat) (value : Nat) (s : State) : Answers (Instr.wf (.mpWdtEnable core value)) s (execMpWdtEnable core value s) := runAO_answers _ _ _
theorem execMpWdtExpiry_answers (s : State) : Answers (Instr.wf (.mpWdtExpiry)) s (execMpWdtExpiry s) := runAO_answers _ _ _
theorem execVcmFltClear_answers (act : Nat) (s : State) : Answers (Instr.wf (.vcmFltClear act)) s (execVcmFltClear act s) := run_answers _ _ _
theorem execRequestStarved_answers (port : Nat) (s : State) : Answers (Instr.wf (.requestStarved port)) s (execRequestStarved port s) := run_answers _ _ _
theorem execAuxiliaryRailLoss_answers (s : State) : Answers (Instr.wf (.auxiliaryRailLoss)) s (execAuxiliaryRailLoss s) := runAO_answers _ _ _
theorem execHlrefStop_answers (act : Nat) (s : State) : Answers (Instr.wf (.hlrefStop act)) s (execHlrefStop act s) := run_answers _ _ _
theorem execDrainTimeLimit_answers (s : State) : Answers (Instr.wf (.drainTimeLimit)) s (execDrainTimeLimit s) := run_answers _ _ _
theorem execWriteSectorEnd_answers (head : Nat) (s : State) : Answers (Instr.wf (.writeSectorEnd head)) s (execWriteSectorEnd head s) := run_answers _ _ _
theorem execActivationFlashWriteEnd_answers (ok : Bool) (s : State) : Answers (Instr.wf (.activationFlashWriteEnd ok)) s (execActivationFlashWriteEnd ok s) := run_answers _ _ _

/-- Every command of the table: well-formed it completes, ill-formed it is refused. -/
theorem exec_answers (i : Instr) (s : State) : Answers i.wf s (exec i s) := by
  cases i
  · exact execRegisterWrite_answers _ _ _ _ _ _
  · exact execStFieldWrite_answers _ _ _ _ _
  · exact execCheck_answers _
  · exact execCheckDone_answers _
  · exact execArmCommit_answers _
  · exact execCancelArmedCommit_answers _
  · exact execDiscard_answers _
  · exact execCommitStrobe_answers _
  · exact execCommitMissed_answers _
  · exact execUnitLoss_answers _ _
  · exact execAuxRailPor_answers _ _
  · exact execSysRstNLow_answers _ _
  · exact execPerstAssert_answers _ _ _
  · exact execPerstDeassert_answers _ _
  · exact execPwrgdDeassert_answers _
  · exact execPwrgdAssert_answers _
  · exact execWarmReset_answers _ _
  · exact execWatchdogReset_answers _ _
  · exact execBootSequence_answers _
  · exact execCacheInvalidateDone_answers _
  · exact execActReset_answers _ _ _
  · exact execActResetEnd_answers _ _
  · exact execMgtReset_answers _
  · exact execWrmCommand_answers _ _
  · exact execWdtEnable_answers _ _
  · exact execWdtKick_answers _ _ _
  · exact execWdtStage1_answers _
  · exact execWdtStage2_answers _
  · exact execPowerStateGo_answers _ _
  · exact execPowerTransitionStep_answers _
  · exact execIdleAEntry_answers _
  · exact execDeepEntry_answers _
  · exact execDeepWakeTimer_answers _
  · exact execDeepExit_answers _ _
  · exact execKclkCheck_answers _ _
  · exact execGroupBringUp_answers _ _
  · exact execGroupToOff_answers _ _
  · exact execHlCtrlWrite_answers _ _
  · exact execDetectEntry_answers _ _
  · exact execDetectTimeout_answers _ _
  · exact execFeCap_answers _ _ _
  · exact execCapxTimeout_answers _ _
  · exact execAckSet_answers _ _ _
  · exact execSettleTimeout_answers _ _
  · exact execTrainEntry_answers _ _
  · exact execLaneActive_answers _ _ _ _ _
  · exact execTrainTimeout_answers _ _
  · exact execAttemptCountClear_answers _ _
  · exact execKeepalive_answers _ _
  · exact execUpstreamFrame_answers _ _ _
  · exact execLockLoss_answers _ _
  · exact execRetrainAttemptTimeout_answers _ _
  · exact execDownstreamLaneLoss_answers _ _ _
  · exact execTransmitterPllUnlock_answers _ _
  · exact execDownstreamRebringUp_answers _ _
  · exact execAck_answers _ _ _ _ _
  · exact execTxeqAck_answers _ _ _ _ _
  · exact execStatus_answers _ _ _ _ _
  · exact execTemp_answers _ _ _ _ _
  · exact execRegData_answers _ _ _ _ _
  · exact execFault_answers _ _ _ _ _
  · exact execEyeDs_answers _ _ _ _ _
  · exact execCtAnswerTimeout_answers _ _ _
  · exact execCtMessageQueue_answers _ _ _
  · exact execCtReceiveDequeue_answers _ _
  · exact execLaneRetrain_answers _ _
  · exact execLaneSleep_answers _ _
  · exact execLaneWake_answers _ _
  · exact execClearLaneErr_answers _ _
  · exact execWakeAdaptDone_answers _ _ _ _ _
  · exact execEyeRefresh_answers _ _ _ _ _
  · exact execFlumeRequest_answers _ _ _ _
  · exact execFlumeGrant_answers _
  · exact execHandover_answers _ _ _ _ _
  · exact execHandoverSwitch_answers _ _ _
  · exact execSyncSearchEnd_answers _ _
  · exact execSectorEnd_answers _ _
  · exact execDecodeDone_answers _ _
  · exact execIdleRelease_answers _ _
  · exact execFlumeFault_answers _ _
  · exact execCalCopy_answers _
  · exact execCalRecordWrite_answers _ _ _ _ _
  · exact execDetachNow_answers _ _
  · exact execClearAccumulator_answers _ _
  · exact execMarkStale_answers _ _
  · exact execClearValid_answers _ _
  · exact execClearQualityCounters_answers _ _
  · exact execKeyLoad_answers _ _
  · exact execKeyZeroise_answers _ _
  · exact execKeyActionComplete_answers _
  · exact execWriteGateAssert_answers _ _
  · exact execShockTrip_answers _
  · exact execShockHoldoffEnd_answers _
  · exact execVerifyResult_answers _ _
  · exact execRewrite_answers _ _
  · exact execServoField_answers _ _ _ _
  · exact execServoWedgeEnd_answers _ _ _
  · exact execServoDeadlineMiss_answers _ _
  · exact execEngineSelfCheck_answers _ _
  · exact execLegCheckFail_answers _ _
  · exact execCombPlan_answers _ _
  · exact execSeekRequest_answers _ _ _
  · exact execLoadAndAcquire_answers _ _
  · exact execAcquisitionFail_answers _ _
  · exact execPark_answers _ _
  · exact execClearSvCounters_answers _ _
  · exact execTraceArm_answers _ _
  · exact execTraceTriggerNow_answers _ _
  · exact execTraceStop_answers _ _
  · exact execInjectionStart_answers _ _
  · exact execInjectionStop_answers _ _
  · exact execInjectionEnd_answers _ _
  · exact execForcedSwap_answers _ _
  · exact execCancelSwap_answers _ _
  · exact execCurrentLoopTick_answers _ _ _ _
  · exact execMcCtrlWrite_answers _ _
  · exact execSpindleStart_answers _
  · exact execStopByCoasting_answers _
  · exact execStopByBraking_answers _
  · exact execBackEmfZeroCrossing_answers _ _ _
  · exact execSpindleGrant_answers _
  · exact execCatchTimeout_answers _
  · exact execAlignTimeout_answers _
  · exact execRampTimeout_answers _
  · exact execRundownTimeout_answers _
  · exact execBrakeHoldEnd_answers _
  · exact execObserverUpdate_answers _ _ _ _
  · exact execSpeedLoop_answers _
  · exact execReacquireTimeout_answers _
  · exact execIdleDepthWrite_answers _ _
  · exact execSpFlt_answers _
  · exact execVcmFlt_answers _ _
  · exact execVcmFaultPersist_answers _ _
  · exact execBrkFlt_answers _
  · exact execOverVoltage_answers _
  · exact execBrakeChopperSwitch_answers _ _
  · exact execPowerLoss_answers _
  · exact execRetractVelocityEnd_answers _ _
  · exact execLatchEnd_answers _ _
  · exact execMwNop_answers _ _ _
  · exact execMwLdi_answers _ _ _
  · exact execMwAdd_answers _ _ _
  · exact execMwSub_answers _ _ _
  · exact execMwAnd_answers _ _ _
  · exact execMwOr_answers _ _ _
  · exact execMwXor_answers _ _ _
  · exact execMwExt_answers _ _ _
  · exact execMwIns_answers _ _ _
  · exact execMwBr_answers _ _ _
  · exact execMwCall_answers _ _ _
  · exact execMwRet_answers _ _ _
  · exact execMwJr_answers _ _ _
  · exact execMwWait_answers _ _ _
  · exact execWaitWake_answers _ _ _
  · exact execWaitTimeout_answers _ _ _
  · exact execMwFetch_answers _ _ _
  · exact execMwEnd_answers _ _ _
  · exact execMwPost_answers _ _ _
  · exact execMwSig_answers _ _ _
  · exact execMwArmAcq_answers _ _ _
  · exact execMwArmRel_answers _ _ _
  · exact execMwSeek_answers _ _ _
  · exact execMwComb_answers _ _ _
  · exact execMwSubc_answers _ _ _
  · exact execMwOfs_answers _ _ _
  · exact execMwSpred_answers _ _ _
  · exact execMwCrel_answers _ _ _
  · exact execMwPwrReq_answers _ _ _
  · exact execMwPwrRel_answers _ _ _
  · exact execMwFlmReq_answers _ _ _
  · exact execMwFlmRel_answers _ _ _
  · exact execMwResGet_answers _ _ _
  · exact execMwVresGet_answers _ _ _
  · exact execMwWrArm_answers _ _ _
  · exact execMwWrAbort_answers _ _ _
  · exact execCsParity_answers _ _ _
  · exact execSequencerStart_answers _ _
  · exact execSequencerHalt_answers _ _
  · exact execBeginLoad_answers _ _ _
  · exact execEndLoad_answers _ _ _
  · exact execThreadEnableWrite_answers _ _ _
  · exact execControlStoreWrite_answers _ _ _ _ _ _
  · exact execNsEnable_answers _ _
  · exact execRecover_answers _
  · exact execRecoveryComplete_answers _ _
  · exact execCheckpointNow_answers _
  · exact execJournalWrite_answers _
  · exact execDispatch_answers _ _
  · exact execScheduleSlot_answers _ _
  · exact execCompressionJobStart_answers _
  · exact execCompressionDone_answers _ _ _
  · exact execExpansionDone_answers _ _
  · exact execEngineFault_answers _ _
  · exact execEngineIdleGate_answers _ _
  · exact execPartialChunkForce_answers _ _ _
  · exact execIndexCheckpoint_answers _
  · exact execRebuildIndex_answers _
  · exact execRebuildComplete_answers _ _
  · exact execLinkUp_answers _ _ _ _
  · exact execLinkTrainingStart_answers _ _
  · exact execDlDown_answers _ _
  · exact execHotReset_answers _ _
  · exact execLaneNarrowing_answers _ _ _
  · exact execSubmissionDoorbell_answers _ _ _ _
  · exact execCommandFetch_answers _ _ _ _
  · exact execControllerReset_answers _ _
  · exact execControllerEnable_answers _ _ _
  · exact execShutdownNotification_answers _ _
  · exact execNvmeRead_answers _ _
  · exact execNvmeWrite_answers _ _ _
  · exact execNvmeFlush_answers _ _
  · exact execZoneAppend_answers _ _ _
  · exact execWriteZeroes_answers _ _
  · exact execDatasetManagement_answers _ _
  · exact execZoneOpen_answers _ _
  · exact execZoneClose_answers _ _
  · exact execZoneFinish_answers _ _
  · exact execZoneReset_answers _ _
  · exact execZoneOffline_answers _ _
  · exact execReportZones_answers _ _
  · exact execNvmeAbort_answers _ _
  · exact execAsynchronousEventRequest_answers _ _
  · exact execCompletionPost_answers _ _ _
  · exact execDeviceSelfTest_answers _ _
  · exact execSelfTestResume_answers _
  · exact execFirmwareImageDownload_answers _ _ _
  · exact execFirmwareCommit_answers _ _
  · exact execActivationTimeout_answers _
  · exact execFormatNvm_answers _ _
  · exact execSanitize_answers _ _
  · exact execNamespaceManagement_answers _ _
  · exact execNamespaceAttachment_answers _ _
  · exact execReservationCommand_answers _ _
  · exact execCreateIoQueue_answers _ _
  · exact execDeleteIoSubmissionQueue_answers _ _
  · exact execDeleteIoCompletionQueue_answers _ _
  · exact execIdentify_answers _ _
  · exact execGetLogPage_answers _ _
  · exact execSetFeatures_answers _ _
  · exact execGetFeatures_answers _ _
  · exact execPowerStateChange_answers _ _
  · exact execUnsupportedCommand_answers _ _
  · exact execGrant_answers _ _
  · exact execRebalance_answers _
  · exact execUnitsReturn_answers _ _
  · exact execWithdrawalTimeout_answers _ _
  · exact execStaggerTimeout_answers _
  · exact execUnsanctionedDraw_answers _ _
  · exact execCurrentTrip_answers _ _ _
  · exact execCurrentPersist_answers _ _
  · exact execGroupPowerOff_answers _ _
  · exact execSensorSample_answers _ _ _ _
  · exact execStepUpTimer_answers _
  · exact execStepDownTimer_answers _
  · exact execShutdownCutoff_answers _
  · exact execReleaseShutdown_answers _
  · exact execTelemetryStale_answers _ _
  · exact execConfirm_answers _ _
  · exact execRaiseFloors_answers _ _
  · exact execReloadMicrocode_answers _ _
  · exact execSeal_answers _ _
  · exact execLifecycleTransition_answers _ _
  · exact execRevokeSignKey_answers _ _
  · exact execProgramSignKey_answers _ _
  · exact execProgramOwnerKey_answers _ _
  · exact execOwnerCommand_answers _ _ _
  · exact execGetVersion_answers _
  · exact execGetCapabilities_answers _
  · exact execNegotiateAlgorithms_answers _ _ _
  · exact execGetDigests_answers _
  · exact execGetCertificate_answers _ _ _ _
  · exact execChallenge_answers _ _ _
  · exact execGetMeasurements_answers _ _ _ _
  · exact execBmEnable_answers _
  · exact execDeviceReady_answers _ _ _
  · exact execPeriodicRetrain_answers _ _ _
  · exact execFullRetrain_answers _
  · exact execClearBmDevErr_answers _
  · exact execEdcMismatch_answers _ _ _ _
  · exact execCisternAccess_answers _ _ _ _ _ _ _
  · exact execScrub_answers _ _ _ _
  · exact execReservoirAccess_answers _ _ _ _ _ _ _
  · exact execReservoirFill_answers _
  · exact execFillDone_answers _
  · exact execCoreRun_answers _ _ _
  · exact execCoreStop_answers _ _ _
  · exact execMachineTimer_answers _ _
  · exact execL2LockWrite_answers _ _
  · exact execClean_answers _
  · exact execInvalidate_answers _
  · exact execCleanAndInvalidate_answers _
  · exact execLockFill_answers _
  · exact execInvalidateIncludingLocked_answers _
  · exact execCleanAndInvalidateAll_answers _
  · exact execCmoDone_answers _
  · exact execCacheProtectionError_answers _ _ _ _ _
  · exact execSourceAssert_answers _ _ _
  · exact execSoftwareSourceRaise_answers _ _
  · exact execOfferTimeout_answers _ _
  · exact execModerationRelease_answers _ _
  · exact execClaim_answers _ _ _
  · exact execComplete_answers _ _ _ _
  · exact execEventAccept_answers _ _ _ _
  · exact execFirmwareRecordSubmit_answers _ _ _ _
  · exact execRecordProgrammed_answers _
  · exact execRecordClose_answers _
  · exact execDrain_answers _
  · exact execRestartChapter_answers _
  · exact execSectorEraseDone_answers _
  · exact execProbeFlash_answers _ _
  · exact execFreeKind1Slots_answers _
  · exact execProgramTimeout_answers _
  · exact execLogMemoryFailed_answers _ _
  · exact execWritePointSearch_answers _
  · exact execXspiWrite_answers _ _ _ _ _
  · exact execMctpPacket_answers _ _ _ _ _ _ _ _ _ _
  · exact execEntdaa_answers _ _
  · exact execSetdasa_answers _ _ _
  · exact execSetEndpointId_answers _ _ _
  · exact execGetEndpointId_answers _
  · exact execGetEndpointUuid_answers _
  · exact execGetMctpVersionSupport_answers _ _
  · exact execGetMessageTypeSupport_answers _
  · exact execReadNvmeMiDataStructure_answers _ _ _
  · exact execSubsystemHealthStatusPoll_answers _ _
  · exact execControllerHealthStatusPoll_answers _ _
  · exact execConfigurationGet_answers _ _
  · exact execConfigurationSet_answers _ _ _
  · exact execTunnelledAdmin_answers _ _ _ _ _ _ _ _
  · exact execGetHealth_answers _
  · exact execParkCommand_answers _
  · exact execParkAndSpinDownCommand_answers _
  · exact execEndParkCommand_answers _
  · exact execPowerDownCommand_answers _
  · exact execWake_answers _
  · exact execFullReset_answers _ _
  · exact execStageData_answers _ _ _ _
  · exact execStageCommit_answers _ _
  · exact execStagingTimeout_answers _ _
  · exact execReleaseShutdownCommand_answers _ _
  · exact execMpPark_answers _ _
  · exact execMpParkAndSpinDown_answers _ _
  · exact execMpEndPark_answers _ _
  · exact execMpPowerDown_answers _ _
  · exact execParkComplete_answers _
  · exact execMpWdtKick_answers _ _ _
  · exact execMpWdtEnable_answers _ _ _
  · exact execMpWdtExpiry_answers _
  · exact execVcmFltClear_answers _ _
  · exact execRequestStarved_answers _ _
  · exact execAuxiliaryRailLoss_answers _
  · exact execHlrefStop_answers _ _
  · exact execDrainTimeLimit_answers _
  · exact execWriteSectorEnd_answers _ _
  · exact execActivationFlashWriteEnd_answers _ _

end Sys2Proof.Machine
end

