-- ==== Sys2Proof/Laws/Effects.lean ====
section
/-! SUPPORT. From a command's effect, as its meaning computes it, to the statements `Gives`, `Effect` and `Sets`. -/

namespace Sys2Proof.Machine

/-- A command of the core domain completes with its effect while the core rails are up. -/
theorem gives_run {c : Instr} {s u : State} {r : Res} {wf : Bool} {eff : State → State} (hx : exec c s = r) (he : r = run wf s eff) (hw : wf = true)
    (hc : coreUp s = true) (h : eff s = u) : Gives c s u := by
  unfold Gives settled
  have hc' : (s.get X.core_off == 0) = true := hc
  rw [hx, he, run, answer, hw, hc', ← h]
  rfl

/-- A command of the always-on domain completes with its effect while the auxiliary rail is up. -/
theorem gives_runAO {c : Instr} {s u : State} {r : Res} {wf : Bool} {eff : State → State} (hx : exec c s = r) (he : r = runAO wf s eff) (hw : wf = true)
    (hc : auxUp s = true) (h : eff s = u) : Gives c s u := by
  unfold Gives settled
  have hc' : (s.get X.aux_off == 0) = true := hc
  rw [hx, he, runAO, answer, hw, hc', ← h]
  rfl

/-- A command of the management port completes with its effect while the auxiliary rail is up and the port's target responds. -/
theorem gives_mpRun {c : Instr} {s u : State} {r : Res} {wf : Bool} {eff : State → State} (hx : exec c s = r) (he : r = mpRun wf s eff)
    (hw : wf = true) (hc : auxUp s = true) (hm : mpAnswers s = true) (h : eff s = u) : Gives c s u :=
  gives_runAO hx (he.trans rfl) hw hc (by simp only [hm, if_true]; exact h)

/-- While its target does not respond a command of the management port has no effect. -/
theorem gives_mpOff {c : Instr} {s : State} {r : Res} {wf : Bool} {eff : State → State} (hx : exec c s = r) (he : r = mpRun wf s eff)
    (hw : wf = true) (hc : auxUp s = true) (hm : mpAnswers s = false) : Gives c s s :=
  gives_runAO hx (he.trans rfl) hw hc (by simp only [hm]; rfl)

/-- A command without power has no effect. -/
theorem gives_off {c : Instr} {s : State} {r : Res} {wf : Bool} {eff : State → State} (hx : exec c s = r) (he : r = run wf s eff) (hw : wf = true)
    (hc : coreUp s = false) : Gives c s s := by
  unfold Gives settled
  have hc' : (s.get X.core_off == 0) = false := hc
  rw [hx, he, run, answer, hw, hc']
  rfl

/-- From the state that a command leaves to the cells it changes. -/
theorem effect_of {c : Instr} {s u : State} {l : List CellVal} {g : State → State} (h : Gives c s u)
    (hr : { u with regs := s.regs, pending := s.pending } = { g s with regs := s.regs, pending := s.pending })
    (hv : ∀ p ∈ l, u.get p.1 p.2.1 = p.2.2 % 2 ^ p.1.width ∧ p.1.id ∉ mirrors)
    (hf : ∀ f i, listed l f i = false → u.get f i = s.get f i) : Effect c s l g :=
  ⟨_, h, (settled_rest s u _).trans hr, fun p hp => (settled_get s u _ _ (hv p hp).2).trans (hv p hp).1,
    fun f i hl hm => (settled_get s u f i hm).trans (hf f i hl)⟩

theorem setAll_cons (p : CellVal) (l : List CellVal) (s : State) : setAll (p :: l) s = setAll l (s.set p.1 p.2.1 p.2.2) := rfl

/-- No cell is listed twice. -/
def distinct (l : List CellVal) : Prop := l.Pairwise (fun p q => p.1.id ≠ q.1.id ∨ p.2.1 ≠ q.2.1)

theorem setAll_other (l : List CellVal) (s : State) (f : Fld) (i : Nat) (h : ∀ p ∈ l, p.1.id ≠ f.id ∨ p.2.1 ≠ i) :
    (setAll l s).get f i = s.get f i := by
  induction l generalizing s with
  | nil => rfl
  | cons p r ih =>
    rw [setAll_cons, ih _ (fun q hq => h q (List.mem_cons_of_mem _ hq))]
    rcases h p (List.mem_cons_self ..) with h | h
    · exact State.get_set_ne _ _ _ _ _ _ h
    · exact State.get_set_inst _ _ _ _ _ _ h

theorem setAll_mem (l : List CellVal) (s : State) (hd : distinct l) (p : CellVal) (hp : p ∈ l) :
    (setAll l s).get p.1 p.2.1 = p.2.2 % 2 ^ p.1.width := by
  induction l generalizing s with
  | nil => simp at hp
  | cons q r ih =>
    have hd' := List.pairwise_cons.1 hd
    rcases List.mem_cons.1 hp with rfl | hr
    · rw [setAll_cons, setAll_other _ _ _ _ (fun x hx => ?_), State.get_set_same]
      rcases hd'.1 x hx with h | h
      · exact .inl (Ne.symm h)
      · exact .inr (Ne.symm h)
    · exact ih _ hd'.2 hr

theorem setAll_rest (l : List CellVal) (s : State) (r : List ((Nat × Nat) × Nat)) :
    { setAll l s with regs := r } = { s with regs := r } := by
  induction l generalizing s with
  | nil => rfl
  | cons p q ih => exact (ih _).trans rfl

theorem listed_false {l : List CellVal} {f : Fld} {i : Nat} (h : listed l f i = false) : ∀ p ∈ l, p.1.id ≠ f.id ∨ p.2.1 ≠ i := by
  intro p hp
  have := List.any_eq_false.1 h p hp
  simp only [Bool.and_eq_true, beq_iff_eq, not_and] at this
  by_cases e : p.1.id = f.id
  · exact .inr (this e)
  · exact .inl e

/-- A command whose effect is to set cells and to change what is no register. -/
theorem effect_setAll {c : Instr} {s : State} {l : List CellVal} {g : State → State} (h : Gives c s (setAll l (g s)))
    (hg : (g s).regs = s.regs) (hd : distinct l) (hm : ∀ p ∈ l, p.1.id ∉ mirrors) :
    Effect c s l g := by
  refine effect_of h ?_ (fun p hp => ⟨setAll_mem l _ hd p hp, hm p hp⟩) (fun f i hl => ?_)
  · exact congrArg (fun (x : State) => { x with pending := s.pending }) (setAll_rest l (g s) s.regs)
  · exact (setAll_other l _ f i (listed_false hl)).trans (State.get_of_regs hg f i)

/-- A command whose effect is to set cells. -/
theorem sets_setAll {c : Instr} {s : State} {l : List CellVal} (h : Gives c s (setAll l s)) (hd : distinct l) (hm : ∀ p ∈ l, p.1.id ∉ mirrors) : Sets c s l :=
  effect_setAll (g := id) h rfl hd hm

/-- A word that a thread issues has its effect in the state `issued`. -/
theorem issue_eq {code q t : Nat} {s : State} (h : Issues code q t s) (eff : Nat → MicroWord → State → State) :
    issue code q t eff s = eff (pcOf s q t) (wordOf s q t) (issued s q t) := by
  obtain ⟨up, seq, thr, defined, power, running, ready, inside, opcode, cond, mark, run, safePoint, timed⟩ := h
  unfold wordOf at *
  have e1 : (s.get SQ_STATUS.state q == sqRunning || s.get SQ_STATUS.state q == sqHalting) = true := by simpa using running
  have e2 : (s.get SQ_THR_STATE.state (thrNo q t) == thReady || s.get SQ_THR_STATE.state (thrNo q t) == thHandler) = true := by
    simpa using ready
  unfold issue
  simp only [power, e1, e2]
  by_cases h0 : (wordAt s q (pcOf s q t)).sp = 0
  · have hr := run h0
    simp only [h0] at timed
    simp [h0, defined, opcode, Nat.not_le.2 inside, Nat.not_lt.2 cond, Nat.not_le.2 hr, issued, spCount, wordOf]
    intro hc ht
    exact absurd ht (timed hc trivial)
  · have hp := safePoint h0
    simp [h0, defined, opcode, Nat.not_le.2 inside, Nat.not_lt.2 cond, mark, hp.1, hp.2, issued, spCount, wordOf]

/-- A word that a thread issues completes with its effect. -/
theorem gives_micro {c : Instr} {code q t : Nat} {s u : State} {r : Res} {eff : Nat → MicroWord → State → State} (h : Issues code q t s)
    (hx : exec c s = r) (he : r = micro code q t eff s) (hu : eff (pcOf s q t) (wordOf s q t) (issued s q t) = u) : Gives c s u :=
  gives_run hx he (by simp [okSeq, okThread, h.seq, h.thr]) h.up ((issue_eq h eff).trans hu)

/-- A command that waits is run. -/
theorem onFetched_eq {s : State} {c : Nat} {x : Ctx} {admin : Bool} {op : Nat} (h : Waits s c x admin op) {ops : List Nat}
    (ho : ops.contains op = true) (g : Ctx → State → State) : onFetched s c admin ops g = g x s := by
  obtain ⟨up, held, queue, opcode, live, begun, free⟩ := h
  have hh : hostCtx s c admin ops = some x := by
    unfold hostCtx
    simp only [held, queue, opcode, ho, live]
    simp
  unfold onFetched
  simp only [hh, begun, true_and]
  rw [if_pos]
  cases admin
  · exact .inl rfl
  · exact .inr (free rfl)

end Sys2Proof.Machine
end

