-- ==== Sys2Proof/Laws/Memory.lean ====
section
/-! SUPPORT. Byte memories: reading after writing, and the canonical form, which every memory operation keeps. -/

namespace Sys2Proof.Machine

@[simp] theorem memByte_memPut_same (m : List Host.Cell) (d : Byte) (a : Nat) (b : Byte) :
    memByte (memPut m d a b) d a = b := by
  unfold memPut memByte KV.getD
  split <;> simp_all

theorem memByte_memPut_ne (m : List Host.Cell) (d : Byte) {a x : Nat} (b : Byte) (h : a ≠ x) :
    memByte (memPut m d a b) d x = memByte m d x := by
  unfold memPut memByte KV.getD
  split
  · rw [KV.get_del_ne _ h]
  · rw [KV.get_put_ne _ _ _ h]

/-- A write leaves every byte outside the bytes written as it was. -/
theorem memByte_memWrite_outside (d : Byte) (bs : List Byte) : ∀ (m : List Host.Cell) (a x : Nat),
    (x < a ∨ a + bs.length ≤ x) → memByte (memWrite m d a bs) d x = memByte m d x := by
  induction bs with
  | nil => intros; rfl
  | cons b r ih =>
    intro m a x h
    simp only [memWrite, List.length_cons] at *
    rw [ih _ _ _ (by omega), memByte_memPut_ne _ _ _ (by omega)]

/-- A byte that a write covers reads as written. -/
theorem memByte_memWrite_inside (d : Byte) (bs : List Byte) : ∀ (m : List Host.Cell) (a i : Nat) (h : i < bs.length),
    memByte (memWrite m d a bs) d (a + i) = bs[i] := by
  induction bs with
  | nil => intro m a i h; simp at h
  | cons b r ih =>
    intro m a i h
    cases i with
    | zero => rw [memWrite, memByte_memWrite_outside _ _ _ _ _ (by omega)]; simp
    | succ j =>
      have := ih (memPut m d a b) (a + 1) j (by simpa using h)
      simpa [memWrite, Nat.add_assoc, Nat.add_comm 1 j] using this

theorem Memory.wf_nil (d : Byte) : Memory.wf d [] = true := rfl

/-- Writing a byte keeps the canonical form. -/
theorem Memory.wf_put (d : Byte) (m : List Host.Cell) (a : Nat) (b : Byte) (h : Memory.wf d m = true) :
    Memory.wf d (memPut m d a b) = true := by
  simp only [Memory.wf, Bool.and_eq_true, List.all_eq_true] at *
  unfold memPut
  split
  · exact ⟨KV.sorted_del _ _ _ h.1, fun c hc => h.2 c (KV.mem_del hc)⟩
  · rename_i hb
    refine ⟨KV.sorted_put _ natLt_trans natLt_total _ _ _ h.1, fun c hc => ?_⟩
    rcases KV.mem_put _ hc with rfl | hc
    · simpa using hb
    · exact h.2 c hc

theorem Memory.wf_write (d : Byte) (bs : List Byte) : ∀ (m : List Host.Cell) (a : Nat), Memory.wf d m = true →
    Memory.wf d (memWrite m d a bs) = true := by
  induction bs with
  | nil => intro m a h; exact h
  | cons b r ih => intro m a h; exact ih _ _ (Memory.wf_put d m a b h)

/-- Taking bytes out of a memory keeps the canonical form. -/
theorem Memory.wf_filter (d : Byte) (p : Host.Cell → Bool) (m : List Host.Cell) (h : Memory.wf d m = true) :
    Memory.wf d (m.filter p) = true := by
  simp only [Memory.wf, Bool.and_eq_true, List.all_eq_true] at *
  exact ⟨KV.sorted_filter _ _ _ h.1, fun c hc => h.2 c (List.mem_of_mem_filter hc)⟩

theorem Memory.wf_flashProg (bs : List Byte) : ∀ (m : List Host.Cell) (a : Nat), Memory.wf flashErased m = true →
    Memory.wf flashErased (flashProg m a bs) = true := by
  induction bs with
  | nil => intro m a h; exact h
  | cons b r ih => intro m a h; exact ih _ _ (Memory.wf_put _ m a _ h)

/-- Programming keeps the canonical form of the flash. -/
theorem flashProgram_wf (s : State) (a : Nat) (bs : List Byte) (h : Memory.wf flashErased s.flash = true) :
    Memory.wf flashErased (s.flashProgram a bs).flash = true := Memory.wf_flashProg bs _ _ h

/-- Erasing keeps the canonical form of the flash. -/
theorem flashErase_wf (s : State) (a n : Nat) (h : Memory.wf flashErased s.flash = true) :
    Memory.wf flashErased (s.flashErase a n).flash = true := Memory.wf_filter _ _ _ h

/-- Programming leaves the bytes outside its range as they were. -/
theorem flashProg_outside (bs : List Byte) : ∀ (m : List Host.Cell) (a x : Nat), (x < a ∨ a + bs.length ≤ x) →
    memByte (flashProg m a bs) flashErased x = memByte m flashErased x := by
  induction bs with
  | nil => intros; rfl
  | cons b r ih =>
    intro m a x h
    simp only [flashProg, List.length_cons] at *
    rw [ih _ _ _ (by omega), memByte_memPut_ne _ _ _ (by omega)]

theorem flashByte_program_outside (s : State) (a : Nat) (bs : List Byte) (x : Nat) (h : x < a ∨ a + bs.length ≤ x) :
    (s.flashProgram a bs).flashByte x = s.flashByte x := flashProg_outside bs _ _ _ h

end Sys2Proof.Machine
end

