-- ==== Sys2Proof/Laws/Mirrors.lean ====
section
/-! SUPPORT. After settling, the mirrors agree with what they show. -/

namespace Sys2Proof.Machine

theorem Only.get_eq {ids : List Nat} {s t : State} (h : Only ids s t) {f : Fld} (i : Nat) (hf : f.id ∉ ids) : t.get f i = s.get f i :=
  h.get f i hf

theorem Only.erFifo {ids : List Nat} {s t : State} (h : Only ids s t) : t.erFifo = s.erFifo := by rw [h.rest]
theorem Only.dtime {ids : List Nat} {s t : State} (h : Only ids s t) : t.dtime = s.dtime := by rw [h.rest]
theorem Only.ctxs {ids : List Nat} {s t : State} (h : Only ids s t) : t.ctxs = s.ctxs := by rw [h.rest]
theorem Only.ctRx {ids : List Nat} {s t : State} (h : Only ids s t) : t.ctRx = s.ctRx := by rw [h.rest]
theorem Only.ctHeld {ids : List Nat} {s t : State} (h : Only ids s t) : t.ctHeld = s.ctHeld := by rw [h.rest]
theorem Only.image {ids : List Nat} {s t : State} (h : Only ids s t) : t.image = s.image := by rw [h.rest]; rfl

theorem on_eq {s t : State} {f : Fld} {i : Nat} (h : t.get f i = s.get f i) : t.on f i = s.on f i := by unfold State.on; rw [h]

/-- What is held off depends on no mirror. -/
theorem Only.domainHeld {s t : State} (h : Only mirrors s t) (d : Nat) : domainHeld t d = domainHeld s d := by
  unfold Machine.domainHeld gated
  simp only [h.get HL_ULANE_STATUS.state _ (by decide), h.get HL_GROUP_STATUS.state _ (by decide), h.get DP_FLUME_SVC.mask _ (by decide),
    h.get CX_SVC.mask _ (by decide), h.get SV_RED_SVC.mask _ (by decide), h.get X.pwr_level _ (by decide)]

theorem Only.domainsOn {s t : State} (h : Only mirrors s t) (n : Nat) (l : List Nat) : domainsOn t n l = domainsOn s n l := by
  unfold Machine.domainsOn
  simp only [h.get HG_GROUP_STATUS.on _ (by decide), h.domainHeld]

theorem showDomains_get (s : State) :
    (showDomains s).get HG_DOMAIN_STATUS.on 0 = domainsOn s 0 (s.image.domGroup.take 64) % 2 ^ 64
    ∧ (showDomains s).get HG_DOMAIN_STATUS.on 1 = domainsOn s 64 ((s.image.domGroup.drop 64).take 64) % 2 ^ 64
    ∧ (showDomains s).get HG_DOMAIN_STATUS.on 2 = domainsOn s 128 (s.image.domGroup.drop 128) % 2 ^ 64 := by
  unfold showDomains
  extract_lets d s1 s2
  have h1 : Only mirrors s s1 := (Only.refl _ s).step _ _ _ (by decide)
  have h2 : Only mirrors s s2 := h1.step _ _ _ (by decide)
  refine ⟨?_, ?_, ?_⟩
  · rw [State.get_set_inst _ _ _ _ _ _ (by decide), State.get_set_inst _ _ _ _ _ _ (by decide), State.get_set_same]; rfl
  · rw [State.get_set_inst _ _ _ _ _ _ (by decide), State.get_set_same, h1.domainsOn]; rfl
  · rw [State.get_set_same, h2.domainsOn]; rfl

theorem showCtxs_get (s : State) :
    (showCtxs s).get QE_CTX_STATUS.ctl0 = (s.ctxs.filter (fun p => p.2.ctl == 0)).length % 2 ^ 14
    ∧ (showCtxs s).get QE_CTX_STATUS.ctl1 = (s.ctxs.filter (fun p => p.2.ctl == 1)).length % 2 ^ 14
    ∧ (showCtxs s).get QE_CTX_STATUS.urgent = (s.ctxs.filter (fun p => p.2.cls == 0)).length % 2 ^ 14 := by
  unfold showCtxs
  extract_lets held s1 s2
  have h : ∀ t : State, Only [QE_ABORT_STATUS.pending.id] t (t.each [0, 1] (fun c t => t.set QE_ABORT_STATUS.pending c (min 64 (t.aborts.filter (fun a => a.ctl == c && a.target.isNone)).length))) :=
    fun t => Only.each _ _ (fun c u => (Only.refl _ u).step _ _ _ (by decide)) t
  refine ⟨?_, ?_, ?_⟩ <;> rw [(h _).get _ _ (by decide)]
  · rw [State.get_set_ne _ _ _ _ _ _ (by decide), State.get_set_ne _ _ _ _ _ _ (by decide), State.get_set_same]; rfl
  · rw [State.get_set_ne _ _ _ _ _ _ (by decide), State.get_set_same]; rfl
  · rw [State.get_set_same]; rfl

theorem showHost_ctxs (s : State) :
    (showHost s).get QE_CTX_STATUS.ctl0 = (s.ctxs.filter (fun p => p.2.ctl == 0)).length % 2 ^ 14
    ∧ (showHost s).get QE_CTX_STATUS.ctl1 = (s.ctxs.filter (fun p => p.2.ctl == 1)).length % 2 ^ 14
    ∧ (showHost s).get QE_CTX_STATUS.urgent = (s.ctxs.filter (fun p => p.2.cls == 0)).length % 2 ^ 14 := by
  have h0 : Only ctlIds s (showCtl 1 (showCtl 0 s)) := (only_showCtl 0 s).trans (only_showCtl 1 _)
  have h1 : Only (ringIds ++ [X.dst_run.id]) (showCtxs (showCtl 1 (showCtl 0 s))) (showHost s) :=
    ((only_showRing _).mono (by decide)).trans ((only_showTest _).mono (by decide))
  rw [h1.get _ _ (by decide), h1.get _ _ (by decide), h1.get _ _ (by decide), ← h0.ctxs]
  exact showCtxs_get _

theorem showRecorder_get (s : State) :
    (showRecorder s).get ER_STATUS.fifo = s.erFifo.length % 2 ^ 7
    ∧ (showRecorder s).get ER_STATUS.log_failed = s.get ER_GASP.log_failed % 2 := by
  unfold showRecorder
  constructor
  · rw [State.get_set_ne _ _ _ _ _ _ (by decide), State.get_set_same]; rfl
  · rw [State.get_set_same, State.get_set_ne _ _ _ _ _ _ (by decide)]; rfl

theorem showPairs_get (s : State) (a : Nat) (h : a < 4) :
    (showPairs s).get SV_RED_STATUS.active a = s.get SV_STATUS.active_engine a % 2 :=
  each_get (List.range 4) (fun a t => t.set SV_RED_STATUS.active a (t.get SV_STATUS.active_engine a)) SV_RED_STATUS.active
    (fun t i => t.get SV_STATUS.active_engine i % 2) (Only [SV_RED_STATUS.active.id])
    (fun _ t => (Only.refl _ t).step _ _ _ (by decide)) (fun _ _ => State.get_set_same _ _ _ _)
    (fun _ _ _ hij => State.get_set_inst _ _ _ _ _ _ hij) (fun _ _ _ hp => by rw [hp.get _ _ (by decide)]) s a
    (List.mem_range.2 h) List.nodup_range

theorem showQueues_get (s : State) (y : Nat) (h : y < 16) :
    (s.each (List.range 16) showQueue).get HL_CT_QSTAT.rx_count y = (KV.getD s.ctRx y []).length % 2 ^ 6
    ∧ (s.each (List.range 16) showQueue).get HL_CT_QSTAT.tx_free y = (32 - ((KV.getD s.ctHeld y []).filter (fun m => m.fw)).length) % 2 ^ 6 := by
  constructor
  · refine each_get (List.range 16) showQueue HL_CT_QSTAT.rx_count (fun t i => (KV.getD t.ctRx i []).length % 2 ^ 6) (Only queueIds)
      only_showQueue (fun i t => ?_) (fun i j t hij => ?_) (fun _ _ _ hp => by rw [hp.ctRx]) s y (List.mem_range.2 h) List.nodup_range
    · unfold showQueue
      rw [State.get_set_ne _ _ _ _ _ _ (by decide), State.get_set_same]; rfl
    · unfold showQueue
      rw [State.get_set_inst _ _ _ _ _ _ hij, State.get_set_inst _ _ _ _ _ _ hij]
  · refine each_get (List.range 16) showQueue HL_CT_QSTAT.tx_free
      (fun t i => (32 - ((KV.getD t.ctHeld i []).filter (fun m => m.fw)).length) % 2 ^ 6) (Only queueIds)
      only_showQueue (fun i t => ?_) (fun i j t hij => ?_) (fun _ _ _ hp => by rw [hp.ctHeld]) s y (List.mem_range.2 h) List.nodup_range
    · unfold showQueue
      rw [State.get_set_same]; rfl
    · unfold showQueue
      rw [State.get_set_inst _ _ _ _ _ _ hij, State.get_set_inst _ _ _ _ _ _ hij]

end Sys2Proof.Machine
end

