-- ==== Sys2Proof/Tests/Slice0.lean ====
section
/-! SUPPORT. Tests: for each statement of the certificate, `witness_<statement>` shows for each of its clauses a state and
operands that meet the clause's hypotheses together (at a bound of their range where they have one); for each check of
WellFormed an ill-formed command that it refuses; and a few results worked out from the spec's own tables. The clauses
whose hypotheses hold a signature that verifies have their witnesses at the end. -/

set_option maxRecDepth 4000
set_option linter.unusedVariables false
set_option linter.unusedSimpArgs false

namespace Sys2Proof.Tests

open Sys2Proof Sys2Proof.Machine

/-! Small states. -/

/-- A small part: four actuators of 16 heads, each head on the lane of its number, every unit configured, one zone group. -/
def tImg : Image := { noImage with
  actMask := 15, surface := (List.range 64).map (fun h => h % 32), upHead := List.range 64,
  downGroup := [0, 1, 2, 3, 0, 1, 2, 3, 0, 1, 2, 3, 0, 1, 2, 3], flumePerm := List.replicate 32 (2 ^ 64 - 1),
  domGroup := List.replicate 160 1, rpm := 7200, wedges := 400, zoneSize := 16, zoneCap := 16,
  groups := [{ firstZone := 0, zoneCount := 8, firstTrack := 0, home := 0, band := 0, comb := 0 }],
  combs := [{ act := 0, width := 1, mask := 1, order := [0], offsets := [0] }] }

/-- A state with cells set. -/
def st (s : State) (l : List CellVal) : State := l.foldl (fun s p => s.set p.1 p.2.1 p.2.2) s

/-- The state after reset with the small part's image, ACTIVE, T_j at 0 °C, the spindle drive's namespace 0 of eight zones. -/
def tState : State := st { State.reset with img := some tImg } [(X.pwr_level, 0, 0), (TH_STATUS.tj, 0, 0), (ZX_NS.zone_count, 0, 8)]

/-- A command with all dwords zero that names namespace 1. -/
def tCmd : NvmeCmd := { opcode := 0, cid := 0, nsid := 1, slba := 0, cdw10 := 0, cdw11 := 0, cdw12 := 0, cdw13 := 0, cdw14 := 0, cdw15 := 0 }

/-- A context of controller 0 with a command just fetched. -/
def tCtx (qid : Nat) (c : NvmeCmd) : Ctx :=
  { ctl := 0, qid := qid, cqid := qid, cmd := c, cls := if qid = 0 then 4 else 2, stage := 0, status := 0, dw0 := 0, left := 0, covered := false,
    waits := [], doorbell := 0, heads := [], dead := false }

/-- A state whose context 0 is `x`. -/
def tWait (s : State) (x : Ctx) : State := { s with ctxs := (0, x) :: s.ctxs }

/-- A state in which thread t of sequencer q stands at a word of an opcode, at a safe point of kind 1. -/
def tWord (q t op hi lo : Nat) (s : State) : State := st s
  [(SQ_CS.bits, 8192 * q * 2 + 1, op * 2 ^ 58 + 2 ^ 56 + hi), (SQ_CS.bits, 8192 * q * 2, lo), (SQ_VERSION.words, q, 1),
   (SQ_STATUS.state, q, sqRunning), (SQ_THR_STATE.state, thrNo q t, thReady)]

theorem waits_of {s : State} {c : Nat} {x : Ctx} {admin : Bool} {op : Nat} (h : coreUp s = true ∧ ctxOf s c = some x
    ∧ (x.qid == 0) = admin ∧ x.cmd.opcode = op ∧ x.dead = false ∧ x.stage = 0 ∧ (admin = true → s.get X.fw_act = 0)) : Waits s c x admin op :=
  ⟨h.1, h.2.1, h.2.2.1, h.2.2.2.1, h.2.2.2.2.1, h.2.2.2.2.2.1, h.2.2.2.2.2.2⟩

theorem issues_of {code q t : Nat} {s : State} (h : (coreUp s = true ∧ q < 4 ∧ t < 4 ∧ opDefined code = true ∧ gated s = false
    ∧ (s.get SQ_STATUS.state q = sqRunning ∨ s.get SQ_STATUS.state q = sqHalting))
    ∧ ((s.get SQ_THR_STATE.state (thrNo q t) = thReady ∨ s.get SQ_THR_STATE.state (thrNo q t) = thHandler)
      ∧ pcOf s q t < s.get SQ_VERSION.words q ∧ (wordOf s q t).op = code ∧ (wordOf s q t).cond ≤ 23 ∧ (wordOf s q t).sp ≠ 3)
    ∧ ((wordOf s q t).sp = 0 → s.get X.sq_sp (thrNo q t) < 64)
    ∧ ((wordOf s q t).sp ≠ 0 → s.on X.sq_leave (thrNo q t) = false ∧ eventAt s q t (wordOf s q t).sp = none)
    ∧ ((code = 0x0D ∨ code = 0x0E) → (wordOf s q t).sp = 0 → (wordOf s q t).timeout ≠ 0)) : Issues code q t s :=
  ⟨h.1.1, h.1.2.1, h.1.2.2.1, h.1.2.2.2.1, h.1.2.2.2.2.1, h.1.2.2.2.2.2, h.2.1.1, h.2.1.2.1, h.2.1.2.2.1, h.2.1.2.2.2.1, h.2.1.2.2.2.2,
   h.2.2.1, h.2.2.2.1, h.2.2.2.2⟩

/-- A flume request of one sector of head 63, band 0. -/
def tReq : FlumeReq :=
  { head := 63, band := 0, first := 0, count := 1, purpose := 0, writer := 0, urgent := false, iter := 0, syncShift := 0, altTarget := 0,
    weightSel := 0, acc := 0, handover := false, dest := 0 }

/-- A record with no payload. -/
def tRec : EventRec := { src := 0, code := 0, payload := [], dtime := 0, closed := false, count := 0 }

/-- A compression job of one block. -/
def tJob : CxJob :=
  { kind := 0, ns := 0, chunk := 0, gen := 0, blocks := 1, level := 1, cls := 2, covered := false, since := 0, job := 0, wid := 0, retried := false }

/-- The small part with a Headgate port for the compression engines. -/
def tImgP : Image := { tImg with ports := [default, default, { kind := 7, first := 0, count := 8, group := 0, peak := 0, flags := 0 }] }

/-- A submission queue of four entries. -/
def tRing (ctl qid tail : Nat) : Ring :=
  { ctl := ctl, qid := qid, kind := 0, cqid := 0, prio := 0, base := 0, size := 4, head := 0, tail := tail, phase := 1, bells := [] }


theorem mirrored_reset : Mirrored State.reset := by constructor <;> decide

/-- A state with one request that waits for flume 31. -/
def tFlume : State := st { tState with flumeReqs := [⟨3, 3, tReq, 0, some 31⟩] }
  [(DP_CAL.word, 16 * (2 * (48 * 63)), 2 ^ 63), (MS_HEAD_SVC.in_service, 63, 1), (DP_FLUME_SVC.mask, 0, 2 ^ 32 - 1), (DP_HEAD_STATE.stale, 63, 0),
   (DP_FLUME_STATUS.power, 31, 1), (DP_CTRL.enable, 0, 1)]

/-- A state in which source 1023 alone is eligible, for the management core. -/
def tClaim : State := st tState [(X.ic_in, 1023, 1), (IC_SRC.pending, 1023, 1), (IC_SRC.enable, 1023, 1), (IC_SRC.targets, 1023, 2 ^ 9), (IC_SRC.priority, 1023, 7),
  (IC_TGT_CTRL.enable, 9, 1), (X.mgt_run, 0, 1)]

/-! The sync mark of a sector, sent as samples. -/
/-! A sync mark that is found whatever the detector decides: the pattern is what it decided (R119). -/

theorem natBits_append (n m : Nat) (b : Bool) : natBits (n + 1) (2 * m + b2n b) = natBits n m ++ [b] := by
  have h0 : (2 * m + b2n b).testBit 0 = b := by cases b <;> simp [b2n, Nat.testBit_zero]
  have hs : ∀ k, (2 * m + b2n b).testBit (k + 1) = m.testBit k := by
    intro k; rw [Nat.testBit_succ]; congr 1; cases b <;> simp [b2n] <;> omega
  simp only [natBits, List.range_succ, List.map_append, List.map_cons, List.map_nil]
  congr 1
  · apply List.map_congr_left
    intro i hi
    rw [List.mem_range] at hi
    rw [show n + 1 - 1 - i = (n - 1 - i) + 1 by omega, hs]
  · simp [h0]

theorem natBits_bitsNat (n : Nat) : ∀ l : List Bool, l.length = n → natBits n (bitsNat l) = l ∧ bitsNat l < 2 ^ n := by
  induction n with
  | zero => intro l h; rw [List.length_eq_zero_iff.mp h]; simp [natBits, bitsNat]
  | succ n ih =>
    intro l hl
    have hne : l ≠ [] := by intro h; simp [h] at hl
    have he := List.dropLast_concat_getLast hne
    have hi := ih l.dropLast (by simp [hl])
    rw [← he]
    have h : bitsNat (l.dropLast ++ [l.getLast hne]) = 2 * bitsNat l.dropLast + b2n (l.getLast hne) := by simp [bitsNat]
    rw [h, natBits_append, hi.1]
    refine ⟨rfl, ?_⟩
    have : b2n (l.getLast hne) ≤ 1 := by cases l.getLast hne <;> simp [b2n]
    have := hi.2
    rw [Nat.pow_succ]; omega

theorem chainRun_length (c : Chain) (smp : List Smp) : (chainRun c smp).bits.length = smp.length := by
  have h : ∀ (l : List Nat) (t : Chained), (l.foldl (chainStep c smp) t).bits.length = t.bits.length + l.length := by
    intro l
    induction l with
    | nil => simp
    | cons a l ih => intro t; simp only [List.foldl_cons, ih]; simp only [chainStep, List.length_append, List.length_cons, List.length_nil]; omega
  unfold chainRun
  rw [h]; simp

theorem hamming_self (l : List Bool) : hamming l l = 0 := by
  induction l with
  | nil => rfl
  | cons b l ih => simpa [hamming] using ih

/-- Flume 31 receives a sector of 40 samples, with the mark sought where it begins. -/
def tMark (pattern : Nat) : State := (st { tState with
  flumes := [(31, { emptyFlume with cur := some ⟨3, 3, tReq, 0, 0⟩ })], samples := [(63, List.replicate 40 ⟨false, false, 0, 0⟩)] }
  [(DP_BAND_LAYOUT.slot, 48 * 31, 40), (DP_SYNC.window, 0, 0)]).set DP_SYNC_PATTERN.pattern 0 pattern

theorem tMark_get (p : Nat) (f : Fld) (i : Nat) (h : DP_SYNC_PATTERN.pattern.id ≠ f.id) : (tMark p).get f i = (tMark 681913751405).get f i := by
  simp only [tMark, State.get_set_ne _ _ _ _ _ _ h]

theorem tMark_up (p : Nat) : coreUp (tMark p) = true := by
  simp (disch := decide) only [coreUp, auxUp, State.on, tMark_get p]; rfl

/-- What the detector decides. -/
def tBits : List Bool := (chainRun (chainOf (tMark 681913751405) ⟨3, 3, tReq, 0, 0⟩ true) (List.replicate 40 ⟨false, false, 0, 0⟩)).bits

/-- The pattern that it decides. -/
def tPattern : Nat := bitsNat tBits

theorem tMark_best : bestMark (syncMarks (tMark tPattern) ⟨3, 3, tReq, 0, 0⟩) = some (0, 0) := by
  have hl : tBits.length = 40 := by simp [tBits, chainRun_length]
  have hp := natBits_bitsNat 40 tBits hl
  have hg : (tMark tPattern).get DP_SYNC_PATTERN.pattern = tPattern := by
    have : (tMark tPattern).get DP_SYNC_PATTERN.pattern = tPattern % 2 ^ 40 := by
      exact State.get_set_same _ _ _ _
    rw [this]; exact Nat.mod_eq_of_lt hp.2
  have hm : ∀ f i, DP_SYNC_PATTERN.pattern.id ≠ f.id → (tMark tPattern).get f i = (tMark 681913751405).get f i := tMark_get _
  have hs : sectorSamples (tMark tPattern) ⟨3, 3, tReq, 0, 0⟩ = List.replicate 40 ⟨false, false, 0, 0⟩ := by
    unfold sectorSamples; rw [hm _ _ (by decide)]; rfl
  have hc : chainOf (tMark tPattern) ⟨3, 3, tReq, 0, 0⟩ (adapts (tMark tPattern) ⟨3, 3, tReq, 0, 0⟩ noSync) = chainOf (tMark 681913751405) ⟨3, 3, tReq, 0, 0⟩ true := by
    simp (disch := decide) only [chainOf, adapts, calWords, jobTarget, bandIn, ladFrozen, State.on, hm]; rfl
  have hw : (tMark tPattern).get DP_SYNC.window = 0 := by rw [hm _ _ (by decide)]; rfl
  have hq : syncPredicted (tMark tPattern) ⟨3, 3, tReq, 0, 0⟩ = 0 := by unfold syncPredicted; rw [hm _ _ (by decide)]; rfl
  have hb : (chainRun (chainOf (tMark 681913751405) ⟨3, 3, tReq, 0, 0⟩ true) (List.replicate 40 ⟨false, false, 0, 0⟩)).bits = tBits := rfl
  unfold syncMarks
  simp only [hs, hc, hw, hq, hg]
  rw [hb, if_neg (by decide)]
  have hn : natBits 40 tPattern = tBits := hp.1
  simp [markSearch, hn, hl, List.take_of_length_le, hamming_self, bestMark]

/-! Compression witnesses: a chunk of one zero byte, whose block is written with the fixed codes whatever code the engine would build. -/

theorem length_lsbBits (w v : Nat) : (lsbBits w v).length = w := by simp [lsbBits]

theorem dynHeader_long (lit dist : List Nat) : 26 ≤ (dynHeader lit dist).length := by
  have h (l : List Nat) : (l.flatMap (lsbBits 3)).length = 3 * l.length := by
    induction l with
    | nil => rfl
    | cons a l ih => simp [List.flatMap_cons, length_lsbBits, ih]; omega
  have ht (l : List Nat) (hl : 4 ≤ l.length) : 4 ≤ (trimLens 4 l).length := by
    simp only [trimLens, List.length_take]; omega
  simp only [dynHeader, List.length_append, length_lsbBits, h]
  have := ht (clenOrder.map (fun i => (Config.huffLengths 7 ((List.range 19).map (fun i => ((Config.lengthRuns
    (trimLens 257 lit ++ trimLens 1 dist)).filter (fun r => r.1 == i)).length))).getD i 0)) (by simp [clenOrder])
  omega

theorem block_zero : deflateBlock true [.lit 0] = blockParts true 1 [] fixedLit fixedDist [.lit 0] := by
  have hf : (partsBits (blockParts true 1 [] fixedLit fixedDist [.lit 0])).length = 18 := by decide
  have hd (a b : List Nat) : 18 ≤ (partsBits (blockParts true 2 (dynHeader a b) a b [.lit 0])).length := by
    have := dynHeader_long a b
    simp [partsBits, blockParts, length_lsbBits]; omega
  simp only [deflateBlock]
  rw [if_neg (by rw [hf]; have := hd (Config.huffLengths 15 (litCounts [.lit 0])) (Config.huffLengths 15 (distCounts [.lit 0])); omega)]

theorem blocks_zero : lzBlocks [0] (cxLevelOf 1) = [[.lit 0]] := by rfl

/-- What the byte compresses to within a limit. -/
theorem deflate_zero (limit : Nat) : deflate 1 limit [0] = (emitBlock (8 * limit) (blockParts true 1 [] fixedLit fixedDist [.lit 0]) []).map
    (fun l => (packBits (l.length / 8 + 1) l).map (fun n => BitVec.ofNat 8 n)) := by
  have h : ([0] : List Byte).map (fun b => b.toNat) = [0] := by rfl
  simp only [deflate, h, blocks_zero]
  exact congrArg (Option.map _) (congrArg (fun b => emitBlock (8 * limit) b []) block_zero)

/-- Engine 7 at work on that byte, with its grant. -/
def tCx (k : Nat) (b : List Byte) : State :=
  { tState with cxRun := [(7, { tJob with kind := k, data := b })], hgGrants := [⟨2, 0, [], 0, 0, false⟩], img := some tImgP }

/-- A ladder of one sector of head 3 at a rung, of class 2, with the attempts made at it. -/
def tLad (rung : Nat) (tried : List LadRead) : Ladder :=
  { id := 1, op := { (default : MsOp) with cls := 2 }, head0 := 3, track := 0, band := 0, rung := rung, plan := [], cur := plainTry, curHead := 3,
    recHead := none, tried := tried, secs := [⟨5, 2 ^ 48, 1, 0, 3, 0, true, 0⟩], lost := none }

/-- An attempt of head 3 at that sector. -/
def tRead (rung : Nat) (t : LadTry) (unsat : Nat) : LadRead := { head := 3, sector := 5, rung := rung, set := t, unsat := unsat }

/-- Attempts of heads 3 and 35 at it that gave a and b unsatisfied checks. -/
def tBoth (a b : Nat) : List LadRead := [tRead 1 plainTry a, { tRead 2 plainTry b with head := 35 }]

/-- A state in which thread 3 of sequencer 3 stands at a POST of a recovery result of head 63. -/
def tPost (rung outcome : Nat) (s : State) : State :=
  st (tWord 3 3 0x10 (2 ^ 28) 1 s) [(SQ_THR_REG.value, thrReg 3 3 1, 63 * 2 ^ 46 + rung * 2 ^ 43 + outcome * 2 ^ 40)]

/-- The hypotheses of `IdleStepTicks`. -/
theorem witness_IdleStepTicks :
    (∃ (s : State), s.pending = [] ∧ coreUp s = false) ∧
    (∃ (s : State), s.pending = [] ∧ coreUp s = true) :=
  ⟨⟨(st tState [(X.core_off, 0, 1)]), by decide⟩,
   ⟨tState, by decide⟩⟩

/-- The hypotheses of `WellFormedCompletes`. -/
theorem witness_WellFormedCompletes :
    (∃ (c : Instr) (s : State), c.wf = true) ∧
    (∃ (c : Instr) (s : State), c.wf = false) :=
  ⟨⟨.check, tState, by decide⟩,
   ⟨.park 4, tState, by decide⟩⟩

/-- The hypotheses of `MirrorsKept`. -/
theorem witness_MirrorsKept :
    ∃ (s : State) (t : State), Mirrored s ∧ step s = .next t :=
  ⟨State.reset, _, mirrored_reset, rfl⟩

/-- The hypotheses of `CoreRailsOff`. -/
theorem witness_CoreRailsOff :
    ∃ (c : Instr) (s : State), coreUp s = false ∧ (c = .check ∨ c = .commitStrobe ∨ c = .flumeGrant ∨ c = .shockTrip ∨ c = .speedLoop ∨ c = .rebalance ∨ c = .recover ∨ c = .journalWrite ∨ c = .indexCheckpoint ∨ c = .stepUpTimer ∨ c = .powerTransitionStep ∨ c = .drain ∨ c = .recordProgrammed ∨ c = .wdtStage2 ∨ c = .bmEnable ∨ c = .lockFill ∨ c = .parkComplete ∨ (∃ g, g < 16 ∧ c = .groupBringUp g) ∨ (∃ a, a < 4 ∧ c = .park a) ∨ (∃ a, a < 4 ∧ c = .dispatch a) ∨ (∃ q, q < 4 ∧ c = .sequencerStart q)) :=
  ⟨.parkComplete, (st tState [(X.core_off, 0, 1)]), by decide, by simp⟩

/-- The hypotheses of `BusErrors`. -/
theorem witness_BusErrors :
    (∃ (core : Nat) (w : Bool) (a : Nat) (width : Nat) (s : State), coreUp s = true ∧ auxUp s = true ∧ core < 10 ∧ KV.getD s.wbufs core [] = [] ∧ inWindows a = true ∧ (w = true → ∀ i o, locateAddr a ≠ some (DP_CAL, i, o)) ∧ ((width ≠ 32 ∧ width ≠ 64) ∨ a % (width / 8) ≠ 0 ∨ (width = 64 ∧ 8 ≤ core))) ∧
    (∃ (core : Nat) (a : Nat) (width : Nat) (s : State), coreUp s = true ∧ auxUp s = true ∧ core < 10 ∧ KV.getD s.wbufs core [] = [] ∧ inWindows a = true ∧ locateAddr a = none ∧ (width = 32 ∨ (width = 64 ∧ core < 8)) ∧ a % (width / 8) = 0) ∧
    (∃ (core : Nat) (a : Nat) (s : State), coreUp s = true ∧ auxUp s = true ∧ core < 10 ∧ KV.getD s.wbufs core [] = [] ∧ inPrivate core a = false ∧ (localMap s core a = none ∨ ∃ t, localMap s core a = some t ∧ inWindows t = false ∧ inStorage s t = false)) ∧
    (∃ (core : Nat) (w : Bool) (a : Nat) (width : Nat) (s : State), coreUp s = true ∧ auxUp s = true ∧ core < 10 ∧ KV.getD s.wbufs core [] = [] ∧ w = true ∧ core < 9 ∧ a + 4 ≤ 0x10000 ∧ a % 4 = 0 ∧ width = 32 ∧ inStorage s a = true) :=
  ⟨⟨9, false, 0x215FFFFE, 32, tState, by decide, by decide, by decide, by decide, by decide, nofun, by decide⟩,
   ⟨7, 0x215FFFF8, 64, tState, by decide⟩,
   ⟨9, 0x21600000, tState, by decide⟩,
   ⟨8, true, 0, 32, tState, by decide⟩⟩

/-- The hypotheses of `WriteByFieldType`. -/
theorem witness_WriteByFieldType :
    (∃ (f : Fld) (s : State), f.ty = .ro) ∧
    (∃ (f : Fld) (s : State), f.ty = .w1c) ∧
    (∃ (f : Fld) (v : Nat) (s : State), f.ty = .rw ∧ f.rule.reserved v = false) ∧
    (∃ (f : Fld) (v : Nat) (s : State), (f.ty = .rw ∨ f.ty = .rwl) ∧ f.rule.reserved v = true) ∧
    (∃ (f : Fld) (i : Nat) (v : Nat) (s : State), f.ty = .rwl ∧ f.rule.reserved v = false ∧ s.locked.contains (f.id, i) = false) ∧
    (∃ (f : Fld) (i : Nat) (s : State), f.ty = .rwl ∧ s.locked.contains (f.id, i) = true) ∧
    (∃ (f : Fld) (s : State), f.ty = .st ∧ f.id ∉ [SC_STATUS.state.id, SC_STATUS.result.id, SC_INT.not_applied.id]) :=
  ⟨⟨TH_STATUS.tj, tState, by decide⟩,
   ⟨CR_INT.wdt_stage1, tState, by decide⟩,
   ⟨SC_CTRL.miss_action, 0, tState, by decide⟩,
   ⟨TH_STEP.min_step, 9, tState, by decide⟩,
   ⟨CR_WDT_CFG.enable, 0, 0, tState, by decide⟩,
   ⟨CR_WDT_CFG.enable, 0, { tState with locked := [(CR_WDT_CFG.enable.id, 0)] }, by decide⟩,
   ⟨DP_POOL.count, tState, by decide⟩⟩

/-- The hypotheses of `RegisterWrites`. -/
theorem witness_RegisterWrites :
    ∃ (core : Nat) (up : Nat) (down : Nat) (min_ : Nat) (s : State), coreUp s = true ∧ auxUp s = true ∧ core < 10 ∧ KV.getD s.wbufs core [] = [] ∧ up < 4096 ∧ down < 4096 ∧ min_ ≤ 8 ∧ s.get SC_STATUS.state ≠ scArmed ∧ s.get SC_STATUS.state ≠ scChecking :=
  ⟨9, 4095, 4095, 8, tState, by decide⟩

/-- The hypotheses of `Checks`. -/
theorem witness_Checks :
    (∃ (s : State), coreUp s = true ∧ let st := s.get SC_STATUS.state; (st = scIdle ∨ st = scStaged ∨ st = scChecked ∨ st = scFailed)) ∧
    (∃ (s : State), coreUp s = true ∧ let st := s.get SC_STATUS.state; (st = scChecking ∨ st = scArmed)) ∧
    (∃ (s : State), coreUp s = true ∧ let st := s.get SC_STATUS.state; st = scChecking ∧ firstViolation (s.raise SC_INT.check_done) = none) ∧
    (∃ (s : State) (rule : _) (addr : _), coreUp s = true ∧ let st := s.get SC_STATUS.state; st = scChecking ∧ firstViolation (s.raise SC_INT.check_done) = some (rule, addr)) ∧
    (∃ (s : State), coreUp s = true ∧ let st := s.get SC_STATUS.state; st ≠ scChecking) ∧
    (∃ (s : State) (rule : _) (addr : _), coreUp s = true ∧ firstViolation s = some (rule, addr)) ∧
    (∃ (s : State) (f : Fld), coreUp s = true ∧ let st := s.get SC_STATUS.state; f.ty = .st) ∧
    (∃ (s : State) (f : Fld), coreUp s = true ∧ let st := s.get SC_STATUS.state; f.ty ≠ .st) :=
  ⟨⟨(st tState [(SC_STATUS.state, 0, scIdle)]), by decide⟩,
   ⟨(st tState [(SC_STATUS.state, 0, scChecking)]), by decide⟩,
   ⟨(st { tState with img := some noImage } [(SC_STATUS.state, 0, scChecking)]), by decide⟩,
   ⟨(st tState [(SC_STATUS.state, 0, scChecking)]), 8, 538972168, by decide⟩,
   ⟨tState, by decide⟩,
   ⟨tState, 8, 538972168, by decide⟩,
   ⟨tState, DP_POOL.count, by decide⟩,
   ⟨tState, SC_CTRL.miss_action, by decide⟩⟩

/-- The hypotheses of `ArmRefused`. -/
theorem witness_ArmRefused :
    ∃ (s : State), coreUp s = true ∧ s.get SC_STATUS.state = scChecked ∧ ((s.get SC_CTRL.instant_kind = 3 ∧ s.get SC_INSTANT.value < s.dtime) ∨ (s.get SC_CTRL.instant_kind = 1 ∧ (s.image.hasAct (s.get SC_CTRL.actuator) = false ∨ s.image.wedges ≤ s.get SC_INSTANT.value))) :=
  ⟨(st { tState with dtime := 1 } [(SC_STATUS.state, 0, scChecked), (SC_CTRL.instant_kind, 0, 3)]), by decide⟩

/-- The hypotheses of `CommitActions`. -/
theorem witness_CommitActions :
    (∃ (s : State), coreUp s = true ∧ let st := s.get SC_STATUS.state; st = scChecked ∧ instantBad s = false) ∧
    (∃ (s : State), coreUp s = true ∧ let st := s.get SC_STATUS.state; st ≠ scChecked ∧ st ≠ scArmed) ∧
    (∃ (s : State), coreUp s = true ∧ let st := s.get SC_STATUS.state; st = scArmed ∧ atInstant s = true) ∧
    (∃ (s : State), coreUp s = true ∧ let st := s.get SC_STATUS.state; st = scArmed ∧ atInstant s = false) ∧
    (∃ (s : State), coreUp s = true ∧ let st := s.get SC_STATUS.state; st = scArmed ∧ (s.get X.sc_kind = 1 ∨ s.get X.sc_kind = 2) ∧ s.get X.sc_deadline ≤ s.dtime ∧ s.on X.sc_miss = false) ∧
    (∃ (s : State), coreUp s = true ∧ let st := s.get SC_STATUS.state; st = scArmed ∧ (s.get X.sc_kind = 1 ∨ s.get X.sc_kind = 2) ∧ s.get X.sc_deadline ≤ s.dtime ∧ s.on X.sc_miss = true) :=
  ⟨⟨(st tState [(SC_STATUS.state, 0, scChecked)]), by decide⟩,
   ⟨tState, by decide⟩,
   ⟨(st tState [(SC_STATUS.state, 0, scArmed)]), by decide⟩,
   ⟨(st tState [(SC_STATUS.state, 0, scArmed), (X.sc_kind, 0, 2)]), by decide⟩,
   ⟨(st tState [(SC_STATUS.state, 0, scArmed), (X.sc_kind, 0, 1), (X.sc_miss, 0, 0)]), by decide⟩,
   ⟨(st tState [(SC_STATUS.state, 0, scArmed), (X.sc_kind, 0, 1), (X.sc_miss, 0, 1)]), by decide⟩⟩

/-- The hypotheses of `UnitLosses`. -/
theorem witness_UnitLosses :
    (∃ (s : State) (h : _), coreUp s = true ∧ h < 64) ∧
    (∃ (s : State) (x : _), coreUp s = true ∧ x < 64) ∧
    (∃ (s : State) (y : _), coreUp s = true ∧ y < 16) ∧
    (∃ (s : State) (a : _), coreUp s = true ∧ a < 4) ∧
    (∃ (s : State) (f : _), coreUp s = true ∧ f < 32) ∧
    (∃ (s : State) (e : _), coreUp s = true ∧ e < 8) ∧
    (∃ (s : State) (d : _), coreUp s = true ∧ d < 2) ∧
    (∃ (s : State) (p : _), coreUp s = true ∧ p < 2) :=
  ⟨⟨tState, 63, by decide⟩,
   ⟨tState, 63, by decide⟩,
   ⟨tState, 15, by decide⟩,
   ⟨tState, 3, by decide⟩,
   ⟨tState, 31, by decide⟩,
   ⟨tState, 7, by decide⟩,
   ⟨tState, 1, by decide⟩,
   ⟨tState, 1, by decide⟩⟩

/-- The hypotheses of `LinkGroups`. -/
theorem witness_LinkGroups :
    (∃ (s : State) (g : Nat), coreUp s = true ∧ g < 16 ∧ s.image.groupUsed g = true ∧ (grpState s g = grpOff ∨ grpState s g = grpFailed) ∧ s.image.portOf 5 (g / 4) = none) ∧
    (∃ (s : State) (g : Nat) (p : _), coreUp s = true ∧ g < 16 ∧ s.image.groupUsed g = true ∧ (grpState s g = grpOff ∨ grpState s g = grpFailed) ∧ s.image.portOf 5 (g / 4) = some p ∧ hasGrant (s.set X.hl_asked g 1) p = false) ∧
    (∃ (s : State) (g : Nat), coreUp s = true ∧ g < 16 ∧ s.on X.hl_asked g = true ∧ hasGrantFor s 5 (g / 4) = true ∧ (s.get CR_ACT_STATUS.in_reset).testBit (g / 4) = false ∧ grpState s g = grpOff) ∧
    (∃ (s : State) (g : Nat), coreUp s = true ∧ g < 16 ∧ s.on X.hl_asked g = true ∧ hasGrantFor s 5 (g / 4) = true ∧ (s.get CR_ACT_STATUS.in_reset).testBit (g / 4) = false ∧ grpState s g = grpFailed) ∧
    (∃ (s : State) (g : Nat), coreUp s = true ∧ g < 16 ∧ grpState s g = grpDetect) ∧
    (∃ (s : State) (g : Nat), coreUp s = true ∧ g < 16 ∧ grpState s g = grpCapx) ∧
    (∃ (s : State) (g : Nat), coreUp s = true ∧ g < 16 ∧ grpState s g = grpSettle ∧ s.get X.hl_go g = 0) ∧
    (∃ (s : State) (g : Nat), coreUp s = true ∧ g < 16 ∧ grpState s g = grpSettle ∧ s.on X.hl_go g = true) ∧
    (∃ (s : State) (g : Nat), coreUp s = true ∧ g < 16 ∧ grpState s g = grpTrain) ∧
    (∃ (s : State) (g : Nat), coreUp s = true ∧ g < 16 ∧ grpState s g = grpActive) ∧
    (∃ (s : State) (g : Nat), coreUp s = true ∧ g < 16 ∧ 1 ≤ grpState s g ∧ grpState s g ≤ 5 ∧ s.get HL_GROUP_CTRL.ka_stop g = 0 ∧ s.get X.hl_down_lost g = 0 ∧ (s.get CR_ACT_STATUS.in_reset).testBit (g / 4) = false ∧ gated s = false) ∧
    (∃ (s : State) (g : Nat), coreUp s = true ∧ g < 16 ∧ s.get HL_GROUP_CTRL.ka_stop g ≠ 0) :=
  ⟨⟨(st tState [(HL_GROUP_STATUS.state, 15, grpOff)]), 15, by decide⟩,
   ⟨(st { tState with img := some { tImg with ports := [⟨5, 0, 4, 0, 0, 0⟩] } } [(HL_GROUP_STATUS.state, 15, grpOff)]), 15, 0, by decide⟩,
   ⟨(st { tState with img := some { tImg with ports := [⟨5, 0, 4, 0, 0, 0⟩] }, hgGrants := [⟨0, 0, [], 0, 0, false⟩] } [(X.hl_asked, 15, 1), (HL_GROUP_STATUS.state, 15, grpOff)]), 15, by decide⟩,
   ⟨(st { tState with img := some { tImg with ports := [⟨5, 0, 4, 0, 0, 0⟩] }, hgGrants := [⟨0, 0, [], 0, 0, false⟩] } [(X.hl_asked, 15, 1), (HL_GROUP_STATUS.state, 15, grpFailed)]), 15, by decide⟩,
   ⟨(st tState [(HL_GROUP_STATUS.state, 15, grpDetect)]), 15, by decide⟩,
   ⟨(st tState [(HL_GROUP_STATUS.state, 15, grpCapx)]), 15, by decide⟩,
   ⟨(st tState [(HL_GROUP_STATUS.state, 15, grpSettle), (X.hl_go, 15, 0)]), 15, by decide⟩,
   ⟨(st tState [(HL_GROUP_STATUS.state, 15, grpSettle), (X.hl_go, 15, 1)]), 15, by decide⟩,
   ⟨(st tState [(HL_GROUP_STATUS.state, 15, grpTrain)]), 15, by decide⟩,
   ⟨(st tState [(HL_GROUP_STATUS.state, 15, grpActive)]), 15, by decide⟩,
   ⟨(st tState [(HL_GROUP_CTRL.ka_stop, 15, 0), (X.hl_down_lost, 15, 0), (HL_GROUP_STATUS.state, 15, 5)]), 15, by decide⟩,
   ⟨(st tState [(HL_GROUP_CTRL.ka_stop, 15, 1)]), 15, by decide⟩⟩

/-- The hypotheses of `LinkControl`. -/
theorem witness_LinkControl :
    (∃ (s : State) (v : Nat), coreUp s = true ∧ s.get HL_CTRL.enable = 0 ∧ v % 2 = 1) ∧
    (∃ (s : State) (v : Nat), coreUp s = true ∧ s.get HL_CTRL.enable = 1 ∧ v % 2 = 0) ∧
    (∃ (s : State) (v : Nat), coreUp s = true ∧ s.get HL_CTRL.enable = v % 2) :=
  ⟨⟨(st tState [(HL_CTRL.enable, 0, 0)]), 1, by decide⟩,
   ⟨(st tState [(HL_CTRL.enable, 0, 1)]), 0, by decide⟩,
   ⟨(st tState [(HL_CTRL.enable, 0, 0 % 2)]), 0, by decide⟩⟩

/-- The hypotheses of `LinkLanes`. -/
theorem witness_LinkLanes :
    (∃ (s : State) (x : Nat) (p : List Byte), coreUp s = true ∧ x < 64 ∧ let y := laneGroup s x; okPayload 1 p = true ∧ grpState s y = grpCapx ∧ x ∈ s.image.groupLanes y ∧ (∃ z ∈ s.image.groupLanes y, z ≠ x ∧ KV.get s.feCap z = none)) ∧
    (∃ (s : State) (x : Nat) (p : List Byte), coreUp s = true ∧ x < 64 ∧ let y := laneGroup s x; grpState s y = grpSettle ∧ s.on X.hl_lane_ok x = true ∧ (∃ z ∈ s.image.groupLanes y, z ≠ x ∧ s.on X.hl_lane_ok z = true ∧ s.get X.hl_acked z = 0) ∧ okPayload 4 p = true ∧ ackSetCode p = 0 ∧ ackSetCopies s y p = true) ∧
    (∃ (s : State) (x : Nat) (d : _) (e : _) (t : _), coreUp s = true ∧ x < 64 ∧ let y := laneGroup s x; laneState s x = laneTrain ∧ eyeOk s (eyeHeight d e) (eyeWidth t) = true ∧ s.on HL_HEAD_CFG.suspended (s.image.headOf x) = false ∧ s.on X.hl_was_up x = false ∧ s.on X.hl_redo x = false ∧ grpState s y ≠ grpTrain) ∧
    (∃ (s : State) (x : Nat), coreUp s = true ∧ x < 64 ∧ laneState s x = laneRecover ∧ max (s.get HL_CTRL.attempts) (min 1 (s.get X.hl_fw_retrain x)) ≤ s.get HL_ULANE_STATUS.attempts_used x) ∧
    (∃ (s : State) (x : Nat), coreUp s = true ∧ x < 64 ∧ let y := laneGroup s x; grpState s y = grpActive ∧ laneState s x = laneFailed) ∧
    (∃ (s : State) (x : Nat) (d : _) (e : _) (v : _), coreUp s = true ∧ x < 64 ∧ laneState s x = laneSleep ∧ s.on X.hl_waking x = true ∧ eyeOk s (eyeHeight d e) (eyeWidth v) = true ∧ s.get X.hl_redo x = 0 ∧ s.get HL_HEAD_CFG.susp_cause (s.image.headOf x) ≠ 3 ∧ s.get HL_HEAD_CFG.susp_cause (s.image.headOf x) ≠ 4) ∧
    (∃ (s : State) (x : Nat) (d : _) (e : _) (v : _), coreUp s = true ∧ x < 64 ∧ laneState s x = laneActive ∧ eyeOk s (eyeHeight d e) (eyeWidth v) = true) :=
  ⟨⟨(st tState [(HL_GROUP_STATUS.state, 15, grpCapx)]), 63, (1 :: List.replicate 119 0), by decide⟩,
   ⟨(st tState [(X.hl_lane_ok, 63, 1), (HL_GROUP_STATUS.state, 15, grpSettle), (X.hl_lane_ok, 62, 1)]), 63, ([4, 0] ++ ((setMessage (st tState [(X.hl_lane_ok, 63, 1), (HL_GROUP_STATUS.state, 15, grpSettle), (X.hl_lane_ok, 62, 1)]) 15).drop 1).map (BitVec.ofNat 8) ++ List.replicate 104 0), by decide⟩,
   ⟨(st tState [(HL_ULANE_STATUS.state, 63, laneTrain)]), 63, 255, 0, 0, by decide⟩,
   ⟨(st tState [(HL_ULANE_STATUS.state, 63, laneRecover), (HL_ULANE_STATUS.attempts_used, 63, 3)]), 63, by decide⟩,
   ⟨(st tState [(HL_ULANE_STATUS.state, 63, laneFailed), (HL_GROUP_STATUS.state, 15, grpActive)]), 63, by decide⟩,
   ⟨(st tState [(HL_ULANE_STATUS.state, 63, laneSleep), (X.hl_waking, 63, 1)]), 63, 255, 0, 0, by decide⟩,
   ⟨(st tState [(HL_ULANE_STATUS.state, 63, laneActive)]), 63, 255, 0, 0, by decide⟩⟩

/-- The hypotheses of `LinkDownstream`. -/
theorem witness_LinkDownstream :
    (∃ (s : State) (g : Nat) (c : _), coreUp s = true ∧ g < 16 ∧ (c = 5 ∨ c = 7 ∨ c = 8 ∨ c = 9)) ∧
    (∃ (s : State) (g : Nat), coreUp s = true ∧ g < 16 ∧ s.on X.hl_down_lost g = true ∧ s.on HL_CTRL.auto_retrain = true ∧ s.get HL_GROUP_STATUS.attempts_used g < s.get HL_CTRL.attempts) ∧
    (∃ (s : State) (g : Nat), coreUp s = true ∧ g < 16 ∧ s.on X.hl_down_lost g = true ∧ s.on HL_CTRL.auto_retrain = false) ∧
    (∃ (s : State) (g : Nat) (k : Nat) (m : CtMsg), coreUp s = true ∧ g < 16 ∧ (KV.getD s.ctSent g [])[k]? = some m ∧ m.tries < 4) ∧
    (∃ (s : State) (g : Nat) (k : Nat) (m : CtMsg), coreUp s = true ∧ g < 16 ∧ (KV.getD s.ctSent g [])[k]? = some m ∧ 4 ≤ m.tries ∧ m.fw = true) ∧
    (∃ (s : State) (g : Nat) (k : Nat), coreUp s = true ∧ g < 16 ∧ (KV.getD s.ctSent g [])[k]? = none) ∧
    (∃ (s : State) (g : Nat), coreUp s = true ∧ g < 16 ∧ 32 ≤ ((KV.getD s.ctHeld g []).filter (fun m => m.fw)).length) ∧
    (∃ (s : State) (g : Nat), coreUp s = true ∧ g < 16 ∧ ((KV.getD s.ctHeld g []).filter (fun m => m.fw)).length < 32) :=
  ⟨⟨tState, 15, 5, by decide⟩,
   ⟨(st tState [(X.hl_down_lost, 15, 1), (HL_CTRL.auto_retrain, 0, 1)]), 15, by decide⟩,
   ⟨(st tState [(X.hl_down_lost, 15, 1), (HL_CTRL.auto_retrain, 0, 0)]), 15, by decide⟩,
   ⟨{ tState with ctSent := [(15, [⟨3, 0x20, [], false, 3⟩])] }, 15, 0, ⟨3, 0x20, [], false, 3⟩, by decide⟩,
   ⟨{ tState with ctSent := [(15, [⟨3, 0x20, [], true, 1⟩, ⟨3, 0x20, [], true, 4⟩])] }, 15, 1, ⟨3, 0x20, [], true, 4⟩, by decide⟩,
   ⟨{ tState with ctSent := [(15, [⟨3, 0x20, [], true, 1⟩])] }, 15, 1, by decide⟩,
   ⟨{ tState with ctHeld := [(15, List.replicate 32 ⟨3, 0x20, [], true, 0⟩)] }, 15, by decide⟩,
   ⟨tState, 15, by decide⟩⟩

/-- The hypotheses of `LinkMessages`. -/
theorem witness_LinkMessages :
    (∃ (s : State) (x : Nat) (slot : _) (op : _), coreUp s = true ∧ x < 64 ∧ let y := laneGroup s x; (ctTake y slot op s).1 = none) ∧
    (∃ (s : State) (x : Nat) (slot : _) (op : _) (m : _), coreUp s = true ∧ x < 64 ∧ let y := laneGroup s x; (ctTake y slot op s).1 = some m ∧ m.fw = false) ∧
    (∃ (s : State) (x : Nat) (slot : _) (op : _) (m : CtMsg), coreUp s = true ∧ x < 64 ∧ let y := laneGroup s x; (ctTake y slot op s).1 = some m ∧ m.fw = true) ∧
    (∃ (s : State) (x : Nat) (slot : _), coreUp s = true ∧ x < 64 ∧ let y := laneGroup s x; (ctTake y slot 0x06 s).1 = none) ∧
    (∃ (s : State) (x : Nat) (slot : _) (c : _), coreUp s = true ∧ x < 64 ∧ c < 256 ∧ slot < 16) ∧
    (∃ (s : State) (x : Nat) (h : _) (w : _), coreUp s = true ∧ x < 64 ∧ h < 256 ∧ w < 256) ∧
    (∃ (s : State) (x : Nat) (a : _), coreUp s = true ∧ x < 64 ∧ a < 4 ∧ allOff s a = true) ∧
    (∃ (s : State) (x : Nat) (l : List Int), coreUp s = true ∧ x < 64 ∧ okLevels l = true ∧ laneState s x = laneActive ∧ let p := receiveFrame x l s; crcGood p.1 = true ∧ frameTypeOk (hdrType p.1) = true ∧ (p.2.get X.hl_seq_known x = 0 ∨ hdrSeq p.1 = seqDue p.2 x)) ∧
    (∃ (s : State) (x : Nat) (l : List Int), coreUp s = true ∧ x < 64 ∧ okLevels l = true ∧ laneState s x = laneActive ∧ let p := receiveFrame x l s; (crcGood p.1 = false ∨ frameTypeOk (hdrType p.1) = false ∨ (p.2.get X.hl_seq_known x ≠ 0 ∧ hdrSeq p.1 ≠ seqDue p.2 x))) :=
  ⟨⟨tState, 63, 0, 0, by decide⟩,
   ⟨{ tState with ctSent := [(15, [⟨3, 0x20, [], false, 0⟩])] }, 63, 3, 0x20, ⟨3, 0x20, [], false, 0⟩, by decide⟩,
   ⟨{ tState with ctSent := [(15, [⟨3, 0x20, [], true, 1⟩])] }, 63, 3, 0x20, ⟨3, 0x20, [], true, 1⟩, by decide⟩,
   ⟨tState, 63, 0, by decide⟩,
   ⟨tState, 63, 15, 255, by decide⟩,
   ⟨tState, 63, 255, 255, by decide⟩,
   ⟨tState, 63, 3, by decide⟩,
   ⟨(st tState [(HL_ULANE_STATUS.state, 63, laneActive)]), 63, lineLevels false (scramble 0 (mkFrame 0 [])).1, by decide +kernel⟩,
   ⟨(st tState [(HL_ULANE_STATUS.state, 63, laneActive)]), 63, List.replicate 512 3, by decide +kernel⟩⟩

/-- The hypotheses of `FlumeRequests`. -/
theorem witness_FlumeRequests :
    (∃ (s : State) (q : Nat) (t : Nat) (r : FlumeReq), coreUp s = true ∧ q < 4 ∧ t < 4 ∧ r.handover = false ∧ (slotsBusy s q t).contains (r.head % 16) = true) ∧
    (∃ (s : State) (q : Nat) (t : Nat) (r : FlumeReq), coreUp s = true ∧ q < 4 ∧ t < 4 ∧ r.handover = false ∧ let u := s.clearBitOf X.sq_fref (thrNo q t) (r.head % 16); (slotsBusy s q t).contains (r.head % 16) = false ∧ flumeKept u q t r.head = none ∧ refusalCode u r none true = 0) ∧
    (∃ (s : State) (q : Nat) (t : Nat) (r : FlumeReq), coreUp s = true ∧ q < 4 ∧ t < 4 ∧ r.handover = false ∧ let u := s.clearBitOf X.sq_fref (thrNo q t) (r.head % 16); (slotsBusy s q t).contains (r.head % 16) = false ∧ flumeKept u q t r.head = none ∧ refusalCode u r none true ≠ 0) ∧
    (∃ (s : State) (q : Nat) (t : Nat) (r : FlumeReq) (f : _), coreUp s = true ∧ q < 4 ∧ t < 4 ∧ r.handover = false ∧ let u := s.clearBitOf X.sq_fref (thrNo q t) (r.head % 16); (slotsBusy s q t).contains (r.head % 16) = false ∧ flumeKept u q t r.head = some f ∧ refusalCode u r (some f) true = 0) ∧
    (∃ (s : State) (q : Nat) (t : Nat) (r : FlumeReq) (f : _), coreUp s = true ∧ q < 4 ∧ t < 4 ∧ r.handover = false ∧ let u := s.clearBitOf X.sq_fref (thrNo q t) (r.head % 16); (slotsBusy s q t).contains (r.head % 16) = false ∧ flumeKept u q t r.head = some f ∧ refusalCode u r (some f) true ≠ 0) :=
  ⟨⟨{ tState with flumeReqs := [⟨3, 3, tReq, 0, none⟩] }, 3, 3, tReq, by decide⟩,
   ⟨(st tState [(DP_CAL.word, 16 * (2 * (48 * 63)), 2 ^ 63), (MS_HEAD_SVC.in_service, 63, 1), (DP_FLUME_SVC.mask, 0, 2 ^ 32 - 1), (DP_HEAD_STATE.stale, 63, 0)]), 3, 3, tReq, by decide⟩,
   ⟨tState, 3, 3, tReq, by decide⟩,
   ⟨(st { tState with flumes := [(31, { emptyFlume with cur := some ⟨3, 3, tReq, 1, 0⟩ })] } [(DP_CAL.word, 16 * (2 * (48 * 63)), 2 ^ 63), (MS_HEAD_SVC.in_service, 63, 1), (DP_FLUME_SVC.mask, 0, 2 ^ 32 - 1), (DP_HEAD_STATE.stale, 63, 0)]), 3, 3, tReq, 31, by decide⟩,
   ⟨{ tState with flumes := [(31, { emptyFlume with cur := some ⟨3, 3, tReq, 1, 0⟩ })] }, 3, 3, { tReq with band := 48 }, 31, by decide⟩⟩

/-- The hypotheses of `FlumeGrants`. -/
theorem witness_FlumeGrants :
    (∃ (s : State), coreUp s = true ∧ s.get DP_CTRL.enable = 0) ∧
    (∃ (s : State) (u : _), coreUp s = true ∧ s.get DP_CTRL.enable ≠ 0 ∧ (flumeOrder (flumeRejudge s)).findSome? (fun w => flumeServe w (flumeRejudge s)) = some u) ∧
    (∃ (s : State) (q : _) (t : _) (r : _) (gap : _) (f : _), coreUp s = true ∧ q < 4 ∧ t < 4 ∧ heldFlume s q t = some f ∧ let u := { s with flumeReqs := s.flumeReqs.filter (fun w => !(w.seq == q && w.thr == t && w.req.handover)) }; refusalCode u r (some f) true = 0 ∧ s.get DP_CTRL.min_gap ≤ gap) ∧
    (∃ (s : State) (q : _) (t : _) (r : _) (gap : _) (f : _), coreUp s = true ∧ q < 4 ∧ t < 4 ∧ heldFlume s q t = some f ∧ let u := { s with flumeReqs := s.flumeReqs.filter (fun w => !(w.seq == q && w.thr == t && w.req.handover)) }; refusalCode u r (some f) true = 0 ∧ gap < s.get DP_CTRL.min_gap) ∧
    (∃ (s : State) (q : _) (t : _) (r : _) (f : _), coreUp s = true ∧ q < 4 ∧ t < 4 ∧ heldFlume s q t = some f ∧ let u := { s with flumeReqs := s.flumeReqs.filter (fun w => !(w.seq == q && w.thr == t && w.req.handover)) }; refusalCode u r (some f) true ≠ 0) ∧
    (∃ (s : State) (f : _) (j : _), coreUp s = true ∧ f < 32 ∧ (flumeOf s f).cur = some j ∧ j.req.count ≤ j.next) ∧
    (∃ (s : State) (f : _) (j : _), coreUp s = true ∧ f < 32 ∧ (flumeOf s f).cur = some j ∧ j.next < j.req.count) ∧
    (∃ (s : State) (f : _) (j : _) (gap : _), coreUp s = true ∧ f < 32 ∧ (flumeOf s f).cur = none ∧ (flumeOf s f).incoming = some j ∧ s.get DP_CTRL.min_gap ≤ gap) :=
  ⟨⟨(st tState [(DP_CTRL.enable, 0, 0)]), by decide⟩,
   ⟨tFlume, (((flumeOrder (flumeRejudge tFlume)).findSome? (fun w => flumeServe w (flumeRejudge tFlume))).get (by decide +kernel)), by decide, by decide, (Option.some_get _).symm⟩,
   ⟨(st { tState with flumes := [(31, { emptyFlume with cur := some ⟨3, 3, tReq, 0, 0⟩ })] } [(DP_HEAD_STATE.stale, 62, 0), (DP_FLUME_SVC.mask, 0, 2 ^ 32 - 1), (DP_CAL.word, 16 * (2 * (48 * 62)), 2 ^ 63), (MS_HEAD_SVC.in_service, 62, 1)]), 3, 3, { tReq with head := 62 }, (st tState []).get DP_CTRL.min_gap, 31, by decide⟩,
   ⟨(st { tState with flumes := [(31, { emptyFlume with cur := some ⟨3, 3, tReq, 0, 0⟩ })] } [(DP_HEAD_STATE.stale, 62, 0), (DP_FLUME_SVC.mask, 0, 2 ^ 32 - 1), (DP_CAL.word, 16 * (2 * (48 * 62)), 2 ^ 63), (MS_HEAD_SVC.in_service, 62, 1), (DP_CTRL.min_gap, 0, 1)]), 3, 3, { tReq with head := 62 }, 0, 31, by decide⟩,
   ⟨{ tState with flumes := [(31, { emptyFlume with cur := some ⟨3, 3, tReq, 0, 0⟩ })] }, 3, 3, { tReq with band := 48 }, 31, by decide⟩,
   ⟨{ tState with flumes := [(31, { emptyFlume with cur := some ⟨3, 3, tReq, 1, 0⟩ })] }, 31, ⟨3, 3, tReq, 1, 0⟩, by decide⟩,
   ⟨{ tState with flumes := [(31, { emptyFlume with cur := some ⟨3, 3, tReq, 0, 0⟩ })] }, 31, ⟨3, 3, tReq, 0, 0⟩, by decide⟩,
   ⟨{ tState with flumes := [(31, { emptyFlume with incoming := some ⟨3, 3, tReq, 0, 0⟩ })] }, 31, ⟨3, 3, tReq, 0, 0⟩, tState.get DP_CTRL.min_gap, by decide⟩⟩

/-- The hypotheses of `FlumeSectors`. -/
theorem witness_FlumeSectors :
    (∃ (s : State) (f : Nat) (j : _) (b : _), coreUp s = true ∧ f < 32 ∧ (flumeOf s f).cur = some j ∧ (flumeOf s f).sync = none ∧ j.req.purpose ≠ 1 ∧ j.next < j.req.count ∧ bestMark (syncMarks s j) = some b) ∧
    (∃ (s : State) (f : Nat) (j : _), coreUp s = true ∧ f < 32 ∧ (flumeOf s f).cur = some j ∧ (flumeOf s f).sync = none ∧ j.req.purpose ≠ 1 ∧ j.next < j.req.count ∧ bestMark (syncMarks s j) = none ∧ s.on DP_SYNC.bridge = true) ∧
    (∃ (s : State) (f : Nat) (j : _), coreUp s = true ∧ f < 32 ∧ (flumeOf s f).cur = some j ∧ (flumeOf s f).sync = none ∧ j.req.purpose ≠ 1 ∧ j.next < j.req.count ∧ bestMark (syncMarks s j) = none ∧ s.on DP_SYNC.bridge = false) ∧
    (∃ (s : State) (f : Nat), coreUp s = true ∧ f < 32 ∧ ((flumeOf s f).cur = none ∨ (flumeOf s f).sync ≠ none ∨ (∃ j, (flumeOf s f).cur = some j ∧ (j.req.purpose = 1 ∨ j.req.count ≤ j.next)))) ∧
    (∃ (s : State) (f : Nat) (j : _) (y : _), coreUp s = true ∧ f < 32 ∧ (flumeOf s f).cur = some j ∧ (flumeOf s f).sync = some y ∧ j.req.acc = 0 ∧ adapts s j (syncFinal s j y) = false ∧ (flumeOf s f).dec.length < 2) ∧
    (∃ (s : State) (f : Nat), coreUp s = true ∧ f < 32 ∧ ((flumeOf s f).cur = none ∨ (flumeOf s f).sync = none)) ∧
    (∃ (s : State) (f : Nat) (x : _) (rest : _), coreUp s = true ∧ f < 32 ∧ (flumeOf s f).dec = x :: rest ∧ x.live = false) ∧
    (∃ (s : State) (f : Nat) (x : _) (rest : _), coreUp s = true ∧ f < 32 ∧ (flumeOf s f).dec = x :: rest ∧ let r := x.job.req; x.live = true ∧ r.purpose ≠ 0) ∧
    (∃ (s : State) (f : Nat) (x : _) (rest : _), coreUp s = true ∧ f < 32 ∧ (flumeOf s f).dec = x :: rest ∧ let r := x.job.req; x.live = true ∧ r.purpose = 0) ∧
    (∃ (s : State) (f : Nat), coreUp s = true ∧ f < 32 ∧ (flumeOf s f).dec = []) :=
  ⟨⟨tMark tPattern, 31, ⟨3, 3, tReq, 0, 0⟩, (0, 0), tMark_up _, by decide, rfl, rfl, by decide, by decide, tMark_best⟩,
   ⟨(st { tState with flumes := [(31, { emptyFlume with cur := some ⟨3, 3, tReq, 0, 0⟩ })] } [(DP_SYNC.bridge, 0, 1)]), 31, ⟨3, 3, tReq, 0, 0⟩, by decide⟩,
   ⟨(st { tState with flumes := [(31, { emptyFlume with cur := some ⟨3, 3, tReq, 0, 0⟩ })] } [(DP_SYNC.bridge, 0, 0)]), 31, ⟨3, 3, tReq, 0, 0⟩, by decide⟩,
   ⟨{ tState with flumes := [(31, { emptyFlume with cur := some ⟨3, 3, tReq, 0, 0⟩, sync := some noSync })] }, 31, by decide, by decide, .inr (.inl (by decide))⟩,
   ⟨(st { tState with flumes := [(31, { emptyFlume with cur := some ⟨3, 3, tReq, 0, 0⟩, sync := some noSync })] } [(DP_ADAPT.enable, 0, 0)]), 31, ⟨3, 3, tReq, 0, 0⟩, noSync, by decide⟩,
   ⟨tState, 31, by decide⟩,
   ⟨{ tState with flumes := [(31, { emptyFlume with dec := [⟨⟨3, 3, { tReq with purpose := 0 }, 0, 0⟩, 0, noSync, 0, 0, [], false⟩] })] }, 31, ⟨⟨3, 3, { tReq with purpose := 0 }, 0, 0⟩, 0, noSync, 0, 0, [], false⟩, [], by decide⟩,
   ⟨{ tState with flumes := [(31, { emptyFlume with dec := [⟨⟨3, 3, { tReq with purpose := 2 }, 0, 0⟩, 0, noSync, 0, 0, [], true⟩] })] }, 31, ⟨⟨3, 3, { tReq with purpose := 2 }, 0, 0⟩, 0, noSync, 0, 0, [], true⟩, [], by decide⟩,
   ⟨{ tState with flumes := [(31, { emptyFlume with dec := [⟨⟨3, 3, { tReq with purpose := 0 }, 0, 0⟩, 0, noSync, 0, 0, [], true⟩] })] }, 31, ⟨⟨3, 3, { tReq with purpose := 0 }, 0, 0⟩, 0, noSync, 0, 0, [], true⟩, [], by decide⟩,
   ⟨tState, 31, by decide⟩⟩

/-- The hypotheses of `FlumeControl`. -/
theorem witness_FlumeControl :
    (∃ (s : State) (f : Nat), coreUp s = true ∧ f < 32 ∧ s.get DP_FLUME_STATUS.state f = 1) ∧
    (∃ (s : State) (f : Nat), coreUp s = true ∧ f < 32 ∧ s.get DP_FLUME_STATUS.state f ≠ 1) ∧
    (∃ (s : State) (f : Nat), coreUp s = true ∧ f < 32 ∧ s.get DP_FLUME_STATUS.state f = 5) ∧
    (∃ (s : State) (f : Nat) (j : _), coreUp s = true ∧ f < 32 ∧ (flumeOf s f).cur = some j ∧ j.req.purpose ≠ 1 ∧ (flumeOf s f).incoming = none) ∧
    (∃ (s : State) (f : Nat) (j : _), coreUp s = true ∧ f < 32 ∧ (flumeOf s f).cur = some j ∧ j.req.purpose = 1 ∧ let u := gateOff j.req.head gateAbort s; (flumeOf u f).incoming = none) ∧
    (∃ (s : State) (f : Nat) (j : _) (i : _), coreUp s = true ∧ f < 32 ∧ (flumeOf s f).cur = some j ∧ j.req.purpose ≠ 1 ∧ (flumeOf s f).incoming = some i) :=
  ⟨⟨(st tState [(DP_FLUME_STATUS.state, 31, 1)]), 31, by decide⟩,
   ⟨(st tState [(DP_FLUME_STATUS.state, 31, 0)]), 31, by decide⟩,
   ⟨(st tState [(DP_FLUME_STATUS.state, 31, 5)]), 31, by decide⟩,
   ⟨{ tState with flumes := [(31, { emptyFlume with cur := some ⟨3, 3, tReq, 0, 0⟩ })] }, 31, ⟨3, 3, tReq, 0, 0⟩, by decide⟩,
   ⟨{ tState with flumes := [(31, { emptyFlume with cur := some ⟨3, 3, { tReq with purpose := 1 }, 0, 0⟩ })] }, 31, ⟨3, 3, { tReq with purpose := 1 }, 0, 0⟩, by decide⟩,
   ⟨{ tState with flumes := [(31, { emptyFlume with cur := some ⟨3, 3, tReq, 0, 0⟩, incoming := some ⟨3, 3, tReq, 0, 0⟩ })] }, 31, ⟨3, 3, tReq, 0, 0⟩, ⟨3, 3, tReq, 0, 0⟩, by decide⟩⟩

/-- The hypotheses of `Calibration`. -/
theorem witness_Calibration :
    (∃ (s : State) (h : Nat) (core : _) (a : _) (i : _), coreUp s = true ∧ h < 64 ∧ core < 8 ∧ locateAddr a = some (DP_CAL, i, 0) ∧ a % 8 = 0 ∧ calHeld s (i / 16) = true) ∧
    (∃ (s : State) (h : Nat) (core : _) (a : _) (i : _), coreUp s = true ∧ h < 64 ∧ core < 8 ∧ locateAddr a = some (DP_CAL, i, 0) ∧ a % 8 = 0 ∧ calHeld s (i / 16) = false) :=
  ⟨⟨{ tState with flumes := [(31, { emptyFlume with cur := some ⟨3, 3, { tReq with head := 0 }, 0, 0⟩ })] }, 63, 7, DP_CAL.addr, 0, by decide, by decide, by decide, rfl, by decide, by decide⟩,
   ⟨tState, 63, 7, DP_CAL.addr, 0, by decide, by decide, by decide, rfl, by decide, by decide⟩⟩

/-- The hypotheses of `Keys`. -/
theorem witness_Keys :
    (∃ (s : State) (core : _), coreUp s = true ∧ core < 10 ∧ core ≠ secCore) ∧
    (∃ (s : State), coreUp s = true ∧ let k := s.get WP_XTS_KEY_CTRL.slot; let asked := fun (act : Nat) => (s.set X.key_act 0 act).set X.key_slot 0 k; s.on WP_XTS_KEY_CTRL.busy = false ∧ slotInUse (asked 1) k = true) ∧
    (∃ (s : State), coreUp s = true ∧ let k := s.get WP_XTS_KEY_CTRL.slot; let asked := fun (act : Nat) => (s.set X.key_act 0 act).set X.key_slot 0 k; s.on WP_XTS_KEY_CTRL.busy = false ∧ slotInUse (asked 2) k = true) ∧
    (∃ (s : State), coreUp s = true ∧ let k := s.get WP_XTS_KEY_CTRL.slot; let asked := fun (act : Nat) => (s.set X.key_act 0 act).set X.key_slot 0 k; s.on WP_XTS_KEY_CTRL.busy = false ∧ slotInUse (asked 1) k = false) ∧
    (∃ (s : State), coreUp s = true ∧ let k := s.get WP_XTS_KEY_CTRL.slot; let asked := fun (act : Nat) => (s.set X.key_act 0 act).set X.key_slot 0 k; s.on WP_XTS_KEY_CTRL.busy = false ∧ slotInUse (asked 2) k = false) ∧
    (∃ (s : State), coreUp s = true ∧ s.on WP_XTS_KEY_CTRL.busy = true ∧ slotInUse s (s.get X.key_slot) = false ∧ s.get X.key_act = 1) ∧
    (∃ (s : State), coreUp s = true ∧ s.on WP_XTS_KEY_CTRL.busy = true ∧ slotInUse s (s.get X.key_slot) = false ∧ s.get X.key_act = 2) ∧
    (∃ (s : State), coreUp s = true ∧ s.on WP_XTS_KEY_CTRL.busy = true ∧ slotInUse s (s.get X.key_slot) = true) :=
  ⟨⟨tState, 9, by decide⟩,
   ⟨{ tState with wdata := [⟨1, some 0, 0, []⟩] }, by decide⟩,
   ⟨{ tState with wdata := [⟨1, some 0, 0, []⟩] }, by decide⟩,
   ⟨(st tState [(WP_XTS_KEY_CTRL.busy, 0, 0)]), by decide⟩,
   ⟨(st tState [(WP_XTS_KEY_CTRL.busy, 0, 0)]), by decide⟩,
   ⟨(st tState [(WP_XTS_KEY_CTRL.busy, 0, 1), (X.key_act, 0, 1)]), by decide⟩,
   ⟨(st tState [(WP_XTS_KEY_CTRL.busy, 0, 1), (X.key_act, 0, 2)]), by decide⟩,
   ⟨(st { tState with wdata := [⟨1, some 0, 0, []⟩] } [(WP_XTS_KEY_CTRL.busy, 0, 1)]), by decide⟩⟩

/-- The hypotheses of `WriteRuns`. -/
theorem witness_WriteRuns :
    (∃ (s : State) (h : Nat), coreUp s = true ∧ h < 64 ∧ KV.get s.wruns h = none) ∧
    (∃ (s : State) (h : Nat) (r : WRun), coreUp s = true ∧ h < 64 ∧ KV.get s.wruns h = some r ∧ writing s h = false ∧ s.on X.wp_ended h = false ∧ gateOk s h r = true ∧ needsSet s h r.band = false ∧ tempsOk s h = true) ∧
    (∃ (s : State) (h : Nat) (r : WRun), coreUp s = true ∧ h < 64 ∧ KV.get s.wruns h = some r ∧ writing s h = false ∧ s.on X.wp_ended h = false ∧ gateOk s h r = true ∧ needsSet s h r.band = false ∧ tempsOk s h = false) ∧
    (∃ (s : State) (h : Nat) (r : WRun), coreUp s = true ∧ h < 64 ∧ KV.get s.wruns h = some r ∧ (writing s h = true ∨ s.on X.wp_ended h = true)) ∧
    (∃ (s : State) (h : Nat), coreUp s = true ∧ h < 64 ∧ s.on WP_SHOCK.enable = true) ∧
    (∃ (s : State) (h : Nat), coreUp s = true ∧ h < 64 ∧ s.on WP_SHOCK.enable = false) ∧
    (∃ (s : State) (h : Nat) (r : _), coreUp s = true ∧ h < 64 ∧ KV.get s.wruns h = some r ∧ r.opened = true) ∧
    (∃ (s : State) (h : Nat) (r : _) (m : _), coreUp s = true ∧ h < 64 ∧ KV.get s.wruns h = some r ∧ r.marks = 0 :: m) ∧
    (∃ (s : State) (h : Nat) (k : Nat) (u : RewriteUnit), coreUp s = true ∧ h < 64 ∧ s.rewrites[k]? = some u ∧ u.out = false ∧ partDispatched s u.zone = false ∧ s.get WP_REWRITE.max ≤ u.tries) ∧
    (∃ (s : State) (h : Nat) (k : Nat) (u : RewriteUnit), coreUp s = true ∧ h < 64 ∧ s.rewrites[k]? = some u ∧ u.out = false ∧ partDispatched s u.zone = false ∧ u.tries < s.get WP_REWRITE.max) ∧
    (∃ (s : State) (h : Nat) (k : Nat) (u : RewriteUnit), coreUp s = true ∧ h < 64 ∧ s.rewrites[k]? = some u ∧ (u.out = true ∨ partDispatched s u.zone = true)) ∧
    (∃ (s : State) (h : Nat) (k : Nat), coreUp s = true ∧ h < 64 ∧ s.rewrites[k]? = none) :=
  ⟨⟨tState, 63, by decide⟩,
   ⟨(st { tState with img := some { tImg with ports := [{ kind := 3, first := 0, count := 1, group := 0, peak := 0, flags := 0 }] }, wruns := [(0, ⟨0, 0, 0, 0, 1, true, 0, 0, []⟩)], hgGrants := [⟨0, 1, [], 0, 0, false⟩], sqOps := [(0, { (default : MsOp) with count := 1 })], flumes := [(31, { emptyFlume with cur := some ⟨0, 0, { tReq with head := 0, purpose := 1 }, 0, 0⟩ })] } [(WP_CTRL.enable, 0, 1), (HL_ULANE_STATUS.state, 0, laneActive), (HL_GROUP_STATUS.state, 0, grpActive), (X.hl_resumed, 0, 1), (MS_HEAD_SVC.in_service, 0, 1), (DP_HEAD_STATE.stale, 0, 0), (X.sv_clean, 0, 255), (WP_HEAD_STATE.unsent, 0, 0)]), 0, ⟨0, 0, 0, 0, 1, true, 0, 0, []⟩, by decide⟩,
   ⟨(st { tState with img := some { tImg with ports := [{ kind := 3, first := 0, count := 1, group := 0, peak := 0, flags := 0 }] }, wruns := [(0, ⟨0, 0, 0, 0, 1, true, 0, 0, []⟩)], hgGrants := [⟨0, 1, [], 0, 0, false⟩], sqOps := [(0, { (default : MsOp) with count := 1 })], flumes := [(31, { emptyFlume with cur := some ⟨0, 0, { tReq with head := 0, purpose := 1 }, 0, 0⟩ })] } [(WP_CTRL.enable, 0, 1), (HL_ULANE_STATUS.state, 0, laneActive), (HL_GROUP_STATUS.state, 0, grpActive), (X.hl_resumed, 0, 1), (MS_HEAD_SVC.in_service, 0, 1), (DP_HEAD_STATE.stale, 0, 0), (X.sv_clean, 0, 255), (WP_HEAD_STATE.unsent, 0, 0), (TH_STATUS.air_out, 0, 1)]), 0, ⟨0, 0, 0, 0, 1, true, 0, 0, []⟩, by decide⟩,
   ⟨(st { tState with wruns := [(63, ⟨0, 0, 0, 0, 1, true, 0, 0, []⟩)] } [(X.wp_ended, 63, 1)]), 63, ⟨0, 0, 0, 0, 1, true, 0, 0, []⟩, by decide⟩,
   ⟨(st tState [(WP_SHOCK.enable, 0, 1)]), 63, by decide⟩,
   ⟨(st tState [(WP_SHOCK.enable, 0, 0)]), 63, by decide⟩,
   ⟨{ tState with wruns := [(63, ⟨3, 3, 0, 0, 1, true, 0, 0, [0]⟩)] }, 63, ⟨3, 3, 0, 0, 1, true, 0, 0, [0]⟩, by decide⟩,
   ⟨{ tState with wruns := [(63, ⟨3, 3, 0, 0, 1, true, 0, 0, [0]⟩)] }, 63, ⟨3, 3, 0, 0, 1, true, 0, 0, [0]⟩, [], by decide⟩,
   ⟨{ tState with rewrites := [⟨0, 0, 0, 1, 0, 15, 0, false⟩] }, 63, 0, ⟨0, 0, 0, 1, 0, 15, 0, false⟩, by decide⟩,
   ⟨{ tState with rewrites := [⟨0, 0, 0, 1, 0, 0, 0, false⟩] }, 63, 0, ⟨0, 0, 0, 1, 0, 0, 0, false⟩, by decide⟩,
   ⟨{ tState with rewrites := [⟨0, 0, 0, 1, 0, 0, 0, true⟩] }, 63, 0, ⟨0, 0, 0, 1, 0, 0, 0, true⟩, by decide⟩,
   ⟨tState, 63, 0, by decide⟩⟩

/-- The hypotheses of `ServoWedges`. -/
theorem witness_ServoWedges :
    (∃ (s : State) (a : Nat) (h : _) (fa : ServoField) (fb : ServoField), coreUp s = true ∧ a < 4 ∧ h < 64 ∧ fa.code < 2 ^ 44 ∧ fb.code < 2 ^ 44 ∧ s.image.populated h = false) ∧
    (∃ (s : State) (a : Nat) (h : _) (fa : ServoField) (fb : ServoField), coreUp s = true ∧ a < 4 ∧ h < 64 ∧ fa.code < 2 ^ 44 ∧ fb.code < 2 ^ 44 ∧ let f := demodField s h fa fb; s.image.populated h = true ∧ samFound s h f = false) ∧
    (∃ (s : State) (a : Nat) (h : _) (fa : ServoField) (fb : ServoField), coreUp s = true ∧ a < 4 ∧ h < 64 ∧ fa.code < 2 ^ 44 ∧ fb.code < 2 ^ 44 ∧ let f := demodField s h fa fb; s.image.populated h = true ∧ samFound s h f = true ∧ fieldCause s h f ≠ 0) ∧
    (∃ (s : State) (a : Nat) (h : _) (fa : ServoField) (fb : ServoField), coreUp s = true ∧ a < 4 ∧ h < 64 ∧ fa.code < 2 ^ 44 ∧ fb.code < 2 ^ 44 ∧ let f := demodField s h fa fb; s.image.populated h = true ∧ samFound s h f = true ∧ fieldCause s h f = 0) ∧
    (∃ (s : State) (a : Nat), coreUp s = true ∧ a < 4 ∧ s.image.hasAct a = true ∧ gated s = false) ∧
    (∃ (s : State) (a : Nat), coreUp s = true ∧ a < 4 ∧ (s.image.hasAct a = false ∨ gated s = true)) ∧
    (∃ (s : State) (a : Nat) (e : _), coreUp s = true ∧ a < 4 ∧ e < 8 ∧ engineUp s e = true ∧ e % 2 = 0) ∧
    (∃ (s : State) (a : Nat) (e : _), coreUp s = true ∧ a < 4 ∧ e < 8 ∧ engineUp s e = true ∧ e % 2 = 1) ∧
    (∃ (s : State) (a : Nat) (e : _), coreUp s = true ∧ a < 4 ∧ e < 8 ∧ engineUp s e = false) ∧
    (∃ (s : State) (a : Nat), coreUp s = true ∧ a < 4 ∧ s.image.hasAct a = true ∧ s.get SV_RED_STATUS.state a ≠ 2) :=
  ⟨⟨{ tState with img := none }, 3, 63, ⟨0, 0xE4 * 2 ^ 36 + 1 * 2 ^ 26, 256, 0, false⟩, ⟨0, 0xE4 * 2 ^ 36 + 1 * 2 ^ 26, 256, 0, false⟩, by decide⟩,
   ⟨tState, 3, 63, ⟨0, 0, 0, 0, false⟩, ⟨0, 0xE4 * 2 ^ 36 + 1 * 2 ^ 26, 256, 0, false⟩, by decide⟩,
   ⟨(st tState [(HL_ULANE_STATUS.state, 63, 2), (SV_DEMOD.freeze_wedges, 3, 7), (SV_DEMOD.jump_max, 3, 65535), (X.hl_clk, 63, 4000000)]), 3, 63, ⟨0, 0xE4 * 2 ^ 36 + 2 * 2 ^ 26, 256, 0, false⟩, ⟨0, 0xE4 * 2 ^ 36 + 1 * 2 ^ 26, 256, 0, false⟩, by decide⟩,
   ⟨(st tState [(X.hl_clk, 63, 4000000), (HL_ULANE_STATUS.state, 63, 2), (SV_DEMOD.freeze_wedges, 3, 7), (SV_DEMOD.jump_max, 3, 65535)]), 3, 63, ⟨0, 0xE4 * 2 ^ 36 + 1 * 2 ^ 26, 256, 0, false⟩, ⟨0, 0xE4 * 2 ^ 36 + 1 * 2 ^ 26, 256, 0, false⟩, by decide⟩,
   ⟨tState, 3, by decide⟩,
   ⟨(st tState [(X.pwr_level, 0, 7)]), 3, by decide⟩,
   ⟨(st tState [(SV_RED_SVC.mask, 3, 3)]), 3, 6, by decide⟩,
   ⟨(st tState [(SV_RED_SVC.mask, 3, 3)]), 3, 7, by decide⟩,
   ⟨tState, 3, 7, by decide⟩,
   ⟨tState, 3, by decide⟩⟩

/-- The hypotheses of `ServoMoves`. -/
theorem witness_ServoMoves :
    (∃ (s : State) (a : Nat) (v : _), coreUp s = true ∧ a < 4 ∧ (maxPosition ≤ v % 2 ^ 32 ∨ svBarred s a = true ∨ ¬ (svState s a = svSeeking ∨ svState s a = svSettling ∨ svState s a = svTracking))) ∧
    (∃ (s : State) (a : Nat) (v : _), coreUp s = true ∧ a < 4 ∧ v % 2 ^ 32 < maxPosition ∧ svBarred s a = false ∧ svState s a = svTracking) ∧
    (∃ (s : State) (a : Nat), coreUp s = true ∧ a < 4 ∧ s.image.hasAct a = true ∧ svState s a ≠ svAcquiring) ∧
    (∃ (s : State) (a : Nat), coreUp s = true ∧ a < 4 ∧ s.image.hasAct a = true ∧ s.get MP_PARK_STATUS.latch ≠ 0 ∧ svState s a = svAcquiring) ∧
    (∃ (s : State) (a : Nat), coreUp s = true ∧ a < 4 ∧ svState s a = svParked) ∧
    (∃ (s : State) (a : Nat), coreUp s = true ∧ a < 4 ∧ s.on X.sv_plan_req a = true ∧ (combPlan s a (s.get X.sv_plan_desc a)).length ≤ 1) ∧
    (∃ (s : State) (a : Nat), coreUp s = true ∧ a < 4 ∧ s.on X.sv_plan_req a = true ∧ 1 < (combPlan s a (s.get X.sv_plan_desc a)).length) :=
  ⟨⟨tState, 3, maxPosition, by decide⟩,
   ⟨(st tState [(SV_STATUS.state, 3, svTracking), (SV_SEEK_LIM.j_max, 3, 1), (SV_SEEK_LIM.a_max, 3, 1), (SV_SEEK_LIM.v_max, 3, 1), (SV_GEOM.pitch_pm, 3, 1)]), 3, maxPosition - 1, by decide⟩,
   ⟨tState, 3, by decide⟩,
   ⟨(st tState [(MP_PARK_STATUS.latch, 0, 1), (SV_STATUS.state, 3, svAcquiring)]), 3, by decide⟩,
   ⟨(st tState [(SV_STATUS.state, 3, svParked)]), 3, by decide⟩,
   ⟨(st tState [(X.sv_plan_req, 3, 1)]), 3, by decide⟩,
   ⟨(st tState [(X.sv_plan_req, 3, 1), (SV_GEOM.pitch_pm, 3, 100000), (X.sv_rofs, 48, 60000), (X.sv_plan_desc, 3, 3)]), 3, by decide⟩⟩

/-- The hypotheses of `ServoTools`. -/
theorem witness_ServoTools :
    (∃ (s : State) (a : Nat), coreUp s = true ∧ a < 4 ∧ s.get SV_TRACE_STATUS.state a = 1 ∧ s.get SV_TRACE_CTRL.post a = 0) ∧
    (∃ (s : State) (a : Nat), coreUp s = true ∧ a < 4 ∧ s.get SV_TRACE_STATUS.state a = 1 ∧ s.get SV_TRACE_CTRL.post a ≠ 0) ∧
    (∃ (s : State) (a : Nat), coreUp s = true ∧ a < 4 ∧ s.get SV_TRACE_STATUS.state a ≠ 1) ∧
    (∃ (s : State) (a : Nat), coreUp s = true ∧ a < 4 ∧ s.get SV_TRACE_STATUS.state a ≠ 3) ∧
    (∃ (s : State) (a : Nat), coreUp s = true ∧ a < 4 ∧ s.get SV_TRACE_STATUS.state a = 3) ∧
    (∃ (s : State) (a : Nat), coreUp s = true ∧ a < 4 ∧ injNodeOk (s.get SV_INJ_CTRL.node a) = false) ∧
    (∃ (s : State) (a : Nat), coreUp s = true ∧ a < 4 ∧ injNodeOk (s.get SV_INJ_CTRL.node a) = true ∧ s.get SV_TRACE_CTRL.trigger a ≠ 6) ∧
    (∃ (s : State) (a : Nat), coreUp s = true ∧ a < 4 ∧ s.on X.sv_inj a = true ∧ s.get SV_INJ_CTRL.length a ≤ s.get X.sv_inj_n a) ∧
    (∃ (s : State) (a : Nat), coreUp s = true ∧ a < 4 ∧ s.get SV_RED_STATUS.state a ≠ 0) ∧
    (∃ (s : State) (a : Nat), coreUp s = true ∧ a < 4 ∧ s.get SV_RED_STATUS.state a = 0 ∧ svState s a ≠ svOff ∧ svState s a ≠ svParked ∧ s.on SV_RED_STATUS.swap_pending a = false ∧ s.on X.sv_swap_check a = false) ∧
    (∃ (s : State) (a : Nat), coreUp s = true ∧ a < 4 ∧ s.on SV_RED_STATUS.swap_pending a = true) :=
  ⟨⟨(st tState [(SV_TRACE_STATUS.state, 3, 1), (SV_TRACE_CTRL.post, 3, 0)]), 3, by decide⟩,
   ⟨(st tState [(SV_TRACE_STATUS.state, 3, 1), (SV_TRACE_CTRL.post, 3, 1)]), 3, by decide⟩,
   ⟨(st tState [(SV_TRACE_STATUS.state, 3, 0)]), 3, by decide⟩,
   ⟨tState, 3, by decide⟩,
   ⟨(st tState [(SV_TRACE_STATUS.state, 3, 3)]), 3, by decide⟩,
   ⟨tState, 3, by decide⟩,
   ⟨(st tState [(SV_INJ_CTRL.node, 3, 80)]), 3, by decide⟩,
   ⟨(st tState [(X.sv_inj, 3, 1)]), 3, by decide⟩,
   ⟨(st tState [(SV_RED_STATUS.state, 3, 1)]), 3, by decide⟩,
   ⟨(st tState [(SV_RED_STATUS.state, 3, 0), (SV_RED_STATUS.swap_pending, 3, 0), (X.sv_swap_check, 3, 0), (SV_STATUS.state, 3, svTracking)]), 3, by decide⟩,
   ⟨(st tState [(SV_RED_STATUS.swap_pending, 3, 1)]), 3, by decide⟩⟩

/-- The hypotheses of `SpindleControl`. -/
theorem witness_SpindleControl :
    (∃ (s : State) (v : _), coreUp s = true ∧ s.on MC_CTRL.enable = true ∧ v % 2 = 1 ∧ v / 2 % 8 = 0) ∧
    (∃ (s : State) (v : _), coreUp s = true ∧ s.on MC_CTRL.enable = true ∧ v % 2 = 0 ∧ v / 2 % 8 = 0) ∧
    (∃ (s : State), coreUp s = true ∧ s.get MP_PARK_STATUS.latch ≠ 0) ∧
    (∃ (s : State), coreUp s = true ∧ s.get MP_PARK_STATUS.latch = 0) ∧
    (∃ (s : State), coreUp s = true ∧ spin s = spStopped) ∧
    (∃ (s : State), coreUp s = true ∧ spin s ≠ spStopped) ∧
    (∃ (s : State), coreUp s = true ∧ spin s = spCatch ∧ s.get X.spin_cross < 3) ∧
    (∃ (s : State), coreUp s = true ∧ spin s = spAlign) ∧
    (∃ (s : State), coreUp s = true ∧ spin s = spRamp ∧ s.get X.spin_tries < s.get MC_SPIN_START.start_tries) ∧
    (∃ (s : State), coreUp s = true ∧ spin s = spRamp ∧ s.get MC_SPIN_START.start_tries ≤ s.get X.spin_tries) ∧
    (∃ (s : State), coreUp s = true ∧ spin s = spRundown) ∧
    (∃ (s : State), coreUp s = true ∧ spin s = spBrake ∧ s.on X.spin_hold = true) ∧
    (∃ (s : State), coreUp s = true ∧ spin s = spCoast ∧ s.get X.spin_known = 0) ∧
    (∃ (s : State), coreUp s = true ∧ s.get MP_PARK_STATUS.latch ≠ 0) ∧
    (∃ (s : State), coreUp s = true ∧ s.get MP_PARK_STATUS.latch = 0) :=
  ⟨⟨(st tState [(MC_CTRL.enable, 0, 1)]), 1, by decide⟩,
   ⟨(st tState [(MC_CTRL.enable, 0, 1)]), 0, by decide⟩,
   ⟨(st tState [(MP_PARK_STATUS.latch, 0, 1)]), by decide⟩,
   ⟨(st tState [(MP_PARK_STATUS.latch, 0, 0)]), by decide⟩,
   ⟨(st tState [(MC_SPIN_STATUS.state, 0, spStopped)]), by decide⟩,
   ⟨(st tState [(MC_SPIN_STATUS.state, 0, spBrake)]), by decide⟩,
   ⟨(st tState [(MC_SPIN_STATUS.state, 0, spCatch)]), by decide⟩,
   ⟨(st tState [(MC_SPIN_STATUS.state, 0, spAlign)]), by decide⟩,
   ⟨(st tState [(MC_SPIN_STATUS.state, 0, spRamp)]), by decide⟩,
   ⟨(st tState [(MC_SPIN_STATUS.state, 0, spRamp), (X.spin_tries, 0, 15)]), by decide⟩,
   ⟨(st tState [(MC_SPIN_STATUS.state, 0, spRundown)]), by decide⟩,
   ⟨(st tState [(MC_SPIN_STATUS.state, 0, spBrake), (X.spin_hold, 0, 1)]), by decide⟩,
   ⟨(st tState [(MC_SPIN_STATUS.state, 0, spCoast), (X.spin_known, 0, 0)]), by decide⟩,
   ⟨(st tState [(MP_PARK_STATUS.latch, 0, 1)]), by decide⟩,
   ⟨(st tState [(MP_PARK_STATUS.latch, 0, 0)]), by decide⟩⟩

/-- The hypotheses of `SpindleSensing`. -/
theorem witness_SpindleSensing :
    (∃ (s : State), coreUp s = true ∧ spin s = spCatch) ∧
    (∃ (s : State), coreUp s = true ∧ spin s = spRamp ∧ s.get X.spin_cross < 5) ∧
    (∃ (s : State), coreUp s = true ∧ (spin s = spRundown ∨ spin s = spBrake)) ∧
    (∃ (s : State), coreUp s = true ∧ (spin s = spStopped ∨ spin s = spAlign)) ∧
    (∃ (s : State), coreUp s = true ∧ (spin s = spStopped ∨ spin s = spCoast)) ∧
    (∃ (s : State), coreUp s = true ∧ spin s = spSixStep) ∧
    (∃ (s : State), coreUp s = true ∧ (spin s = spSixStep ∨ spin s = spSine)) ∧
    (∃ (s : State), coreUp s = true ∧ spin s = spBrake) :=
  ⟨⟨(st tState [(MC_SPIN_STATUS.state, 0, spCatch)]), by decide⟩,
   ⟨(st tState [(MC_SPIN_STATUS.state, 0, spRamp)]), by decide⟩,
   ⟨(st tState [(MC_SPIN_STATUS.state, 0, spRundown)]), by decide⟩,
   ⟨(st tState [(MC_SPIN_STATUS.state, 0, spStopped)]), by decide⟩,
   ⟨(st tState [(MC_SPIN_STATUS.state, 0, spStopped)]), by decide⟩,
   ⟨(st tState [(MC_SPIN_STATUS.state, 0, spSixStep)]), by decide⟩,
   ⟨(st tState [(MC_SPIN_STATUS.state, 0, spSixStep)]), by decide⟩,
   ⟨(st tState [(MC_SPIN_STATUS.state, 0, spBrake)]), by decide⟩⟩

/-- The hypotheses of `MotorFaults`. -/
theorem witness_MotorFaults :
    (∃ (s : State) (a : Nat), coreUp s = true ∧ a < 4 ∧ spinDriven s = false) ∧
    (∃ (s : State) (a : Nat), coreUp s = true ∧ a < 4 ∧ spinDriven s = true) ∧
    (∃ (s : State) (a : Nat), coreUp s = true ∧ a < 4 ∧ s.on X.vcm_flt a = true ∧ s.get X.act_lost a ≠ 1 ∧ s.get X.vcm_phase a < 2 ∧ armOut s a = false) ∧
    (∃ (s : State) (a : Nat), coreUp s = true ∧ a < 4 ∧ s.on X.vcm_flt a = false) ∧
    (∃ (s : State) (a : Nat), coreUp s = true ∧ a < 4 ∧ s.on X.brk_en = true) ∧
    (∃ (s : State) (a : Nat), coreUp s = true ∧ a < 4 ∧ s.on X.brk_en = false ∧ spin s ≠ spBrake) ∧
    (∃ (s : State) (a : Nat) (v : _), coreUp s = true ∧ a < 4 ∧ 4000 ≤ v ∧ v ≤ s.get MC_BUS.brk_off) ∧
    (∃ (s : State) (a : Nat), coreUp s = true ∧ a < 4 ∧ s.get X.vcm_phase a ≠ 3) ∧
    (∃ (s : State) (a : Nat), coreUp s = true ∧ a < 4 ∧ s.get X.vcm_phase a = 3) ∧
    (∃ (s : State) (a : Nat), coreUp s = true ∧ a < 4 ∧ (s.get MC_VCM_STATUS.mode a = 0 ∨ s.get MC_VCM_STATUS.mode a = 4)) ∧
    (∃ (s : State) (a : Nat), coreUp s = true ∧ a < 4 ∧ s.get MC_VCM_STATUS.mode a = 1) ∧
    (∃ (s : State) (a : Nat), coreUp s = true ∧ a < 4 ∧ s.get MC_VCM_STATUS.mode a = 3 ∧ s.get MC_VCM_CFG.fs_ma a ≠ 0) ∧
    (∃ (s : State) (a : Nat), coreUp s = true ∧ a < 4 ∧ s.get MC_VCM_STATUS.mode a = 2 ∧ s.get MC_VCM_CFG.fs_ma a ≠ 0 ∧ s.get X.vcm_phase a = 2 ∧ (s.get MC_VCM_RET.ret_vel a = 0 ∨ s.get MC_VCM_CAL.kb a = 0)) ∧
    (∃ (s : State) (a : Nat) (v : _), coreUp s = true ∧ a < 4 ∧ 4000 ≤ v ∧ s.get MC_BUS.brk_off < v ∧ s.get MC_BUS.brk_on ≤ v ∧ spin s = spBrake ∧ s.get X.chop_fault = 0) :=
  ⟨⟨tState, 3, by decide⟩,
   ⟨(st tState [(MC_SPIN_STATUS.state, 0, spBrake)]), 3, by decide⟩,
   ⟨(st tState [(X.vcm_flt, 3, 1), (X.act_lost, 3, 0)]), 3, by decide⟩,
   ⟨(st tState [(X.vcm_flt, 3, 0)]), 3, by decide⟩,
   ⟨(st tState [(X.brk_en, 0, 1)]), 3, by decide⟩,
   ⟨(st tState [(X.brk_en, 0, 0)]), 3, by decide⟩,
   ⟨tState, 3, 4000, by decide⟩,
   ⟨tState, 3, by decide⟩,
   ⟨(st tState [(X.vcm_phase, 3, 3)]), 3, by decide⟩,
   ⟨(st tState [(MC_VCM_STATUS.mode, 3, 0)]), 3, by decide⟩,
   ⟨(st tState [(MC_VCM_STATUS.mode, 3, 1)]), 3, by decide⟩,
   ⟨(st tState [(MC_VCM_STATUS.mode, 3, 3), (MC_VCM_CFG.fs_ma, 3, 1)]), 3, by decide⟩,
   ⟨(st tState [(MC_VCM_STATUS.mode, 3, 2), (MC_VCM_CFG.fs_ma, 3, 1), (X.vcm_phase, 3, 2), (MC_VCM_RET.ret_vel, 3, 0)]), 3, by decide⟩,
   ⟨(st tState [(MC_SPIN_STATUS.state, 0, spBrake)]), 3, 65535, by decide⟩⟩

/-- The hypotheses of `ComputeWords`. -/
theorem witness_ComputeWords :
    (∃ (s : State) (q : Nat) (t : Nat), Issues 0x00 q t s) ∧
    (∃ (s : State) (q : Nat) (t : Nat), Issues 0x01 q t s) ∧
    (∃ (s : State) (q : Nat) (t : Nat), Issues 0x02 q t s) ∧
    (∃ (s : State) (q : Nat) (t : Nat), Issues 0x03 q t s) ∧
    (∃ (s : State) (q : Nat) (t : Nat), Issues 0x04 q t s) ∧
    (∃ (s : State) (q : Nat) (t : Nat), Issues 0x05 q t s) ∧
    (∃ (s : State) (q : Nat) (t : Nat), Issues 0x06 q t s) ∧
    (∃ (s : State) (q : Nat) (t : Nat), Issues 0x07 q t s) ∧
    (∃ (s : State) (q : Nat) (t : Nat), Issues 0x08 q t s) ∧
    (∃ (s : State) (q : Nat) (t : Nat), let w := wordOf s q t; Issues 0x09 q t s ∧ w.cond = 0) ∧
    (∃ (s : State) (q : Nat) (t : Nat), let w := wordOf s q t; let k := thrNo q t; let d := s.get X.sq_depth k; Issues 0x0A q t s ∧ w.cond = 0 ∧ w.inv = false ∧ d < 4) ∧
    (∃ (s : State) (q : Nat) (t : Nat), let w := wordOf s q t; let k := thrNo q t; let d := s.get X.sq_depth k; Issues 0x0A q t s ∧ w.cond = 0 ∧ w.inv = false ∧ 4 ≤ d) ∧
    (∃ (s : State) (q : Nat) (t : Nat), let w := wordOf s q t; let k := thrNo q t; let d := s.get X.sq_depth k; Issues 0x0B q t s ∧ w.cond = 0 ∧ w.inv = false ∧ 0 < d) ∧
    (∃ (s : State) (q : Nat) (t : Nat), let w := wordOf s q t; let k := thrNo q t; let d := s.get X.sq_depth k; Issues 0x0B q t s ∧ w.cond = 0 ∧ w.inv = false ∧ d = 0) ∧
    (∃ (s : State) (q : Nat) (t : Nat), let w := wordOf s q t; Issues 0x0C q t s ∧ w.ra ≠ 14) ∧
    (∃ (s : State) (q : Nat) (t : Nat), let w := wordOf s q t; Issues 0x0C q t s ∧ w.ra = 14) :=
  ⟨⟨(tWord 3 3 0x00 (0) (0) tState), 3, 3, issues_of (by decide)⟩,
   ⟨(tWord 3 3 0x01 (0) (0) tState), 3, 3, issues_of (by decide)⟩,
   ⟨(tWord 3 3 0x02 (0) (0) tState), 3, 3, issues_of (by decide)⟩,
   ⟨(tWord 3 3 0x03 (0) (0) tState), 3, 3, issues_of (by decide)⟩,
   ⟨(tWord 3 3 0x04 (0) (0) tState), 3, 3, issues_of (by decide)⟩,
   ⟨(tWord 3 3 0x05 (0) (0) tState), 3, 3, issues_of (by decide)⟩,
   ⟨(tWord 3 3 0x06 (0) (0) tState), 3, 3, issues_of (by decide)⟩,
   ⟨(tWord 3 3 0x07 (0) (0) tState), 3, 3, issues_of (by decide)⟩,
   ⟨(tWord 3 3 0x08 (0) (0) tState), 3, 3, issues_of (by decide)⟩,
   ⟨(tWord 3 3 0x09 (0) (0) tState), 3, 3, issues_of (by decide), by decide⟩,
   ⟨(tWord 3 3 0x0A (0) (0) tState), 3, 3, issues_of (by decide), by decide⟩,
   ⟨(tWord 3 3 0x0A (0) (0) (st tState [(X.sq_depth, 15, 4)])), 3, 3, issues_of (by decide), by decide⟩,
   ⟨(tWord 3 3 0x0B (0) (0) (st tState [(X.sq_depth, 15, 1)])), 3, 3, issues_of (by decide), by decide⟩,
   ⟨(tWord 3 3 0x0B (0) (0) tState), 3, 3, issues_of (by decide), by decide⟩,
   ⟨(tWord 3 3 0x0C (0) (0) tState), 3, 3, issues_of (by decide), by decide⟩,
   ⟨(tWord 3 3 0x0C (14 * 2 ^ 28) (0) tState), 3, 3, issues_of (by decide), by decide⟩⟩

/-- The hypotheses of `WaitWords`. -/
theorem witness_WaitWords :
    (∃ (s : State) (q : Nat) (t : Nat), let w := wordOf s q t; Issues 0x0D q t s ∧ wordCond (issued s q t) q t w = true) ∧
    (∃ (s : State) (q : Nat) (t : Nat), let w := wordOf s q t; Issues 0x0D q t s ∧ wordCond (issued s q t) q t w = false) ∧
    (∃ (s : State) (q : Nat) (t : Nat), let k := thrNo q t; Issues 0x0E q t s ∧ KV.get s.sqArrive k = none) ∧
    (∃ (s : State) (q : Nat) (t : Nat) (o : _), let k := thrNo q t; Issues 0x0E q t s ∧ KV.get s.sqArrive k = some o) ∧
    (∃ (s : State) (q : Nat) (t : Nat), let w := wordOf s q t; let k := thrNo q t; coreUp s = true ∧ q < 4 ∧ t < 4 ∧ s.get SQ_THR_STATE.state k = thWaiting ∧ gated s = false ∧ interrupted q t w s = none ∧ w.op ≠ 0x0E ∧ wordCond s q t w = true) ∧
    (∃ (s : State) (q : Nat) (t : Nat), let w := wordOf s q t; let k := thrNo q t; coreUp s = true ∧ q < 4 ∧ t < 4 ∧ s.get SQ_THR_STATE.state k = thWaiting ∧ gated s = false ∧ interrupted q t w s = none ∧ w.timeout ≠ 0) ∧
    (∃ (s : State) (q : Nat) (t : Nat), Issues 0x0F q t s ∧ holdsAny (issued s q t) q t = false) ∧
    (∃ (s : State) (q : Nat) (t : Nat), let w := wordOf s q t; Issues 0x10 q t s ∧ w.imm % 16 ≠ 1) ∧
    (∃ (s : State) (q : Nat) (t : Nat), let w := wordOf s q t; Issues 0x10 q t s ∧ w.imm % 16 = 1) ∧
    (∃ (s : State) (q : Nat) (t : Nat), Issues 0x11 q t s) :=
  ⟨⟨(tWord 3 3 0x0D (0) (0) tState), 3, 3, issues_of (by decide), by decide⟩,
   ⟨(tWord 3 3 0x0D (2 ^ 49) (0) tState), 3, 3, issues_of (by decide), by decide⟩,
   ⟨(tWord 3 3 0x0E (0) (0) tState), 3, 3, issues_of (by decide), by decide⟩,
   ⟨(tWord 3 3 0x0E (0) (0) { tState with sqArrive := [(15, default)] }), 3, 3, default, issues_of (by decide), by decide⟩,
   ⟨(st (tWord 3 3 0x0D 0 0 tState) [(SQ_THR_STATE.state, 15, thWaiting)]), 3, 3, by decide⟩,
   ⟨(st (tWord 3 3 0x0D 1 0 tState) [(SQ_THR_STATE.state, 15, thWaiting)]), 3, 3, by decide⟩,
   ⟨(tWord 3 3 0x0F (0) (0) tState), 3, 3, issues_of (by decide), by decide⟩,
   ⟨(tWord 3 3 0x10 (0) (0) tState), 3, 3, issues_of (by decide), by decide⟩,
   ⟨(tWord 3 3 0x10 (0) (1) tState), 3, 3, issues_of (by decide), by decide⟩,
   ⟨(tWord 3 3 0x11 (0) (0) tState), 3, 3, issues_of (by decide)⟩⟩

/-- The hypotheses of `RecoveryLadder`. -/
theorem witness_RecoveryLadder :
    (∃ (s : State) (q : _) (t : _), Issues 0x10 q t s ∧ (wordOf s q t).imm % 16 = 1 ∧ KV.get s.sqOps (thrNo q t) = none ∧ KV.get s.ladNotes (thrNo q t) = none ∧ let word := gr s q t (wordOf s q t).ra; let rung := word / 2 ^ 43 % 8; let outcome := word / 2 ^ 40 % 8; outcome = 0 ∧ rung = 0 ∧ 0 < s.get MS_RL_CTRL.log_rung) ∧
    (∃ (s : State) (q : _) (t : _) (p : Nat × Fld), Issues 0x10 q t s ∧ (wordOf s q t).imm % 16 = 1 ∧ KV.get s.sqOps (thrNo q t) = none ∧ KV.get s.ladNotes (thrNo q t) = none ∧ let word := gr s q t (wordOf s q t).ra; let head := word / 2 ^ 46 % 64; let rung := word / 2 ^ 43 % 8; let outcome := word / 2 ^ 40 % 8; outcome = 0 ∧ rung < s.get MS_RL_CTRL.log_rung ∧ p ∈ [(1, MS_RL_HEAD_CNT0.rung1), (2, MS_RL_HEAD_CNT0.rung2), (3, MS_RL_HEAD_CNT1.rung3), (4, MS_RL_HEAD_CNT1.rung4), (5, MS_RL_HEAD_CNT1.rung5), (6, MS_RL_HEAD_CNT1.rung6)] ∧ p.1 = rung ∧ s.get p.2 head < 2 ^ p.2.width - 1) ∧
    (∃ (s : State) (q : _) (t : _) (p : Nat × Fld), Issues 0x10 q t s ∧ (wordOf s q t).imm % 16 = 1 ∧ KV.get s.sqOps (thrNo q t) = none ∧ KV.get s.ladNotes (thrNo q t) = none ∧ let word := gr s q t (wordOf s q t).ra; let rung := word / 2 ^ 43 % 8; let outcome := word / 2 ^ 40 % 8; outcome = 0 ∧ 1 ≤ rung ∧ s.get MS_RL_CTRL.log_rung ≤ rung ∧ p ∈ [(1, MS_RL_HEAD_CNT0.rung1), (2, MS_RL_HEAD_CNT0.rung2), (3, MS_RL_HEAD_CNT1.rung3), (4, MS_RL_HEAD_CNT1.rung4), (5, MS_RL_HEAD_CNT1.rung5), (6, MS_RL_HEAD_CNT1.rung6)] ∧ p.1 = rung) ∧
    (∃ (s : State) (q : _) (t : _), Issues 0x10 q t s ∧ (wordOf s q t).imm % 16 = 1 ∧ KV.get s.sqOps (thrNo q t) = none ∧ KV.get s.ladNotes (thrNo q t) = none ∧ let word := gr s q t (wordOf s q t).ra; let outcome := word / 2 ^ 40 % 8; outcome = 3) ∧
    (∃ (s : State) (q : _) (t : _), Issues 0x10 q t s ∧ (wordOf s q t).imm % 16 = 1 ∧ KV.get s.sqOps (thrNo q t) = none ∧ KV.get s.ladNotes (thrNo q t) = none ∧ let word := gr s q t (wordOf s q t).ra; let outcome := word / 2 ^ 40 % 8; (outcome = 1 ∨ outcome = 2 ∨ outcome = 4)) ∧
    (∃ (s : State) (l : Ladder) (t : LadTry), t ∈ ladPlan s l ∧ l.rung ≠ 1) ∧
    (∃ (s : State) (l : Ladder) (t : LadTry), t ∈ ladPlan s l ∧ l.rung < 3) ∧
    (∃ (s : State) (l : Ladder) (t : LadTry), t ∈ ladPlan s l ∧ l.rung = 3) ∧
    (∃ (s : State) (l : Ladder) (t : LadTry), t ∈ ladPlan s l ∧ l.rung = 4) ∧
    (∃ (s : State) (l : Ladder) (t : LadTry), t ∈ ladPlan s l ∧ 5 ≤ l.rung) ∧
    (∃ (s : State) (l : Ladder) (t : LadTry), t ∈ ladPlan s l ∧ l.rung = 6) ∧
    (∃ (s : State) (l : Ladder) (t : LadTry), t ∈ ladPlan s l ∧ l.rung ≠ 6) ∧
    (∃ (s : State) (l : Ladder), l.rung = 1) ∧
    (∃ (s : State) (l : Ladder), l.rung = 2 ∧ s.image.twin l.head0 = none) ∧
    (∃ (s : State) (l : Ladder), l.rung = 5 ∧ s.get HL_HEAD_CFG.readers (ladHead s l) = 1) ∧
    (∃ (s : State) (l : Ladder) (w : _) (a : _) (b : _), s.image.twin l.head0 = some w ∧ ladSum l l.head0 = some a ∧ ladSum l w = some b ∧ a < b) ∧
    (∃ (s : State) (l : Ladder) (w : _) (a : _) (b : _), s.image.twin l.head0 = some w ∧ ladSum l l.head0 = some a ∧ ladSum l w = some b ∧ b < a) ∧
    (∃ (s : State) (l : Ladder) (w : _) (a : _) (b : _), s.image.twin l.head0 = some w ∧ ladSum l l.head0 = some a ∧ ladSum l w = some b ∧ a = b) ∧
    (∃ (l : Ladder) (h : Nat), bestOff l h ≠ 0) ∧
    (∃ (l : Ladder) (h : Nat), bestAlt l h ≠ 0) ∧
    (∃ (l : Ladder) (h : Nat) (v : Nat), bestWeight l h ≠ 0 ∧ v ∈ triedAt l h 5 (fun t => t.weight)) :=
  ⟨⟨tPost 0 0 tState, 3, 3, issues_of (by decide), by decide⟩,
   ⟨tPost 6 0 (st tState [(MS_RL_CTRL.log_rung, 0, 7)]), 3, 3, (6, MS_RL_HEAD_CNT1.rung6), issues_of (by decide), by decide, by decide, by decide, by decide, by decide, by simp, by decide, by decide⟩,
   ⟨tPost 3 0 (st tState [(MS_RL_CTRL.log_rung, 0, 3)]), 3, 3, (3, MS_RL_HEAD_CNT1.rung3), issues_of (by decide), by decide, by decide, by decide, by decide, by decide, by decide, by simp, by decide⟩,
   ⟨tPost 1 3 tState, 3, 3, issues_of (by decide), by decide⟩,
   ⟨tPost 6 4 tState, 3, 3, issues_of (by decide), by decide⟩,
   ⟨tState, tLad 3 [], { plainTry with off := 16 }, by decide⟩,
   ⟨tState, tLad 1 [], plainTry, by decide⟩,
   ⟨tState, tLad 3 [], { plainTry with off := 16 }, by decide⟩,
   ⟨(st tState [(DP_ALT_TARGET.target, 0, 1)]), tLad 4 [], { plainTry with alt := 1 }, by decide⟩,
   ⟨tState, tLad 6 [], { plainTry with acc := 1, only := [5], combine := tState.get MS_RL_CLASS.n_combine 2 }, by decide⟩,
   ⟨tState, tLad 6 [], { plainTry with acc := 1, only := [5], combine := tState.get MS_RL_CLASS.n_combine 2 }, by decide⟩,
   ⟨tState, tLad 3 [], { plainTry with off := 16 }, by decide⟩,
   ⟨tState, tLad 1 [], by decide⟩,
   ⟨State.reset, tLad 2 [], by decide⟩,
   ⟨(st tState [(HL_HEAD_CFG.readers, 3, 1)]), tLad 5 [], by decide⟩,
   ⟨tState, tLad 3 (tBoth 1 2), 35, 1, 2, by decide⟩,
   ⟨tState, tLad 3 (tBoth 2 1), 35, 2, 1, by decide⟩,
   ⟨tState, tLad 3 (tBoth 2 2), 35, 2, 2, by decide⟩,
   ⟨tLad 6 [tRead 3 { plainTry with off := -16 } 1, tRead 1 plainTry 2], 3, by decide⟩,
   ⟨tLad 6 [tRead 4 { plainTry with alt := 8 } 1, tRead 1 plainTry 2], 3, by decide⟩,
   ⟨tLad 6 [tRead 5 { plainTry with weight := 15 } 1, tRead 1 plainTry 2], 3, 15, by decide⟩⟩

/-- The attempts of rung 1 and rung 3 at the reset values of class 2: 1 + 1 + 2 with shifts +8 and −8, and offsets +16, −16, +32, −32 (the
register table and the cost table of 07_read_recovery.md). -/
theorem test_ladder_plan :
    (ladPlan tState (tLad 1 [])).map (fun t => (t.shift, t.runner)) = [(0, false), (0, true), (8, false), (56, false)]
    ∧ (ladPlan tState (tLad 3 [])).map (fun t => t.off) = [16, -16, 32, -32] := by decide

/-- The hypotheses of `ArmWords`. -/
theorem witness_ArmWords :
    (∃ (s : State) (q : Nat) (t : Nat), Issues 0x20 q t s ∧ hasArm s q t = true) ∧
    (∃ (s : State) (q : Nat) (t : Nat), Issues 0x20 q t s ∧ hasArm s q t = false ∧ s.get SQ_STATUS.arm_held q = 0 ∧ (∀ o, KV.get s.sqOps (thrNo q t) = some o → o.kind ≠ 8)) ∧
    (∃ (s : State) (q : Nat) (t : Nat), Issues 0x21 q t s) ∧
    (∃ (s : State) (q : Nat) (t : Nat), Issues 0x22 q t s ∧ hasArm s q t = true) ∧
    (∃ (s : State) (q : Nat) (t : Nat), Issues 0x22 q t s ∧ hasArm s q t = false) ∧
    (∃ (s : State) (q : Nat) (t : Nat), Issues 0x23 q t s ∧ hasArm s q t = true) ∧
    (∃ (s : State) (q : Nat) (t : Nat), Issues 0x24 q t s ∧ hasArm s q t = true) ∧
    (∃ (s : State) (q : Nat) (t : Nat), Issues 0x25 q t s ∧ hasArm s q t = true) ∧
    (∃ (s : State) (q : Nat) (t : Nat), Issues 0x26 q t s) ∧
    (∃ (s : State) (q : Nat) (t : Nat), Issues 0x27 q t s ∧ hasArm s q t = true) :=
  ⟨⟨(tWord 3 3 0x20 (0) (0) (st tState [(SQ_STATUS.arm_held, 3, 1), (SQ_STATUS.arm_owner, 3, 3)])), 3, 3, issues_of (by decide), by decide⟩,
   ⟨(tWord 3 3 0x20 (0) (0) (st tState [(SQ_STATUS.arm_held, 3, 0)])), 3, 3, issues_of (by decide), by decide⟩,
   ⟨(tWord 3 3 0x21 (0) (0) tState), 3, 3, issues_of (by decide)⟩,
   ⟨(tWord 3 3 0x22 (0) (0) (st tState [(SQ_STATUS.arm_held, 3, 1), (SQ_STATUS.arm_owner, 3, 3)])), 3, 3, issues_of (by decide), by decide⟩,
   ⟨(tWord 3 3 0x22 (0) (0) tState), 3, 3, issues_of (by decide), by decide⟩,
   ⟨(tWord 3 3 0x23 (0) (0) (st tState [(SQ_STATUS.arm_held, 3, 1), (SQ_STATUS.arm_owner, 3, 3)])), 3, 3, issues_of (by decide), by decide⟩,
   ⟨(tWord 3 3 0x24 (0) (0) (st tState [(SQ_STATUS.arm_held, 3, 1), (SQ_STATUS.arm_owner, 3, 3)])), 3, 3, issues_of (by decide), by decide⟩,
   ⟨(tWord 3 3 0x25 (0) (0) (st tState [(SQ_STATUS.arm_held, 3, 1), (SQ_STATUS.arm_owner, 3, 3)])), 3, 3, issues_of (by decide), by decide⟩,
   ⟨(tWord 3 3 0x26 (0) (0) tState), 3, 3, issues_of (by decide)⟩,
   ⟨(tWord 3 3 0x27 (0) (0) (st tState [(SQ_STATUS.arm_held, 3, 1), (SQ_STATUS.arm_owner, 3, 3)])), 3, 3, issues_of (by decide), by decide⟩⟩

/-- The hypotheses of `ResourceWords`. -/
theorem witness_ResourceWords :
    (∃ (s : State) (q : Nat) (t : Nat), let k := thrNo q t; Issues 0x28 q t s ∧ (thrPorts s k).length < 8) ∧
    (∃ (s : State) (q : Nat) (t : Nat), let w := wordOf s q t; Issues 0x29 q t s ∧ w.imm.testBit 15 = true) ∧
    (∃ (s : State) (q : Nat) (t : Nat), let w := wordOf s q t; let k := thrNo q t; Issues 0x29 q t s ∧ w.imm.testBit 15 = false ∧ (thrPorts s k).contains (gr s q t w.ra % 128) = false) ∧
    (∃ (s : State) (q : Nat) (t : Nat), let w := wordOf s q t; let u := issued s q t; Issues 0x2A q t s ∧ let r := unpackReq (gr u q t w.ra) (gr u q t w.rb); ((slotsBusy u q t).contains (r.head % 16) && !r.handover) = false) ∧
    (∃ (s : State) (q : Nat) (t : Nat), let w := wordOf s q t; Issues 0x2B q t s ∧ w.imm.testBit 15 = false) ∧
    (∃ (s : State) (q : Nat) (t : Nat), let k := thrNo q t; Issues 0x2C q t s ∧ KV.getD s.sqRes k [] = []) ∧
    (∃ (s : State) (q : Nat) (t : Nat) (slot : _) (v : _) (r : _), let k := thrNo q t; Issues 0x2C q t s ∧ KV.getD s.sqRes k [] = (slot, v) :: r) ∧
    (∃ (s : State) (q : Nat) (t : Nat) (slot : _) (v : _) (r : _), let k := thrNo q t; Issues 0x2D q t s ∧ KV.getD s.sqVres k [] = (slot, v) :: r) ∧
    (∃ (s : State) (q : Nat) (t : Nat), Issues 0x2E q t s) ∧
    (∃ (s : State) (q : Nat) (t : Nat), let w := wordOf s q t; let u := issued s q t; Issues 0x2F q t s ∧ (runHeads u q t).contains (16 * q + gr u q t w.ra % 16) = true) :=
  ⟨⟨(tWord 3 3 0x28 (0) (0) tState), 3, 3, issues_of (by decide), by decide⟩,
   ⟨(tWord 3 3 0x29 (0) (2 ^ 15) tState), 3, 3, issues_of (by decide), by decide⟩,
   ⟨(tWord 3 3 0x29 (0) (0) tState), 3, 3, issues_of (by decide), by decide⟩,
   ⟨(tWord 3 3 0x2A (0) (0) tState), 3, 3, issues_of (by decide), by decide⟩,
   ⟨(tWord 3 3 0x2B (0) (0) tState), 3, 3, issues_of (by decide), by decide⟩,
   ⟨(tWord 3 3 0x2C (0) (0) tState), 3, 3, issues_of (by decide), by decide⟩,
   ⟨(tWord 3 3 0x2C (0) (0) { tState with sqRes := [(15, [(1, 2)])] }), 3, 3, 1, 2, [], issues_of (by decide), by decide⟩,
   ⟨(tWord 3 3 0x2D (0) (0) { tState with sqVres := [(15, [(1, 2)])] }), 3, 3, 1, 2, [], issues_of (by decide), by decide⟩,
   ⟨(tWord 3 3 0x2E (0) (0) tState), 3, 3, issues_of (by decide)⟩,
   ⟨(tWord 3 3 0x2F (0) (0) { tState with wruns := [(48, ⟨3, 3, 0, 0, 1, true, 0, 0, [0]⟩)] }), 3, 3, issues_of (by decide), by decide⟩⟩

/-- The hypotheses of `SequencerControl`. -/
theorem witness_SequencerControl :
    (∃ (s : State) (q : Nat), coreUp s = true ∧ q < 4 ∧ let st := s.get SQ_STATUS.state q; st = sqStopped) ∧
    (∃ (s : State) (q : Nat), coreUp s = true ∧ q < 4 ∧ let st := s.get SQ_STATUS.state q; st ≠ sqStopped) ∧
    (∃ (s : State) (q : Nat), coreUp s = true ∧ q < 4 ∧ let st := s.get SQ_STATUS.state q; (st = sqEmpty ∨ st = sqStopped ∨ st = sqFaulted)) ∧
    (∃ (s : State) (q : Nat) (core : _), coreUp s = true ∧ q < 4 ∧ core < 10 ∧ core ≠ secCore) ∧
    (∃ (s : State) (q : Nat) (core : _), coreUp s = true ∧ q < 4 ∧ core < 10 ∧ core ≠ secCore) ∧
    (∃ (s : State) (q : Nat) (w : _), coreUp s = true ∧ q < 4 ∧ let st := s.get SQ_STATUS.state q; st = sqLoading ∧ w < 8192) ∧
    (∃ (s : State) (q : Nat) (v : _), coreUp s = true ∧ q < 4 ∧ v = s.get SQ_CTRL.thread_en q ∧ v < 16) ∧
    (∃ (s : State) (q : Nat) (v : _), coreUp s = true ∧ q < 4 ∧ let st := s.get SQ_STATUS.state q; st = sqRunning ∧ s.get SQ_CTRL.thread_en q = 0 ∧ v < 16 ∧ (∀ t, t < 4 → s.get X.sq_leave (thrNo q t) = 0)) ∧
    (∃ (s : State) (q : Nat), coreUp s = true ∧ q < 4 ∧ let st := s.get SQ_STATUS.state q; st ≠ sqRunning ∧ st ≠ sqHalting) :=
  ⟨⟨(st tState [(SQ_STATUS.state, 3, sqStopped)]), 3, by decide⟩,
   ⟨tState, 3, by decide⟩,
   ⟨tState, 3, by decide⟩,
   ⟨tState, 3, 9, by decide⟩,
   ⟨tState, 3, 9, by decide⟩,
   ⟨(st tState [(SQ_STATUS.state, 3, sqLoading)]), 3, 8191, by decide⟩,
   ⟨(st tState [(SQ_CTRL.thread_en, 3, 15)]), 3, 15, by decide⟩,
   ⟨(st tState [(SQ_CTRL.thread_en, 3, 0), (SQ_STATUS.state, 3, sqRunning)]), 3, 15, by decide⟩,
   ⟨tState, 3, by decide⟩⟩

/-- The hypotheses of `ZoneTables`. -/
theorem witness_ZoneTables :
    (∃ (s : State) (n : _), coreUp s = true ∧ n < 64 ∧ s.on ZX_NS.enable n = true) ∧
    (∃ (s : State) (n : _), coreUp s = true ∧ n < 64 ∧ s.on ZX_NS.enable n = false ∧ nsConflict s n = true) ∧
    (∃ (s : State) (n : _), coreUp s = true ∧ n < 64 ∧ s.on ZX_NS.enable n = false ∧ nsConflict s n = false ∧ s.on ZX_NS.pin n = false) ∧
    (∃ (s : State), coreUp s = true ∧ s.on X.zx_recovering = true ∧ s.get X.san_active = 0 ∧ s.mediaZones = []) ∧
    (∃ (s : State), coreUp s = true ∧ s.on X.zx_recovering = false) ∧
    (∃ (s : State), coreUp s = true ∧ s.on X.zx_stopped = true) ∧
    (∃ (s : State), coreUp s = true ∧ s.on X.zx_stopped = false ∧ s.on X.zx_ckpt = false ∧ s.jrnWait.isEmpty = false ∧ jrnFull s (s.get ZX_JRN_STATUS.active) = false) :=
  ⟨⟨(st tState [(ZX_NS.enable, 63, 1)]), 63, by decide⟩,
   ⟨(st tState [(ZX_NS.enable, 63, 0)]), 63, by decide⟩,
   ⟨(st tState [(ZX_NS.enable, 63, 0), (ZX_NS.pin, 63, 0), (ZX_NS.zone_count, 63, 1), (ZX_NS.zoned, 63, 1), (ZX_NS.first_zone, 63, 7)]), 63, by decide⟩,
   ⟨(st tState [(X.zx_recovering, 0, 1), (X.san_active, 0, 0)]), by decide⟩,
   ⟨(st tState [(X.zx_recovering, 0, 0)]), by decide⟩,
   ⟨(st tState [(X.zx_stopped, 0, 1)]), by decide⟩,
   ⟨(st { tState with jrnWait := [⟨2, 0, 0, 0, 0, 0, [], 0⟩] } [(X.zx_stopped, 0, 0), (X.zx_ckpt, 0, 0)]), by decide⟩⟩

/-- The hypotheses of `Dispatching`. -/
theorem witness_Dispatching :
    (∃ (s : State) (a : Nat), coreUp s = true ∧ a < 4 ∧ (s.get MS_CTRL.enable = 0 ∨ s.get ZX_CTRL.enable = 0 ∨ 2 ≤ s.get X.pwr_level ∨ s.get MP_PARK_STATUS.latch ≠ 0 ∨ (s.get CR_ACT_STATUS.in_reset).testBit a = true)) ∧
    (∃ (s : State) (a : Nat), coreUp s = true ∧ a < 4 ∧ (¬ (s.get MS_CTRL.enable = 0 ∨ s.get ZX_CTRL.enable = 0 ∨ 2 ≤ s.get X.pwr_level ∨ s.get MP_PARK_STATUS.latch ≠ 0 ∨ (s.get CR_ACT_STATUS.in_reset).testBit a = true)) ∧ s.get X.act_lost a = 1) ∧
    (∃ (s : State) (a : Nat), coreUp s = true ∧ a < 4 ∧ (¬ (s.get MS_CTRL.enable = 0 ∨ s.get ZX_CTRL.enable = 0 ∨ 2 ≤ s.get X.pwr_level ∨ s.get MP_PARK_STATUS.latch ≠ 0 ∨ (s.get CR_ACT_STATUS.in_reset).testBit a = true)) ∧ s.get X.act_lost a ≠ 1 ∧ let u := msReady a s; let u := if (opsOf u a).isEmpty then u else leaveIdleA u; let u := ((opsOf u a).filter (fun o => o.kind == 1 || o.kind == 4)).foldl (fun t o => askReservation o.zone (opEnd t o) t) u; pickOp u a = none) ∧
    (∃ (s : State) (a : Nat) (o : _) (aged : _), coreUp s = true ∧ a < 4 ∧ (¬ (s.get MS_CTRL.enable = 0 ∨ s.get ZX_CTRL.enable = 0 ∨ 2 ≤ s.get X.pwr_level ∨ s.get MP_PARK_STATUS.latch ≠ 0 ∨ (s.get CR_ACT_STATUS.in_reset).testBit a = true)) ∧ s.get X.act_lost a ≠ 1 ∧ let u := msReady a s; let u := if (opsOf u a).isEmpty then u else leaveIdleA u; let u := ((opsOf u a).filter (fun o => o.kind == 1 || o.kind == 4)).foldl (fun t o => askReservation o.zone (opEnd t o) t) u; pickOp u a = some (o, aged) ∧ (u.get SQ_STATUS.arm_held a = 1 ∧ o.cls ≠ 0)) ∧
    (∃ (s : State) (a : Nat) (o : _) (aged : _), coreUp s = true ∧ a < 4 ∧ (¬ (s.get MS_CTRL.enable = 0 ∨ s.get ZX_CTRL.enable = 0 ∨ 2 ≤ s.get X.pwr_level ∨ s.get MP_PARK_STATUS.latch ≠ 0 ∨ (s.get CR_ACT_STATUS.in_reset).testBit a = true)) ∧ s.get X.act_lost a ≠ 1 ∧ let u := msReady a s; let u := if (opsOf u a).isEmpty then u else leaveIdleA u; let u := ((opsOf u a).filter (fun o => o.kind == 1 || o.kind == 4)).foldl (fun t o => askReservation o.zone (opEnd t o) t) u; pickOp u a = some (o, aged) ∧ (¬ (u.get SQ_STATUS.arm_held a = 1 ∧ o.cls ≠ 0)) ∧ threadFor u a o.cls = none) ∧
    (∃ (s : State) (a : Nat) (o : _) (aged : _) (t : _), coreUp s = true ∧ a < 4 ∧ (¬ (s.get MS_CTRL.enable = 0 ∨ s.get ZX_CTRL.enable = 0 ∨ 2 ≤ s.get X.pwr_level ∨ s.get MP_PARK_STATUS.latch ≠ 0 ∨ (s.get CR_ACT_STATUS.in_reset).testBit a = true)) ∧ s.get X.act_lost a ≠ 1 ∧ let u := msReady a s; let u := if (opsOf u a).isEmpty then u else leaveIdleA u; let u := ((opsOf u a).filter (fun o => o.kind == 1 || o.kind == 4)).foldl (fun t o => askReservation o.zone (opEnd t o) t) u; pickOp u a = some (o, aged) ∧ (¬ (u.get SQ_STATUS.arm_held a = 1 ∧ o.cls ≠ 0)) ∧ threadFor u a o.cls = some t) :=
  ⟨⟨(st tState [(MS_CTRL.enable, 0, 0)]), 3, by decide⟩,
   ⟨(st tState [(MS_CTRL.enable, 0, 1), (ZX_CTRL.enable, 0, 1), (X.act_lost, 3, 1)]), 3, by decide⟩,
   ⟨(st tState [(MS_CTRL.enable, 0, 1), (ZX_CTRL.enable, 0, 1), (MS_ACT_STATE.slot_phase, 0, 1)]), 3, by decide⟩,
   ⟨(st { tState with msQueue := [(0, [{ (default : MsOp) with cls := 1, count := 1, mask := 1, covered := true }])] } [(MS_CTRL.enable, 0, 1), (ZX_CTRL.enable, 0, 1), (MS_ACT_STATE.slot_phase, 0, 1), (MS_HEAD_SVC.in_service, 0, 1), (DP_HEAD_STATE.stale, 0, 0), (SQ_STATUS.arm_held, 0, 1)]), 0, { (default : MsOp) with cls := 1, count := 1, mask := 1, covered := true }, false, by decide⟩,
   ⟨(st { tState with msQueue := [(0, [{ (default : MsOp) with cls := 1, count := 1, mask := 1, covered := true }])] } [(MS_CTRL.enable, 0, 1), (ZX_CTRL.enable, 0, 1), (MS_ACT_STATE.slot_phase, 0, 1), (MS_HEAD_SVC.in_service, 0, 1), (DP_HEAD_STATE.stale, 0, 0)]), 0, { (default : MsOp) with cls := 1, count := 1, mask := 1, covered := true }, false, by decide⟩,
   ⟨(st { tState with msQueue := [(0, [{ (default : MsOp) with cls := 1, count := 1, mask := 1, covered := true }])] } [(MS_CTRL.enable, 0, 1), (ZX_CTRL.enable, 0, 1), (MS_ACT_STATE.slot_phase, 0, 1), (MS_HEAD_SVC.in_service, 0, 1), (DP_HEAD_STATE.stale, 0, 0), (SQ_CS.bits, 1, 0x0E * 2 ^ 58), (SQ_VERSION.words, 0, 1), (SQ_STATUS.state, 0, sqRunning), (SQ_THR_STATE.state, 0, thWaiting)]), 0, { (default : MsOp) with cls := 1, count := 1, mask := 1, covered := true }, false, 0, by decide⟩⟩

/-- The hypotheses of `CompressionEngines`. -/
theorem witness_CompressionEngines :
    (∃ (s : State) (e : Nat), coreUp s = true ∧ e < 8 ∧ cxFirst s = none) ∧
    (∃ (s : State) (e : Nat) (j : _) (k : _), coreUp s = true ∧ e < 8 ∧ cxFirst s = some j ∧ s.get CX_CTRL.enable ≠ 0 ∧ cxMay s j = true ∧ ((List.range 8).filter (engUp s)).find? (fun e => (KV.get s.cxRun e).isNone && (KV.get s.cxSusp e).isNone) = some k) ∧
    (∃ (s : State) (e : Nat) (j : CxJob), coreUp s = true ∧ e < 8 ∧ KV.get s.cxRun e = some j ∧ j.kind = 0 ∧ j.retried = false ∧ cxMay s j = true ∧ let stream := deflate j.level (min (s.get CX_CFG.raw_limit) (4096 * j.blocks)) j.data; stream = none) ∧
    (∃ (s : State) (e : Nat) (j : CxJob) (k : Bool) (p : List Byte), coreUp s = true ∧ e < 8 ∧ KV.get s.cxRun e = some j ∧ j.kind = 0 ∧ j.retried = false ∧ cxMay s j = true ∧ let stream := deflate j.level (min (s.get CX_CFG.raw_limit) (4096 * j.blocks)) j.data; stream = some p ∧ k = true ∧ inflate (4096 * j.blocks) p = some j.data) ∧
    (∃ (s : State) (e : Nat) (j : CxJob) (k : Bool) (p : List Byte), coreUp s = true ∧ e < 8 ∧ KV.get s.cxRun e = some j ∧ j.kind = 0 ∧ j.retried = false ∧ cxMay s j = true ∧ let stream := deflate j.level (min (s.get CX_CFG.raw_limit) (4096 * j.blocks)) j.data; stream = some p ∧ (k = false ∨ inflate (4096 * j.blocks) p ≠ some j.data)) ∧
    (∃ (s : State) (e : Nat) (j : CxJob), coreUp s = true ∧ e < 8 ∧ KV.get s.cxRun e = some j ∧ j.kind = 0 ∧ j.retried = true ∧ cxMay s j = true) ∧
    (∃ (s : State) (e : Nat), coreUp s = true ∧ e < 8 ∧ KV.get s.cxRun e = none) ∧
    (∃ (s : State) (e : Nat) (j : CxJob) (x : Extent), coreUp s = true ∧ e < 8 ∧ KV.get s.cxRun e = some j ∧ j.kind ≠ 0 ∧ cxMay s j = true ∧ extentOf s j.ns j.chunk = some x ∧ let out := expandExtent x j.data; out.1 ≠ 0) ∧
    (∃ (s : State) (e : Nat) (j : CxJob) (x : Extent), coreUp s = true ∧ e < 8 ∧ KV.get s.cxRun e = some j ∧ j.kind ≠ 0 ∧ cxMay s j = true ∧ extentOf s j.ns j.chunk = some x ∧ let out := expandExtent x j.data; out.1 = 0 ∧ j.kind = 1) ∧
    (∃ (s : State) (e : Nat) (j : CxJob), coreUp s = true ∧ e < 8 ∧ KV.get s.cxRun e = some j ∧ cxMay s j = false) ∧
    (∃ (s : State) (e : Nat), coreUp s = true ∧ e < 8 ∧ s.get CX_ENG_STATUS.state e = 5) ∧
    (∃ (s : State) (e : Nat), coreUp s = true ∧ e < 8 ∧ s.get CX_ENG_STATUS.state e ≠ 5) ∧
    (∃ (s : State) (e : Nat), coreUp s = true ∧ e < 8 ∧ s.get CX_ENG_STATUS.state e = 1 ∧ cxPort s = none) ∧
    (∃ (s : State) (e : Nat), coreUp s = true ∧ e < 8 ∧ s.get CX_ENG_STATUS.state e ≠ 1) :=
  ⟨⟨tState, 7, by decide⟩,
   ⟨(st { tState with cxReady := [tJob], hgGrants := [⟨2, 0, [], 0, 0, false⟩], img := some tImgP } [(CX_CTRL.enable, 0, 1)]), 7, tJob, 0, by decide⟩,
   ⟨(st (tCx 0 [0]) [(CX_CFG.raw_limit, 0, 0)]), 7, { tJob with kind := 0, data := [0] }, by decide, by decide, by decide, by decide, by decide, by decide, (deflate_zero _).trans (by decide)⟩,
   ⟨tCx 0 [0], 7, { tJob with kind := 0, data := [0] }, true, [0x63, 0, 0], by decide, by decide, by decide, by decide, by decide, by decide, (deflate_zero _).trans (by decide), by decide⟩,
   ⟨tCx 0 [0], 7, { tJob with kind := 0, data := [0] }, false, [0x63, 0, 0], by decide, by decide, by decide, by decide, by decide, by decide, (deflate_zero _).trans (by decide), by decide⟩,
   ⟨{ tCx 0 [0] with cxRun := [(7, { tJob with retried := true })] }, 7, { tJob with retried := true }, by decide⟩,
   ⟨tState, 7, by decide⟩,
   ⟨{ tCx 1 [] with extents := [⟨0, 0, 0, true, 0, 1, 1, 0, 0, 0, 3, 0, []⟩] }, 7, { tJob with kind := 1, data := [] }, ⟨0, 0, 0, true, 0, 1, 1, 0, 0, 0, 3, 0, []⟩, by decide⟩,
   ⟨{ tCx 1 (extentBytes ⟨0, 0, 0, true, 0, 1, 1, 0, 0, 0, 3, 0, []⟩ [7] [7]) with extents := [⟨0, 0, 0, true, 0, 1, 1, 0, 0, 0, 3, 0, []⟩] }, 7, { tJob with kind := 1, data := extentBytes ⟨0, 0, 0, true, 0, 1, 1, 0, 0, 0, 3, 0, []⟩ [7] [7] }, ⟨0, 0, 0, true, 0, 1, 1, 0, 0, 0, 3, 0, []⟩, by decide⟩,
   ⟨{ tCx 0 [] with hgGrants := [] }, 7, { tJob with kind := 0, data := [] }, by decide⟩,
   ⟨(st tState [(CX_ENG_STATUS.state, 7, 5)]), 7, by decide⟩,
   ⟨tState, 7, by decide⟩,
   ⟨(st tState [(CX_ENG_STATUS.state, 7, 1)]), 7, by decide⟩,
   ⟨(st tState [(CX_ENG_STATUS.state, 7, 0)]), 7, by decide⟩⟩

/-- The hypotheses of `CompressionIndex`. -/
theorem witness_CompressionIndex :
    (∃ (s : State) (n : _) (c : _), coreUp s = true ∧ n < 64 ∧ s.partials.find? (fun p => p.ns == n && p.chunk == c) = none) ∧
    (∃ (s : State), coreUp s = true ∧ s.on X.cx_rebuild = true) ∧
    (∃ (s : State), coreUp s = true ∧ s.on X.cx_rebuild = false) :=
  ⟨⟨tState, 63, 0, by decide⟩,
   ⟨(st tState [(X.cx_rebuild, 0, 1)]), by decide⟩,
   ⟨(st tState [(X.cx_rebuild, 0, 0)]), by decide⟩⟩

/-- The hypotheses of `FirstFailureStands`. -/
theorem witness_FirstFailureStands :
    (∃ (s : State) (c : Nat) (x : Ctx), ctxOf s c = some x ∧ x.dead = true) ∧
    (∃ (s : State) (c : Nat) (x : Ctx), ctxOf s c = some x ∧ x.dead = false) ∧
    (∃ (s : State) (c : Nat) (x : Ctx) (k : _), ctxOf s c = some x ∧ k ≠ c) :=
  ⟨⟨tWait tState { tCtx 0 tCmd with dead := true }, 0, { tCtx 0 tCmd with dead := true }, by decide⟩,
   ⟨tWait tState (tCtx 0 tCmd), 0, (tCtx 0 tCmd), by decide⟩,
   ⟨tWait tState (tCtx 0 tCmd), 0, (tCtx 0 tCmd), 1, by decide⟩⟩

/-- The hypotheses of `HostLinks`. -/
theorem witness_HostLinks :
    (∃ (s : State) (p : Nat), coreUp s = true ∧ p < 2 ∧ portExists s p = true ∧ s.on HIF_PORT_CFG.enable = true ∧ s.get HIF_PORT_STATUS.perst p = 0 ∧ s.get HIF_PORT_STATUS.dl_up p = 0 ∧ s.get X.link_train p = 0 ∧ s.get TH_STATUS.cutoff = 0 ∧ imagelessState s = false) ∧
    (∃ (s : State) (p : Nat), coreUp s = true ∧ p < 2 ∧ s.on X.link_train p = true ∧ portLanes s = 4) ∧
    (∃ (s : State) (p : Nat), coreUp s = true ∧ p < 2 ∧ s.on X.link_train p = false) ∧
    (∃ (s : State) (p : Nat), coreUp s = true ∧ p < 2 ∧ s.on HIF_PORT_STATUS.dl_up p = false) ∧
    (∃ (s : State) (p : Nat) (w : _), coreUp s = true ∧ p < 2 ∧ s.on HIF_PORT_STATUS.dl_up p = true ∧ (w = 1 ∨ w = 2) ∧ w < s.get HIF_PORT_STATUS.width p) ∧
    (∃ (s : State) (p : Nat), coreUp s = true ∧ p < 2 ∧ ctlExists s p = false) ∧
    (∃ (s : State) (p : Nat), coreUp s = true ∧ p < 2 ∧ ctlExists s p = false) ∧
    (∃ (s : State) (p : Nat), coreUp s = true ∧ p < 2 ∧ ctlExists s p = true ∧ s.on HIF_CTL_STATUS.en p = false ∧ s.on X.ctl_down p = false ∧ s.get HIF_PORT_STATUS.dl_up p ≠ 0 ∧ s.on SB_STATUS.app_absent = true) ∧
    (∃ (s : State) (p : Nat) (v : _) (n : _) (m : _), coreUp s = true ∧ p < 2 ∧ ctlExists s p = true ∧ s.on HIF_CTL_STATUS.en p = false ∧ s.on X.ctl_down p = false ∧ s.get HIF_PORT_STATUS.dl_up p ≠ 0 ∧ s.on SB_STATUS.app_absent = false ∧ let u := ((s.set HIF_CTL_STATUS.en p 1).set HIF_CTL_STATUS.ams p v).spend.spend; let size := 2 + Config.free (s.freeCtr + 1) % 4095; freeRing u p = some n ∧ freeRing (newRing n p 0 0 0 0 s.fresh size u) p = some m) ∧
    (∃ (s : State) (p : Nat), coreUp s = true ∧ p < 2 ∧ ctlExists s p = true ∧ s.on HIF_CTL_STATUS.rdy p = true ∧ s.on X.ctl_down p = false ∧ s.get HIF_CTL_STATUS.shst p = 0) :=
  ⟨⟨(st tState [(HIF_PORT_CFG.enable, 0, 1), (HIF_PORT_STATUS.perst, 1, 0), (HIF_PORT_STATUS.dl_up, 1, 0), (X.link_train, 1, 0), (TH_STATUS.cutoff, 0, 0), (HIF_PORT_CFG.mode, 0, 1)]), 1, by decide⟩,
   ⟨(st tState [(X.link_train, 1, 1)]), 1, by decide⟩,
   ⟨(st tState [(X.link_train, 1, 0)]), 1, by decide⟩,
   ⟨(st tState [(HIF_PORT_STATUS.dl_up, 1, 0)]), 1, by decide⟩,
   ⟨(st tState [(HIF_PORT_STATUS.dl_up, 1, 1), (HIF_PORT_STATUS.width, 1, 4)]), 1, 2, by decide⟩,
   ⟨tState, 1, by decide⟩,
   ⟨tState, 1, by decide⟩,
   ⟨(st tState [(HIF_CTL_STATUS.en, 1, 0), (X.ctl_down, 1, 0), (HIF_PORT_STATUS.dl_up, 1, 1), (SB_STATUS.app_absent, 0, 1), (HIF_PORT_CFG.mode, 0, 1)]), 1, by decide⟩,
   ⟨(st { tState with img := some { tImg with rings := [⟨0, 8, 1, 0, 4⟩] } } [(HIF_CTL_STATUS.en, 1, 0), (X.ctl_down, 1, 0), (HIF_PORT_STATUS.dl_up, 1, 1), (SB_STATUS.app_absent, 0, 0), (HIF_PORT_CFG.mode, 0, 1)]), 1, 0, 0, 1, by decide⟩,
   ⟨(st tState [(HIF_CTL_STATUS.rdy, 1, 1), (X.ctl_down, 1, 0), (HIF_CTL_STATUS.shst, 1, 0), (HIF_PORT_CFG.mode, 0, 1)]), 1, by decide⟩⟩

/-- The hypotheses of `HostQueueing`. -/
theorem witness_HostQueueing :
    (∃ (s : State) (c : Nat) (q : _), coreUp s = true ∧ c < 2 ∧ ringOf s c 0 q = none) ∧
    (∃ (s : State) (c : Nat) (t : _) (n : _) (r : _), coreUp s = true ∧ c < 2 ∧ ringOf s c 0 0 = some (n, r) ∧ s.get HIF_CTL_STATUS.rdy c ≠ 0 ∧ s.on X.ctl_down c = false ∧ t < r.size ∧ (t + r.size - r.tail) % r.size ≠ 0) ∧
    (∃ (s : State) (c : Nat) (q : _) (t : _) (n : _) (r : _), coreUp s = true ∧ c < 2 ∧ q ≠ 0 ∧ ringOf s c 0 q = some (n, r) ∧ s.get HIF_CTL_STATUS.rdy c ≠ 0 ∧ s.on X.ctl_down c = false ∧ t < r.size ∧ (t + r.size - r.tail) % r.size ≠ 0) ∧
    (∃ (s : State) (c : Nat) (cmd : _) (n : _) (r : _), coreUp s = true ∧ c < 2 ∧ okCmd cmd = true ∧ ringOf s c 0 0 = some (n, r) ∧ s.get QE_CTRL.enable ≠ 0 ∧ s.get HIF_CTL_STATUS.rdy c ≠ 0 ∧ s.on X.ctl_down c = false ∧ s.on HIF_CTL_STATUS.fetch_paused c = false ∧ s.on X.fw_act = false ∧ s.get HIF_CTL_STATUS.shst c = 0 ∧ r.waiting ≠ 0 ∧ fetchClass s r = 4 ∧ ctxRoom s c 0 4 = false) ∧
    (∃ (s : State) (c : Nat) (cmd : _) (n : _) (r : _), coreUp s = true ∧ c < 2 ∧ okCmd cmd = true ∧ ringOf s c 0 0 = some (n, r) ∧ s.get QE_CTRL.enable ≠ 0 ∧ s.get HIF_CTL_STATUS.rdy c ≠ 0 ∧ s.on X.ctl_down c = false ∧ s.on HIF_CTL_STATUS.fetch_paused c = false ∧ s.on X.fw_act = false ∧ s.get HIF_CTL_STATUS.shst c = 0 ∧ r.waiting ≠ 0 ∧ fetchClass s r = 4 ∧ ctxRoom s c 0 4 = true ∧ s.aborts = []) ∧
    (∃ (s : State) (c : Nat) (k : _) (x : _), coreUp s = true ∧ c < 2 ∧ ctxOf s k = some x ∧ x.stage = 3) ∧
    (∃ (s : State) (c : Nat) (k : _) (st : _) (x : _), coreUp s = true ∧ c < 2 ∧ ctxOf s k = some x ∧ (x.stage ≠ 3 ∨ x.status ≠ st)) :=
  ⟨⟨tState, 1, 0, by decide⟩,
   ⟨(st { tState with rings := [(0, tRing 1 0 0)] } [(HIF_CTL_STATUS.rdy, 1, 1), (X.ctl_down, 1, 0)]), 1, 3, 0, tRing 1 0 0, by decide⟩,
   ⟨(st { tState with rings := [(0, tRing 1 1 0)] } [(HIF_CTL_STATUS.rdy, 1, 1), (X.ctl_down, 1, 0)]), 1, 1, 3, 0, tRing 1 1 0, by decide⟩,
   ⟨(st { tState with rings := [(0, tRing 1 0 1)], ctxs := (List.range 3160).map (fun i => (i, { tCtx (i / 8) tCmd with ctl := 1 })) } [(QE_CTRL.enable, 0, 1), (HIF_CTL_STATUS.rdy, 1, 1), (HIF_PORT_CFG.mode, 0, 1), (QE_CTX_CFG.floor, 0, 4000), (QE_CTX_CFG.urg_ctx, 0, 1024)]), 1, tCmd, 0, tRing 1 0 1, by decide +kernel⟩,
   ⟨(st { tState with rings := [(0, tRing 1 0 1)] } [(QE_CTRL.enable, 0, 1), (HIF_CTL_STATUS.rdy, 1, 1), (X.ctl_down, 1, 0), (HIF_CTL_STATUS.fetch_paused, 1, 0), (X.fw_act, 0, 0), (HIF_CTL_STATUS.shst, 1, 0)]), 1, tCmd, 0, tRing 1 0 1, by decide⟩,
   ⟨tWait tState { tCtx 0 tCmd with stage := 3 }, 1, 0, { tCtx 0 tCmd with stage := 3 }, by decide⟩,
   ⟨tWait tState (tCtx 0 tCmd), 1, 0, 0, (tCtx 0 tCmd), by decide⟩⟩

/-- The hypotheses of `QueueCommands`. -/
theorem witness_QueueCommands :
    (∃ (s : State) (c : Nat) (x : Ctx), Waits s c x true 0x08 ∧ 64 ≤ (s.aborts.filter (fun y => y.ctl == x.ctl)).length) ∧
    (∃ (s : State) (c : Nat) (x : Ctx), Waits s c x true 0x08 ∧ (s.aborts.filter (fun y => y.ctl == x.ctl)).length < 64 ∧ s.ctxs.find? (fun p => p.1 != c && p.2.ctl == x.ctl && p.2.qid == x.cmd.cdw10 % 65536 && p.2.cmd.cid == x.cmd.cdw10 / 65536 && !p.2.dead) = none ∧ ringOf s x.ctl 0 (x.cmd.cdw10 % 65536) = none) ∧
    (∃ (s : State) (c : Nat) (x : Ctx), Waits s c x true 0x0C ∧ s.aens.find? (fun e => e.1 == x.ctl) = none ∧ let n := (s.ctxs.filter (fun p => p.2.ctl == x.ctl && isAer p.2 && p.2.stage == 1)).length; 16 ≤ n) ∧
    (∃ (s : State) (c : Nat) (x : Ctx), Waits s c x true 0x0C ∧ s.aens.find? (fun e => e.1 == x.ctl) = none ∧ let n := (s.ctxs.filter (fun p => p.2.ctl == x.ctl && isAer p.2 && p.2.stage == 1)).length; n < 16) ∧
    (∃ (s : State) (c : Nat) (x : Ctx) (e : _), Waits s c x true 0x0C ∧ s.aens.find? (fun e => e.1 == x.ctl) = some e) ∧
    (∃ (s : State) (c : Nat) (x : Ctx), Waits s c x true 0x05 ∧ (x.cmd.cdw10 % 65536 = 0 ∨ 8191 < x.cmd.cdw10 % 65536)) ∧
    (∃ (s : State) (c : Nat) (x : Ctx) (n : _), Waits s c x true 0x05 ∧ x.cmd.cdw10 % 65536 ≠ 0 ∧ x.cmd.cdw10 % 65536 ≤ 8191 ∧ ringOf s x.ctl 1 (x.cmd.cdw10 % 65536) = none ∧ 1 ≤ x.cmd.cdw10 / 65536 ∧ x.cmd.cdw10 / 65536 < 16384 ∧ x.cmd.cdw11 / 65536 < msixVectors ∧ freeRing s x.ctl = some n) ∧
    (∃ (s : State) (c : Nat) (x : Ctx), Waits s c x true 0x00 ∧ x.cmd.cdw10 % 65536 = 0) ∧
    (∃ (s : State) (c : Nat) (x : Ctx) (n : _) (r : _), Waits s c x true 0x00 ∧ x.cmd.cdw10 % 65536 ≠ 0 ∧ ringOf s x.ctl 0 (x.cmd.cdw10 % 65536) = some (n, r) ∧ s.aborts = [] ∧ (∀ p ∈ s.ctxs, (p.2.ctl == x.ctl && p.2.qid == x.cmd.cdw10 % 65536) = false)) ∧
    (∃ (s : State) (c : Nat) (x : Ctx), Waits s c x true 0x04 ∧ x.cmd.cdw10 % 65536 = 0) ∧
    (∃ (s : State) (c : Nat) (x : Ctx) (n : _) (r : _), Waits s c x true 0x04 ∧ x.cmd.cdw10 % 65536 ≠ 0 ∧ ringOf s x.ctl 1 (x.cmd.cdw10 % 65536) = some (n, r)) :=
  ⟨⟨(tWait { tState with aborts := List.replicate 64 ⟨0, 0, 0, 0, 0, none⟩ } (tCtx 0 { tCmd with opcode := 0x08 })), 0, (tCtx 0 { tCmd with opcode := 0x08 }), waits_of (by decide), by decide⟩,
   ⟨(tWait tState (tCtx 0 { tCmd with opcode := 0x08 })), 0, (tCtx 0 { tCmd with opcode := 0x08 }), waits_of (by decide), by decide⟩,
   ⟨(tWait { tState with ctxs := (List.range 16).map (fun i => (i + 1, { tCtx 0 { tCmd with opcode := 0x0C } with stage := 1 })) } (tCtx 0 { tCmd with opcode := 0x0C })), 0, (tCtx 0 { tCmd with opcode := 0x0C }), waits_of (by decide), by decide⟩,
   ⟨(tWait tState (tCtx 0 { tCmd with opcode := 0x0C })), 0, (tCtx 0 { tCmd with opcode := 0x0C }), waits_of (by decide), by decide⟩,
   ⟨(tWait { tState with aens := [(0, 5)] } (tCtx 0 { tCmd with opcode := 0x0C })), 0, (tCtx 0 { tCmd with opcode := 0x0C }), (0, 5), waits_of (by decide), by decide⟩,
   ⟨(tWait tState (tCtx 0 { tCmd with opcode := 0x05 })), 0, (tCtx 0 { tCmd with opcode := 0x05 }), waits_of (by decide), by decide⟩,
   ⟨(tWait { tState with img := some { tImg with rings := [⟨0, 8, 0, 0, 4⟩] } } (tCtx 0 { tCmd with opcode := 0x05, cdw10 := 3 * 65536 + 1 })), 0, (tCtx 0 { tCmd with opcode := 0x05, cdw10 := 3 * 65536 + 1 }), 0, waits_of (by decide), by decide⟩,
   ⟨(tWait tState (tCtx 0 { tCmd with opcode := 0x00, cdw10 := 0 })), 0, (tCtx 0 { tCmd with opcode := 0x00, cdw10 := 0 }), waits_of (by decide), by decide⟩,
   ⟨(tWait { tState with rings := [(0, tRing 0 1 0)] } (tCtx 0 { tCmd with opcode := 0x00, cdw10 := 1 })), 0, (tCtx 0 { tCmd with opcode := 0x00, cdw10 := 1 }), 0, tRing 0 1 0, waits_of (by decide), by decide⟩,
   ⟨(tWait tState (tCtx 0 { tCmd with opcode := 0x04, cdw10 := 0 })), 0, (tCtx 0 { tCmd with opcode := 0x04, cdw10 := 0 }), waits_of (by decide), by decide⟩,
   ⟨(tWait { tState with rings := [(0, { tRing 0 1 0 with kind := 1 })] } (tCtx 0 { tCmd with opcode := 0x04, cdw10 := 1 })), 0, (tCtx 0 { tCmd with opcode := 0x04, cdw10 := 1 }), 0, { tRing 0 1 0 with kind := 1 }, waits_of (by decide), by decide⟩⟩

/-- The hypotheses of `HostDataCommands`. -/
theorem witness_HostDataCommands :
    (∃ (s : State) (c : Nat) (x : Ctx), Waits s c x false 0x02 ∧ ioCheck s x false ≠ 0) ∧
    (∃ (s : State) (c : Nat) (x : Ctx), Waits s c x false 0x02 ∧ ioCheck s x false = 0 ∧ x.cls ≠ 0 ∧ nsCompressed s (x.cmd.nsid - 1) = false ∧ (rangeZones s (x.cmd.nsid - 1) x.cmd.slba (cmdBlocks x.cmd)).any (zoneWaiting s) = false ∧ mergeWaiting s (x.cmd.nsid - 1) x.cmd.slba (cmdBlocks x.cmd) = false) ∧
    (∃ (s : State) (c : Nat) (x : Ctx), Waits s c x false 0x01 ∧ ioCheck s x true ≠ 0) ∧
    (∃ (s : State) (c : Nat) (x : Ctx), Waits s c x false 0x01 ∧ ioCheck s x true = 0 ∧ s.on ZX_NS.zoned (x.cmd.nsid - 1) = true ∧ max 1 s.image.zoneSize < x.cmd.slba % max 1 s.image.zoneSize + cmdBlocks x.cmd) ∧
    (∃ (s : State) (c : Nat) (x : Ctx), Waits s c x false 0x01 ∧ ioCheck s x true = 0 ∧ s.on ZX_NS.zoned (x.cmd.nsid - 1) = true ∧ x.cmd.slba % max 1 s.image.zoneSize + cmdBlocks x.cmd ≤ max 1 s.image.zoneSize ∧ zoneWaiting s (cmdZone s x.cmd) = false) ∧
    (∃ (s : State) (c : Nat) (x : Ctx), Waits s c x false 0x01 ∧ ioCheck s x true = 0 ∧ s.on ZX_NS.zoned (x.cmd.nsid - 1) = false ∧ pagesMissing s (x.cmd.nsid - 1) x.cmd.slba (cmdBlocks x.cmd) = [] ∧ mergeWaiting s (x.cmd.nsid - 1) x.cmd.slba (cmdBlocks x.cmd) = false ∧ let z := s.get CX_NS.dest_zone (x.cmd.nsid - 1); zoneAdmits s z (x.cmd.nsid - 1) x.cmd.slba (cmdBlocks x.cmd) (rangeChunks x.cmd.slba (cmdBlocks x.cmd)) = true) ∧
    (∃ (s : State) (c : Nat) (x : Ctx), Waits s c x false 0x01 ∧ ioCheck s x true = 0 ∧ s.on ZX_NS.zoned (x.cmd.nsid - 1) = false ∧ pagesMissing s (x.cmd.nsid - 1) x.cmd.slba (cmdBlocks x.cmd) = [] ∧ mergeWaiting s (x.cmd.nsid - 1) x.cmd.slba (cmdBlocks x.cmd) = false ∧ let z := s.get CX_NS.dest_zone (x.cmd.nsid - 1); zoneAdmits s z (x.cmd.nsid - 1) x.cmd.slba (cmdBlocks x.cmd) (rangeChunks x.cmd.slba (cmdBlocks x.cmd)) = false) ∧
    (∃ (s : State) (c : Nat) (x : Ctx), Waits s c x false 0x7D ∧ ioCheck s x true ≠ 0) ∧
    (∃ (s : State) (c : Nat) (x : Ctx), Waits s c x false 0x7D ∧ ioCheck s x true = 0 ∧ s.on ZX_NS.zoned (x.cmd.nsid - 1) = true ∧ x.cmd.slba % max 1 s.image.zoneSize = 0 ∧ zoneWaiting s (cmdZone s x.cmd) = false) ∧
    (∃ (s : State) (c : Nat) (x : Ctx), Waits s c x false 0x00 ∧ x.cmd.nsid ≠ 0xFFFFFFFF ∧ cmdNs s x = none) ∧
    (∃ (s : State) (c : Nat) (x : Ctx), Waits s c x false 0x00 ∧ x.cmd.nsid = 0xFFFFFFFF ∧ let u := forceWhere (fun _ => true) s; let wids := (u.writes.filter (fun w => w.ctx.isNone && w.blocks != 0)).map (fun w => w.wid); wids = []) ∧
    (∃ (s : State) (c : Nat) (x : Ctx), Waits s c x false 0x00 ∧ x.cmd.nsid = 0xFFFFFFFF ∧ let u := forceWhere (fun _ => true) s; let wids := (u.writes.filter (fun w => w.ctx.isNone && w.blocks != 0)).map (fun w => w.wid); wids ≠ []) ∧
    (∃ (s : State) (c : Nat) (x : Ctx), Waits s c x false 0x08) ∧
    (∃ (s : State) (c : Nat) (x : Ctx), Waits s c x false 0x09 ∧ cmdNs s x = none) ∧
    (∃ (s : State) (c : Nat) (x : Ctx) (n : _), Waits s c x false 0x09 ∧ cmdNs s x = some n ∧ s.on ZX_NS.zoned n = false ∧ x.cmd.cdw11.testBit 2 = false) ∧
    (∃ (s : State) (c : Nat) (x : Ctx) (n : _), Waits s c x false 0x09 ∧ cmdNs s x = some n ∧ s.on ZX_NS.zoned n = false ∧ x.cmd.cdw11.testBit 2 = true) :=
  ⟨⟨(tWait tState (tCtx 1 { tCmd with opcode := 0x02 })), 0, (tCtx 1 { tCmd with opcode := 0x02 }), waits_of (by decide), by decide⟩,
   ⟨(tWait (st tState [(ZX_NS.enable, 0, 1)]) (tCtx 1 { tCmd with opcode := 0x02 })), 0, (tCtx 1 { tCmd with opcode := 0x02 }), waits_of (by decide), by decide⟩,
   ⟨(tWait tState (tCtx 1 { tCmd with opcode := 0x01 })), 0, (tCtx 1 { tCmd with opcode := 0x01 }), waits_of (by decide), by decide⟩,
   ⟨(tWait (st tState [(ZX_NS.zoned, 1 - 1, 1), (ZX_NS.enable, 0, 1)]) (tCtx 1 { tCmd with opcode := 0x01, cdw12 := 16 })), 0, (tCtx 1 { tCmd with opcode := 0x01, cdw12 := 16 }), waits_of (by decide), by decide⟩,
   ⟨(tWait (st tState [(ZX_NS.zoned, 1 - 1, 1), (ZX_NS.enable, 0, 1)]) (tCtx 1 { tCmd with opcode := 0x01 })), 0, (tCtx 1 { tCmd with opcode := 0x01 }), waits_of (by decide), by decide⟩,
   ⟨(tWait (st { tState with idxCached := [(0, 0)], img := some { tImg with zoneCap := 1024, zoneSize := 1024 } } [(ZX_NS.enable, 0, 1)]) (tCtx 1 { tCmd with opcode := 0x01 })), 0, (tCtx 1 { tCmd with opcode := 0x01 }), waits_of (by decide), by decide⟩,
   ⟨(tWait (st { tState with idxCached := [(0, 0)] } [(ZX_NS.enable, 0, 1)]) (tCtx 1 { tCmd with opcode := 0x01 })), 0, (tCtx 1 { tCmd with opcode := 0x01 }), waits_of (by decide), by decide⟩,
   ⟨(tWait tState (tCtx 1 { tCmd with opcode := 0x7D })), 0, (tCtx 1 { tCmd with opcode := 0x7D }), waits_of (by decide), by decide⟩,
   ⟨(tWait (st tState [(ZX_NS.zoned, 1 - 1, 1), (ZX_NS.enable, 0, 1)]) (tCtx 1 { tCmd with opcode := 0x7D })), 0, (tCtx 1 { tCmd with opcode := 0x7D }), waits_of (by decide), by decide⟩,
   ⟨(tWait tState (tCtx 1 { tCmd with opcode := 0x00, nsid := 0 })), 0, (tCtx 1 { tCmd with opcode := 0x00, nsid := 0 }), waits_of (by decide), by decide⟩,
   ⟨(tWait tState (tCtx 1 { tCmd with opcode := 0x00, nsid := 0xFFFFFFFF })), 0, (tCtx 1 { tCmd with opcode := 0x00, nsid := 0xFFFFFFFF }), waits_of (by decide), by decide⟩,
   ⟨(tWait { tState with writes := [⟨1, none, 0, 0, 0, 1, 1, 0, 0, false, []⟩] } (tCtx 1 { tCmd with opcode := 0x00, nsid := 0xFFFFFFFF })), 0, (tCtx 1 { tCmd with opcode := 0x00, nsid := 0xFFFFFFFF }), waits_of (by decide), by decide⟩,
   ⟨(tWait tState (tCtx 1 { tCmd with opcode := 0x08 })), 0, (tCtx 1 { tCmd with opcode := 0x08 }), waits_of (by decide)⟩,
   ⟨(tWait tState (tCtx 1 { tCmd with opcode := 0x09, nsid := 0 })), 0, (tCtx 1 { tCmd with opcode := 0x09, nsid := 0 }), waits_of (by decide), by decide⟩,
   ⟨(tWait (st tState [(ZX_NS.zoned, 0, 0), (ZX_NS.enable, 0, 1)]) (tCtx 1 { tCmd with opcode := 0x09 })), 0, (tCtx 1 { tCmd with opcode := 0x09 }), 0, waits_of (by decide), by decide⟩,
   ⟨(tWait (st tState [(ZX_NS.zoned, 0, 0), (ZX_NS.enable, 0, 1)]) (tCtx 1 { tCmd with opcode := 0x09, cdw11 := 2 ^ 2 })), 0, (tCtx 1 { tCmd with opcode := 0x09, cdw11 := 2 ^ 2 }), 0, waits_of (by decide), by decide⟩⟩

/-- The hypotheses of `HostZoneCommands`. -/
theorem witness_HostZoneCommands :
    (∃ (s : State) (c : Nat) (x : Ctx), Waits s c x false 0x79 ∧ x.cmd.cdw13 % 256 = 3 ∧ cmdNs s x = none) ∧
    (∃ (s : State) (c : Nat) (x : Ctx) (n : _), Waits s c x false 0x79 ∧ cmdNs s x = some n ∧ s.on ZX_NS.zoned n = false ∧ x.cmd.cdw13 % 256 = 3) ∧
    (∃ (s : State) (c : Nat) (x : Ctx) (n : _), Waits s c x false 0x79 ∧ cmdNs s x = some n ∧ s.on ZX_NS.zoned n = false ∧ x.cmd.cdw13 % 256 = 1) ∧
    (∃ (s : State) (c : Nat) (x : Ctx) (n : _), Waits s c x false 0x79 ∧ cmdNs s x = some n ∧ s.on ZX_NS.zoned n = false ∧ x.cmd.cdw13 % 256 = 2) ∧
    (∃ (s : State) (c : Nat) (x : Ctx) (n : _), Waits s c x false 0x79 ∧ cmdNs s x = some n ∧ s.on ZX_NS.zoned n = false ∧ x.cmd.cdw13 % 256 = 4) ∧
    (∃ (s : State) (c : Nat) (x : Ctx) (n : _), Waits s c x false 0x79 ∧ cmdNs s x = some n ∧ s.on ZX_NS.zoned n = false ∧ x.cmd.cdw13 % 256 = 5) ∧
    (∃ (s : State) (c : Nat) (x : Ctx) (n : _), Waits s c x false 0x7A ∧ cmdNs s x = some n ∧ s.on ZX_NS.zoned n = true ∧ x.cmd.cdw13 = 0 ∧ x.cmd.slba < nsBlocks s n) :=
  ⟨⟨(tWait tState (tCtx 1 { tCmd with opcode := 0x79, cdw13 := 3, nsid := 0 })), 0, (tCtx 1 { tCmd with opcode := 0x79, cdw13 := 3, nsid := 0 }), waits_of (by decide), by decide⟩,
   ⟨(tWait (st tState [(ZX_NS.zoned, 0, 0), (ZX_NS.enable, 0, 1)]) (tCtx 1 { tCmd with opcode := 0x79, cdw13 := 3 })), 0, (tCtx 1 { tCmd with opcode := 0x79, cdw13 := 3 }), 0, waits_of (by decide), by decide⟩,
   ⟨(tWait (st tState [(ZX_NS.zoned, 0, 0), (ZX_NS.enable, 0, 1)]) (tCtx 1 { tCmd with opcode := 0x79, cdw13 := 1 })), 0, (tCtx 1 { tCmd with opcode := 0x79, cdw13 := 1 }), 0, waits_of (by decide), by decide⟩,
   ⟨(tWait (st tState [(ZX_NS.zoned, 0, 0), (ZX_NS.enable, 0, 1)]) (tCtx 1 { tCmd with opcode := 0x79, cdw13 := 2 })), 0, (tCtx 1 { tCmd with opcode := 0x79, cdw13 := 2 }), 0, waits_of (by decide), by decide⟩,
   ⟨(tWait (st tState [(ZX_NS.zoned, 0, 0), (ZX_NS.enable, 0, 1)]) (tCtx 1 { tCmd with opcode := 0x79, cdw13 := 4 })), 0, (tCtx 1 { tCmd with opcode := 0x79, cdw13 := 4 }), 0, waits_of (by decide), by decide⟩,
   ⟨(tWait (st tState [(ZX_NS.zoned, 0, 0), (ZX_NS.enable, 0, 1)]) (tCtx 1 { tCmd with opcode := 0x79, cdw13 := 5 })), 0, (tCtx 1 { tCmd with opcode := 0x79, cdw13 := 5 }), 0, waits_of (by decide), by decide⟩,
   ⟨(tWait (st tState [(ZX_NS.zoned, 0, 1), (ZX_NS.enable, 0, 1)]) (tCtx 1 { tCmd with opcode := 0x7A, cdw13 := 0 })), 0, (tCtx 1 { tCmd with opcode := 0x7A, cdw13 := 0 }), 0, waits_of (by decide), by decide⟩⟩

/-- The hypotheses of `HostFirmwareCommands`. -/
theorem witness_HostFirmwareCommands :
    (∃ (s : State) (c : Nat) (x : Ctx), Waits s c x true 0x11 ∧ let n := 4 * (x.cmd.cdw10 + 1); let o := 4 * x.cmd.cdw11; stageSize < o + n) ∧
    (∃ (s : State) (c : Nat) (x : Ctx), Waits s c x true 0x11 ∧ let n := 4 * (x.cmd.cdw10 + 1); let o := 4 * x.cmd.cdw11; o + n ≤ stageSize ∧ s.fwRanges.any (fun r => r.1 != x.ctl && overlap r.2.1 r.2.2 o n) = true) ∧
    (∃ (s : State) (c : Nat) (x : Ctx), Waits s c x true 0x11 ∧ let n := 4 * (x.cmd.cdw10 + 1); let o := 4 * x.cmd.cdw11; o + n ≤ stageSize ∧ s.fwRanges.any (fun r => r.1 != x.ctl && overlap r.2.1 r.2.2 o n) = false) ∧
    (∃ (s : State) (c : Nat) (x : Ctx), Waits s c x true 0x10 ∧ 3 < x.cmd.cdw10 / 8 % 8) ∧
    (∃ (s : State) (c : Nat) (x : Ctx), Waits s c x true 0x10 ∧ x.cmd.cdw10 / 8 % 8 < 3 ∧ let kind := if s.fwRanges.isEmpty then 5 else stagedKind (cellsRd s.fwStage); stagedOk s kind (cellsRd s.fwStage) = false) ∧
    (∃ (s : State), coreUp s = true ∧ s.on X.fw_flash = true) ∧
    (∃ (s : State), coreUp s = true ∧ s.on X.fw_flash = false) :=
  ⟨⟨(tWait tState (tCtx 0 { tCmd with opcode := 0x11, cdw11 := 0xFFFFFFFF })), 0, (tCtx 0 { tCmd with opcode := 0x11, cdw11 := 0xFFFFFFFF }), waits_of (by decide), by decide⟩,
   ⟨(tWait { tState with fwRanges := [(1, (0, 8))] } (tCtx 0 { tCmd with opcode := 0x11 })), 0, (tCtx 0 { tCmd with opcode := 0x11 }), waits_of (by decide), by decide⟩,
   ⟨(tWait tState (tCtx 0 { tCmd with opcode := 0x11 })), 0, (tCtx 0 { tCmd with opcode := 0x11 }), waits_of (by decide), by decide⟩,
   ⟨(tWait tState (tCtx 0 { tCmd with opcode := 0x10, cdw10 := 56 })), 0, (tCtx 0 { tCmd with opcode := 0x10, cdw10 := 56 }), waits_of (by decide), by decide⟩,
   ⟨(tWait tState (tCtx 0 { tCmd with opcode := 0x10 })), 0, (tCtx 0 { tCmd with opcode := 0x10 }), waits_of (by decide), by decide⟩,
   ⟨(st tState [(X.fw_flash, 0, 1)]), by decide⟩,
   ⟨(st tState [(X.fw_flash, 0, 0)]), by decide⟩⟩

/-- The hypotheses of `HostAdminCommands`. -/
theorem witness_HostAdminCommands :
    (∃ (s : State) (c : Nat) (x : Ctx), Waits s c x true 0x06 ∧ (identifyOut s x.ctl x.cmd).1 ≠ 0) ∧
    (∃ (s : State) (c : Nat) (x : Ctx), Waits s c x true 0x06 ∧ (identifyOut s x.ctl x.cmd).1 = 0) ∧
    (∃ (s : State) (c : Nat) (x : Ctx), Waits s c x true 0x02 ∧ logKnown (x.cmd.cdw10 % 256) = false) ∧
    (∃ (s : State) (c : Nat) (x : Ctx) (p : _), Waits s c x true 0x02 ∧ logKnown (x.cmd.cdw10 % 256) = true ∧ x.cmd.cdw10.testBit 15 = true ∧ logPage s x.ctl x.cmd.nsid (x.cmd.cdw10 % 256) (x.cmd.cdw10 / 256 % 128) (x.cmd.cdw11 / 65536) = some p) ∧
    (∃ (s : State) (c : Nat) (x : Ctx), Waits s c x true 0x09 ∧ featureIds.contains (x.cmd.cdw10 % 256) = false) ∧
    (∃ (s : State) (c : Nat) (x : Ctx), Waits s c x true 0x09 ∧ x.cmd.cdw10 % 256 = 7) ∧
    (∃ (s : State) (c : Nat) (x : Ctx), Waits s c x true 0x09 ∧ featureIds.contains (x.cmd.cdw10 % 256) = true ∧ x.cmd.cdw10 % 256 ∉ [2, 6, 7, 0x0E]) ∧
    (∃ (s : State) (c : Nat) (x : Ctx), Waits s c x true 0x09 ∧ x.cmd.cdw10 % 256 = 2 ∧ 4 < x.cmd.cdw11 % 32) ∧
    (∃ (s : State) (c : Nat) (x : Ctx), Waits s c x true 0x09 ∧ x.cmd.cdw10 % 256 = 2 ∧ x.cmd.cdw11 % 32 ≤ 4) ∧
    (∃ (s : State) (c : Nat) (x : Ctx), Waits s c x true 0x0A ∧ featureIds.contains (x.cmd.cdw10 % 256) = false) ∧
    (∃ (s : State) (c : Nat) (x : Ctx), Waits s c x true 0x0A ∧ featureIds.contains (x.cmd.cdw10 % 256) = true ∧ x.cmd.cdw10 % 256 ≠ 0x0E) ∧
    (∃ (s : State) (c : Nat) (x : Ctx), coreUp s = true ∧ ctxOf s c = some x ∧ x.stage = 0 ∧ ((if x.qid = 0 then adminOps.contains x.cmd.opcode else ioOps.contains x.cmd.opcode) = false)) :=
  ⟨⟨(tWait tState (tCtx 0 { tCmd with opcode := 0x06, cdw10 := 5 })), 0, (tCtx 0 { tCmd with opcode := 0x06, cdw10 := 5 }), waits_of (by decide), by decide⟩,
   ⟨(tWait tState (tCtx 0 { tCmd with opcode := 0x06 })), 0, (tCtx 0 { tCmd with opcode := 0x06 }), waits_of (by decide), by decide⟩,
   ⟨(tWait tState (tCtx 0 { tCmd with opcode := 0x02 })), 0, (tCtx 0 { tCmd with opcode := 0x02 }), waits_of (by decide), by decide⟩,
   ⟨(tWait tState (tCtx 0 { tCmd with opcode := 0x02, cdw10 := 2 ^ 15 + 2 })), 0, (tCtx 0 { tCmd with opcode := 0x02, cdw10 := 2 ^ 15 + 2 }), _, waits_of (by decide), by decide, by decide, rfl⟩,
   ⟨(tWait tState (tCtx 0 { tCmd with opcode := 0x09 })), 0, (tCtx 0 { tCmd with opcode := 0x09 }), waits_of (by decide), by decide⟩,
   ⟨(tWait tState (tCtx 0 { tCmd with opcode := 0x09, cdw10 := 7 })), 0, (tCtx 0 { tCmd with opcode := 0x09, cdw10 := 7 }), waits_of (by decide), by decide⟩,
   ⟨(tWait tState (tCtx 0 { tCmd with opcode := 0x09, cdw10 := 4 })), 0, (tCtx 0 { tCmd with opcode := 0x09, cdw10 := 4 }), waits_of (by decide), by decide⟩,
   ⟨(tWait tState (tCtx 0 { tCmd with opcode := 0x09, cdw10 := 2, cdw11 := 5 })), 0, (tCtx 0 { tCmd with opcode := 0x09, cdw10 := 2, cdw11 := 5 }), waits_of (by decide), by decide⟩,
   ⟨(tWait tState (tCtx 0 { tCmd with opcode := 0x09, cdw10 := 2 })), 0, (tCtx 0 { tCmd with opcode := 0x09, cdw10 := 2 }), waits_of (by decide), by decide⟩,
   ⟨(tWait tState (tCtx 0 { tCmd with opcode := 0x0A })), 0, (tCtx 0 { tCmd with opcode := 0x0A }), waits_of (by decide), by decide⟩,
   ⟨(tWait tState (tCtx 0 { tCmd with opcode := 0x0A, cdw10 := 4 })), 0, (tCtx 0 { tCmd with opcode := 0x0A, cdw10 := 4 }), waits_of (by decide), by decide⟩,
   ⟨(tWait tState (tCtx 0 { tCmd with opcode := 0xFF })), 0, (tCtx 0 { tCmd with opcode := 0xFF }), by decide⟩⟩

/-- The hypotheses of `HostNamespaceCommands`. -/
theorem witness_HostNamespaceCommands :
    (∃ (s : State) (c : Nat) (x : Ctx), Waits s c x true 0x84 ∧ s.on X.san_active = true) ∧
    (∃ (s : State) (c : Nat) (x : Ctx), Waits s c x true 0x84 ∧ s.on X.san_active = false ∧ x.cmd.cdw10 % 8 = 1) ∧
    (∃ (s : State) (c : Nat) (x : Ctx), Waits s c x true 0x84 ∧ s.on X.san_active = false ∧ x.cmd.cdw10 % 8 = 3 ∧ nsQuiet (dstEnd 9 s) none = true) ∧
    (∃ (s : State) (c : Nat) (x : Ctx), Waits s c x true 0x80 ∧ s.on X.san_active = false ∧ cmdNs s x = none) ∧
    (∃ (s : State) (c : Nat) (x : Ctx) (n : _), Waits s c x true 0x80 ∧ s.on X.san_active = false ∧ cmdNs s x = some n ∧ x.cmd.cdw10 % 16 ≠ 0) ∧
    (∃ (s : State) (c : Nat) (x : Ctx) (n : _), Waits s c x true 0x80 ∧ s.on X.san_active = false ∧ cmdNs s x = some n ∧ x.cmd.cdw10 = 0 ∧ nsQuiet s (some n) = true ∧ s.get X.dst_ns ≠ 0 ∧ s.get X.dst_ns ≠ n + 1) ∧
    (∃ (s : State) (c : Nat) (x : Ctx), Waits s c x true 0x14 ∧ x.cmd.cdw10 % 16 = 15) ∧
    (∃ (s : State) (c : Nat) (x : Ctx), Waits s c x true 0x14 ∧ x.cmd.cdw10 % 16 = 1 ∧ s.on X.san_active = false ∧ s.get X.dst_run ≠ 0) ∧
    (∃ (s : State) (c : Nat) (x : Ctx), Waits s c x true 0x14 ∧ x.cmd.cdw10 % 16 = 1 ∧ s.on X.san_active = false ∧ s.get X.dst_run = 0 ∧ x.cmd.nsid = 0) ∧
    (∃ (s : State), coreUp s = true ∧ s.get X.dst_run ≠ 0 ∧ s.on X.dst_yield = true) ∧
    (∃ (s : State), coreUp s = true ∧ s.on X.dst_yield = false) ∧
    (∃ (s : State) (c : Nat) (x : Ctx), Waits s c x true 0x0D ∧ x.cmd.cdw10 % 16 = 0) ∧
    (∃ (s : State) (c : Nat) (x : Ctx), Waits s c x true 0x0D ∧ x.cmd.cdw10 % 16 = 1 ∧ 0 < x.cmd.nsid ∧ x.cmd.nsid ≤ 64 ∧ s.get ZX_NS.enable (x.cmd.nsid - 1) ≠ 0 ∧ let v := dstEndFor 3 (x.cmd.nsid - 1) s; nsQuiet v (some (x.cmd.nsid - 1)) = true) ∧
    (∃ (s : State) (c : Nat) (x : Ctx), Waits s c x true 0x15 ∧ x.cmd.nsid = 0) ∧
    (∃ (s : State) (c : Nat) (x : Ctx), Waits s c x true 0x15 ∧ 0 < x.cmd.nsid ∧ x.cmd.nsid ≤ 64 ∧ s.get ZX_NS.enable (x.cmd.nsid - 1) ≠ 0 ∧ x.cmd.cdw10 % 16 = 0 ∧ x.cmd.cdw11 = 1 ∧ s.get X.ns_off (2 * (x.cmd.nsid - 1)) ≠ 0) ∧
    (∃ (s : State) (c : Nat) (x : Ctx) (op : _), op ∈ [0x0D, 0x0E, 0x11, 0x15] ∧ Waits s c x false op ∧ cmdNs s x = none) ∧
    (∃ (s : State) (c : Nat) (x : Ctx) (n : _), Waits s c x false 0x0E ∧ cmdNs s x = some n) ∧
    (∃ (s : State) (c : Nat) (x : Ctx) (n : _), Waits s c x false 0x0D ∧ cmdNs s x = some n) ∧
    (∃ (s : State) (c : Nat) (x : Ctx) (n : _), Waits s c x false 0x11 ∧ cmdNs s x = some n) ∧
    (∃ (s : State) (c : Nat) (x : Ctx) (n : _), Waits s c x false 0x15 ∧ cmdNs s x = some n) :=
  ⟨⟨(tWait (st tState [(X.san_active, 0, 1)]) (tCtx 0 { tCmd with opcode := 0x84 })), 0, (tCtx 0 { tCmd with opcode := 0x84 }), waits_of (by decide), by decide⟩,
   ⟨(tWait (st tState [(X.san_active, 0, 0)]) (tCtx 0 { tCmd with opcode := 0x84, cdw10 := 1 })), 0, (tCtx 0 { tCmd with opcode := 0x84, cdw10 := 1 }), waits_of (by decide), by decide⟩,
   ⟨(tWait (st tState [(X.san_active, 0, 0)]) (tCtx 0 { tCmd with opcode := 0x84, cdw10 := 3 })), 0, (tCtx 0 { tCmd with opcode := 0x84, cdw10 := 3 }), waits_of (by decide), by decide⟩,
   ⟨(tWait (st tState [(X.san_active, 0, 0)]) (tCtx 0 { tCmd with opcode := 0x80, nsid := 0 })), 0, (tCtx 0 { tCmd with opcode := 0x80, nsid := 0 }), waits_of (by decide), by decide⟩,
   ⟨(tWait (st tState [(X.san_active, 0, 0), (ZX_NS.enable, 0, 1)]) (tCtx 0 { tCmd with opcode := 0x80, cdw10 := 1 })), 0, (tCtx 0 { tCmd with opcode := 0x80, cdw10 := 1 }), 0, waits_of (by decide), by decide⟩,
   ⟨(tWait (st tState [(X.san_active, 0, 0), (X.dst_ns, 0, 2), (ZX_NS.enable, 0, 1)]) (tCtx 0 { tCmd with opcode := 0x80, cdw10 := 0 })), 0, (tCtx 0 { tCmd with opcode := 0x80, cdw10 := 0 }), 0, waits_of (by decide), by decide⟩,
   ⟨(tWait tState (tCtx 0 { tCmd with opcode := 0x14, cdw10 := 15 })), 0, (tCtx 0 { tCmd with opcode := 0x14, cdw10 := 15 }), waits_of (by decide), by decide⟩,
   ⟨(tWait (st tState [(X.san_active, 0, 0), (X.dst_run, 0, 1)]) (tCtx 0 { tCmd with opcode := 0x14, cdw10 := 1 })), 0, (tCtx 0 { tCmd with opcode := 0x14, cdw10 := 1 }), waits_of (by decide), by decide⟩,
   ⟨(tWait (st tState [(X.san_active, 0, 0), (X.dst_run, 0, 0)]) (tCtx 0 { tCmd with opcode := 0x14, cdw10 := 1, nsid := 0 })), 0, (tCtx 0 { tCmd with opcode := 0x14, cdw10 := 1, nsid := 0 }), waits_of (by decide), by decide⟩,
   ⟨(st tState [(X.dst_run, 0, 1), (X.dst_yield, 0, 1)]), by decide⟩,
   ⟨(st tState [(X.dst_yield, 0, 0)]), by decide⟩,
   ⟨(tWait tState (tCtx 0 { tCmd with opcode := 0x0D, cdw10 := 0 })), 0, (tCtx 0 { tCmd with opcode := 0x0D, cdw10 := 0 }), waits_of (by decide), by decide⟩,
   ⟨(tWait (st tState [(ZX_NS.enable, 1 - 1, 1)]) (tCtx 0 { tCmd with opcode := 0x0D, cdw10 := 1, nsid := 1 })), 0, (tCtx 0 { tCmd with opcode := 0x0D, cdw10 := 1, nsid := 1 }), waits_of (by decide), by decide⟩,
   ⟨(tWait tState (tCtx 0 { tCmd with opcode := 0x15, nsid := 0 })), 0, (tCtx 0 { tCmd with opcode := 0x15, nsid := 0 }), waits_of (by decide), by decide⟩,
   ⟨(tWait (st tState [(ZX_NS.enable, 1 - 1, 1), (X.ns_off, 0, 1)]) (tCtx 0 { tCmd with opcode := 0x15, nsid := 1, cdw10 := 0, cdw11 := 1 })), 0, (tCtx 0 { tCmd with opcode := 0x15, nsid := 1, cdw10 := 0, cdw11 := 1 }), waits_of (by decide), by decide⟩,
   ⟨(tWait tState (tCtx 1 { tCmd with opcode := 0x0D, nsid := 0 })), 0, (tCtx 1 { tCmd with opcode := 0x0D, nsid := 0 }), 0x0D, by decide, waits_of (by decide), by decide⟩,
   ⟨(tWait (st tState [(ZX_NS.enable, 0, 1)]) (tCtx 1 { tCmd with opcode := 0x0E })), 0, (tCtx 1 { tCmd with opcode := 0x0E }), 0, waits_of (by decide), by decide⟩,
   ⟨(tWait (st tState [(ZX_NS.enable, 0, 1)]) (tCtx 1 { tCmd with opcode := 0x0D })), 0, (tCtx 1 { tCmd with opcode := 0x0D }), 0, waits_of (by decide), by decide⟩,
   ⟨(tWait (st tState [(ZX_NS.enable, 0, 1)]) (tCtx 1 { tCmd with opcode := 0x11 })), 0, (tCtx 1 { tCmd with opcode := 0x11 }), 0, waits_of (by decide), by decide⟩,
   ⟨(tWait (st tState [(ZX_NS.enable, 0, 1)]) (tCtx 1 { tCmd with opcode := 0x15 })), 0, (tCtx 1 { tCmd with opcode := 0x15 }), 0, waits_of (by decide), by decide⟩⟩

/-- The hypotheses of `PowerGrants`. -/
theorem witness_PowerGrants :
    (∃ (s : State) (p : Nat) (r : _) (onU : _), coreUp s = true ∧ p < 128 ∧ hgNext s = some (r, onU) ∧ r.port = p ∧ r.spinUp = false ∧ portKind s p ≠ 4) ∧
    (∃ (s : State) (p : Nat), coreUp s = true ∧ p < 128 ∧ hgNext s = none) ∧
    (∃ (s : State) (p : Nat), coreUp s = true ∧ p < 128 ∧ s.hgGrants = [] ∧ s.hgReqs = [] ∧ s.get X.hg_persist 0 = 0 ∧ s.get X.hg_persist 1 = 0) ∧
    (∃ (s : State) (p : Nat) (g : _), coreUp s = true ∧ p < 128 ∧ grantOf s p = some g ∧ g.withdrawing = true ∧ hgStopped s p = true) ∧
    (∃ (s : State) (p : Nat) (g : _), coreUp s = true ∧ p < 128 ∧ grantOf s p = some g ∧ g.withdrawing = true ∧ hgStopped s p = false) ∧
    (∃ (s : State) (p : Nat) (g : _), coreUp s = true ∧ p < 128 ∧ grantOf s p = some g ∧ g.withdrawing = true ∧ (portKind s p = 4 ∨ portKind s p = 5)) ∧
    (∃ (s : State) (p : Nat), coreUp s = true ∧ p < 128 ∧ s.on X.hg_stagger = true) ∧
    (∃ (s : State) (p : Nat), coreUp s = true ∧ p < 128 ∧ s.on X.hg_stagger = false) ∧
    (∃ (s : State) (p : Nat), coreUp s = true ∧ p < 128 ∧ grantOf s p = none ∧ portKind s p = 1) ∧
    (∃ (s : State) (p : Nat) (mA : _), coreUp s = true ∧ p < 128 ∧ mA ≤ s.get HG_ILIM.i12_ma) ∧
    (∃ (s : State) (p : Nat) (mA : _), coreUp s = true ∧ p < 128 ∧ s.get HG_ILIM.i5_ma < mA ∧ s.get X.hg_trip 1 = 0) ∧
    (∃ (s : State) (p : Nat) (rail : _), coreUp s = true ∧ p < 128 ∧ s.on X.hg_trip (b2n rail) = true) ∧
    (∃ (s : State) (p : Nat) (g : _), coreUp s = true ∧ p < 128 ∧ okPowerGroup g = true ∧ (2 * s.get HG_GROUP_ON.force).testBit g = false ∧ s.hgGrants.any (fun x => s.get HG_PORT_CFG.group x.port == g) = false) ∧
    (∃ (s : State) (p : Nat) (g : _), coreUp s = true ∧ p < 128 ∧ okPowerGroup g = true ∧ (2 * s.get HG_GROUP_ON.force).testBit g = true) ∧
    (∃ (s : State) (p : Nat), coreUp s = true ∧ p < 128 ∧ s.hgReqs.any (fun r => r.port == p && !r.urgent && !r.spinUp) = true ∧ s.get HG_PORT_STATUS.oversize p = 0) :=
  ⟨⟨(st { tState with hgReqs := [⟨127, 1, false, 2, 0, false⟩] } [(HG_CTRL.enable, 0, 1), (HG_POOL.b, 0, 100), (X.hg_c, 0, 100), (HG_PORT_CFG.kind, 127, 1)]), 127, ⟨127, 1, false, 2, 0, false⟩, 0, by decide⟩,
   ⟨tState, 127, by decide⟩,
   ⟨(st tState [(X.hg_persist, 0, 0), (X.hg_persist, 1, 0)]), 127, by decide⟩,
   ⟨(st { tState with hgGrants := [⟨127, 1, [], 0, 0, true⟩] } [(HG_PORT_CFG.kind, 127, 1)]), 127, ⟨127, 1, [], 0, 0, true⟩, by decide⟩,
   ⟨(st { tState with hgGrants := [⟨127, 1, [], 0, 0, true⟩] } [(HG_PORT_CFG.kind, 127, 3), (HG_PORT_CFG.first, 127, 63), (HG_PORT_CFG.count, 127, 1), (WP_HEAD_STATE.gate, 63, 1)]), 127, ⟨127, 1, [], 0, 0, true⟩, by decide⟩,
   ⟨(st { tState with hgGrants := [⟨127, 1, [], 0, 0, true⟩] } [(HG_PORT_CFG.kind, 127, 4)]), 127, ⟨127, 1, [], 0, 0, true⟩, by decide⟩,
   ⟨(st tState [(X.hg_stagger, 0, 1)]), 127, by decide⟩,
   ⟨(st tState [(X.hg_stagger, 0, 0)]), 127, by decide⟩,
   ⟨(st tState [(HG_PORT_CFG.kind, 127, 1)]), 127, by decide⟩,
   ⟨tState, 127, 0, by decide⟩,
   ⟨(st tState [(X.hg_trip, 1, 0)]), 127, 65535, by decide⟩,
   ⟨(st tState [(X.hg_trip, b2n true, 1), (X.hg_trip, 1, 1)]), 127, true, by decide⟩,
   ⟨tState, 127, 31, by decide⟩,
   ⟨(st tState [(HG_GROUP_ON.force, 0, 2 ^ 30)]), 127, 31, by decide⟩,
   ⟨(st { tState with hgReqs := [⟨127, 1, false, 2, 0, false⟩] } [(HG_PORT_STATUS.oversize, 127, 0)]), 127, by decide⟩⟩

/-- The hypotheses of `Temperatures`. -/
theorem witness_Temperatures :
    (∃ (s : State) (i : _), coreUp s = true ∧ i < 18 ∧ s.on TH_SENSOR.failed i = true) ∧
    (∃ (s : State) (i : _) (t : _) (bad : _), coreUp s = true ∧ i < 18 ∧ s.on TH_SENSOR.failed i = false ∧ (signed 16 t < -320 ∨ 1200 < signed 16 t ∨ (bad = true ∧ 16 ≤ i))) ∧
    (∃ (s : State) (i : _) (t : _), coreUp s = true ∧ i < 16 ∧ s.on TH_SENSOR.failed i = false ∧ -320 ≤ signed 16 t ∧ signed 16 t ≤ 1200 ∧ let u := judgeNear i ((s.set TH_SENSOR.temp i t).set X.th_seen i 1); signed 16 t < u.getS TH_THR.shutdown) ∧
    (∃ (s : State) (i : _) (t : _), coreUp s = true ∧ i < 16 ∧ s.on TH_SENSOR.failed i = false ∧ -320 ≤ signed 16 t ∧ signed 16 t ≤ 1200 ∧ let u := judgeNear i ((s.set TH_SENSOR.temp i t).set X.th_seen i 1); u.getS TH_THR.shutdown ≤ signed 16 t ∧ u.on X.th_shut i = false) ∧
    (∃ (s : State) (i : _) (t : _), coreUp s = true ∧ i < 16 ∧ s.on TH_SENSOR.failed i = false ∧ -320 ≤ signed 16 t ∧ signed 16 t ≤ 1200 ∧ let u := judgeNear i ((s.set TH_SENSOR.temp i t).set X.th_seen i 1); u.getS TH_THR.shutdown ≤ signed 16 t ∧ u.on X.th_shut i = true) ∧
    (∃ (s : State) (i : _) (t : _), coreUp s = true ∧ 16 ≤ i ∧ i < 18 ∧ s.on TH_SENSOR.failed i = false ∧ -320 ≤ signed 16 t ∧ signed 16 t ≤ 1200) ∧
    (∃ (s : State), coreUp s = true ∧ s.on X.th_throttle = true ∧ s.getS TH_THR.throttle ≤ s.getS TH_STATUS.tj ∧ s.get TH_STATUS.step < 8) ∧
    (∃ (s : State), coreUp s = true ∧ s.get TH_STATUS.step = 8) ∧
    (∃ (s : State), coreUp s = true ∧ tjCool s = true ∧ stepFloor s < s.get TH_STATUS.step) ∧
    (∃ (s : State), coreUp s = true ∧ s.get TH_STATUS.step ≤ stepFloor s) ∧
    (∃ (s : State), coreUp s = true ∧ s.on TH_STATUS.shutdown = true ∧ spin s = spStopped ∧ s.getS TH_THR.shutdown ≤ s.getS TH_STATUS.tj) ∧
    (∃ (s : State), coreUp s = true ∧ s.getS TH_STATUS.tj < s.getS TH_THR.shutdown) ∧
    (∃ (s : State), coreUp s = true ∧ tjCool s = false) ∧
    (∃ (s : State) (x : _), coreUp s = true ∧ x < 64) ∧
    (∃ (s : State) (h : _), coreUp s = true ∧ h < 64 ∧ headKept s h = true) :=
  ⟨⟨(st tState [(TH_SENSOR.failed, 17, 1)]), 17, by decide⟩,
   ⟨(st tState [(TH_SENSOR.failed, 17, 0)]), 17, 0, true, by decide⟩,
   ⟨(st tState [(TH_SENSOR.failed, 15, 0)]), 15, 65216, by decide⟩,
   ⟨(st tState [(TH_SENSOR.failed, 15, 0)]), 15, 1200, by decide⟩,
   ⟨(st tState [(TH_SENSOR.failed, 15, 0), (X.th_shut, 15, 1)]), 15, 1200, by decide⟩,
   ⟨(st tState [(TH_SENSOR.failed, 17, 0)]), 17, 0, by decide⟩,
   ⟨(st tState [(X.th_throttle, 0, 1)]), by decide⟩,
   ⟨(st tState [(TH_STATUS.step, 0, 8)]), by decide⟩,
   ⟨(st tState [(TH_STATUS.step, 0, 8)]), by decide⟩,
   ⟨tState, by decide⟩,
   ⟨(st tState [(TH_STATUS.shutdown, 0, 1), (MC_SPIN_STATUS.state, 0, spStopped)]), by decide⟩,
   ⟨(st tState [(TH_STATUS.tj, 0, 2 ^ 16 - 320)]), by decide⟩,
   ⟨(st tState [(TH_STATUS.tj, 0, 1200)]), by decide⟩,
   ⟨tState, 63, by decide⟩,
   ⟨(st tState [(MS_HEAD_SVC.in_service, 63, 1)]), 63, by decide⟩⟩

/-- The hypotheses of `ResetsAndPower`. -/
theorem witness_ResetsAndPower :
    (∃ (s : State) (ns : _), auxUp s = true ∧ 10000 ≤ ns) ∧
    (∃ (s : State) (ns : _), auxUp s = true ∧ ns < 2000) ∧
    (∃ (s : State) (p : _), auxUp s = true ∧ p < 2 ∧ s.on X.core_off = true) ∧
    (∃ (s : State), auxUp s = true ∧ s.get X.core_off = 0 ∧ s.on HIF_PORT_CFG.mode = false) ∧
    (∃ (s : State), auxUp s = true ∧ s.get X.core_off = 0 ∧ s.on HIF_PORT_CFG.mode = true ∧ s.on X.perst_pin 1 = false) ∧
    (∃ (s : State), auxUp s = true ∧ s.get X.core_off = 0 ∧ s.on HIF_PORT_CFG.mode = true ∧ s.on X.perst_pin 1 = true) ∧
    (∃ (s : State) (p : _), auxUp s = true ∧ p < 2 ∧ s.get X.core_off = 0) ∧
    (∃ (s : State), auxUp s = true ∧ s.on X.core_off = true ∧ s.get X.deep_in = 0) ∧
    (∃ (s : State), auxUp s = true ∧ s.on X.deep_in = true ∧ s.on CR_DEEP_CFG.wake_timer = true) ∧
    (∃ (s : State), auxUp s = true ∧ s.on X.deep_in = true ∧ s.on X.deep_wake = true) ∧
    (∃ (s : State), auxUp s = true ∧ s.on X.deep_wake = false) ∧
    (∃ (s : State), auxUp s = true ∧ coreUp s = true ∧ (∀ a, a < 4 → s.get X.vcm_phase a ≠ 2)) ∧
    (∃ (s : State) (src : _), auxUp s = true ∧ coreUp s = true ∧ 3 ≤ src ∧ src ≤ 6 ∧ s.on X.boot_wait = false) ∧
    (∃ (s : State) (src : _), auxUp s = true ∧ coreUp s = true ∧ 3 ≤ src ∧ src ≤ 6 ∧ s.on X.boot_wait = true ∧ s.get CR_RST_CAUSE.cls ≤ 2) ∧
    (∃ (s : State), auxUp s = true ∧ coreUp s = true ∧ s.on X.fw_act = true) ∧
    (∃ (s : State), auxUp s = true ∧ coreUp s = true ∧ s.on X.fw_act = false) ∧
    (∃ (s : State) (c : _), auxUp s = true ∧ coreUp s = true ∧ c < 9) ∧
    (∃ (s : State) (a : _), auxUp s = true ∧ coreUp s = true ∧ a < 4 ∧ (s.get CR_ACT_STATUS.in_reset).testBit a = true ∧ s.get X.vcm_phase a = 0 ∧ let u := (s.clearBitOf CR_ACT_STATUS.in_reset 0 a).raise CR_INT.act_done; let u := u.each ((u.image.actHeads a).filter (fun h => u.get X.head_lost h == 2)) (fun h t => t.clear X.head_lost h); let v := hgFixedGrants (u.clear X.act_lost a); v.on HL_CTRL.enable = false) ∧
    (∃ (s : State) (a : _), auxUp s = true ∧ coreUp s = true ∧ a < 4 ∧ (s.get CR_ACT_STATUS.in_reset).testBit a = true ∧ s.get X.vcm_phase a = 0 ∧ let u := (s.clearBitOf CR_ACT_STATUS.in_reset 0 a).raise CR_INT.act_done; let u := u.each ((u.image.actHeads a).filter (fun h => u.get X.head_lost h == 2)) (fun h t => t.clear X.head_lost h); let v := hgFixedGrants (u.clear X.act_lost a); v.on HL_CTRL.enable = true) ∧
    (∃ (s : State) (a : _), auxUp s = true ∧ coreUp s = true ∧ a < 4 ∧ (s.get CR_ACT_STATUS.in_reset).testBit a = false) ∧
    (∃ (s : State) (c : _), auxUp s = true ∧ coreUp s = true ∧ c < 8 ∧ s.on CR_WDT_CFG.enable = true) ∧
    (∃ (s : State) (c : _) (v : _), auxUp s = true ∧ coreUp s = true ∧ c < 10 ∧ v ≠ 0xC0DE) ∧
    (∃ (s : State), auxUp s = true ∧ coreUp s = true ∧ s.on CR_WDT_CFG.enable = true ∧ s.get CR_WDT_STATUS.stage = 1) ∧
    (∃ (s : State), auxUp s = true ∧ coreUp s = true ∧ s.on CR_WDT_CFG.enable = true ∧ s.get CR_WDT_STATUS.stage = 2 ∧ s.on X.boot_wait = false) ∧
    (∃ (s : State), auxUp s = true ∧ coreUp s = true ∧ s.on CR_WDT_CFG.enable = false) ∧
    (∃ (s : State), auxUp s = true ∧ coreUp s = true ∧ s.on X.pwr_deep = true ∧ s.get CR_PWR_STATUS.state = pwStandby ∧ s.get CR_PWR_STATUS.in_transition = 0 ∧ s.on X.er_deep_drain = true ∧ s.on X.er_draining = false) ∧
    (∃ (s : State), auxUp s = true ∧ coreUp s = true ∧ s.on X.pwr_deep = false) ∧
    (∃ (s : State) (ppm : _), auxUp s = true ∧ coreUp s = true ∧ 500 < ppm) ∧
    (∃ (s : State) (ppm : _), auxUp s = true ∧ coreUp s = true ∧ ppm ≤ 500) ∧
    (∃ (s : State) (c : _), auxUp s = true ∧ coreUp s = true ∧ c < 10 ∧ s.get CR_PWR_CTRL.target = pwIdleB ∧ s.get CR_PWR_STATUS.in_transition = 0) ∧
    (∃ (s : State) (c : _), auxUp s = true ∧ coreUp s = true ∧ c < 10 ∧ s.get CR_PWR_CTRL.target = pwStandby ∧ s.on CR_PWR_STATUS.in_transition = true) ∧
    (∃ (s : State), auxUp s = true ∧ coreUp s = true ∧ s.get CR_PWR_CTRL.target = 4 ∧ s.get CR_PWR_STATUS.state = pwStandby ∧ s.get CR_PWR_STATUS.in_transition = 0 ∧ s.get HIF_PORT_STATUS.dl_up 0 = 0 ∧ s.get HIF_PORT_STATUS.dl_up 1 = 0) ∧
    (∃ (s : State) (c : _), auxUp s = true ∧ coreUp s = true ∧ c < 10 ∧ c ≠ secCore ∧ s.get CR_PWR_CTRL.target = 4) ∧
    (∃ (s : State), auxUp s = true ∧ coreUp s = true ∧ s.on CR_PWR_STATUS.in_transition = false) ∧
    (∃ (s : State), auxUp s = true ∧ coreUp s = true ∧ s.on CR_PWR_CTRL.idle_a_en = true ∧ s.get CR_PWR_STATUS.state = pwActive ∧ s.get CR_PWR_STATUS.in_transition = 0 ∧ idleNow s = true ∧ (List.range 64).filter (fun x => laneState s x == laneActive) = []) ∧
    (∃ (s : State), auxUp s = true ∧ coreUp s = true ∧ s.on CR_PWR_CTRL.idle_a_en = false) :=
  ⟨⟨tState, 10000, by decide⟩,
   ⟨tState, 1999, by decide⟩,
   ⟨(st tState [(X.core_off, 0, 1)]), 1, by decide⟩,
   ⟨(st tState [(X.core_off, 0, 0), (HIF_PORT_CFG.mode, 0, 0)]), by decide⟩,
   ⟨(st tState [(X.core_off, 0, 0), (HIF_PORT_CFG.mode, 0, 1), (X.perst_pin, 1, 0)]), by decide⟩,
   ⟨(st tState [(X.core_off, 0, 0), (HIF_PORT_CFG.mode, 0, 1), (X.perst_pin, 1, 1)]), by decide⟩,
   ⟨(st tState [(X.core_off, 0, 0)]), 1, by decide⟩,
   ⟨(st tState [(X.core_off, 0, 1), (X.deep_in, 0, 0)]), by decide⟩,
   ⟨(st tState [(X.deep_in, 0, 1), (CR_DEEP_CFG.wake_timer, 0, 1)]), by decide⟩,
   ⟨(st tState [(X.deep_in, 0, 1), (X.deep_wake, 0, 1)]), by decide⟩,
   ⟨(st tState [(X.deep_wake, 0, 0)]), by decide⟩,
   ⟨tState, by decide⟩,
   ⟨(st tState [(X.boot_wait, 0, 0)]), 6, by decide⟩,
   ⟨(st tState [(X.boot_wait, 0, 1)]), 6, by decide⟩,
   ⟨(st tState [(X.fw_act, 0, 1)]), by decide⟩,
   ⟨(st tState [(X.fw_act, 0, 0)]), by decide⟩,
   ⟨tState, 8, by decide⟩,
   ⟨(st tState [(CR_ACT_STATUS.in_reset, 0, 2 ^ (3)), (X.vcm_phase, 3, 0)]), 3, by decide⟩,
   ⟨(st tState [(CR_ACT_STATUS.in_reset, 0, 8), (HL_CTRL.enable, 0, 1)]), 3, by decide⟩,
   ⟨tState, 3, by decide⟩,
   ⟨(st tState [(CR_WDT_CFG.enable, 0, 1)]), 7, by decide⟩,
   ⟨tState, 9, 0, by decide⟩,
   ⟨(st tState [(CR_WDT_CFG.enable, 0, 1), (CR_WDT_STATUS.stage, 0, 1)]), by decide⟩,
   ⟨(st tState [(CR_WDT_CFG.enable, 0, 1), (CR_WDT_STATUS.stage, 0, 2), (X.boot_wait, 0, 0)]), by decide⟩,
   ⟨(st tState [(CR_WDT_CFG.enable, 0, 0)]), by decide⟩,
   ⟨(st tState [(X.pwr_deep, 0, 1), (CR_PWR_STATUS.state, 0, pwStandby), (CR_PWR_STATUS.in_transition, 0, 0), (X.er_deep_drain, 0, 1), (X.er_draining, 0, 0)]), by decide⟩,
   ⟨(st tState [(X.pwr_deep, 0, 0)]), by decide⟩,
   ⟨tState, 501, by decide⟩,
   ⟨tState, 500, by decide⟩,
   ⟨(st tState [(CR_PWR_CTRL.target, 0, pwIdleB), (CR_PWR_STATUS.in_transition, 0, 0)]), 9, by decide⟩,
   ⟨(st tState [(CR_PWR_CTRL.target, 0, pwStandby), (CR_PWR_STATUS.in_transition, 0, 1)]), 9, by decide⟩,
   ⟨(st tState [(CR_PWR_CTRL.target, 0, 4), (CR_PWR_STATUS.state, 0, pwStandby), (CR_PWR_STATUS.in_transition, 0, 0), (HIF_PORT_STATUS.dl_up, 0, 0), (HIF_PORT_STATUS.dl_up, 1, 0)]), by decide⟩,
   ⟨(st tState [(CR_PWR_CTRL.target, 0, 4)]), 9, by decide⟩,
   ⟨(st tState [(CR_PWR_STATUS.in_transition, 0, 0)]), by decide⟩,
   ⟨(st tState [(CR_PWR_CTRL.idle_a_en, 0, 1), (CR_PWR_STATUS.state, 0, pwActive), (CR_PWR_STATUS.in_transition, 0, 0)]), by decide⟩,
   ⟨(st tState [(CR_PWR_CTRL.idle_a_en, 0, 0)]), by decide⟩⟩

/-- The hypotheses of `BootActions`. -/
theorem witness_BootActions :
    (∃ (s : State), coreUp s = true ∧ auxUp s = true ∧ s.on X.boot_wait = true) ∧
    (∃ (s : State), coreUp s = true ∧ auxUp s = true ∧ s.on X.boot_wait = false) ∧
    (∃ (s : State) (c : _), coreUp s = true ∧ auxUp s = true ∧ c < 10 ∧ c ≠ mgtCore ∧ (s.get SQ_STATUS.state (s.get SB_CTRL.seq) = 1 ∨ s.get SQ_STATUS.state (s.get SB_CTRL.seq) = 3)) ∧
    (∃ (s : State) (c : _), coreUp s = true ∧ auxUp s = true ∧ c < 10 ∧ c ≠ mgtCore ∧ s.get SQ_STATUS.state (s.get SB_CTRL.seq) = 2 ∧ s.image.hasAct (s.get SB_CTRL.seq) = true ∧ reloadOk s (s.get SB_CTRL.seq) = false) ∧
    (∃ (s : State) (b : _), coreUp s = true ∧ auxUp s = true ∧ ownerCause s b ≠ 0 ∧ numAt b 4 2 = 1) ∧
    (∃ (s : State) (b : _), coreUp s = true ∧ auxUp s = true ∧ ownerCause s b ≠ 0 ∧ numAt b 4 2 = 2) ∧
    (∃ (s : State) (b : _), coreUp s = true ∧ auxUp s = true ∧ ownerCause s b ≠ 0 ∧ numAt b 4 2 = 3) ∧
    (∃ (s : State) (b : _), coreUp s = true ∧ auxUp s = true ∧ ownerCause s b ≠ 0 ∧ numAt b 4 2 = 4) ∧
    (∃ (s : State) (b : _), coreUp s = true ∧ auxUp s = true ∧ ownerCause s b ≠ 0 ∧ numAt b 4 2 = 5) ∧
    (∃ (s : State) (m : _), coreUp s = true ∧ auxUp s = true ∧ s.img = some m) ∧
    (∃ (s : State), coreUp s = true ∧ auxUp s = true ∧ s.img = none ∧ mpAnswers s = true) :=
  ⟨⟨(st tState [(X.boot_wait, 0, 1)]), by decide⟩,
   ⟨(st tState [(X.boot_wait, 0, 0)]), by decide⟩,
   ⟨(st tState [(SQ_STATUS.state, 0, 1)]), 8, by decide⟩,
   ⟨(st tState [(SQ_STATUS.state, 0, 2)]), 8, by decide⟩,
   ⟨tState, [0, 0, 0, 0, 1, 0], by decide⟩,
   ⟨tState, [0, 0, 0, 0, 2, 0], by decide⟩,
   ⟨tState, [0, 0, 0, 0, 3, 0], by decide⟩,
   ⟨tState, [0, 0, 0, 0, 4, 0], by decide⟩,
   ⟨tState, [0, 0, 0, 0, 5, 0], by decide⟩,
   ⟨tState, tImg, by decide⟩,
   ⟨(st State.reset [(MP_CTRL.enable, 0, 1), (X.mgt_run, 0, 1)]), by decide⟩⟩

/-- The hypotheses of `DataMemories`. -/
theorem witness_DataMemories :
    (∃ (s : State) (d : Nat) (op : MemOp) (a : _), coreUp s = true ∧ d < 2 ∧ (op = .read ∨ op = .write) ∧ a < cisternBase) ∧
    (∃ (s : State) (d : Nat) (op : MemOp) (a : _), coreUp s = true ∧ d < 2 ∧ (op = .read ∨ op = .write) ∧ inReservoir a = false ∧ (∀ k, inPrivate k a = false)) ∧
    (∃ (s : State) (d : Nat) (m : _) (op : MemOp) (a : _), coreUp s = true ∧ d < 2 ∧ let uncached := s.l2 = [] ∧ s.victim = [] ∧ s.fills = []; (op = .read ∨ op = .write) ∧ appCoreOf m = none ∧ cisternBase ≤ a ∧ deviceOf s a = none ∧ uncached) ∧
    (∃ (s : State) (d : Nat) (m : _) (a : _), coreUp s = true ∧ d < 2 ∧ appCoreOf m = none ∧ deviceOf s a = some d ∧ devUp s d = false) ∧
    (∃ (s : State) (d : Nat) (m : _) (a : _) (b : List Byte), coreUp s = true ∧ d < 2 ∧ let uncached := s.l2 = [] ∧ s.victim = [] ∧ s.fills = []; appCoreOf m = none ∧ deviceOf s a = some d ∧ devState s d = devReady ∧ a % 32 = 0 ∧ b.length = 32 ∧ uncached) ∧
    (∃ (s : State) (d : Nat) (m : _) (a : _) (n : _), coreUp s = true ∧ d < 2 ∧ let uncached := s.l2 = [] ∧ s.victim = [] ∧ s.fills = []; appCoreOf m = none ∧ deviceOf s a = some d ∧ devState s d = devReady ∧ cisternGap s a n = none ∧ (unitsOf a n).find? (fun u => s.cisternPoison.contains u) = none ∧ uncached) ∧
    (∃ (s : State) (d : Nat) (m : _) (a : _) (n : _) (x : CacheLine), coreUp s = true ∧ d < 2 ∧ appCoreOf m = none ∧ cisternBase ≤ a ∧ a < 0x1F0000000 ∧ s.l1d = [] ∧ KV.get s.l2 (a / 64) = some x ∧ x.poison = 0 ∧ x.data.length = 64 ∧ 0 < n ∧ a % 64 + n ≤ 64) ∧
    (∃ (s : State) (d : Nat) (m : _) (c : _) (a : _) (b : List Byte), coreUp s = true ∧ d < 2 ∧ appCoreOf m = some c ∧ cisternBase ≤ a ∧ coreBlocked s c = false ∧ attrOf s a = 0 ∧ (KV.getD s.wbufs c []).length < 8 ∧ b ≠ [] ∧ a % 64 + b.length ≤ 64 ∧ cisternGap s a b.length = none) ∧
    (∃ (s : State) (d : Nat) (m : _) (c : _) (a : _) (n : _), coreUp s = true ∧ d < 2 ∧ appCoreOf m = some c ∧ cisternBase ≤ a ∧ coreBlocked s c = false ∧ attrOf s a ≠ 0 ∧ s.get X.cache_inval = 0 ∧ KV.getD s.wbufs c [] = [] ∧ s.l1i = [] ∧ s.l1d = [] ∧ s.l2 = [] ∧ s.victim = [] ∧ 0 < n) ∧
    (∃ (s : State) (d : Nat) (m : _) (c : _) (a : _), coreUp s = true ∧ d < 2 ∧ appCoreOf m = some c ∧ cisternBase ≤ a ∧ coreBlocked s c = true) ∧
    (∃ (s : State) (d : Nat) (m : _) (c : _) (f : Fill), coreUp s = true ∧ d < 2 ∧ appCoreOf m = some c ∧ KV.get s.fills c = some f ∧ cisternBase ≤ f.acc.addr) ∧
    (∃ (s : State) (d : Nat) (m : _) (c : _) (f : Fill), coreUp s = true ∧ d < 2 ∧ appCoreOf m = some c ∧ KV.get s.fills c = some f ∧ inReservoir f.acc.addr = true) ∧
    (∃ (s : State) (d : Nat) (m : _) (c : _) (x : BufStore) (r : List BufStore), coreUp s = true ∧ d < 2 ∧ appCoreOf m = some c ∧ KV.getD s.wbufs c [] = x :: r ∧ cisternBase ≤ x.addr) ∧
    (∃ (s : State) (d : Nat) (m : _) (c : _) (x : BufStore) (r : List BufStore), coreUp s = true ∧ d < 2 ∧ appCoreOf m = some c ∧ KV.getD s.wbufs c [] = x :: r ∧ inReservoir x.addr = true) ∧
    (∃ (s : State) (d : Nat) (m : _) (c : _), coreUp s = true ∧ d < 2 ∧ appCoreOf m = some c ∧ KV.get s.fills c = none ∧ KV.getD s.wbufs c [] = []) ∧
    (∃ (s : State) (d : Nat), coreUp s = true ∧ d < 2 ∧ devState s d = devTraining ∧ d ∈ mapDevices s) ∧
    (∃ (s : State) (d : Nat) (n : _), coreUp s = true ∧ d < 2 ∧ devState s d = devReady ∧ 0 < n ∧ n ≤ s.get BM_CFG.replay_max ∧ s.get BM_DEV_ERR.replays d + n < 65536) ∧
    (∃ (s : State) (d : Nat), coreUp s = true ∧ d < 2 ∧ devState s d ≠ devReady) ∧
    (∃ (s : State) (d : Nat), coreUp s = true ∧ d < 2 ∧ s.get BM_CTRL.scrub_en = 0) ∧
    (∃ (s : State) (d : Nat) (u : _), coreUp s = true ∧ d < 2 ∧ s.get BM_CTRL.scrub_en ≠ 0 ∧ devState s d = devReady ∧ (mapDevices s) = [d] ∧ u + 1 < deviceUnits) ∧
    (∃ (s : State) (d : Nat) (m : _) (a : _) (b : List Byte), coreUp s = true ∧ d < 2 ∧ appCoreOf m = none ∧ inReservoir a = true ∧ rvEnd < a + b.length) ∧
    (∃ (s : State) (d : Nat) (m : _) (a : _) (n : _), coreUp s = true ∧ d < 2 ∧ let uncached := s.l2 = [] ∧ s.victim = [] ∧ s.fills = []; appCoreOf m = none ∧ inReservoir a = true ∧ rvEnd < a + n ∧ uncached) ∧
    (∃ (s : State) (d : Nat) (m : _) (a : _) (b : List Byte), coreUp s = true ∧ d < 2 ∧ appCoreOf m = none ∧ inReservoir a = true ∧ a + b.length ≤ rvEnd) ∧
    (∃ (s : State) (d : Nat) (m : _) (a : _) (n : _), coreUp s = true ∧ d < 2 ∧ let uncached := s.l2 = [] ∧ s.victim = [] ∧ s.fills = []; appCoreOf m = none ∧ inReservoir a = true ∧ a + n ≤ rvEnd ∧ uncached ∧ s.rvBad.find? (fun x => decide (a ≤ x) && decide (x < a + n)) = none) ∧
    (∃ (s : State) (d : Nat) (m : _) (a : _) (n : _), coreUp s = true ∧ d < 2 ∧ let uncached := s.l2 = [] ∧ s.victim = [] ∧ s.fills = []; appCoreOf m = none ∧ inReservoir a = true ∧ a + n ≤ rvEnd ∧ uncached ∧ s.rvBad = []) ∧
    (∃ (s : State) (d : Nat) (k : _) (a : _), coreUp s = true ∧ d < 2 ∧ (k = 8 ∨ k = 9) ∧ inPrivate k a = true ∧ a % 4 = 0 ∧ a + 4 ≤ privBase + privSize k) ∧
    (∃ (s : State) (d : Nat), coreUp s = true ∧ d < 2 ∧ (s.on X.rv_filling = true ∨ 0x80000 < s.get RV_FILL.start + s.get RV_FILL.len)) ∧
    (∃ (s : State) (d : Nat), coreUp s = true ∧ d < 2 ∧ s.on X.rv_filling = false ∧ s.get RV_FILL.start + s.get RV_FILL.len ≤ 0x80000) ∧
    (∃ (s : State) (d : Nat), coreUp s = true ∧ d < 2 ∧ s.on X.rv_filling = true) :=
  ⟨⟨tState, 1, .read, cisternBase - 1, by decide⟩,
   ⟨tState, 1, .write, rvEnd, by decide, by decide, by decide, by decide, (fun k => by by_cases h : k = secCore <;> simp [inPrivate, privBase, privSize, rvEnd, h])⟩,
   ⟨(st tState [(BM_STATUS.dev1, 0, 3), (BM_MAP.devices, 0, 3)]), 1, 0, .write, cisternBase + 2 * deviceBytes, by decide⟩,
   ⟨(st tState [(BM_STATUS.dev1, 0, 5), (BM_MAP.devices, 0, 3)]), 1, 0, cisternBase + 2 * deviceBytes - 1, by decide⟩,
   ⟨(st tState [(BM_STATUS.dev1, 0, 3), (BM_MAP.devices, 0, 3)]), 1, 0, cisternBase + 2 * deviceBytes - 32, List.replicate 32 1, by decide⟩,
   ⟨(st tState [(BM_STATUS.dev1, 0, 3), (BM_MAP.devices, 0, 3)]), 1, 0, cisternBase + 2 * deviceBytes - 32, 32, by decide⟩,
   ⟨{ tState with l2 := [(0x1EFFFFFFF / 64, ⟨15, List.replicate 64 5, true, 0⟩)] }, 1, 0, 0x1EFFFFFFF, 1, ⟨15, List.replicate 64 5, true, 0⟩, by decide⟩,
   ⟨{ (st tState [(BM_STATUS.dev1, 0, 3), (BM_MAP.devices, 0, 3)]) with wbufs := [(7, List.replicate 7 ⟨0, 0, []⟩)] }, 1, 7 * 256 + 7, 7, cisternBase + deviceBytes, List.replicate 64 1, by decide⟩,
   ⟨(st tState [(AP_REGION_BASE.addr, 15, cisternBase), (AP_REGION_CFG.size_log2, 15, 20), (AP_REGION_CFG.attr, 15, 2), (AP_REGION_CFG.enable, 15, 1), (X.cache_inval, 0, 0)]), 1, 7 * 256 + 7, 7, cisternBase, 1, by decide⟩,
   ⟨{ tState with coreWait := [(7, ⟨7 * 256 + 7, false, cisternBase, [], 1, [], 0⟩)] }, 1, 7 * 256 + 7, 7, cisternBase, by decide⟩,
   ⟨{ tState with fills := [(7, ⟨⟨7 * 256 + 7, false, cisternBase, [], 1, [], 0⟩, 0, none, []⟩)] }, 1, 7 * 256 + 7, 7, ⟨⟨7 * 256 + 7, false, cisternBase, [], 1, [], 0⟩, 0, none, []⟩, by decide⟩,
   ⟨{ tState with fills := [(7, ⟨⟨7 * 256 + 7, false, (rvEnd - 1), [], 1, [], 0⟩, 0, none, []⟩)] }, 1, 7 * 256 + 7, 7, ⟨⟨7 * 256 + 7, false, (rvEnd - 1), [], 1, [], 0⟩, 0, none, []⟩, by decide⟩,
   ⟨{ tState with wbufs := [(7, [⟨7 * 256 + 7, cisternBase, [1]⟩])] }, 1, 7 * 256 + 7, 7, ⟨7 * 256 + 7, cisternBase, [1]⟩, [], by decide⟩,
   ⟨{ tState with wbufs := [(7, [⟨7 * 256 + 7, (rvEnd - 1), [1]⟩])] }, 1, 7 * 256 + 7, 7, ⟨7 * 256 + 7, (rvEnd - 1), [1]⟩, [], by decide⟩,
   ⟨tState, 1, 7 * 256 + 7, 7, by decide⟩,
   ⟨(st tState [(BM_STATUS.dev1, 0, 1), (BM_MAP.devices, 0, 3)]), 1, by decide⟩,
   ⟨(st tState [(BM_STATUS.dev1, 0, 3)]), 1, 1, by decide⟩,
   ⟨tState, 1, by decide⟩,
   ⟨(st tState [(BM_CTRL.scrub_en, 0, 0)]), 1, by decide⟩,
   ⟨(st tState [(BM_CTRL.scrub_en, 0, 1), (BM_STATUS.dev1, 0, 3), (BM_MAP.devices, 0, 2)]), 1, deviceUnits - 2, by decide⟩,
   ⟨tState, 1, 0, rvEnd - 1, [1, 1], by decide⟩,
   ⟨tState, 1, 0, rvEnd - 1, 2, by decide⟩,
   ⟨tState, 1, 0, rvEnd - 1, [1], by decide⟩,
   ⟨tState, 1, 0, rvEnd - 1, 1, by decide⟩,
   ⟨tState, 1, 0, rvEnd - 1, 1, by decide⟩,
   ⟨tState, 1, 9, privBase + 0x40000 - 4, by decide⟩,
   ⟨(st tState [(X.rv_filling, 0, 1)]), 1, by decide⟩,
   ⟨(st tState [(X.rv_filling, 0, 0)]), 1, by decide⟩,
   ⟨(st tState [(X.rv_filling, 0, 1)]), 1, by decide⟩⟩

/-- The hypotheses of `CoresAndInterrupts`. -/
theorem witness_CoresAndInterrupts :
    (∃ (s : State) (c : Nat) (t : _), coreUp s = true ∧ c < 10 ∧ t < 8 ∧ mayRun c t = true ∧ s.get AP_CORE_CTRL.run t = 0 ∧ imagelessState s = false ∧ s.get SB_STATUS.app_absent = 0) ∧
    (∃ (s : State) (c : Nat) (t : _), coreUp s = true ∧ c < 10 ∧ t < 8 ∧ (imagelessState s = true ∨ s.on SB_STATUS.app_absent = true ∨ s.on AP_CORE_CTRL.run t = true)) ∧
    (∃ (s : State) (c : Nat) (t : _), coreUp s = true ∧ c < 10 ∧ t < 8 ∧ mayRun c t = false) ∧
    (∃ (s : State) (c : Nat) (t : _), coreUp s = true ∧ c < 10 ∧ t < 8 ∧ mayRun c t = true ∧ s.on AP_CORE_CTRL.run t = true) ∧
    (∃ (s : State) (c : Nat), coreUp s = true ∧ c < 10 ∧ s.coreWait = [] ∧ (∀ t, t < 8 → s.get AP_CORE_STATUS.state t ≠ coreInval)) ∧
    (∃ (s : State) (c : Nat) (v : _), coreUp s = true ∧ c < 10 ∧ v % 65536 = 65535) ∧
    (∃ (s : State) (c : Nat) (v : _), coreUp s = true ∧ c < 10 ∧ v % 65536 ≠ 65535) ∧
    (∃ (s : State) (c : Nat), coreUp s = true ∧ c < 10 ∧ s.on AP_CMO_STATUS.busy = true ∧ s.get X.cmo_held = 0) ∧
    (∃ (s : State) (c : Nat), coreUp s = true ∧ c < 10 ∧ s.on AP_CMO_STATUS.busy = true ∧ s.get X.cmo_held ≠ 0) ∧
    (∃ (s : State) (c : Nat), coreUp s = true ∧ c < 10 ∧ s.on AP_CMO_STATUS.busy = false ∧ s.fills = [] ∧ cachedSpan s (cmoFirst s) (cmoFirst s + cmoLines s) = []) ∧
    (∃ (s : State) (c : Nat), coreUp s = true ∧ c < 10 ∧ s.on AP_CMO_STATUS.busy = false ∧ s.fills = [] ∧ s.l2 = [] ∧ s.victim = []) ∧
    (∃ (s : State) (c : Nat) (line : _) (x : CacheLine), coreUp s = true ∧ c < 10 ∧ s.on AP_CMO_STATUS.busy = false ∧ s.fills = [] ∧ s.victim = [] ∧ s.l2 = [(line, x)] ∧ cmoFirst s ≤ line ∧ line < cmoFirst s + cmoLines s ∧ x.dirty = false ∧ lineLocked s line = false ∧ s.l1d = [] ∧ s.l1i = []) ∧
    (∃ (s : State) (c : Nat) (line : _) (x : CacheLine), coreUp s = true ∧ c < 10 ∧ s.on AP_CMO_STATUS.busy = false ∧ s.fills = [] ∧ s.victim = [] ∧ s.l2 = [(line, x)] ∧ cmoFirst s ≤ line ∧ line < cmoFirst s + cmoLines s ∧ x.dirty = true ∧ s.l1d = [] ∧ s.l1i = [] ∧ lineLocked s line = false) ∧
    (∃ (s : State) (c : Nat) (line : _) (x : CacheLine), coreUp s = true ∧ c < 10 ∧ s.on AP_CMO_STATUS.busy = false ∧ s.fills = [] ∧ s.victim = [] ∧ s.l2 = [(line, x)] ∧ cmoFirst s ≤ line ∧ line < cmoFirst s + cmoLines s ∧ lineLocked s line = true ∧ s.l1d = [] ∧ s.l1i = []) ∧
    (∃ (s : State) (c : Nat), coreUp s = true ∧ c < 10 ∧ s.on AP_CMO_STATUS.busy = false ∧ (s.get AP_L2_LOCK.ways).testBit (s.get AP_CMO_CTRL.way) = false) ∧
    (∃ (s : State) (c : Nat), coreUp s = true ∧ c < 10 ∧ s.on AP_CMO_STATUS.busy = false ∧ (s.get AP_L2_LOCK.ways).testBit (s.get AP_CMO_CTRL.way) = true ∧ cmoLines s = 0) ∧
    (∃ (s : State) (c : Nat) (k : _) (kind : _), coreUp s = true ∧ c < 10 ∧ c < 8 ∧ cacheErr k kind = .corrected ∧ s.get AP_ERR_CNT.ce < 65535 ∧ k ≤ 3 ∧ kind = 1) ∧
    (∃ (s : State) (c : Nat) (k : _) (kind : _), coreUp s = true ∧ c < 10 ∧ c < 8 ∧ cacheErr k kind = .corrected ∧ s.get AP_ERR_CNT.ce < 65535 ∧ k = 0 ∧ kind = 0) ∧
    (∃ (s : State) (c : Nat) (k : _) (kind : _), coreUp s = true ∧ c < 10 ∧ c < 8 ∧ cacheErr k kind = .corrected ∧ s.get AP_ERR_CNT.ce < 65535 ∧ k = 1 ∧ (kind = 2 ∨ kind = 4)) ∧
    (∃ (s : State) (c : Nat) (k : _) (kind : _), coreUp s = true ∧ c < 10 ∧ c < 8 ∧ cacheErr k kind = .uncorrectable) ∧
    (∃ (s : State) (c : Nat) (k : _) (kind : _), coreUp s = true ∧ c < 10 ∧ c < 8 ∧ cacheErr k kind = .tagLost) ∧
    (∃ (s : State) (c : Nat) (n : _), coreUp s = true ∧ c < 10 ∧ n < 960 ∧ sourceInput s n = false) ∧
    (∃ (s : State) (c : Nat) (n : _), coreUp s = true ∧ c < 10 ∧ n < 960 ∧ sourceInput s n = true ∧ s.get X.ic_in n = 0) ∧
    (∃ (s : State) (c : Nat) (n : _), coreUp s = true ∧ c < 10 ∧ 960 ≤ n ∧ n < 1024 ∧ s.on X.ic_latch n = true) ∧
    (∃ (s : State) (c : Nat) (n : _) (t : _), coreUp s = true ∧ c < 10 ∧ n < 1024 ∧ s.on IC_SRC.offered n = true ∧ (offerTargets s n (s.get X.ic_to n)).find? (fun t => t != s.get X.ic_to n) = some t) ∧
    (∃ (s : State) (c : Nat) (n : _), coreUp s = true ∧ c < 10 ∧ n < 1024 ∧ s.on IC_SRC.offered n = false) :=
  ⟨⟨(st tState [(AP_CORE_CTRL.run, 7, 0), (SB_STATUS.app_absent, 0, 0)]), 7, 7, by decide⟩,
   ⟨(st tState [(AP_CORE_CTRL.run, 7, 1)]), 9, 7, by decide⟩,
   ⟨tState, 9, 7, by decide⟩,
   ⟨(st tState [(AP_CORE_CTRL.run, 7, 1)]), 7, 7, by decide⟩,
   ⟨tState, 9, by decide⟩,
   ⟨tState, 9, 65535, by decide⟩,
   ⟨tState, 9, 0, by decide⟩,
   ⟨(st tState [(AP_CMO_STATUS.busy, 0, 1), (X.cmo_held, 0, 0)]), 9, by decide⟩,
   ⟨(st tState [(AP_CMO_STATUS.busy, 0, 1), (X.cmo_held, 0, 1)]), 9, by decide⟩,
   ⟨(st tState [(AP_CMO_STATUS.busy, 0, 0)]), 9, by decide⟩,
   ⟨(st tState [(AP_CMO_STATUS.busy, 0, 0)]), 9, by decide⟩,
   ⟨(st { tState with l2 := [(0, ⟨15, [], false, 0⟩)] } [(AP_CMO_STATUS.busy, 0, 0), (AP_L2_LOCK.ways, 0, 0)]), 9, 0, ⟨15, [], false, 0⟩, by decide⟩,
   ⟨(st { tState with l2 := [(0, ⟨15, [], true, 0⟩)] } [(AP_CMO_STATUS.busy, 0, 0), (AP_L2_LOCK.ways, 0, 0)]), 9, 0, ⟨15, [], true, 0⟩, by decide⟩,
   ⟨(st { tState with l2 := [(0, ⟨15, [], true, 0⟩)] } [(AP_CMO_STATUS.busy, 0, 0), (AP_L2_LOCK.ways, 0, 32768)]), 9, 0, ⟨15, [], true, 0⟩, by decide⟩,
   ⟨(st tState [(AP_CMO_STATUS.busy, 0, 0)]), 9, by decide⟩,
   ⟨(st tState [(AP_CMO_STATUS.busy, 0, 0), (AP_L2_LOCK.ways, 0, 1), (AP_CMO_START.addr, 0, 64)]), 9, by decide⟩,
   ⟨tState, 7, 3, 1, by decide⟩,
   ⟨tState, 7, 0, 0, by decide⟩,
   ⟨tState, 7, 1, 2, by decide⟩,
   ⟨tState, 7, 2, 2, by decide⟩,
   ⟨tState, 7, 1, 5, by decide⟩,
   ⟨tState, 9, 959, by decide⟩,
   ⟨(st tState [(X.ic_in, 641, 0), (CR_INT.wdt_stage1, 0, 1)]), 9, 641, by decide⟩,
   ⟨(st tState [(X.ic_latch, 1023, 1)]), 9, 1023, by decide⟩,
   ⟨(st tState [(IC_SRC.offered, 1023, 1), (IC_SRC.pending, 1023, 1), (IC_SRC.enable, 1023, 1), (IC_SRC.targets, 1023, 3), (IC_SRC.priority, 1023, 15), (IC_TGT_CTRL.enable, 1, 1), (AP_CORE_CTRL.run, 1, 1), (AP_CORE_STATUS.state, 1, 3)]), 9, 1023, 1, by decide⟩,
   ⟨(st tState [(IC_SRC.offered, 1023, 0)]), 9, 1023, by decide⟩⟩

/-- The hypotheses of `Claims`. -/
theorem witness_Claims :
    (∃ (s : State) (c : Nat) (n : _), coreUp s = true ∧ c < 10 ∧ 0 < n ∧ n < 1024 ∧ eligible s n c = true ∧ (∀ m, 0 < m → m < 1024 → eligible s m c = true → s.get IC_SRC.priority m < s.get IC_SRC.priority n ∨ (s.get IC_SRC.priority m = s.get IC_SRC.priority n ∧ n ≤ m))) ∧
    (∃ (s : State) (c : Nat), coreUp s = true ∧ c < 10 ∧ (∀ n, 0 < n → n < 1024 → eligible s n c = false) ∧ s.get IC_TGT_STATUS.spurious c < 65535) ∧
    (∃ (s : State) (c : Nat) (t : _), coreUp s = true ∧ c < 10 ∧ t < 10 ∧ t ≠ c) ∧
    (∃ (s : State) (c : Nat) (k : _) (n : _), coreUp s = true ∧ c < 10 ∧ k < 10 ∧ n < 1024 ∧ s.get X.ic_serv n = k + 1) ∧
    (∃ (s : State) (c : Nat) (k : _) (n : _), coreUp s = true ∧ c < 10 ∧ k < 10 ∧ n < 1024 ∧ s.get X.ic_serv n ≠ k + 1) :=
  ⟨⟨tClaim, 9, 1023, by decide, by decide, by decide, by decide, by decide +kernel, (fun m _ h1 _ => (by decide +kernel : ∀ m, m < 1024 → tClaim.get IC_SRC.priority m < tClaim.get IC_SRC.priority 1023 ∨ (tClaim.get IC_SRC.priority m = tClaim.get IC_SRC.priority 1023 ∧ 1023 ≤ m)) m h1)⟩,
   ⟨tState, 9, by decide, by decide, (fun n _ _ => by simp [eligible, show targetRuns tState 9 = false from by decide]), by decide⟩,
   ⟨tState, 9, 0, by decide⟩,
   ⟨(st tState [(X.ic_serv, 1023, 9 + 1)]), 9, 9, 1023, by decide⟩,
   ⟨tState, 9, 9, 1023, by decide⟩⟩

/-- The hypotheses of `ChapterFull`. -/
theorem witness_ChapterFull :
    (∃ (s : State) (r : EventRec), coreUp s = true ∧ let wp := s.get ER_POS.write_point; let left := 0x10000 - wp % 0x10000; let pad := if left < recLen r.payload then left else 0; erSize < wp + pad + recLen r.payload + 32) ∧
    (∃ (s : State) (r : EventRec), coreUp s = true ∧ let wp := s.get ER_POS.write_point; let left := 0x10000 - wp % 0x10000; let pad := if left < recLen r.payload then left else 0; wp + pad + recLen r.payload + 32 ≤ erSize) ∧
    (∃ (s : State) (b : List Byte), coreUp s = true ∧ b.length ≤ 240 ∧ s.on ER_STATUS.full = true ∧ s.get ER_STATUS.refused < 2 ^ 32 - 1) :=
  ⟨⟨(st tState [(ER_POS.write_point, 0, erSize - 32)]), tRec, by decide⟩,
   ⟨(st tState [(ER_POS.write_point, 0, erSize - 64)]), tRec, by decide⟩,
   ⟨(st tState [(ER_STATUS.full, 0, 1)]), List.replicate 240 0, by decide⟩⟩

/-- The hypotheses of `EventRecorder`. -/
theorem witness_EventRecorder :
    (∃ (s : State) (b : List Byte), coreUp s = true ∧ b.length ≤ 240) ∧
    (∃ (s : State) (c : _) (n : _), coreUp s = true ∧ c < 10 ∧ ER_FW_CTRL.len16.rule.reserved n = true) ∧
    (∃ (s : State) (r : _) (off : _), coreUp s = true ∧ s.erProg = some (r, off) ∧ s.on X.er_deep_drain = false) ∧
    (∃ (s : State), coreUp s = true ∧ s.on ER_GASP.log_failed = true) ∧
    (∃ (s : State), coreUp s = true ∧ s.on ER_GASP.log_failed = false ∧ s.erOpen = none ∧ s.erProg = none) ∧
    (∃ (s : State), coreUp s = true ∧ s.on ER_STATUS.erasing = true ∧ s.get X.er_erase_next + 1 < 512) ∧
    (∃ (s : State), coreUp s = true ∧ let sec := s.get ER_POS.write_point / 0x10000; sec < 511) ∧
    (∃ (s : State), coreUp s = true ∧ (s.erProg.isSome = true ∨ s.on ER_STATUS.erasing = true)) ∧
    (∃ (s : State), coreUp s = true ∧ s.erProg = none ∧ s.on ER_STATUS.erasing = false) ∧
    (∃ (s : State) (k : _), coreUp s = true ∧ 1 ≤ k ∧ k ≤ 4 ∧ s.get ER_GASP.log_failed = 0) ∧
    (∃ (s : State), coreUp s = true ∧ s.get ER_GASP.log_failed ≠ 0) ∧
    (∃ (s : State), coreUp s = true ∧ s.on X.er_found = true) ∧
    (∃ (s : State), coreUp s = true ∧ s.on X.er_found = false ∧ erSearch s 10 0 512 = 0 ∧ s.get ER_GASP.deferred = 0 ∧ s.on CR_WDT_STATUS.fired = false ∧ s.on MC_PL_STATUS.valid = false ∧ s.on X.mp_wdt_ev = false) ∧
    (∃ (s : State), coreUp s = true ∧ s.on X.er_deep_drain = true ∧ s.on X.er_draining = true) ∧
    (∃ (s : State), coreUp s = true ∧ s.on X.er_draining = false) ∧
    (∃ (s : State) (a : _) (n : _) (b : List Byte), coreUp s = true ∧ (n < a ∨ a + b.length ≤ n)) :=
  ⟨⟨tState, List.replicate 240 0, by decide⟩,
   ⟨tState, 9, 0, by decide⟩,
   ⟨(st { tState with erProg := some (tRec, 0) } [(X.er_deep_drain, 0, 0)]), tRec, 0, by decide⟩,
   ⟨(st tState [(ER_GASP.log_failed, 0, 1)]), by decide⟩,
   ⟨(st tState [(ER_GASP.log_failed, 0, 0)]), by decide⟩,
   ⟨(st tState [(ER_STATUS.erasing, 0, 1)]), by decide⟩,
   ⟨tState, by decide⟩,
   ⟨(st tState [(ER_STATUS.erasing, 0, 1)]), by decide⟩,
   ⟨(st tState [(ER_STATUS.erasing, 0, 0)]), by decide⟩,
   ⟨(st tState [(ER_GASP.log_failed, 0, 0)]), 4, by decide⟩,
   ⟨(st tState [(ER_GASP.log_failed, 0, 1)]), by decide⟩,
   ⟨(st tState [(X.er_found, 0, 1)]), by decide⟩,
   ⟨(st tState [(X.er_found, 0, 0), (ER_GASP.deferred, 0, 0), (CR_WDT_STATUS.fired, 0, 0), (MC_PL_STATUS.valid, 0, 0), (X.mp_wdt_ev, 0, 0)]), by decide⟩,
   ⟨(st tState [(X.er_deep_drain, 0, 1), (X.er_draining, 0, 1)]), by decide⟩,
   ⟨(st tState [(X.er_draining, 0, 0)]), by decide⟩,
   ⟨tState, 1, 0, [], by decide⟩⟩

/-- The hypotheses of `ManagementCommands`. -/
theorem witness_ManagementCommands :
    (∃ (s : State), auxUp s = true ∧ mpAnswers s = false) ∧
    (∃ (s : State) (b : _), auxUp s = true ∧ mpAnswers s = true ∧ b ≠ s.get MP_STATUS.bus) ∧
    (∃ (s : State) (ty : _) (l : List Byte), auxUp s = true ∧ mpAnswers s = true ∧ ty ∈ [0, 4, 5] ∧ l.length ≤ 64 ∧ s.get MP_STATUS.bus = 1) ∧
    (∃ (s : State), auxUp s = true ∧ mpAnswers s = true ∧ s.on MP_STATUS.bus = true) ∧
    (∃ (s : State), auxUp s = true ∧ mpAnswers s = true ∧ s.on MP_STATUS.bus = false) ∧
    (∃ (s : State) (op : _) (eid : _), auxUp s = true ∧ mpAnswers s = true ∧ op ≤ 1 ∧ eid ≠ 0 ∧ eid < 0xFF) ∧
    (∃ (s : State) (v : _), auxUp s = true ∧ mpAnswers s = true ∧ 1 ≤ v ∧ v ≤ 3) ∧
    (∃ (s : State) (c : _) (op : _), auxUp s = true ∧ mpAnswers s = true ∧ c < 2 ∧ op ∉ [2, 6, 10]) ∧
    (∃ (s : State) (c : _) (w : _), auxUp s = true ∧ mpAnswers s = true ∧ c < 2 ∧ coreUp s = true ∧ imageless s = false ∧ featureIds.contains (w % 256) = true) ∧
    (∃ (s : State), auxUp s = true ∧ mpAnswers s = true ∧ imageless s = true) ∧
    (∃ (s : State), auxUp s = true ∧ mpAnswers s = true ∧ coreUp s = true ∧ imageless s = false ∧ s.mpWait = []) ∧
    (∃ (s : State), auxUp s = true ∧ mpAnswers s = true ∧ s.on X.deep_in = true) ∧
    (∃ (s : State) (d : _), auxUp s = true ∧ mpAnswers s = true ∧ d ≠ 0) ∧
    (∃ (s : State), auxUp s = true ∧ mpAnswers s = true ∧ s.on X.deep_in = false ∧ coreUp s = true) ∧
    (∃ (s : State), auxUp s = true ∧ mpAnswers s = true ∧ coreUp s = true ∧ tjCool s = true) ∧
    (∃ (s : State) (k : _), auxUp s = true ∧ mpAnswers s = true ∧ stageBarred s k = true) ∧
    (∃ (s : State) (k : _) (o : _) (l : List Byte) (x : _), auxUp s = true ∧ mpAnswers s = true ∧ stageBarred s k = false ∧ k ≤ 4 ∧ l ≠ [] ∧ l.length ≤ 4096 ∧ o + l.length ≤ stageSize ∧ stageConflict s k = false ∧ KV.get s.mpStage k = some x) ∧
    (∃ (s : State) (k : _) (x : _), auxUp s = true ∧ mpAnswers s = true ∧ stageBarred s k = false ∧ stageConflict s k = false ∧ KV.get s.mpStage k = some x ∧ stagedKind (cellsRd x.cells) ≠ k) ∧
    (∃ (s : State) (x : Nat) (y : Nat), auxUp s = true ∧ mpAnswers s = true ∧ x.testBit 7 = true ∧ y.testBit 1 = true) ∧
    (∃ (s : State) (x : Nat), auxUp s = true ∧ mpAnswers s = true ∧ x.testBit 7 = false) ∧
    (∃ (s : State) (x : _), auxUp s = true ∧ mpAnswers s = true ∧ coreUp s = true ∧ x ≠ 0) ∧
    (∃ (s : State) (o : _), auxUp s = true ∧ mpAnswers s = true ∧ coreUp s = true ∧ o < (chain s).length) ∧
    (∃ (s : State), auxUp s = true ∧ mpAnswers s = true ∧ signBarred s ≠ 0) ∧
    (∃ (s : State) (x : _), auxUp s = true ∧ mpAnswers s = true ∧ signBarred s = 0 ∧ x ≠ 0) ∧
    (∃ (s : State) (c : _), auxUp s = true ∧ c < 10 ∧ c ≠ secCore ∧ c ≠ mgtCore) ∧
    (∃ (s : State) (c : _), auxUp s = true ∧ (c = secCore ∨ c = mgtCore)) ∧
    (∃ (s : State), auxUp s = true ∧ s.on MP_WDT.enable = true) ∧
    (∃ (s : State), auxUp s = true ∧ s.on MP_WDT.enable = false) ∧
    (∃ (s : State), auxUp s = true ∧ coreUp s = true ∧ (s.get MP_PARK_STATUS.latch).testBit 0 = false) ∧
    (∃ (s : State), auxUp s = true ∧ coreUp s = true ∧ (s.get MP_PARK_STATUS.latch).testBit 0 = true ∧ allParked s = true ∧ let v := stoppedNow (parkedNow s); v.on X.mp_ending = false) ∧
    (∃ (s : State), auxUp s = true ∧ coreUp s = true ∧ (s.get MP_PARK_STATUS.latch).testBit 0 = true ∧ allParked s = true ∧ let v := stoppedNow (parkedNow s); v.on X.mp_ending = true ∧ parkDone v = true) ∧
    (∃ (s : State) (r : _) (o : _), auxUp s = true ∧ coreUp s = true ∧ xspiOk s r o = true) ∧
    (∃ (s : State) (r : _) (o : _), auxUp s = true ∧ coreUp s = true ∧ xspiOk s r o = false) ∧
    (∃ (s : State) (r : _) (o : _) (l : List Byte), auxUp s = true ∧ coreUp s = true ∧ (List.range l.length).all (fun i => xspiOk s r (o + i)) = true) :=
  ⟨⟨tState, by decide⟩,
   ⟨(st tState [(MP_CTRL.enable, 0, 1), (X.mgt_run, 0, 1)]), 1, by decide⟩,
   ⟨(st tState [(MP_CTRL.enable, 0, 1), (X.mgt_run, 0, 1), (MP_STATUS.bus, 0, 1)]), 5, List.replicate 64 (0 : Byte), by decide⟩,
   ⟨(st tState [(MP_CTRL.enable, 0, 1), (X.mgt_run, 0, 1), (MP_STATUS.bus, 0, 1)]), by decide⟩,
   ⟨(st tState [(MP_CTRL.enable, 0, 1), (X.mgt_run, 0, 1), (MP_STATUS.bus, 0, 0)]), by decide⟩,
   ⟨(st tState [(MP_CTRL.enable, 0, 1), (X.mgt_run, 0, 1)]), 1, 254, by decide⟩,
   ⟨(st tState [(MP_CTRL.enable, 0, 1), (X.mgt_run, 0, 1)]), 3, by decide⟩,
   ⟨(st tState [(MP_CTRL.enable, 0, 1), (X.mgt_run, 0, 1)]), 1, 0, by decide⟩,
   ⟨(st tState [(MP_CTRL.enable, 0, 1), (X.mgt_run, 0, 1)]), 1, 4, by decide⟩,
   ⟨(st State.reset [(MP_CTRL.enable, 0, 1), (X.mgt_run, 0, 1)]), by decide⟩,
   ⟨(st tState [(MP_CTRL.enable, 0, 1), (X.mgt_run, 0, 1)]), by decide⟩,
   ⟨(st tState [(MP_CTRL.enable, 0, 1), (X.mgt_run, 0, 1), (X.deep_in, 0, 1)]), by decide⟩,
   ⟨(st tState [(MP_CTRL.enable, 0, 1), (X.mgt_run, 0, 1)]), 1, by decide⟩,
   ⟨(st tState [(MP_CTRL.enable, 0, 1), (X.mgt_run, 0, 1), (X.deep_in, 0, 0)]), by decide⟩,
   ⟨(st tState [(MP_CTRL.enable, 0, 1), (X.mgt_run, 0, 1)]), by decide⟩,
   ⟨(st tState [(MP_CTRL.enable, 0, 1), (X.mgt_run, 0, 1), (X.core_off, 0, 1)]), 0, by decide⟩,
   ⟨(st { tState with mpStage := [(4, ⟨[], 0, 0⟩)] } [(MP_CTRL.enable, 0, 1), (X.mgt_run, 0, 1)]), 4, stageSize - 1, [(0 : Byte)], ⟨[], 0, 0⟩, by decide⟩,
   ⟨(st { tState with mpStage := [(4, ⟨[], 0, 0⟩)] } [(MP_CTRL.enable, 0, 1), (X.mgt_run, 0, 1)]), 4, ⟨[], 0, 0⟩, by decide⟩,
   ⟨(st tState [(MP_CTRL.enable, 0, 1), (X.mgt_run, 0, 1)]), 0x80, 2, by decide⟩,
   ⟨(st tState [(MP_CTRL.enable, 0, 1), (X.mgt_run, 0, 1)]), 0x7F, by decide⟩,
   ⟨(st tState [(MP_CTRL.enable, 0, 1), (X.mgt_run, 0, 1)]), 1, by decide⟩,
   ⟨(st { tState with flash := [(chainBase, 1), (chainBase + 1, 0)] } [(MP_CTRL.enable, 0, 1), (X.mgt_run, 0, 1)]), 0, by decide⟩,
   ⟨(st tState [(MP_CTRL.enable, 0, 1), (X.mgt_run, 0, 1)]), by decide⟩,
   ⟨(st tState [(MP_CTRL.enable, 0, 1), (X.mgt_run, 0, 1), (SB_STATUS.lifecycle, 0, 1)]), 1, by decide⟩,
   ⟨tState, 7, by decide⟩,
   ⟨tState, secCore, by decide⟩,
   ⟨(st tState [(MP_WDT.enable, 0, 1)]), by decide⟩,
   ⟨(st tState [(MP_WDT.enable, 0, 0)]), by decide⟩,
   ⟨tState, by decide⟩,
   ⟨(st tState [(MP_PARK_STATUS.latch, 0, 2 ^ (0))]), by decide⟩,
   ⟨(st tState ([(MP_PARK_STATUS.latch, 0, 1), (X.mp_ending, 0, 1)] ++ (List.range 4).map (fun a => (SV_STATUS.state, a, svParked)))), by decide⟩,
   ⟨tState, 10, 0x7FFFFFF, by decide⟩,
   ⟨tState, 0, 0, by decide⟩,
   ⟨tState, 10, 0x7FFFFFF, [0], by decide⟩⟩

/-! Commands whose own effect needs a signature that verifies. The key and the signatures of the containers were made for these tests with a
test key. An owner command's block names the part's device_id, which the model leaves free, so its signature is a hypothesis, except where a
fresh owner slot needs none; an OTP burn succeeds where its free value says so. -/

/-- A public key. -/
def tKey : List Byte :=
  bytes48 0x8366c4994a4f8178be0e80d6e7c06e6c42fa847b2b2112f972bee0a7111c5b8e604c9f0f2f029c95c1134cb107e7ef95
    ++ bytes48 0xd942410a73cbefb446120a649bb9f616d31ac9082f584ed6f4b160c099d8b3d6c62625ec09ac49e5a98f6368e395d26b

/-- The part OPEN, with owner key 0 programmed and one byte after the first slot's magic programmed: a torn record. -/
def tOwned : State := st { tState with
  flash := [(recAt 0 + 4, 0)],
  otp := { shippedOtp with owner := [{ key := tKey, programmed := true, revoked := false }, { key := [], programmed := false, revoked := false }] } }
  [(SB_STATUS.lifecycle, 0, 1)]

/-- An owner command block for that part without its signature: op and parameter, owner key 0. -/
def tBlock (op p : Nat) : List Byte :=
  leBytes 0x4E574F4B 4 ++ (leBytes op 2 ++ (leBytes p 2 ++ (leBytes Config.deviceId 8 ++ (leBytes 0 4 ++ (leBytes 0 4
    ++ (sha (slotBytes tOwned 0) ++ List.replicate 184 0))))))

theorem leBytes_length (v n : Nat) : (leBytes v n).length = n := by
  induction n generalizing v with
  | zero => rfl
  | succ n ih => simp [leBytes, ih]

theorem leNat_leBytes (v n : Nat) : leNat (leBytes v n) = v % 256 ^ n := by
  induction n generalizing v with
  | zero => simp [leBytes, leNat, Nat.mod_one]
  | succ n ih =>
    simp only [leBytes, leNat, ih, BitVec.toNat_ofNat]
    rw [show 256 ^ (n + 1) = 256 * 256 ^ n from Nat.pow_succ', Nat.mod_mul]

theorem numAt_skip (a b : List Byte) (o n : Nat) (h : a.length ≤ o) : numAt (a ++ b) o n = numAt b (o - a.length) n := by
  simp [numAt, List.drop_append, List.drop_eq_nil_of_le h]

theorem numAt_here (v n : Nat) (b : List Byte) : numAt (leBytes v n ++ b) 0 n = v % 256 ^ n := by
  simp [numAt, leBytes_length, leNat_leBytes]

theorem slot_hash_length : (sha (slotBytes tOwned 0)).length = 48 := by decide +kernel

theorem tBlock_length (op p : Nat) : (tBlock op p).length = 256 := by simp [tBlock, leBytes_length, slot_hash_length]

theorem tBlock_fields (op p : Nat) (g : List Byte) : numAt (tBlock op p ++ g) 0 4 = 0x4E574F4B ∧ numAt (tBlock op p ++ g) 4 2 = op % 65536
    ∧ numAt (tBlock op p ++ g) 6 2 = p % 65536 ∧ numAt (tBlock op p ++ g) 8 8 = Config.deviceId % 2 ^ 64 ∧ numAt (tBlock op p ++ g) 0x10 4 = 0
    ∧ numAt (tBlock op p ++ g) 0x14 4 = 0 ∧ ((tBlock op p ++ g).drop 0x18).take 48 = sha (slotBytes tOwned 0)
    ∧ ((tBlock op p ++ g).drop 0x48).take 96 = List.replicate 96 0 := by
  refine ⟨?_, ?_, ?_, ?_, ?_, ?_, ?_, ?_⟩
  all_goals simp only [tBlock, List.append_assoc]
  iterate 6 simp (disch := simp [leBytes_length]) [numAt_skip, leBytes_length, numAt_here]
  all_goals simp [List.drop_append, leBytes_length, List.take_append, slot_hash_length, List.take_of_length_le, List.drop_eq_nil_of_le]

/-- The checks pass, given a signature that verifies, or a fresh owner slot. -/
theorem tBlock_passes (g : List Byte) (hg : g.length = 96) (op p : Nat) (h : (op, p) = (1, 0) ∨ (op, p) = (2, 2) ∨ (op, p) = (3, 3)
    ∨ (op, p) = (4, 3) ∨ (op, p) = (5, 1)) (sig : sigOk tKey (tBlock op p) g = true ∨ op = 5) : ownerCause tOwned (tBlock op p ++ g) = 0 := by
  obtain ⟨h2, h3, h4, h5, h6, h7, h8, h9⟩ := tBlock_fields op p g
  have h1 : (tBlock op p ++ g).length = 352 := by simp [tBlock_length, hg]
  have ht : (tBlock op p ++ g).take 0x100 = tBlock op p := by simp [List.take_append, tBlock_length, List.take_of_length_le]
  have hd : ((tBlock op p ++ g).drop 0x100).take 96 = g := by simp [List.drop_append, tBlock_length, List.drop_eq_nil_of_le, hg, List.take_of_length_le]
  have hb : tOwned.get SB_BOOT_COUNT.counter = 0 := by decide
  have hl : tOwned.get SB_STATUS.lifecycle = 1 := by decide
  have hc : chapNext tOwned = 0 := by decide
  have ht' : (slotBytes tOwned 0).any (fun x => x != flashErased) = true := by decide
  have hk : ownerKey tOwned 0 = some tKey := by rfl
  unfold ownerCause
  simp only [h1, h2, h3, h4, h5, h6, h7, h8, h9, hb, hl, hc, ht', hk, ht, hd]
  rcases h with h | h | h | h | h <;> cases h <;> simp_all [chapSlots, show tOwned.otp.sign = shippedOtp.sign from rfl, shippedOtp,
    show tOwned.otp.lifecycle = 1 from rfl, show tOwned.otp.owner[1]? = some ⟨[], false, false⟩ from rfl]

/-- The owner command that programs a fresh owner slot, given that the burn succeeds. -/
theorem witness_ownerFreshSlot (burned : tOwned.fresh.testBit 0 = true) :
    ∃ s b, coreUp s = true ∧ auxUp s = true ∧ ownerCause s b = 0 ∧ (ownerRun b s).1 = 0 ∧ numAt b 4 2 = 5 := by
  obtain ⟨g, hg⟩ : ∃ g : List Byte, g.length = 96 := ⟨List.replicate 96 0, by simp⟩
  have hf := (tBlock_fields 5 1 g).2.1
  refine ⟨tOwned, tBlock 5 1 ++ g, by decide, by decide, tBlock_passes g hg _ _ (by simp) (.inr rfl), ?_, hf⟩
  simp [ownerRun, hf, burn, burned]

/-- The other owner commands of `BootActions`, given that their signatures verify and that the burn succeeds. -/
theorem witness_ownerCommands (g : Nat → List Byte) (hg : ∀ op, (g op).length = 96) (burned : tOwned.fresh.testBit 0 = true)
    (sig : ∀ op p, sigOk tKey (tBlock op p) (g op) = true) (op p : Nat) (h : (op, p) = (1, 0) ∨ (op, p) = (2, 2) ∨ (op, p) = (3, 3) ∨ (op, p) = (4, 3)) :
    ∃ s b, coreUp s = true ∧ auxUp s = true ∧ ownerCause s b = 0 ∧ (ownerRun b s).1 = 0 ∧ numAt b 4 2 = op := by
  have hf := (tBlock_fields op p (g op)).2.1
  refine ⟨tOwned, tBlock op p ++ g op, by decide, by decide, tBlock_passes _ (hg op) _ _ ?_ (.inl (sig op p)), ?_, ?_⟩
  · rcases h with h | h | h | h <;> simp [h]
  · rcases h with h | h | h | h <;> cases h <;> simp [ownerRun, hf, burn, burned]
  · rcases h with h | h | h | h <;> cases h <;> simp [hf]

/-- A container of a kind with no payload, signed with image-signing key 1: its header's CRC and its signature's two numbers. -/
def tCont (kind crc r s : Nat) : List Byte :=
  leBytes 0x4D54494B 4 ++ leBytes (kind + 256) 4 ++ leBytes 320 4 ++ List.replicate 48 0 ++ leBytes crc 4 ++ leBytes 0x4749534C 4 ++ leBytes 1 4
    ++ leBytes 1 4 ++ leBytes 0 4 ++ bytes48 r ++ bytes48 s ++ List.replicate 144 0

/-- Bytes laid out from an address. -/
def tCells (a : Nat) : List Byte → List Host.Cell
  | [] => []
  | b :: r => (a, b) :: tCells (a + 1) r

/-- The OTP with image-signing key 1 programmed. -/
def tOtp : Otp := { shippedOtp with sign := [{ key := [], programmed := true, revoked := false }, { key := tKey, programmed := true, revoked := false }] }

/-- A security firmware of the least length. -/
def tItem : List Host.Cell := tCells 0 (tCont 1 681612914
  0xc6e9d3a6660b3d68ab5d91de9e775cafe6d33817b51da205090e76d2e6afd0eef1881d40f8bfc7f71f8195622761f029
  0xd1bcce27976b0436f7a923d3892ec7c2b44ca9a76a8592bdeb59290fd7ebd2ff91ae7cf2afce258335f42efacd788774)

/-- The part with that item staged by the host and by the management port, and a Firmware Commit waiting in context 0. -/
def tStaged : State := tWait (st { tState with
    otp := tOtp, fwStage := tItem, fwRanges := [(0, (0, 320))], mpStage := [(1, ⟨tItem, 0, 0⟩)] } [(MP_CTRL.enable, 0, 1)])
  (tCtx 0 { tCmd with opcode := 0x10 })

theorem tItem_passes : stagedOk tStaged 1 (cellsRd tItem) = true := by decide +kernel

/-- `firmwareCommit` of an item that is good. -/
theorem witness_firmwareCommit : ∃ (s : State) (c : Nat) (x : Ctx), Waits s c x true 0x10 ∧ x.cmd.cdw10 / 8 % 8 < 3 ∧
    let kind := if s.fwRanges.isEmpty then 5 else stagedKind (cellsRd s.fwStage);
    stagedOk s kind (cellsRd s.fwStage) = true ∧ x.cmd.cdw10 % 8 = 0 ∧ kind ≠ 3 := by
  refine ⟨tStaged, 0, tCtx 0 { tCmd with opcode := 0x10 }, waits_of (by decide), by decide, ?_⟩
  have hk : (if tStaged.fwRanges.isEmpty then 5 else stagedKind (cellsRd tStaged.fwStage)) = 1 := by decide +kernel
  simp only [hk]
  exact ⟨tItem_passes, by decide, by decide⟩

/-- `stageCommit` of an item that is good. -/
theorem witness_stageCommit : ∃ (s : State) (k : Nat) (x : MpStage), auxUp s = true ∧ s.on MP_CTRL.enable = true ∧
    stageBarred s k = false ∧ stageConflict s k = false ∧ KV.get s.mpStage k = some x ∧ stagedKind (cellsRd x.cells) = k ∧
    stagedOk s k (cellsRd x.cells) = true ∧ k ≠ 3 :=
  ⟨tStaged, 1, ⟨tItem, 0, 0⟩, by decide, by decide, by decide, by decide, rfl, by decide +kernel, tItem_passes, by decide⟩

/-- A flash that holds a microcode container of no words. -/
def tMicro : State := { tState with otp := tOtp, flash := tCells 0x200000 (tCont 5 1515392112
  0xc6e9d3a6660b3d68ab5d91de9e775cafe6d33817b51da205090e76d2e6afd0eef1881d40f8bfc7f71f8195622761f029
  0x9fdb6031dd3365428014a6590ac18cb16d92e870622ebb49749c5e32676eba26102e74d6225d13b0434d3116b82de652) }

/-- The part with that container as the microcode of every sequencer, sequencer 3 loading. -/
def tReload : State := st { tMicro with
  img := some { tImg with micro := List.replicate 4 { flashOffset := 0x200000, words := 0, version := 0, digest := contMeas (flashRd tMicro 0x200000) } } }
  [(SB_CTRL.seq, 0, 3), (SQ_STATUS.state, 3, 2)]

/-- `reloadMicrocode` of a container that is good. -/
theorem witness_reloadMicrocode : ∃ (s : State) (c : Nat), coreUp s = true ∧ auxUp s = true ∧ c < 10 ∧ c ≠ mgtCore ∧
    s.get SQ_STATUS.state (s.get SB_CTRL.seq) = 2 ∧ s.image.hasAct (s.get SB_CTRL.seq) = true ∧ reloadOk s (s.get SB_CTRL.seq) = true :=
  ⟨tReload, 8, by decide, by decide, by decide, by decide, by decide, by decide, by decide +kernel⟩

/-! Ill-formed commands, one for each check: refused, and without effect. -/

/-- An ill-formed command is refused by name. -/
def refusesIt (i : Instr) : Bool := !i.wf && (match exec i State.reset with | .refused .illFormed => true | _ => false)

theorem test_ill_core : refusesIt (.registerWrite 10 false 0x20000000 32 0) = true := by decide
theorem test_ill_unit : refusesIt (.unitLoss (.head 64)) = true := by decide
theorem test_ill_group : refusesIt (.groupBringUp 16) = true := by decide
theorem test_ill_lane : refusesIt (.laneRetrain 64) = true := by decide
theorem test_ill_frame : refusesIt (.upstreamFrame 0 []) = true := by decide
theorem test_ill_message : refusesIt (.feCap 0 []) = true := by decide
theorem test_ill_ackSet : refusesIt (.ackSet 0 (List.replicate 120 1)) = true := by decide
theorem test_ill_byte : refusesIt (.eyeDs 0 256 0 0) = true := by decide
theorem test_ill_servoField : refusesIt (.servoField 0 ⟨0, 2 ^ 44, 0, 0, false⟩ ⟨0, 0, 0, 0, false⟩) = true := by decide
theorem test_ill_payload : refusesIt (.eventAccept 0 0 (List.replicate 241 0)) = true := by decide
theorem test_ill_thread : refusesIt (.mwAdd 0 4) = true := by decide
theorem test_ill_seq : refusesIt (.mwAdd 4 0) = true := by decide
theorem test_ill_flume : refusesIt (.flumeFault 32) = true := by decide
theorem test_ill_head : refusesIt (.markStale 64) = true := by decide
theorem test_ill_act : refusesIt (.park 4) = true := by decide
theorem test_ill_engine : refusesIt (.engineFault 8) = true := by decide
theorem test_ill_port : refusesIt (.dlDown 2) = true := by decide
theorem test_ill_ctl : refusesIt (.controllerReset 2) = true := by decide
theorem test_ill_cmd : refusesIt (.commandFetch 0 0 { tCmd with opcode := 256 }) = true := by decide
theorem test_ill_ns : refusesIt (.nsEnable 64) = true := by decide
theorem test_ill_hgPort : refusesIt (.grant 128) = true := by decide
theorem test_ill_powerGroup : refusesIt (.groupPowerOff 32) = true := by decide
theorem test_ill_sensor : refusesIt (.sensorSample 18 0 false) = true := by decide
theorem test_ill_device : refusesIt (.deviceReady 2 true) = true := by decide
theorem test_ill_appCore : refusesIt (.coreRun 0 8) = true := by decide
theorem test_ill_target : refusesIt (.moderationRelease 10) = true := by decide
theorem test_ill_source : refusesIt (.sourceAssert 1024 true) = true := by decide

/-! Results from the spec's tables. -/

/-- What a command leaves in a field. -/
def after (i : Instr) (s : State) (f : Fld) (k : Nat) : Option Nat := match exec i s with | .next t => some (t.get f k) | _ => none

/-- A general register of a thread after its word. -/
def afterGr (i : Instr) (s : State) (q t r : Nat) : Option Nat := match exec i s with | .next u => some (gr u q t r) | _ => none

/-- CRC-32C of the bytes "123456789" is 0xE3069283, the check value published for that code. -/
theorem test_crc32c : crc32c [0x31, 0x32, 0x33, 0x34, 0x35, 0x36, 0x37, 0x38, 0x39] = 0xE3069283 := by decide

/-- SHA-384 of "abc" is the value that FIPS 180-4's examples give. -/
theorem test_sha384 : beNat (sha384 [0x61, 0x62, 0x63]) =
    0xcb00753f45a35e8bb5a03d699ac65007272c32ab0eded1631a8b605a43ff5bed8086072ba1e7cc2358baeca134c825a7 := by decide +kernel

/-- The bits of R246, one set in each field: op 0x2F at 127:122, sp 1, cond 0x15, inv, target 0x1ABC, rd 9, ra 7, rb 14. -/
theorem test_microWord_fields : microWord 0xBD57ABC97E123456 0x55 =
    { op := 0x2F, sp := 1, cond := 0x15, inv := true, target := 0x1ABC, rd := 9, ra := 7, rb := 14, timeout := 0x123456, imm := 0x55 } := by decide

/-- 0x11 is the last opcode of the first block, 0x12 and 0x30 are reserved (R247). -/
theorem test_opcodes : [0x11, 0x12, 0x1F, 0x20, 0x2F, 0x30].map opDefined = [true, false, false, true, true, false] := by decide

/-- ADD is modulo 2⁶⁴, with the immediate, and its destination may be a source (R247). -/
theorem test_add_wraps : afterGr (.mwAdd 3 3) (setGr 3 3 2 (2 ^ 64 - 1) (tWord 3 3 0x02 (2 * 2 ^ 32 + 2 * 2 ^ 28 + 1 * 2 ^ 24) 3 tState)) 3 3 2 = some 2 := by decide

/-- SUB takes rb and the immediate from ra (R247). -/
theorem test_sub_borrows : afterGr (.mwSub 0 0) (setGr 0 0 1 5 (tWord 0 0 0x03 (3 * 2 ^ 32 + 2 * 2 ^ 28 + 1 * 2 ^ 24) 1 tState)) 0 0 3 = some (2 ^ 64 - 6) := by decide

/-- AND is with rb OR imm (R247). -/
theorem test_and_of_or : afterGr (.mwAnd 0 0) (setGr 0 0 2 0xFF (setGr 0 0 1 0x10 (tWord 0 0 0x04 (3 * 2 ^ 32 + 2 * 2 ^ 28 + 1 * 2 ^ 24) 3 tState))) 0 0 3 = some 0x13 := by decide

/-- EXT of the four bits at 4, sign-extended: imm[5:0] = 4, imm[13:8] = 4, imm[14] = 1 (R247). -/
theorem test_ext_signed : afterGr (.mwExt 0 0) (setGr 0 0 2 0xA5 (tWord 0 0 0x07 (3 * 2 ^ 32 + 2 * 2 ^ 28) 0x4404 tState)) 0 0 3 = some (2 ^ 64 - 6) := by decide

/-- EXT of width 0 takes 64 bits (R247). -/
theorem test_ext_whole : afterGr (.mwExt 0 0) (setGr 0 0 2 (2 ^ 64 - 1) (tWord 0 0 0x07 (3 * 2 ^ 32 + 2 * 2 ^ 28) 0 tState)) 0 0 3 = some (2 ^ 64 - 1) := by decide

/-- INS replaces the same field of ra by the low bits of rb (R247). -/
theorem test_ins : afterGr (.mwIns 0 0) (setGr 0 0 2 0xFFFF (setGr 0 0 1 0x123 (tWord 0 0 0x08 (3 * 2 ^ 32 + 2 * 2 ^ 28 + 1 * 2 ^ 24) 0x804 tState))) 0 0 3 = some 0xF23F := by decide

/-- An ARM word of a thread without the arm faults it with code 7 (R247). -/
theorem test_crel_needs_arm : after (.mwCrel 1 2) (tWord 1 2 0x27 0 0 tState) SQ_FAULT.code 1 = some 7 := by decide

/-- A write of a track position past the last cylinder is refused, and so is one while the servo is parked (R182). -/
theorem test_seek_refused : after (.seekRequest 0 0) tState SV_INT.refused 0 = some 1 := by decide

/-- IC_SRC stands at 0x1_0000 of its window, one register each 8 bytes, source 1,023 the last (chapter 20, Registers). -/
theorem test_address_lastSource : (locateAddr 0x20811FF8).map (fun p => (p.1.name, p.2)) = some ("IC_SRC", 1023, 0) := by decide

/-- A queue whose command ends lets the next one come to the front, and an empty queue counts one 40 ns cycle (log entry 1). -/
theorem test_tick : (match step tState with | .next t => some t.dtime | _ => none) = some 40 := by decide

end Sys2Proof.Tests
end

section
/-! The commit controller's refusals (R60, R63): what a report of a refusal sets, and the arming of an instant that cannot be met. -/

namespace Sys2Proof.Machine

/-- Any result but 0 and 1 is reported in SC_STATUS.result and raises SC_INT.not_applied, and does nothing else. -/
theorem scResult_eq_setAll {r : Nat} (h0 : r ≠ 0) (h1 : r ≠ 1) (s : State) :
    scResult r s = setAll [(SC_STATUS.result, 0, r), (SC_INT.not_applied, 0, 1)] s :=
  if_neg (not_or.2 ⟨h0, h1⟩)

/-- The two cases of R63. -/
theorem instantBad_iff (s : State) : instantBad s = true ↔
    (s.get SC_CTRL.instant_kind = 3 ∧ s.get SC_INSTANT.value < s.dtime)
    ∨ (s.get SC_CTRL.instant_kind = 1
        ∧ (s.image.hasAct (s.get SC_CTRL.actuator) = false ∨ s.image.wedges ≤ s.get SC_INSTANT.value)) := by
  simp [instantBad]

/-- A command of the core domain whose effect is to report result `r`, neither 0 nor 1, sets the result and not_applied alone. -/
theorem sets_scResult {c : Instr} {s : State} {r : Nat} (h0 : r ≠ 0) (h1 : r ≠ 1) (h : Gives c s (scResult r s)) :
    Sets c s [(SC_STATUS.result, 0, r), (SC_INT.not_applied, 0, 1)] :=
  have hcells : SC_STATUS.result.id ≠ SC_INT.not_applied.id := by decide
  have hresult : SC_STATUS.result.id ∉ mirrors := by decide
  have hraised : SC_INT.not_applied.id ∉ mirrors := by decide
  sets_setAll (scResult_eq_setAll h0 h1 s ▸ h) (List.pairwise_pair.2 (.inl hcells))
    (List.forall_mem_cons.2 ⟨hresult, List.forall_mem_singleton.2 hraised⟩)

/-- Arming a checked commit for an instant that cannot be met reports result 5. -/
theorem gives_armCommit_of_instantBad {s : State} (hup : coreUp s = true) (hst : s.get SC_STATUS.state = scChecked)
    (hbad : instantBad s = true) : Gives .armCommit s (scResult 5 s) := by
  refine gives_run (exec_armCommit s) rfl rfl hup ?_
  have hne : scChecked ≠ scArmed := by decide
  simp only [hst, hbad, hne, if_false, if_true, ne_eq, not_true_eq_false]

/-- Settles O11: the hypothesis is the model's own test of the instant, under which a checked commit is refused with result 5. -/
theorem armRefused : Obligations.ArmRefused := by
  intro s hup hst hinst
  have hbad : instantBad s = true := (instantBad_iff s).2 hinst
  exact sets_scResult (by decide) (by decide) (gives_armCommit_of_instantBad hup hst hbad)

end Sys2Proof.Machine
end

section
/-! The evaluation of the interrupt controller (R427 to R430): the registers it writes, and the running priority it shows. -/

namespace Sys2Proof.Machine

/-- Priority `p` is the highest among the sources in service for target `k`, 0 if none is in service (R428). -/
def HighestServed (s : State) (k p : Nat) : Prop :=
  (∀ n, n < 1024 → s.get X.ic_serv n = k + 1 → s.get IC_SRC.priority n ≤ p)
  ∧ (p = 0 ∨ ∃ n, n < 1024 ∧ s.get X.ic_serv n = k + 1 ∧ s.get IC_SRC.priority n = p)

theorem mem_servedBy {s : State} {k n : Nat} : n ∈ servedBy s k ↔ n < 1024 ∧ s.get X.ic_serv n = k + 1 := by
  simp [servedBy]

/-- The running priority is the greatest member of 0 and the priorities in service. -/
theorem max?_runningPrio (s : State) (k : Nat) :
    (0 :: (servedBy s k).map (fun n => s.get IC_SRC.priority n)).max? = some (runningPrio s k) := by
  rw [List.max?_cons', List.foldl_map, runningPrio]

theorem highestServed_runningPrio (s : State) (k : Nat) : HighestServed s k (runningPrio s k) := by
  obtain ⟨hmem, hle⟩ := List.max?_eq_some_iff.1 (max?_runningPrio s k)
  constructor
  · intro n hn hserv
    exact hle _ (List.mem_cons_of_mem _ (List.mem_map_of_mem (mem_servedBy.2 ⟨hn, hserv⟩)))
  · rcases List.mem_cons.1 hmem with h0 | hmap
    · exact .inl h0
    · obtain ⟨n, hn, hp⟩ := List.mem_map.1 hmap
      exact .inr ⟨n, (mem_servedBy.1 hn).1, (mem_servedBy.1 hn).2, hp⟩

/-- The running priority rests on what is in service and on the priorities alone. -/
theorem runningPrio_congr {s t : State} (hserv : ∀ n, t.get X.ic_serv n = s.get X.ic_serv n)
    (hprio : ∀ n, t.get IC_SRC.priority n = s.get IC_SRC.priority n) (k : Nat) : runningPrio t k = runningPrio s k := by
  simp only [runningPrio, servedBy, hserv, hprio]

/-- The fields that show a target (R430). -/
def targetIds : List Nat :=
  [IC_TGT_STATUS.running.id, IC_TGT_STATUS.depth.id, IC_TGT_STATUS.idle.id, AP_CORE_STATUS.state.id]

/-- The fields that say what is pending, offered, released and signalled. -/
def offerIds : List Nat :=
  [IC_SRC.pending.id, IC_SRC.offered.id, X.ic_to.id, X.ic_rel.id, IC_TGT_STATUS.line.id]

theorem Only.foldl {ids : List Nat} {g : State → Nat → State} (h : ∀ t i, Only ids t (g t i)) (l : List Nat) (s : State) :
    Only ids s (l.foldl g s) :=
  Only.each l (fun i t => g t i) (fun i t => h t i) s

/-- Showing a target writes its running priority first, and then other fields alone. -/
theorem only_showTarget_later (s : State) (k : Nat) : Only [IC_TGT_STATUS.depth.id, IC_TGT_STATUS.idle.id, AP_CORE_STATUS.state.id]
    (s.set IC_TGT_STATUS.running k (runningPrio s k)) (showTarget s k) := by
  unfold showTarget
  extract_lets l running idle shown
  have hshown : Only [IC_TGT_STATUS.depth.id, IC_TGT_STATUS.idle.id, AP_CORE_STATUS.state.id] _ shown :=
    (Only.set _ _ _ _ (by decide)).step _ _ _ (by decide)
  exact Only.ite _ (hshown.step _ _ _ (by decide)) hshown

theorem only_showTarget (s : State) (k : Nat) : Only targetIds s (showTarget s k) :=
  (Only.set s IC_TGT_STATUS.running k (runningPrio s k) (by decide)).trans ((only_showTarget_later s k).mono (by decide))

theorem only_offerSrc (s : State) (n : Nat) : Only offerIds s (offerSrc s n) := by
  unfold offerSrc
  dsimp only
  split
  · exact Only.refl _ s
  · split <;> exact ((Only.refl _ s).step _ _ _ (by decide)).step _ _ _ (by decide)

theorem only_releaseHeld (k : Nat) (s : State) : Only offerIds s (releaseHeld k s) :=
  Only.each _ _ (fun _ t => Only.set t _ _ _ (by decide)) s

theorem only_releaseCount (s : State) (k : Nat) : Only offerIds s (releaseCount s k) := by
  unfold releaseCount
  exact Only.ite _ (only_releaseHeld k s) (Only.refl _ s)

/-- Once the targets are shown, the evaluation writes the fields of `offerIds` alone. -/
theorem only_icEval (s : State) : Only offerIds ((List.range 10).foldl showTarget s).spend (icEval s) := by
  unfold icEval
  extract_lets shown spent pending live offered released offeredAgain
  have hpending : Only offerIds spent pending :=
    Only.foldl (fun t n => Only.ite _ (Only.refl _ t) (Only.set t _ _ _ (by decide))) _ _
  have hoffered : Only offerIds pending offered := Only.foldl only_offerSrc _ _
  have hreleased : Only offerIds offered released := Only.foldl only_releaseCount _ _
  have hagain : Only offerIds released offeredAgain := Only.foldl only_offerSrc _ _
  exact (((hpending.trans hoffered).trans hreleased).trans hagain).trans
    (Only.each _ _ (fun _ t => Only.set t _ _ _ (by decide)) _)

/-- The evaluation leaves every register but those it shows. -/
theorem icEval_get (s : State) {f : Fld} (i : Nat) (ht : f.id ∉ targetIds) (ho : f.id ∉ offerIds) :
    (icEval s).get f i = s.get f i := by
  rw [(only_icEval s).get f i ho, State.get_spend, (Only.foldl only_showTarget _ s).get f i ht]

theorem icEval_serv (s : State) (n : Nat) : (icEval s).get X.ic_serv n = s.get X.ic_serv n :=
  icEval_get s n (by decide) (by decide)

theorem icEval_priority (s : State) (n : Nat) : (icEval s).get IC_SRC.priority n = s.get IC_SRC.priority n :=
  icEval_get s n (by decide) (by decide)

theorem showTarget_running_same (k : Nat) (s : State) :
    (showTarget s k).get IC_TGT_STATUS.running k = runningPrio s k % 16 := by
  rw [(only_showTarget_later s k).get _ _ (by decide)]
  exact State.get_set_same _ _ _ _

theorem showTarget_running_ne {j k : Nat} (h : k ≠ j) (s : State) :
    (showTarget s k).get IC_TGT_STATUS.running j = s.get IC_TGT_STATUS.running j := by
  rw [(only_showTarget_later s k).get _ _ (by decide), State.get_set_inst _ _ _ _ _ _ h]

/-- After an evaluation IC_TGT_STATUS.running shows the running priority. -/
theorem icEval_running (s : State) {k : Nat} (hk : k < 10) :
    (icEval s).get IC_TGT_STATUS.running k = runningPrio s k % 16 := by
  have hshown : ((List.range 10).foldl showTarget s).get IC_TGT_STATUS.running k = runningPrio s k % 16 :=
    each_get (List.range 10) (fun i t => showTarget t i) IC_TGT_STATUS.running (fun t i => runningPrio t i % 16) (Only targetIds)
      (fun i t => only_showTarget t i) showTarget_running_same (fun _ _ t hij => showTarget_running_ne hij t)
      (fun _ _ i h => by
        rw [runningPrio_congr (fun n => h.get X.ic_serv n (by decide)) (fun n => h.get IC_SRC.priority n (by decide))])
      s k (List.mem_range.2 hk) List.nodup_range
  rw [(only_icEval s).get _ _ (by decide), State.get_spend, hshown]

/-- A command that ends with an evaluation leaves IC_TGT_STATUS.running at the highest priority in service. -/
theorem settled_icEval_running (s : State) {u v : State} (hu : u.regs = (icEval v).regs) {k : Nat} (hk : k < 10) :
    ∃ p, HighestServed (settled s u) k p ∧ (settled s u).get IC_TGT_STATUS.running k = p % 16 := by
  have hget : ∀ (f : Fld) i, f.id ∉ mirrors → (settled s u).get f i = (icEval v).get f i :=
    fun f i hf => (settled_get s u f i hf).trans (State.get_of_regs hu f i)
  have hsame : runningPrio (settled s u) k = runningPrio v k := runningPrio_congr
    (fun n => (hget _ n (by decide)).trans (icEval_serv v n)) (fun n => (hget _ n (by decide)).trans (icEval_priority v n)) k
  refine ⟨_, highestServed_runningPrio _ k, ?_⟩
  rw [hsame, hget _ _ (by decide), icEval_running v hk]

end Sys2Proof.Machine
end

section
/-! Claims and completions (R431): which source a claim takes, and what each answer of IC_CLAIM and IC_COMPLETE leaves. -/

namespace Sys2Proof.Machine

/-- One step of the search for the source to claim: `n` replaces `b` where `b` is none or of lower priority. -/
def preferred (s : State) (b n : Nat) : Nat :=
  if b = 0 ∨ s.get IC_SRC.priority b < s.get IC_SRC.priority n then n else b

theorem claimed_eq (s : State) (k : Nat) :
    claimed s k = ((List.range 1024).filter (fun n => pendingSrc s n && eligible s n k)).foldl (preferred s) 0 := rfl

/-- A source that none exceeds stays preferred. -/
theorem foldl_preferred_stays {s : State} {n : Nat} (hn : n ≠ 0) (l : List Nat)
    (h : ∀ m ∈ l, s.get IC_SRC.priority m ≤ s.get IC_SRC.priority n) : l.foldl (preferred s) n = n :=
  List.foldlRecOn l _ (motive := (· = n)) rfl
    (fun b hb m hm => by rw [hb]; exact if_neg (not_or.2 ⟨hn, Nat.not_lt.2 (h m hm)⟩))

/-- In a list in the order of the numbers the search finds the source of highest priority, ties to the lowest number. -/
theorem foldl_preferred_eq {s : State} {n : Nat} (hn : n ≠ 0) (l : List Nat) (b : Nat) (hsorted : l.Pairwise (· < ·)) (hmem : n ∈ l)
    (hbest : ∀ m ∈ l, m = 0 ∨ s.get IC_SRC.priority m < s.get IC_SRC.priority n
      ∨ (s.get IC_SRC.priority m = s.get IC_SRC.priority n ∧ n ≤ m))
    (hb : b = 0 ∨ s.get IC_SRC.priority b < s.get IC_SRC.priority n) : l.foldl (preferred s) b = n := by
  induction l generalizing b with
  | nil => cases hmem
  | cons x xs ih =>
    obtain ⟨hx, hxs⟩ := List.pairwise_cons.1 hsorted
    obtain ⟨hbestx, hbestxs⟩ := List.forall_mem_cons.1 hbest
    rw [List.foldl_cons]
    rcases List.mem_cons.1 hmem with rfl | hlater
    · rw [preferred, if_pos hb]
      refine foldl_preferred_stays hn xs (fun m hm => ?_)
      have := hx m hm
      have := hbestxs m hm
      omega
    · have hlower : x = 0 ∨ s.get IC_SRC.priority x < s.get IC_SRC.priority n := by
        have := hx n hlater
        omega
      refine ih _ hxs hlater hbestxs ?_
      unfold preferred
      split
      · exact hlower
      · exact hb

theorem pendingSrc_of_eligible {s : State} {n k : Nat} (h : eligible s n k = true) : pendingSrc s n = true := by
  simp only [eligible, Bool.and_eq_true] at h
  tauto

/-- The claim takes the eligible source of highest priority, ties to the lowest number. -/
theorem claimed_of_best {s : State} {n k : Nat} (h0 : 0 < n) (hn : n < 1024) (he : eligible s n k = true)
    (hbest : ∀ m, 0 < m → m < 1024 → eligible s m k = true →
      s.get IC_SRC.priority m < s.get IC_SRC.priority n ∨ (s.get IC_SRC.priority m = s.get IC_SRC.priority n ∧ n ≤ m)) :
    claimed s k = n := by
  rw [claimed_eq]
  refine foldl_preferred_eq h0.ne' _ 0 (List.pairwise_lt_range.filter _) ?_ (fun m hm => ?_) (.inl rfl)
  · simp [hn, he, pendingSrc_of_eligible he]
  · simp only [List.mem_filter, List.mem_range, Bool.and_eq_true] at hm
    obtain ⟨hlt, -, hem⟩ := hm
    rcases Nat.eq_zero_or_pos m with hzero | hpos
    · exact .inl hzero
    · exact .inr (hbest m hpos hlt hem)

/-- With no source eligible the claim takes none. -/
theorem claimed_of_none {s : State} {k : Nat} (h : ∀ n, 0 < n → n < 1024 → eligible s n k = false) : claimed s k = 0 := by
  rw [claimed_eq]
  refine List.foldlRecOn _ _ (motive := (· = 0)) rfl (fun b hb n hn => ?_)
  simp only [List.mem_filter, List.mem_range, Bool.and_eq_true] at hn
  obtain ⟨hlt, -, he⟩ := hn
  have hzero : n = 0 := by
    by_contra hne
    simp [h n (Nat.pos_of_ne_zero hne) hlt] at he
  rw [preferred, hb, hzero, ite_self]

/-- What a claim writes before the evaluation that follows it. -/
def claimCells (k n : Nat) : List CellVal :=
  [(IC_SRC.in_service, n, 1), (IC_SRC.pending, n, 0), (X.ic_serv, n, k + 1), (IC_SRC.count, n, 0), (IC_SRC.last_target, n, k),
   (X.ic_rel, n, 0), (IC_SRC.offered, n, 0), (X.ic_to, n, 0)]

/-- What a completion writes before the evaluation that follows it. -/
def completeCells (n : Nat) : List CellVal := [(IC_SRC.in_service, n, 0), (X.ic_serv, n, 0)]

/-- Cells of different fields are different. -/
theorem distinct_of_nodup_ids {l : List CellVal} (h : (l.map (fun p => p.1.id)).Nodup) : distinct l :=
  (List.pairwise_map.1 h).imp Or.inl

theorem distinct_claimCells (k n : Nat) : distinct (claimCells k n) :=
  distinct_of_nodup_ids (show [IC_SRC.in_service.id, IC_SRC.pending.id, X.ic_serv.id, IC_SRC.count.id, IC_SRC.last_target.id,
    X.ic_rel.id, IC_SRC.offered.id, X.ic_to.id].Nodup by decide)

theorem distinct_completeCells (n : Nat) : distinct (completeCells n) :=
  distinct_of_nodup_ids (show [IC_SRC.in_service.id, X.ic_serv.id].Nodup by decide)

/-- A counter that is not yet at its greatest value counts one more. -/
theorem State.inc_of_lt {s : State} {f : Fld} {i : Nat} (h : s.get f i < 2 ^ f.width - 1) : s.inc f i = s.set f i (s.get f i + 1) := by
  rw [State.inc, Nat.min_eq_left h]

/-- A read of another target's IC_CLAIM answers 0. -/
theorem gives_claim_other {s : State} {c k : Nat} (hup : coreUp s = true) (hc : c < 10) (hk : k < 10) (hne : k ≠ c) :
    Gives (.claim c k) s (respond c false 0 s) :=
  gives_run (exec_claim c k s) rfl (by simp [okCore, okTarget, hc, hk]) hup (by rw [if_pos hne.symm])

/-- A claim with no source eligible answers 0 and counts. -/
theorem gives_claim_none {s : State} {c : Nat} (hup : coreUp s = true) (hc : c < 10) (hnone : claimed s c = 0) :
    Gives (.claim c c) s (respond c false 0 (s.inc IC_TGT_STATUS.spurious c)) :=
  gives_run (exec_claim c c s) rfl (by simp [okCore, okTarget, hc]) hup (by simp only [hnone, ne_eq, not_true_eq_false, if_false, if_true])

/-- A claim that takes a source answers its number and its arrival count. -/
theorem gives_claim_source {s : State} {c n : Nat} (hup : coreUp s = true) (hc : c < 10) (hn : claimed s c = n) (h0 : n ≠ 0) :
    Gives (.claim c c) s (respond c false (s.get IC_SRC.count n * 1024 + n) (icEval (setAll (claimCells c n) s))) := by
  refine gives_run (exec_claim c c s) rfl (by simp [okCore, okTarget, hc]) hup ?_
  simp only [hn, h0, ne_eq, not_true_eq_false, if_false]
  rfl

/-- A completion of a source in service for the target takes it out of service. -/
theorem gives_complete {s : State} {c k n : Nat} (hup : coreUp s = true) (hc : c < 10) (hk : k < 10) (hn : n < 1024)
    (hserv : s.get X.ic_serv n = k + 1) : Gives (.complete c k n) s (icEval (setAll (completeCells n) s)) :=
  gives_run (exec_complete c k n s) rfl (by simp [okCore, okTarget, okSource, hc, hk, hn]) hup (by rw [if_pos hserv]; rfl)

/-- A completion of any other source is recorded in IC_INT.bad_complete. -/
theorem gives_complete_bad {s : State} {c k n : Nat} (hup : coreUp s = true) (hc : c < 10) (hk : k < 10) (hn : n < 1024)
    (hserv : s.get X.ic_serv n ≠ k + 1) : Gives (.complete c k n) s (setAll [(IC_INT.bad_complete, 0, 1)] s) :=
  gives_run (exec_complete c k n s) rfl (by simp [okCore, okTarget, okSource, hc, hk, hn]) hup (by rw [if_neg hserv]; rfl)

/-- A bus answer changes no register. -/
theorem respond_regs (c : Nat) (err : Bool) (d : Nat) (s : State) : (respond c err d s).regs = s.regs := rfl

/-- The bus answer of a command outlasts settling. -/
theorem settled_bus (s u : State) : (settled s u).bus = u.bus := by
  simp only [settled]
  rw [(only_settle u).rest]

/-- A cell that a command writes before its evaluation reads afterwards as it was written, where the evaluation does not write it. -/
theorem settled_icEval_get (s : State) {u v : State} (hu : u.regs = (icEval v).regs) {f : Fld} (i : Nat)
    (hf : f.id ∉ mirrors ++ targetIds ++ offerIds) : (settled s u).get f i = v.get f i := by
  simp only [List.mem_append, not_or] at hf
  obtain ⟨⟨hm, ht⟩, ho⟩ := hf
  rw [settled_get s u f i hm, State.get_of_regs hu f i, icEval_get v i ht ho]

/-- A claim that takes source `n`. -/
theorem claim_takes {s : State} {c n : Nat} (hup : coreUp s = true) (hc : c < 10) (hn : claimed s c = n) (h0 : n ≠ 0) :
    ∃ t, exec (.claim c c) s = .next t ∧ t.bus = some { core := c, err := false, data := s.get IC_SRC.count n * 1024 + n }
      ∧ t.get X.ic_serv n = c + 1 ∧ t.get IC_SRC.in_service n = 1 ∧ t.get IC_SRC.count n = 0
      ∧ (∃ p, HighestServed t c p ∧ t.get IC_TGT_STATUS.running c = p % 16) := by
  have hcell := setAll_mem (claimCells c n) s (distinct_claimCells c n)
  have hserv : (setAll (claimCells c n) s).get X.ic_serv n = c + 1 :=
    (hcell (X.ic_serv, n, c + 1) (by simp [claimCells])).trans (Nat.mod_eq_of_lt (show c + 1 < 16 by omega))
  have hin : (setAll (claimCells c n) s).get IC_SRC.in_service n = 1 := hcell (IC_SRC.in_service, n, 1) (by simp [claimCells])
  have hcount : (setAll (claimCells c n) s).get IC_SRC.count n = 0 := hcell (IC_SRC.count, n, 0) (by simp [claimCells])
  have hregs := respond_regs c false (s.get IC_SRC.count n * 1024 + n) (icEval (setAll (claimCells c n) s))
  refine ⟨_, gives_claim_source hup hc hn h0, settled_bus _ _, ?_, ?_, ?_, settled_icEval_running s hregs hc⟩
  · exact (settled_icEval_get s hregs n (by decide)).trans hserv
  · exact (settled_icEval_get s hregs n (by decide)).trans hin
  · exact (settled_icEval_get s hregs n (by decide)).trans hcount

/-- A claim with no source eligible counts a spurious claim, up to the counter's greatest value, and does nothing else. -/
theorem claim_spurious {s : State} {c : Nat} (hup : coreUp s = true) (hc : c < 10) (hnone : claimed s c = 0)
    (hroom : s.get IC_TGT_STATUS.spurious c < 65535) :
    Effect (.claim c c) s [(IC_TGT_STATUS.spurious, c, s.get IC_TGT_STATUS.spurious c + 1)] (respond c false 0) := by
  have hgives := gives_claim_none hup hc hnone
  rw [State.inc_of_lt hroom] at hgives
  have hmirror : IC_TGT_STATUS.spurious.id ∉ mirrors := by decide
  exact effect_setAll hgives rfl (List.pairwise_singleton _ _) (List.forall_mem_singleton.2 hmirror)

/-- A completion of a source in service. -/
theorem complete_releases {s : State} {c k n : Nat} (hup : coreUp s = true) (hc : c < 10) (hk : k < 10) (hn : n < 1024)
    (hserv : s.get X.ic_serv n = k + 1) :
    ∃ t, exec (.complete c k n) s = .next t ∧ t.get X.ic_serv n = 0 ∧ t.get IC_SRC.in_service n = 0
      ∧ (∀ m, m ≠ n → t.get X.ic_serv m = s.get X.ic_serv m)
      ∧ (∃ p, HighestServed t k p ∧ t.get IC_TGT_STATUS.running k = p % 16) := by
  have hcell := setAll_mem (completeCells n) s (distinct_completeCells n)
  have hfree : (setAll (completeCells n) s).get X.ic_serv n = 0 := hcell (X.ic_serv, n, 0) (by simp [completeCells])
  have hout : (setAll (completeCells n) s).get IC_SRC.in_service n = 0 := hcell (IC_SRC.in_service, n, 0) (by simp [completeCells])
  have hothers : ∀ m, m ≠ n → (setAll (completeCells n) s).get X.ic_serv m = s.get X.ic_serv m := fun m hm =>
    setAll_other _ s _ _ (by simp [completeCells, hm.symm])
  refine ⟨_, gives_complete hup hc hk hn hserv, ?_, ?_, fun m hm => ?_, settled_icEval_running s rfl hk⟩
  · exact (settled_icEval_get s rfl n (by decide)).trans hfree
  · exact (settled_icEval_get s rfl n (by decide)).trans hout
  · exact (settled_icEval_get s rfl m (by decide)).trans (hothers m hm)

/-- Settles O57: a claim searches for the best eligible source, and every change of what is in service is followed by an evaluation, which
shows the running priority. -/
theorem claims : Obligations.Claims := by
  intro s c hup hc highest
  refine ⟨?_, ?_, ?_, ?_, ?_⟩
  · intro n h0 hn he hbest
    exact claim_takes hup hc (claimed_of_best h0 hn he hbest) h0.ne'
  · intro hnone hroom
    exact claim_spurious hup hc (claimed_of_none hnone) hroom
  · intro k hk hne
    exact effect_setAll (l := []) (gives_claim_other hup hc hk hne) rfl .nil (List.forall_mem_nil _)
  · intro k n hk hn hserv
    exact complete_releases hup hc hk hn hserv
  · intro k n hk hn hserv
    exact sets_setAll (gives_complete_bad hup hc hk hn hserv) (List.pairwise_singleton _ _) (List.forall_mem_singleton.2 (by decide))

end Sys2Proof.Machine
end

section
/-! The full chapter of the event recorder (R442): what the last record that finds no room leaves, and what an event finds afterwards. -/

namespace Sys2Proof.Machine

/-- A flag that is raised reads as set. -/
theorem State.on_raise (s : State) {f : Fld} (i : Nat) (hf : 0 < f.width) : (s.raise f i).on f i = true := by
  have hone : 1 % 2 ^ f.width = 1 := Nat.mod_eq_of_lt (Nat.one_lt_two_pow hf.ne')
  rw [State.on, State.raise, State.get_set_same, hone]
  rfl

/-- A counter leaves the other fields. -/
theorem State.get_inc_ne (s : State) {f g : Fld} (i j : Nat) (h : f.id ≠ g.id) : (s.inc f i).get g j = s.get g j :=
  State.get_set_ne s f g i j _ h

/-- The pad record in front of a record that does not fit in the rest of its sector, in bytes (R438). -/
def erPad (r : EventRec) (s : State) : Nat :=
  let left := 0x10000 - s.get ER_POS.write_point % 0x10000
  if left < recLen r.payload then left else 0

/-- A record would leave fewer than 32 bytes before the end of the chapter (R442). -/
def ErOverflows (r : EventRec) (s : State) : Prop :=
  erSize < s.get ER_POS.write_point + erPad r s + recLen r.payload + 32

/-- The chapter-full record is in flash, and the record that found no room is back at the head of the queue (R442). -/
def erFullWritten (r : EventRec) (s : State) : State :=
  let wp := s.get ER_POS.write_point
  let s := s.flashProgram (erBase + wp) (recBytes (ownRec s 2 (List.replicate 16 0)) 0x5245)
  let s := (s.set ER_POS.write_point 0 (wp + 32)).inc ER_POS.records
  { s with erFifo := r :: s.erFifo }

theorem erProgram_of_overflows {r : EventRec} {s : State} (o : Bool) (h : ErOverflows r s) :
    erProgram r o s = ((erFullWritten r s).raise ER_STATUS.full).raise ER_INT.full :=
  if_pos h

/-- A record that overflows the chapter sets both full bits. -/
theorem erProgram_sets_full {r : EventRec} {s : State} (o : Bool) (h : ErOverflows r s) :
    (erProgram r o s).on ER_STATUS.full = true ∧ (erProgram r o s).on ER_INT.full = true := by
  rw [erProgram_of_overflows o h]
  have hids : ER_INT.full.id ≠ ER_STATUS.full.id := by decide
  constructor
  · exact (on_eq (State.get_set_ne _ ER_INT.full ER_STATUS.full 0 0 1 hids)).trans (State.on_raise _ 0 Nat.one_pos)
  · exact State.on_raise _ 0 Nat.one_pos

/-- A record that overflows the chapter has the chapter-full record programmed in its place, and nothing else. -/
theorem erProgram_full_flash {r : EventRec} {s : State} (o : Bool) (h : ErOverflows r s) :
    (erProgram r o s).flash =
      flashProg s.flash (erBase + s.get ER_POS.write_point) (recBytes (ownRec s 2 (List.replicate 16 0)) 0x5245) := by
  rw [erProgram_of_overflows o h]
  rfl

/-- The pad record, where one is needed, is in flash in front of the record (R438). -/
def erPadded (r : EventRec) (s : State) : State :=
  if erPad r s = 0 then s
  else (s.flashProgram (erBase + s.get ER_POS.write_point)
    (recBytes (ownRec s 5 (List.replicate (erPad r s - 16) 0)) 0x5245)).inc ER_POS.records

/-- A record that leaves room for the chapter-full record counts its pad record, moves the write point past it and writes no
other register. -/
theorem erProgram_regs_of_fits {r : EventRec} {s : State} (o : Bool) (h : ¬ ErOverflows r s) :
    (erProgram r o s).regs = ((erPadded r s).set ER_POS.write_point 0 (s.get ER_POS.write_point + erPad r s)).regs := by
  refine (congrArg State.regs (if_neg h : erProgram r o s = _)).trans ?_
  cases o <;> rfl

/-- Such a record leaves ER_STATUS.full as it was. -/
theorem erProgram_keeps_full {r : EventRec} {s : State} (o : Bool) (h : ¬ ErOverflows r s) :
    (erProgram r o s).get ER_STATUS.full = s.get ER_STATUS.full := by
  have hpoint : ER_POS.write_point.id ≠ ER_STATUS.full.id := by decide
  have hrecords : ER_POS.records.id ≠ ER_STATUS.full.id := by decide
  have hpadded : (erPadded r s).get ER_STATUS.full = s.get ER_STATUS.full := by
    unfold erPadded
    split
    · rfl
    · exact State.get_inc_ne _ 0 0 hrecords
  rw [State.get_of_regs (erProgram_regs_of_fits o h), State.get_set_ne _ _ _ 0 0 _ hpoint, hpadded]

/-- In a full chapter no record is started. -/
theorem erStart_of_full {s : State} (h : s.on ER_STATUS.full = true) : erStart s = s := by
  unfold erStart
  exact if_pos (by simp [h])

/-- An event that meets a full chapter is refused and counted. -/
theorem gives_eventAccept_of_full {src code : Nat} {b : List Byte} {s : State} (hup : coreUp s = true) (hb : b.length ≤ 240)
    (h : s.on ER_STATUS.full = true) : Gives (.eventAccept src code b) s (s.inc ER_STATUS.refused) :=
  gives_run (exec_eventAccept src code b s) rfl (decide_eq_true hb) hup (if_pos h)

/-- The refusal sets the counter alone while that can count. -/
theorem sets_eventAccept_of_full {src code : Nat} {b : List Byte} {s : State} (hup : coreUp s = true) (hb : b.length ≤ 240)
    (h : s.on ER_STATUS.full = true) (hroom : s.get ER_STATUS.refused < 2 ^ 32 - 1) :
    Sets (.eventAccept src code b) s [(ER_STATUS.refused, 0, s.get ER_STATUS.refused + 1)] := by
  have hgives := gives_eventAccept_of_full (src := src) (code := code) hup hb h
  rw [State.inc_of_lt hroom] at hgives
  have hmirror : ER_STATUS.refused.id ∉ mirrors := by decide
  exact sets_setAll hgives (List.pairwise_singleton _ _) (List.forall_mem_singleton.2 hmirror)

/-- Settles O58: whether the next record overflows the chapter decides which branch of `erProgram` runs, and ER_STATUS.full stops both
`erStart` and the acceptance of events. -/
theorem chapterFull : Obligations.ChapterFull := by
  intro s hup
  refine ⟨?_, erStart_of_full, ?_⟩
  · intro r o wp left pad t
    constructor
    · intro hover
      obtain ⟨hstatus, hint⟩ := erProgram_sets_full o hover
      exact ⟨hstatus, hint, erProgram_full_flash o hover⟩
    · intro hfits
      exact erProgram_keeps_full o (Nat.not_lt.2 hfits)
  · intro src code b hb hfull hroom
    exact sets_eventAccept_of_full hup hb hfull hroom

end Sys2Proof.Machine
end

section
/-! The mirrors (O4): settling writes each of them from state that no later part of settling writes, and the clock tick keeps them. -/

namespace Sys2Proof.Machine

/-- The queue of waiting commands is no part of what the mirrors show. -/
theorem Mirrored.setPending {s : State} (h : Mirrored s) (l : List Instr) : Mirrored { s with pending := l } :=
  ⟨h.dtime, h.fifo, h.logFailed, h.active, h.rxCount, h.txFree, h.ctl0, h.ctl1, h.urgent, h.domains0, h.domains1, h.domains2⟩

/-- The last parts of settling: the media queues and the CT queues. -/
theorem only_showQueues (s : State) : Only (mediaIds ++ queueIds) s ((s.each (List.range 4) showMedia).each (List.range 16) showQueue) :=
  ((Only.each _ _ only_showMedia s).mono (by decide)).trans ((Only.each _ _ only_showQueue _).mono (by decide))

/-- The mirrors that the parts of settling after the clock write, but for those of the power domains. -/
def lateIds : List Nat :=
  [SV_RED_STATUS.active.id] ++ threadIds ++ [HG_POOL.held_g.id, HG_POOL.x.id] ++ mediaIds ++ queueIds

theorem only_showPool_later (s : State) :
    Only lateIds s (((showPool s).each (List.range 4) showMedia).each (List.range 16) showQueue) :=
  ((only_showPool s).mono (by decide)).trans ((only_showQueues _).mono (by decide))

theorem only_showDomains_later (s : State) : Only (HG_DOMAIN_STATUS.on.id :: lateIds) s
    (((showPool (showDomains s)).each (List.range 4) showMedia).each (List.range 16) showQueue) :=
  ((only_showDomains s).mono (by decide)).trans ((only_showPool_later _).mono (by decide))

/-- After the pairs are shown no part of settling shows them again. -/
theorem only_showThreads_later (s : State) :
    Only (HG_DOMAIN_STATUS.on.id :: HG_POOL.held_g.id :: HG_POOL.x.id :: threadIds ++ mediaIds ++ queueIds) s
      (((showPool (showDomains (showThreads s))).each (List.range 4) showMedia).each (List.range 16) showQueue) :=
  ((only_showThreads s).mono (by decide)).trans (((only_showDomains _).mono (by decide)).trans
    (((only_showPool _).mono (by decide)).trans ((only_showQueues _).mono (by decide))))

theorem only_showPairs_later (s : State) : Only (HG_DOMAIN_STATUS.on.id :: lateIds) s
    (((showPool (showDomains (showThreads (showPairs s)))).each (List.range 4) showMedia).each (List.range 16) showQueue) :=
  ((only_showPairs s).mono (by decide)).trans ((only_showThreads_later _).mono (by decide))

theorem only_showRecorder_later (s : State) :
    Only (ER_STATUS.fifo.id :: ER_STATUS.log_failed.id :: HG_DOMAIN_STATUS.on.id :: lateIds) s
      (((showPool (showDomains (showThreads (showPairs (showRecorder s))))).each (List.range 4) showMedia).each (List.range 16)
        showQueue) :=
  ((only_showRecorder s).mono (by decide)).trans ((only_showPairs_later _).mono (by decide))

theorem settle_dtime (s : State) : (settle s).get CR_DTIME.ns = s.dtime % 2 ^ 64 := by
  have hlater := only_showRecorder_later (showClock (showHost s))
  have hclock : (showClock (showHost s)).get CR_DTIME.ns = (showHost s).dtime % 2 ^ 64 := State.get_set_same _ _ _ _
  rw [settle_eq, hlater.get _ _ (by decide), hclock, (only_showHost s).dtime]

theorem settle_recorder (s : State) : (settle s).get ER_STATUS.fifo = s.erFifo.length % 2 ^ 7
    ∧ (settle s).get ER_STATUS.log_failed = s.get ER_GASP.log_failed % 2 := by
  have hbefore : Only mirrors s (showClock (showHost s)) :=
    ((only_showHost s).mono (by decide)).trans ((only_showClock _).mono (by decide))
  have hlater := only_showPairs_later (showRecorder (showClock (showHost s)))
  obtain ⟨hfifo, hfailed⟩ := showRecorder_get (showClock (showHost s))
  rw [settle_eq, hlater.get _ _ (by decide), hlater.get _ _ (by decide), hfifo, hfailed, hbefore.erFifo, hbefore.get _ _ (by decide)]
  exact ⟨rfl, rfl⟩

theorem settle_active (s : State) {a : Nat} (ha : a < 4) :
    (settle s).get SV_RED_STATUS.active a = s.get SV_STATUS.active_engine a % 2 := by
  have hbefore : Only mirrors s (showRecorder (showClock (showHost s))) :=
    ((only_showHost s).mono (by decide)).trans
      (((only_showClock _).mono (by decide)).trans ((only_showRecorder _).mono (by decide)))
  have hlater := only_showThreads_later (showPairs (showRecorder (showClock (showHost s))))
  rw [settle_eq, hlater.get _ _ (by decide), showPairs_get _ a ha, hbefore.get _ _ (by decide)]

theorem settle_queue (s : State) {y : Nat} (hy : y < 16) :
    (settle s).get HL_CT_QSTAT.rx_count y = (KV.getD s.ctRx y []).length % 2 ^ 6
    ∧ (settle s).get HL_CT_QSTAT.tx_free y = (32 - ((KV.getD s.ctHeld y []).filter (fun m => m.fw)).length) % 2 ^ 6 := by
  have hshown := only_settle s
  obtain ⟨hrx, htx⟩ := showQueues_get ((showPool (showDomains (showThreads (showPairs (showRecorder (showClock
    (showHost s))))))).each (List.range 4) showMedia) y hy
  have hqueues := Only.each (ids := queueIds) (List.range 16) showQueue only_showQueue
    ((showPool (showDomains (showThreads (showPairs (showRecorder (showClock (showHost s))))))).each (List.range 4) showMedia)
  rw [← settle_eq] at hrx htx
  rw [hrx, htx, ← hqueues.ctRx, ← hqueues.ctHeld, ← settle_eq, hshown.ctRx, hshown.ctHeld]
  exact ⟨rfl, rfl⟩

theorem settle_ctxs (s : State) :
    (settle s).get QE_CTX_STATUS.ctl0 = (s.ctxs.filter (fun p => p.2.ctl == 0)).length % 2 ^ 14
    ∧ (settle s).get QE_CTX_STATUS.ctl1 = (s.ctxs.filter (fun p => p.2.ctl == 1)).length % 2 ^ 14
    ∧ (settle s).get QE_CTX_STATUS.urgent = (s.ctxs.filter (fun p => p.2.cls == 0)).length % 2 ^ 14 := by
  have hlater : Only (CR_DTIME.ns.id :: ER_STATUS.fifo.id :: ER_STATUS.log_failed.id :: HG_DOMAIN_STATUS.on.id :: lateIds)
      (showHost s) (settle s) :=
    ((only_showClock _).mono (by decide)).trans ((only_showRecorder_later _).mono (by decide))
  rw [hlater.get _ _ (by decide), hlater.get _ _ (by decide), hlater.get _ _ (by decide)]
  exact showHost_ctxs s

theorem settle_domains (s : State) :
    (settle s).get HG_DOMAIN_STATUS.on 0 = domainsOn (settle s) 0 ((settle s).image.domGroup.take 64) % 2 ^ 64
    ∧ (settle s).get HG_DOMAIN_STATUS.on 1 = domainsOn (settle s) 64 (((settle s).image.domGroup.drop 64).take 64) % 2 ^ 64
    ∧ (settle s).get HG_DOMAIN_STATUS.on 2 = domainsOn (settle s) 128 ((settle s).image.domGroup.drop 128) % 2 ^ 64 := by
  have hpool := only_showPool_later (showDomains (showThreads (showPairs (showRecorder (showClock (showHost s))))))
  have hdomains : Only mirrors (showThreads (showPairs (showRecorder (showClock (showHost s))))) (settle s) :=
    (only_showDomains_later _).mono (by decide)
  rw [hdomains.domainsOn, hdomains.domainsOn, hdomains.domainsOn, hdomains.image, settle_eq, hpool.get _ _ (by decide),
    hpool.get _ _ (by decide), hpool.get _ _ (by decide)]
  exact showDomains_get _

/-- After settling every mirror agrees with what it shows. -/
theorem mirrored_settle (s : State) : Mirrored (settle s) := by
  have hshown := only_settle s
  obtain ⟨hfifo, hfailed⟩ := settle_recorder s
  obtain ⟨hctl0, hctl1, hurgent⟩ := settle_ctxs s
  obtain ⟨hd0, hd1, hd2⟩ := settle_domains s
  exact {
    dtime := by rw [settle_dtime, hshown.dtime]
    fifo := by rw [hfifo, hshown.erFifo]
    logFailed := by rw [hfailed, hshown.get _ _ (by decide)]
    active := fun a ha => by rw [settle_active s ha, hshown.get _ _ (by decide)]
    rxCount := fun y hy => by rw [(settle_queue s hy).1, hshown.ctRx]
    txFree := fun y hy => by rw [(settle_queue s hy).2, hshown.ctHeld]
    ctl0 := by rw [hctl0, hshown.ctxs]
    ctl1 := by rw [hctl1, hshown.ctxs]
    urgent := by rw [hurgent, hshown.ctxs]
    domains0 := hd0
    domains1 := hd1
    domains2 := hd2 }

/-- The clock counts one XTAL cycle, and nothing but CR_DTIME shows it. -/
theorem tick_up {s : State} (h : coreUp s = true) :
    tick s = State.set { s with dtime := (s.dtime + 40) % 2 ^ 64 } CR_DTIME.ns 0 ((s.dtime + 40) % 2 ^ 64) := by
  have hoff : ¬ s.on X.core_off = true := by
    unfold coreUp at h
    unfold State.on
    simpa using h
  exact if_neg hoff

theorem tick_down {s : State} (h : coreUp s = false) : tick s = s := by
  have hoff : s.on X.core_off = true := by
    unfold coreUp at h
    unfold State.on
    simpa using h
  exact if_pos hoff

/-- The tick leaves every register but CR_DTIME. -/
theorem tick_get {s : State} (h : coreUp s = true) (f : Fld) (i : Nat) (hf : f.id ≠ CR_DTIME.ns.id) : (tick s).get f i = s.get f i := by
  rw [tick_up h]
  exact State.get_set_ne _ _ _ _ _ _ hf.symm

theorem tick_dtime {s : State} (h : coreUp s = true) : (tick s).dtime = (s.dtime + 40) % 2 ^ 64 := by
  rw [tick_up h]
  rfl

theorem tick_shows_dtime {s : State} (h : coreUp s = true) : (tick s).get CR_DTIME.ns = (tick s).dtime := by
  rw [tick_dtime h, tick_up h, State.get_set_same]
  exact Nat.mod_mod _ _

/-- The tick changes nothing that is no register but DTIME. -/
theorem tick_rest {s : State} (h : coreUp s = true) : { tick s with regs := s.regs, dtime := s.dtime } = s := by
  rw [tick_up h]
  rfl

theorem mirrored_tick {s : State} (h : Mirrored s) : Mirrored (tick s) := by
  cases hup : coreUp s with
  | false => rwa [tick_down hup]
  | true =>
    have hrest : ∀ f i, f.id ≠ CR_DTIME.ns.id → (tick s).get f i = s.get f i := tick_get hup
    have himage : (tick s).image = s.image := by rw [tick_up hup]; rfl
    have hdomains : ∀ n l, domainsOn (tick s) n l = domainsOn s n l := by
      intro n l
      have honly : Only mirrors { s with dtime := (s.dtime + 40) % 2 ^ 64 } (tick s) := by
        rw [tick_up hup]
        exact Only.set _ _ _ _ (by decide)
      exact (honly.domainsOn n l).trans rfl
    exact {
      dtime := by rw [tick_shows_dtime hup, tick_dtime hup, Nat.mod_mod]
      fifo := by rw [hrest _ _ (by decide), h.fifo, tick_up hup]; rfl
      logFailed := by rw [hrest _ _ (by decide), hrest _ _ (by decide), h.logFailed]
      active := fun a ha => by rw [hrest _ _ (by decide), hrest _ _ (by decide), h.active a ha]
      rxCount := fun y hy => by rw [hrest _ _ (by decide), h.rxCount y hy, tick_up hup]; rfl
      txFree := fun y hy => by rw [hrest _ _ (by decide), h.txFree y hy, tick_up hup]; rfl
      ctl0 := by rw [hrest _ _ (by decide), h.ctl0, tick_up hup]; rfl
      ctl1 := by rw [hrest _ _ (by decide), h.ctl1, tick_up hup]; rfl
      urgent := by rw [hrest _ _ (by decide), h.urgent, tick_up hup]; rfl
      domains0 := by rw [hrest _ _ (by decide), h.domains0, hdomains, himage]
      domains1 := by rw [hrest _ _ (by decide), h.domains1, hdomains, himage]
      domains2 := by rw [hrest _ _ (by decide), h.domains2, hdomains, himage] }

/-- Every answer of a command is a state that was settled. -/
theorem mirrored_exec {c : Instr} {s t : State} (h : exec c s = .next t) : Mirrored t := by
  have hanswers := exec_answers c s
  unfold Answers at hanswers
  split at hanswers
  · obtain ⟨u, hu⟩ := hanswers
    obtain rfl : settled s u = t := Host.Outcome.next.inj (hu.symm.trans h)
    exact (mirrored_settle u).setPending s.pending
  · exact absurd (hanswers.symm.trans h) nofun

/-- Settles O4: a command ends with settling, after which every mirror agrees, and the tick of an empty queue keeps them so. -/
theorem mirrorsKept : Obligations.MirrorsKept := by
  intro s t hs hstep
  unfold step at hstep
  split at hstep
  next => exact Host.Outcome.next.inj hstep ▸ mirrored_tick hs
  next => exact mirrored_exec hstep

end Sys2Proof.Machine
end

section
/-! The steps and the reset state (O1, O2, O3, O5, O6). -/

namespace Sys2Proof.Machine

/-- Settles O1: it is the equation of `step` for a queue with a front. -/
theorem stepRunsFront : Obligations.StepRunsFront := fun _ _ _ => rfl

/-- Settles O2: with an empty queue a step is the tick of the clock. -/
theorem idleStepTicks : Obligations.IdleStepTicks := by
  intro s hempty
  have hstep : step s = .next (tick s) := by
    unfold step
    rw [hempty]
  constructor
  · intro hdown
    rw [hstep, tick_down hdown]
  · intro hup
    exact ⟨tick s, hstep, tick_dtime hup, tick_shows_dtime hup, tick_rest hup, tick_get hup⟩

/-- Settles O3: every meaning ends in `answer`, which refuses an ill-formed command and restores the queue after any other. -/
theorem wellFormedCompletes : Obligations.WellFormedCompletes := by
  intro c s
  have hanswers := exec_answers c s
  unfold Answers at hanswers
  constructor
  · intro hwf
    rw [if_pos hwf] at hanswers
    obtain ⟨u, hu⟩ := hanswers
    exact ⟨_, hu, settled_pending s u⟩
  · intro hill
    rwa [if_neg (by simp [hill])] at hanswers

/-- With no cell listed every field reads its reset value. -/
theorem State.get_reset (f : Fld) (i : Nat) : State.reset.get f i = f.reset i := rfl

theorem mirrored_reset : Mirrored State.reset :=
  { dtime := rfl, fifo := rfl, logFailed := rfl, active := fun _ _ => rfl, rxCount := fun _ _ => rfl, txFree := fun _ _ => rfl,
    ctl0 := rfl, ctl1 := rfl, urgent := rfl, domains0 := rfl, domains1 := rfl, domains2 := rfl }

/-- Settles O5: the reset state lists no cell, so that every field reads its reset value, the mirrors among them. -/
theorem resetState : Obligations.ResetState :=
  ⟨mirrored_reset, State.get_reset, rfl, rfl, rfl, rfl, rfl⟩

/-- Settles O6: each of these commands answers through `run`, which applies no effect while the core rails are off. -/
theorem coreRailsOff : Obligations.CoreRailsOff := by
  intro c s hoff hc
  rcases hc with rfl | rfl | rfl | rfl | rfl | rfl | rfl | rfl | rfl | rfl | rfl | rfl | rfl | rfl | rfl | rfl | rfl
    | ⟨g, hg, rfl⟩ | ⟨a, ha, rfl⟩ | ⟨a, ha, rfl⟩ | ⟨q, hq, rfl⟩
  · exact gives_off (exec_check s) rfl rfl hoff
  · exact gives_off (exec_commitStrobe s) rfl rfl hoff
  · exact gives_off (exec_flumeGrant s) rfl rfl hoff
  · exact gives_off (exec_shockTrip s) rfl rfl hoff
  · exact gives_off (exec_speedLoop s) rfl rfl hoff
  · exact gives_off (exec_rebalance s) rfl rfl hoff
  · exact gives_off (exec_recover s) rfl rfl hoff
  · exact gives_off (exec_journalWrite s) rfl rfl hoff
  · exact gives_off (exec_indexCheckpoint s) rfl rfl hoff
  · exact gives_off (exec_stepUpTimer s) rfl rfl hoff
  · exact gives_off (exec_powerTransitionStep s) rfl rfl hoff
  · exact gives_off (exec_drain s) rfl rfl hoff
  · exact gives_off (exec_recordProgrammed s) rfl rfl hoff
  · exact gives_off (exec_wdtStage2 s) rfl rfl hoff
  · exact gives_off (exec_bmEnable s) rfl rfl hoff
  · exact gives_off (exec_lockFill s) rfl rfl hoff
  · exact gives_off (exec_parkComplete s) rfl rfl hoff
  · exact gives_off (exec_groupBringUp g s) rfl (decide_eq_true hg) hoff
  · exact gives_off (exec_park a s) rfl (decide_eq_true ha) hoff
  · exact gives_off (exec_dispatch a s) rfl (decide_eq_true ha) hoff
  · exact gives_off (exec_sequencerStart q s) rfl (decide_eq_true hq) hoff

end Sys2Proof.Machine
end

section
/-! From an effect written as a list of cells to `Sets` and `Effect`: the cells are plain, which computes. -/

namespace Sys2Proof.Machine

/-- The cells are no mirrors, and none is listed twice. -/
def plainCells : List CellVal → Bool
  | [] => true
  | p :: r => !mirrors.contains p.1.id && r.all (fun q => p.1.id != q.1.id || p.2.1 != q.2.1) && plainCells r

theorem distinct_of_plain {l : List CellVal} (h : plainCells l = true) : distinct l := by
  induction l with
  | nil => exact .nil
  | cons p r ih =>
    simp only [plainCells, Bool.and_eq_true, List.all_eq_true, Bool.or_eq_true, bne_iff_ne] at h
    obtain ⟨⟨-, hne⟩, hr⟩ := h
    exact .cons hne (ih hr)

theorem not_mirror_of_plain {l : List CellVal} (h : plainCells l = true) : ∀ p ∈ l, p.1.id ∉ mirrors := by
  induction l with
  | nil => exact List.forall_mem_nil _
  | cons p r ih =>
    simp only [plainCells, Bool.and_eq_true, Bool.not_eq_true', List.contains_eq_mem, decide_eq_false_iff_not] at h
    obtain ⟨⟨hp, -⟩, hr⟩ := h
    exact List.forall_mem_cons.2 ⟨hp, ih hr⟩

/-- A command whose effect sets plain cells and changes what is no register. -/
theorem effect_cells {c : Instr} {s : State} {l : List CellVal} {g : State → State} (h : Gives c s (setAll l (g s)))
    (hg : (g s).regs = s.regs) (hl : plainCells l = true) : Effect c s l g :=
  effect_setAll h hg (distinct_of_plain hl) (not_mirror_of_plain hl)

/-- A command whose effect sets plain cells. -/
theorem sets_cells {c : Instr} {s : State} {l : List CellVal} (h : Gives c s (setAll l s)) (hl : plainCells l = true) : Sets c s l :=
  effect_cells (g := id) h rfl hl

/-- A command whose effect is to do nothing sets no cell. -/
theorem sets_nothing {c : Instr} {s : State} (h : Gives c s s) : Sets c s [] := sets_cells h rfl

/-- A command whose effect is to change what is no register. -/
theorem effect_rest {c : Instr} {s : State} {g : State → State} (h : Gives c s (g s)) (hg : (g s).regs = s.regs) : Effect c s [] g :=
  effect_cells (l := []) h hg rfl

theorem listed_perm {l l' : List CellVal} (h : l.Perm l') (f : Fld) (i : Nat) : listed l f i = listed l' f i := by
  rw [Bool.eq_iff_iff]
  simp only [listed, List.any_eq_true, h.mem_iff]

/-- The order of the cells says nothing. -/
theorem Effect.perm {c : Instr} {s : State} {l l' : List CellVal} {g : State → State} (h : Effect c s l g) (hp : l.Perm l') :
    Effect c s l' g := by
  obtain ⟨t, hx, hrest, hcells, hframe⟩ := h
  refine ⟨t, hx, hrest, fun p hmem => hcells p (hp.mem_iff.2 hmem), fun f i hl hm => hframe f i ?_ hm⟩
  rw [listed_perm hp, hl]

theorem Sets.perm {c : Instr} {s : State} {l l' : List CellVal} (h : Sets c s l) (hp : l.Perm l') : Sets c s l' := Effect.perm h hp

/-- A cell written first may be listed last. -/
theorem Effect.rotate {c : Instr} {s : State} {p : CellVal} {l : List CellVal} {g : State → State} (h : Effect c s (l ++ [p]) g) :
    Effect c s (p :: l) g := h.perm List.perm_append_comm

theorem Sets.rotate {c : Instr} {s : State} {p : CellVal} {l : List CellVal} (h : Sets c s (l ++ [p])) : Sets c s (p :: l) :=
  Effect.rotate h

/-- A flag reads as 0 or as on. -/
theorem State.on_eq_true_iff (s : State) (f : Fld) (i : Nat) : s.on f i = true ↔ s.get f i ≠ 0 := bne_iff_ne

theorem State.on_eq_false_iff (s : State) (f : Fld) (i : Nat) : s.on f i = false ↔ s.get f i = 0 := by
  rw [State.on, bne_eq_false_iff_eq]

end Sys2Proof.Machine
end

section
/-! The consistency check (O10): the first violated rule and the lowest register that it names, and what each end of a check reports. -/

namespace Sys2Proof.Machine

/-- A fold that keeps the lesser of what it has seen. -/
theorem foldl_lowest_some (l : List Nat) (b : Nat) :
    l.foldl (fun m a => match m with | none => some a | some b => some (min a b)) (some b) = some (l.foldl min b) := by
  induction l generalizing b with
  | nil => rfl
  | cons a r ih =>
    rw [List.foldl_cons, List.foldl_cons, min_comm b a]
    exact ih (min a b)

theorem lowest_nil : lowest [] = none := rfl

theorem lowest_cons (a : Nat) (r : List Nat) : lowest (a :: r) = some (r.foldl min a) := foldl_lowest_some r a

theorem lowest_eq_none_iff {l : List Nat} : lowest l = none ↔ l = [] := by
  cases l with
  | nil => simp [lowest_nil]
  | cons a r => simp [lowest_cons]

/-- `lowest` finds the least member. -/
theorem lowest_eq_min? (l : List Nat) : lowest l = l.min? := by
  cases l with
  | nil => rfl
  | cons a r => rw [lowest_cons, List.min?_cons']

/-- The first list that is not empty, with its number from `k` on and its least member. -/
def firstIn (k : Nat) (rules : List (List Nat)) : Option (Nat × Nat) :=
  (rules.zipIdx k).findSome? (fun p => (lowest p.1).map (fun a => (p.2, a)))

theorem firstIn_cons (k : Nat) (l : List Nat) (r : List (List Nat)) :
    firstIn k (l :: r) = ((lowest l).map (fun a => (k, a))).or (firstIn (k + 1) r) := by
  unfold firstIn
  rw [List.zipIdx_cons, List.findSome?_cons]
  cases lowest l <;> rfl

theorem firstIn_eq_none_iff (rules : List (List Nat)) (k : Nat) : firstIn k rules = none ↔ ∀ l ∈ rules, l = [] := by
  induction rules generalizing k with
  | nil => simp [firstIn]
  | cons l r ih => simp [firstIn_cons, ih, lowest_eq_none_iff]

/-- What the first violated rule is: those before it name nothing, and it names the register reported and none below it. -/
theorem firstIn_some {rules : List (List Nat)} {k rule addr : Nat} (h : firstIn k rules = some (rule, addr)) :
    k ≤ rule ∧ (∀ l ∈ rules.take (rule - k), l = []) ∧ addr ∈ rules.getD (rule - k) [] ∧ ∀ a ∈ rules.getD (rule - k) [], addr ≤ a := by
  induction rules generalizing k with
  | nil => cases h
  | cons l r ih =>
    rw [firstIn_cons] at h
    cases hl : lowest l with
    | none =>
      rw [hl] at h
      obtain ⟨hle, hbefore, hmem, hleast⟩ := ih h
      have hnext : rule - k = rule - (k + 1) + 1 := by omega
      rw [hnext, List.take_succ_cons, List.getD_cons_succ]
      exact ⟨by omega, List.forall_mem_cons.2 ⟨lowest_eq_none_iff.1 hl, hbefore⟩, hmem, hleast⟩
    | some a =>
      rw [hl] at h
      obtain ⟨rfl, rfl⟩ : k = rule ∧ a = addr := by simpa using h
      rw [Nat.sub_self, List.take_zero, List.getD_cons_zero]
      obtain ⟨hmem, hleast⟩ := List.min?_eq_some_iff.1 ((lowest_eq_min? l).symm.trans hl)
      exact ⟨Nat.le_refl _, List.forall_mem_nil _, hmem, hleast⟩

/-- The rules of R58, in its order. -/
theorem firstViolation_eq (s : State) : firstViolation s = firstIn 1
    [rule01 s, rule02 s, rule03 s, rule04 s, rule05 s, rule06 s, rule07 s, rule08 s, rule09 s, rule0A s, rule0B s] := rfl

/-- A report of success changes the result alone. -/
theorem scResult_zero (s : State) : scResult 0 s = s.set SC_STATUS.result 0 0 := by
  unfold scResult
  exact if_pos (.inl rfl)

theorem gives_checkDone_passed {s : State} (hup : coreUp s = true) (hst : s.get SC_STATUS.state = scChecking)
    (h : firstViolation (s.raise SC_INT.check_done) = none) : Gives .checkDone s (setAll
      [(SC_INT.check_done, 0, 1), (SC_STATUS.state, 0, scChecked), (SC_STATUS.rule, 0, 0), (SC_STATUS.reg_addr, 0, 0),
       (SC_STATUS.result, 0, 0)] s) := by
  refine gives_run (exec_checkDone s) rfl rfl hup ?_
  simp only [hst, if_true, h, scResult_zero]
  rfl

theorem gives_checkDone_failed {s : State} {rule addr : Nat} (hup : coreUp s = true) (hst : s.get SC_STATUS.state = scChecking)
    (h : firstViolation (s.raise SC_INT.check_done) = some (rule, addr)) : Gives .checkDone s (setAll
      [(SC_INT.check_done, 0, 1), (SC_STATUS.state, 0, scFailed), (SC_STATUS.rule, 0, rule), (SC_STATUS.reg_addr, 0, addr),
       (SC_STATUS.result, 0, 2), (SC_INT.not_applied, 0, 1)] s) := by
  refine gives_run (exec_checkDone s) rfl rfl hup ?_
  simp only [hst, if_true, h]
  rfl

/-- Settles O10: a request looks at the state alone, the end of a check at the first violated rule, and `firstViolation` walks the rules in
their order. -/
theorem checks : Obligations.Checks := by
  intro s hup st
  refine ⟨?_, ?_, ?_, ?_, ?_, ?_, ?_⟩
  · intro hst
    have hfree : ¬ (st = scChecking ∨ st = scArmed) := by
      rcases hst with h | h | h | h <;> rw [h] <;> decide
    exact sets_cells (gives_run (exec_check s) rfl rfl hup (if_neg hfree)) rfl
  · intro hst
    exact sets_scResult (by decide) (by decide) (gives_run (exec_check s) rfl rfl hup (if_pos hst))
  · intro hst
    exact ⟨fun h => sets_cells (gives_checkDone_passed hup hst h) rfl,
      fun rule addr h => sets_cells (gives_checkDone_failed hup hst h) rfl⟩
  · intro hst
    exact sets_nothing (gives_run (exec_checkDone s) rfl rfl hup (if_neg hst))
  · rw [firstViolation_eq]
    exact ⟨firstIn_eq_none_iff _ 1, fun rule addr h => firstIn_some h⟩
  · intro f i hf
    exact if_pos hf
  · intro f i hf
    exact if_neg hf

end Sys2Proof.Machine
end

section
/-! Arming, cancelling, discarding and the instant of a commit (O12). -/

namespace Sys2Proof.Machine

/-- What arming a checked commit latches, in the order in which it is written. -/
def armCells (s : State) : List CellVal :=
  [(X.sc_deadline, 0, if s.get SC_DEADLINE.dtime = 0 then s.dtime + 2 * s.image.revNs else s.get SC_DEADLINE.dtime),
   (X.sc_kind, 0, s.get SC_CTRL.instant_kind), (X.sc_act, 0, s.get SC_CTRL.actuator), (X.sc_miss, 0, s.get SC_CTRL.miss_action),
   (X.sc_value, 0, s.get SC_INSTANT.value), (X.sc_old, 0, 1)]

theorem gives_armCommit {s : State} (hup : coreUp s = true) (hst : s.get SC_STATUS.state = scChecked) (hgood : instantBad s = false) :
    Gives .armCommit s (setAll (armCells s ++ [(SC_STATUS.state, 0, scArmed)]) s) := by
  refine gives_run (exec_armCommit s) rfl rfl hup ?_
  have hne : scChecked ≠ scArmed := by decide
  simp (disch := decide) only [hst, hne, hgood, if_false, ne_eq, not_true_eq_false, Bool.false_eq_true, State.get_set_ne]
  rfl

theorem gives_armCommit_of_not_checked {s : State} (hup : coreUp s = true) (hchecked : s.get SC_STATUS.state ≠ scChecked)
    (harmed : s.get SC_STATUS.state ≠ scArmed) : Gives .armCommit s (scResult 3 s) := by
  refine gives_run (exec_armCommit s) rfl rfl hup ?_
  simp only [hchecked, harmed, if_false, if_true, ne_eq, not_false_eq_true]

theorem gives_commitMissed {s u : State} (hup : coreUp s = true) (hst : s.get SC_STATUS.state = scArmed)
    (hkind : s.get X.sc_kind = 1 ∨ s.get X.sc_kind = 2) (hlate : s.get X.sc_deadline ≤ s.dtime)
    (hu : (if s.on X.sc_miss then strobe s else scResult 4 (s.set SC_STATUS.state 0 scChecked)) = u) : Gives .commitMissed s u :=
  gives_run (exec_commitMissed s) rfl rfl hup ((if_pos ⟨hst, hkind, hlate⟩).trans hu)

/-- A report with result `r`, neither 0 nor 1, after the state was set. -/
theorem sets_state_scResult {c : Instr} {s : State} {st r : Nat} (h0 : r ≠ 0) (h1 : r ≠ 1)
    (h : Gives c s (scResult r (s.set SC_STATUS.state 0 st))) :
    Sets c s [(SC_STATUS.state, 0, st), (SC_STATUS.result, 0, r), (SC_INT.not_applied, 0, 1)] :=
  sets_cells (scResult_eq_setAll h0 h1 (s.set SC_STATUS.state 0 st) ▸ h) rfl

/-- Settles O12: each request is decided by the state of the controller, and the strobe by the armed instant. -/
theorem commitActions : Obligations.CommitActions := by
  intro s hup st
  refine ⟨?_, ?_, ?_, ?_, ?_, ?_, ?_, ?_, ?_, ?_⟩
  · intro hst hgood
    exact (sets_cells (gives_armCommit hup hst hgood) rfl).rotate
  · intro hchecked harmed
    exact sets_scResult (by decide) (by decide) (gives_armCommit_of_not_checked hup hchecked harmed)
  · intro hst
    exact sets_scResult (by decide) (by decide) (gives_run (exec_armCommit s) rfl rfl hup (if_pos hst))
  · intro hst
    exact sets_state_scResult (by decide) (by decide) (gives_run (exec_cancelArmedCommit s) rfl rfl hup (if_pos hst))
  · intro hst
    exact sets_nothing (gives_run (exec_cancelArmedCommit s) rfl rfl hup (if_neg hst))
  · intro hst
    refine effect_cells (g := scDrop) (gives_run (exec_discard s) rfl rfl hup ?_) rfl rfl
    exact congrArg (fun t => (scDrop t).set SC_STATUS.state 0 scIdle) (if_neg hst)
  · intro hst
    have hreport := scResult_eq_setAll (r := 8) (by decide) (by decide) s
    refine Effect.rotate (l := [(SC_STATUS.result, 0, 8), (SC_INT.not_applied, 0, 1)])
      (effect_cells (g := scDrop) (gives_run (exec_discard s) rfl rfl hup ?_) rfl rfl)
    exact congrArg (fun t => (scDrop t).set SC_STATUS.state 0 scIdle) ((if_pos hst).trans hreport)
  · intro hst hinst
    exact gives_run (exec_commitStrobe s) rfl rfl hup (if_pos ⟨hst, hinst⟩)
  · intro hst hinst
    exact sets_nothing (gives_run (exec_commitStrobe s) rfl rfl hup (if_neg (by simp [hinst])))
  · intro hst hkind hlate
    constructor
    · intro hmiss
      exact sets_state_scResult (by decide) (by decide) (gives_commitMissed hup hst hkind hlate (by rw [hmiss]; rfl))
    · intro hmiss
      exact gives_commitMissed hup hst hkind hlate (by rw [hmiss]; rfl)

end Sys2Proof.Machine
end

section
/-! Reading registers across the operations of the model: which fields an operation may write. -/

namespace Sys2Proof.Machine

/-- The registers of `t` differ from those of `s` at most in the fields listed. -/
def KeepsRegs (ids : List Nat) (s t : State) : Prop := ∀ f i, f.id ∉ ids → t.get f i = s.get f i

theorem KeepsRegs.refl (ids : List Nat) (s : State) : KeepsRegs ids s s := fun _ _ _ => rfl

theorem KeepsRegs.of_regs {ids : List Nat} {s t : State} (h : t.regs = s.regs) : KeepsRegs ids s t :=
  fun f i _ => State.get_of_regs h f i

theorem KeepsRegs.trans {ids : List Nat} {s t u : State} (h : KeepsRegs ids s t) (g : KeepsRegs ids t u) : KeepsRegs ids s u :=
  fun f i hf => (g f i hf).trans (h f i hf)

/-- What is no register says nothing. -/
theorem KeepsRegs.congr_regs {ids : List Nat} {s t u : State} (h : KeepsRegs ids s t) (e : u.regs = t.regs) : KeepsRegs ids s u :=
  h.trans (KeepsRegs.of_regs e)

theorem KeepsRegs.set {ids : List Nat} {s t : State} (h : KeepsRegs ids s t) (f : Fld) (i v : Nat) (hf : f.id ∈ ids) :
    KeepsRegs ids s (t.set f i v) :=
  fun g j hg => (State.get_set_ne t f g i j v (fun e => hg (e ▸ hf))).trans (h g j hg)

theorem KeepsRegs.ite {ids : List Nat} {s t u : State} {c : Prop} [Decidable c] (h : KeepsRegs ids s t) (g : KeepsRegs ids s u) :
    KeepsRegs ids s (if c then t else u) := by split <;> assumption

theorem KeepsRegs.each {ids : List Nat} {g : Nat → State → State} (h : ∀ i t, KeepsRegs ids t (g i t)) (l : List Nat) (s : State) :
    KeepsRegs ids s (s.each l g) := by
  unfold State.each
  induction l generalizing s with
  | nil => exact KeepsRegs.refl _ _
  | cons a r ih => exact (h a s).trans (ih _)

theorem KeepsRegs.mono {ids ids' : List Nat} {s t : State} (h : KeepsRegs ids s t) (hle : ∀ i ∈ ids, i ∈ ids') : KeepsRegs ids' s t :=
  fun f i hf => h f i (fun e => hf (hle _ e))

theorem KeepsRegs.on {ids : List Nat} {s t : State} (h : KeepsRegs ids s t) {f : Fld} (i : Nat) (hf : f.id ∉ ids) : t.on f i = s.on f i :=
  on_eq (h f i hf)

/-- Cells leave every field that none of them is of. -/
theorem setAll_get_other {f : Fld} (l : List CellVal) (s : State) (i : Nat) (h : (l.all fun p => p.1.id != f.id) = true) :
    (setAll l s).get f i = s.get f i :=
  setAll_other l s f i (fun p hp => .inl (bne_iff_ne.1 (List.all_eq_true.1 h p hp)))

/-- Writing the low bits of a value is writing the value. -/
theorem State.set_mod (s : State) (f : Fld) (i v : Nat) : s.set f i (v % 2 ^ f.width) = s.set f i v := by
  unfold State.set
  rw [Nat.mod_mod]

end Sys2Proof.Machine
end

section
/-! The loss of a unit (O13). -/

namespace Sys2Proof.Machine

/-- Settles O13: each kind of unit has its arm in UNIT_LOSS. -/
theorem unitLosses : Obligations.UnitLosses := by
  intro s hup
  refine ⟨?_, ?_, ?_, ?_, ?_, ?_, ?_, ?_⟩
  · intro h hh
    exact gives_run (exec_unitLoss _ s) rfl (decide_eq_true hh) hup rfl
  · intro x hx
    exact gives_run (exec_unitLoss _ s) rfl (decide_eq_true hx) hup rfl
  · intro y hy
    exact gives_run (exec_unitLoss _ s) rfl (decide_eq_true hy) hup rfl
  · intro a ha
    exact gives_run (exec_unitLoss _ s) rfl (decide_eq_true ha) hup rfl
  · intro f hf
    exact gives_run (exec_unitLoss _ s) rfl (decide_eq_true hf) hup rfl
  · intro e he
    exact gives_run (exec_unitLoss _ s) rfl (decide_eq_true he) hup rfl
  · intro d hd
    exact gives_run (exec_unitLoss _ s) rfl (decide_eq_true hd) hup rfl
  · intro p hp
    exact gives_run (exec_unitLoss _ s) rfl (decide_eq_true hp) hup rfl

end Sys2Proof.Machine
end

section
/-! The head link (O14, O15, O16, O17, O18). -/

namespace Sys2Proof.Machine

/-- The part at reset under an image that uses group 0 and gives it no Headgate port. -/
def usedGroupState : State := { State.reset with img := some { noImage with downGroup := [0] } }

/-- A bring-up that is asked for by action also notes that it was (R93). -/
theorem gives_groupBringUp_usedGroup : Gives (.groupBringUp 0) usedGroupState ((usedGroupState.set X.hl_by_action 0 1).set X.hl_asked 0 1) :=
  gives_run (exec_groupBringUp 0 _) rfl rfl rfl rfl

/-- Refutes O14: its first clause lets GROUP_BRING_UP set X.hl_asked alone, where it also sets X.hl_by_action, which read 0 before. -/
theorem not_linkGroups : ¬ Obligations.LinkGroups := by
  intro h
  obtain ⟨t, hx, -, -, hframe⟩ := (h usedGroupState 0 rfl (by decide)).1 rfl (.inl rfl) rfl
  obtain rfl := Host.Outcome.next.inj (hx.symm.trans gives_groupBringUp_usedGroup)
  have hkept := hframe X.hl_by_action 0 rfl (by decide)
  have hset : (settled usedGroupState ((usedGroupState.set X.hl_by_action 0 1).set X.hl_asked 0 1)).get X.hl_by_action 0 = 1 := by
    rw [settled_get _ _ _ _ (by decide), State.get_set_ne _ _ _ _ _ _ (by decide), State.get_set_same]
    rfl
  exact absurd (hset.symm.trans hkept) (by decide)

/-- What a write of HL_CTRL stores, in the order of its fields. -/
theorem writeReg_hlCtrl (v : Nat) (s : State) : writeReg HL_CTRL 0 (fun _ => true) v s =
    setAll [(HL_CTRL.attempts, 0, v / 128), (HL_CTRL.auto_retrain, 0, v / 64), (HL_CTRL.ka_period, 0, max 5 (min 20 (v / 2 % 32))),
      (HL_CTRL.enable, 0, v)] s := by
  have hclamp : HL_CTRL.ka_period.rule.stored (HL_CTRL.ka_period.of v) = max 5 (min 20 (v / 2 % 32)) := by
    show (if v / 2 % 32 < 5 then 5 else if 20 < v / 2 % 32 then 20 else v / 2 % 32) = _
    split <;> [skip; split] <;> omega
  have hwrite : writeReg HL_CTRL 0 (fun _ => true) v s = setAll [(HL_CTRL.attempts, 0, v / 2 ^ 7 % 2 ^ HL_CTRL.attempts.width),
      (HL_CTRL.auto_retrain, 0, v / 2 ^ 6 % 2 ^ HL_CTRL.auto_retrain.width),
      (HL_CTRL.ka_period, 0, HL_CTRL.ka_period.rule.stored (HL_CTRL.ka_period.of v)),
      (HL_CTRL.enable, 0, v / 2 ^ 0 % 2 ^ HL_CTRL.enable.width)] s := rfl
  simp only [hwrite, hclamp, setAll_cons, State.set_mod, Nat.pow_zero, Nat.div_one]
  rfl

theorem writeReg_hlCtrl_enable (v : Nat) (s : State) : (writeReg HL_CTRL 0 (fun _ => true) v s).get HL_CTRL.enable = v % 2 := by
  rw [writeReg_hlCtrl]
  exact State.get_set_same _ _ _ _

/-- Settles O15: the write stores the four fields, and the old and the new enable bit decide what follows. -/
theorem linkControl : Obligations.LinkControl := by
  intro s v hup
  have hnow := writeReg_hlCtrl_enable v s
  refine ⟨?_, ?_, ?_⟩
  · intro hwas hv
    exact gives_run (exec_hlCtrlWrite v s) rfl rfl hup (if_pos ⟨hwas, hnow.trans hv⟩)
  · intro hwas hv
    have hup' : ¬ (s.get HL_CTRL.enable = 0 ∧ (writeReg HL_CTRL 0 (fun _ => true) v s).get HL_CTRL.enable = 1) := by omega
    exact gives_run (exec_hlCtrlWrite v s) rfl rfl hup ((if_neg hup').trans (if_pos ⟨hwas, hnow.trans hv⟩))
  · intro hsame
    have hrise : ¬ (s.get HL_CTRL.enable = 0 ∧ (writeReg HL_CTRL 0 (fun _ => true) v s).get HL_CTRL.enable = 1) := by omega
    have hfall : ¬ (s.get HL_CTRL.enable = 1 ∧ (writeReg HL_CTRL 0 (fun _ => true) v s).get HL_CTRL.enable = 0) := by omega
    refine (sets_cells (gives_run (exec_hlCtrlWrite v s) rfl rfl hup
      ((if_neg hrise).trans ((if_neg hfall).trans (writeReg_hlCtrl v s)))) rfl).perm ?_
    exact (List.reverse_perm [(HL_CTRL.enable, 0, v), (HL_CTRL.ka_period, 0, max 5 (min 20 (v / 2 % 32))),
      (HL_CTRL.auto_retrain, 0, v / 64), (HL_CTRL.attempts, 0, v / 128)])

/-- The fields that an adapted eye and a fresh lane write. -/
def eyeIds : List Nat :=
  [HL_ULANE_EQ.ctle.id, HL_ULANE_EQ.vga.id, HL_ULANE_EQ.dfe.id, HL_ULANE_EYE.eye_h.id, HL_ULANE_EYE.eye_w.id, HL_ULANE_EYE.e_rms.id,
   HL_ULANE_EYE.marginal.id]

def freshIds : List Nat :=
  [X.hl_sidx.id, HL_ULANE_EYE.valid.id, HL_ULANE_STATUS.state.id, HL_ULANE_STATUS.attempts_used.id, X.hl_dok0.id, X.hl_waking.id,
   X.sv_fb_lost.id]

theorem keepsRegs_adaptEq (x : Nat) (s : State) : KeepsRegs eyeIds s (adaptEq x s) :=
  (((KeepsRegs.of_regs rfl).set _ _ _ (by decide)).set _ _ _ (by decide)).set _ _ _ (by decide)

theorem keepsRegs_setEye (x d e t : Nat) (s : State) : KeepsRegs eyeIds s (setEye x d e t s) :=
  ((((keepsRegs_adaptEq x s).set _ _ _ (by decide)).set _ _ _ (by decide)).set _ _ _ (by decide)).set _ _ _ (by decide)

theorem keepsRegs_laneFresh (x : Nat) (s : State) : KeepsRegs freshIds s (laneFresh x s) :=
  (((((((KeepsRegs.refl _ s).set _ _ _ (by decide)).set _ _ _ (by decide)).set _ _ _ (by decide)).set _ _ _ (by decide)).set _ _ _
    (by decide)).set _ _ _ (by decide)).set _ _ _ (by decide)

/-- A lane that comes up with an eye writes the fields of both. -/
theorem keepsRegs_setEye_laneFresh (x d e t : Nat) (s : State) :
    KeepsRegs (freshIds ++ eyeIds) s (setEye x d e t (laneFresh x s)) :=
  ((keepsRegs_laneFresh x s).mono (by decide)).trans ((keepsRegs_setEye x d e t _).mono (by decide))

/-- The eye minimum is the same before and after. -/
theorem KeepsRegs.eyeOk {ids : List Nat} {s t : State} (h : KeepsRegs ids s t) (hh : HL_EYE_MIN.h_min.id ∉ ids) (hw : HL_EYE_MIN.w_min.id ∉ ids)
    (a b : Nat) : eyeOk t a b = eyeOk s a b := by
  unfold Machine.eyeOk
  rw [h _ _ hh, h _ _ hw]

/-- A FE_CAP in CAPX that does not complete the group is kept. -/
theorem feCap_kept {s : State} {x z : Nat} {p : List Byte} (hup : coreUp s = true) (hx : x < 64) (hp : okPayload 1 p = true)
    (hst : grpState s (laneGroup s x) = grpCapx) (hlane : x ∈ s.image.groupLanes (laneGroup s x))
    (hz : z ∈ s.image.groupLanes (laneGroup s x)) (hne : z ≠ x) (hnone : KV.get s.feCap z = none) :
    Effect (.feCap x p) s [(HL_ULANE_STATUS.slot, x, (feCapOf p).slot)]
      (fun s => { s with feCap := KV.put natLt s.feCap x (feCapOf p) }) := by
  refine effect_cells (gives_run (exec_feCap x p s) rfl (by simp [okLane, hx, hp]) hup ?_) rfl rfl
  have hcontains : (s.image.groupLanes (laneGroup s x)).contains x = true := by simpa using hlane
  have hdetect : grpCapx ≠ grpDetect := by decide
  have hopen : ((s.image.groupLanes (laneGroup s x)).all
      (fun y => (KV.get (KV.put natLt s.feCap x (feCapOf p)) y).isSome)) ≠ true := by
    rw [Ne, List.all_eq_true]
    intro hall
    have hsome := hall z hz
    rw [KV.get_put_ne _ _ _ hne.symm, hnone] at hsome
    cases hsome
  simp only [hcontains, hst, hdetect, Bool.not_true, Bool.false_eq_true, if_false, if_true]
  exact if_neg hopen

/-- An accepted SET of a lane that is not the last is noted. -/
theorem ackSet_noted {s : State} {x z : Nat} {p : List Byte} (hup : coreUp s = true) (hx : x < 64) (hp : okPayload 4 p = true)
    (hst : grpState s (laneGroup s x) = grpSettle) (hok : s.on X.hl_lane_ok x = true) (hz : z ∈ s.image.groupLanes (laneGroup s x))
    (hne : z ≠ x) (hzok : s.on X.hl_lane_ok z = true) (hzack : s.get X.hl_acked z = 0) (hcode : ackSetCode p = 0)
    (hcopies : ackSetCopies s (laneGroup s x) p = true) : Sets (.ackSet x p) s [(X.hl_acked, x, 1)] := by
  refine sets_cells (gives_run (exec_ackSet x p s) rfl (by simp [okLane, hx, hp]) hup ?_) rfl
  have hleft : z ∈ (s.image.groupLanes (laneGroup s x)).filter (fun y => (s.set X.hl_acked x 1).on X.hl_lane_ok y) := by
    refine List.mem_filter.2 ⟨hz, ?_⟩
    rw [on_eq (State.get_set_ne s X.hl_acked X.hl_lane_ok x z 1 (by decide))]
    exact hzok
  have hnonempty : ((s.image.groupLanes (laneGroup s x)).filter (fun y => (s.set X.hl_acked x 1).on X.hl_lane_ok y)).isEmpty = false :=
    List.isEmpty_eq_false_iff.2 (List.ne_nil_of_mem hleft)
  have hwaits : ((s.image.groupLanes (laneGroup s x)).filter (fun y => (s.set X.hl_acked x 1).on X.hl_lane_ok y)).all
      (fun y => (s.set X.hl_acked x 1).on X.hl_acked y) = false := by
    refine List.all_eq_false.2 ⟨z, hleft, ?_⟩
    rw [on_eq (State.get_set_inst s X.hl_acked X.hl_acked x z 1 hne.symm), Bool.not_eq_true, State.on_eq_false_iff]
    exact hzack
  have hgo : grpState s (laneGroup s x) = grpSettle ∧ s.on X.hl_lane_ok x = true ∧ ackSetCopies s (laneGroup s x) p = true :=
    ⟨hst, hok, hcopies⟩
  refine (if_pos hgo).trans ?_
  simp only [hcode, if_true]
  exact (if_neg (ne_true_of_eq_false hnonempty)).trans (if_neg (ne_true_of_eq_false hwaits))

/-- A lane that trained for the first time becomes ACTIVE. -/
theorem gives_laneActive {s : State} {x d e t : Nat} (hup : coreUp s = true) (hx : x < 64) (hst : laneState s x = laneTrain)
    (heye : eyeOk s (eyeHeight d e) (eyeWidth t) = true) (hsusp : s.on HL_HEAD_CFG.suspended (s.image.headOf x) = false)
    (hwas : s.on X.hl_was_up x = false) (hredo : s.on X.hl_redo x = false) (hgrp : grpState s (laneGroup s x) ≠ grpTrain) :
    Gives (.laneActive x d e t) s (((setEye x d e t (laneFresh x s)).clear X.hl_fw_retrain x).set X.hl_was_up x 1) := by
  refine gives_run (exec_laneActive x d e t s) rfl (decide_eq_true hx) hup ?_
  have hkeep := keepsRegs_setEye_laneFresh x d e t s
  have hend : KeepsRegs (X.hl_fw_retrain.id :: X.hl_was_up.id :: (freshIds ++ eyeIds)) s
      (((setEye x d e t (laneFresh x s)).clear X.hl_fw_retrain x).set X.hl_was_up x 1) :=
    ((hkeep.mono (by decide)).set _ _ _ (by decide)).set _ _ _ (by decide)
  have hsusp' := (hkeep.on (s.image.headOf x) (f := HL_HEAD_CFG.suspended) (by decide)).trans hsusp
  have hwas' := (hkeep.on x (f := X.hl_was_up) (by decide)).trans hwas
  have hredo' := (hend.on x (f := X.hl_redo) (by decide)).trans hredo
  have hgrp' : grpState (((setEye x d e t (laneFresh x s)).clear X.hl_fw_retrain x).set X.hl_was_up x 1) (laneGroup s x) ≠ grpTrain := by
    unfold grpState
    rw [hend _ _ (by decide)]
    exact hgrp
  have hne : laneTrain ≠ laneRecover := by decide
  simp only [hst, heye, hsusp', hwas', beq_self_eq_true, Bool.true_and, if_true, beq_eq_false_iff_ne.2 hne,
    Bool.or_false, Bool.false_eq_true, if_false, hredo', hne, hgrp', false_and]

/-- A lane whose wake ends with a good eye is ACTIVE again. -/
theorem gives_wakeAdaptDone {s : State} {x d e v : Nat} (hup : coreUp s = true) (hx : x < 64) (hst : laneState s x = laneSleep)
    (hwaking : s.on X.hl_waking x = true) (heye : eyeOk s (eyeHeight d e) (eyeWidth v) = true) (hredo : s.get X.hl_redo x = 0)
    (h3 : s.get HL_HEAD_CFG.susp_cause (s.image.headOf x) ≠ 3) (h4 : s.get HL_HEAD_CFG.susp_cause (s.image.headOf x) ≠ 4) :
    Gives (.wakeAdaptDone x d e v) s (setEye x d e v (laneFresh x s)) := by
  refine gives_run (exec_wakeAdaptDone x d e v s) rfl (decide_eq_true hx) hup ?_
  have hkeep := keepsRegs_setEye_laneFresh x d e v s
  refine (if_pos ⟨hst, hwaking⟩).trans ((if_pos ⟨heye, hredo⟩).trans (if_neg ?_))
  rw [hkeep HL_HEAD_CFG.susp_cause _ (by decide)]
  exact not_or.2 ⟨h3, h4⟩

/-- An eye that meets the minimum is shown and raises nothing. -/
theorem gives_eyeRefresh {s : State} {x d e v : Nat} (hup : coreUp s = true) (hx : x < 64) (hst : laneState s x = laneActive)
    (heye : eyeOk s (eyeHeight d e) (eyeWidth v) = true) :
    Gives (.eyeRefresh x d e v) s ((setEye x d e v s).set HL_ULANE_EYE.valid x 1) := by
  refine gives_run (exec_eyeRefresh x d e v s) rfl (decide_eq_true hx) hup ((if_pos hst).trans (if_pos ?_))
  have hkeep : KeepsRegs (HL_ULANE_EYE.valid.id :: eyeIds) s ((setEye x d e v s).set HL_ULANE_EYE.valid x 1) :=
    ((keepsRegs_setEye x d e v s).mono (by decide)).set _ _ _ (by decide)
  rw [hkeep.eyeOk (by decide) (by decide)]
  exact heye

/-- Settles O16: the bring-up messages and the ends of training are decided by the states of the lane and of its group. -/
theorem linkLanes : Obligations.LinkLanes := by
  intro s x hup hx y
  have hwf : okLane x = true := decide_eq_true hx
  refine ⟨?_, ?_, ?_, ?_, ?_, ?_, ?_, ?_, ?_, ?_, ?_⟩
  · rintro p hp hst hlane ⟨z, hz, hne, hnone⟩
    exact feCap_kept hup hx hp hst hlane hz hne hnone
  · rintro hst hok ⟨z, hz, hne, hzok, hzack⟩ p hp hcode hcopies
    exact ackSet_noted hup hx hp hst hok hz hne hzok hzack hcode hcopies
  · intro d e t hst heye hsusp hwas hredo hgrp
    exact gives_laneActive hup hx hst heye hsusp hwas hredo hgrp
  · intro hst
    exact gives_run (exec_lockLoss x s) rfl hwf hup (if_pos hst)
  · intro hst hused
    exact gives_run (exec_retrainAttemptTimeout x s) rfl hwf hup ((if_pos hst).trans (if_neg (Nat.not_lt.2 hused)))
  · intro hgrp hst
    refine gives_run (exec_laneRetrain x s) rfl hwf hup ((if_pos ⟨hgrp, .inr hst⟩).trans ?_)
    have hlost : laneState s x ≠ laneActive := by
      rw [hst]
      decide
    simp only [hlost, if_false]
  · exact gives_run (exec_laneSleep x s) rfl hwf hup rfl
  · exact gives_run (exec_laneWake x s) rfl hwf hup rfl
  · exact sets_cells (gives_run (exec_clearLaneErr x s) rfl hwf hup rfl) rfl
  · intro d e v hst hwaking heye hredo h3 h4
    exact gives_wakeAdaptDone hup hx hst hwaking heye hredo h3 h4
  · intro d e v hst heye
    exact gives_eyeRefresh hup hx hst heye

/-- Settles O17: a loss, a re-bring-up and an unanswered message are each decided by the counts of their attempts. -/
theorem linkDownstream : Obligations.LinkDownstream := by
  intro s g hup hg
  have hwf : okGroup g = true := decide_eq_true hg
  refine ⟨?_, ?_, ?_, ?_, ?_, ?_, ?_, ?_, ?_⟩
  · intro c hc
    exact gives_run (exec_downstreamLaneLoss g c s) rfl hwf hup (if_pos hc)
  · exact gives_run (exec_transmitterPllUnlock g s) rfl hwf hup rfl
  · intro hlost hauto hleft
    exact gives_run (exec_downstreamRebringUp g s) rfl hwf hup ((if_pos hlost).trans (if_pos (by simp [hauto, hleft])))
  · intro hlost hauto
    exact gives_run (exec_downstreamRebringUp g s) rfl hwf hup ((if_pos hlost).trans (if_neg (by simp [hauto])))
  · intro k m hm
    constructor
    · intro htries
      exact gives_run (exec_ctAnswerTimeout g k s) rfl hwf hup (by simp only [hm]; exact if_pos htries)
    · intro htries hfw
      refine gives_run (exec_ctAnswerTimeout g k s) rfl hwf hup ?_
      simp only [hm, hfw, Nat.not_lt.2 htries, Bool.not_true, Bool.and_false, Bool.false_eq_true, if_false]
  · intro k hnone
    exact sets_nothing (gives_run (exec_ctAnswerTimeout g k s) rfl hwf hup (by simp only [hnone]))
  · intro hi hfull
    exact sets_cells (gives_run (exec_ctMessageQueue g hi s) rfl hwf hup (if_pos hfull)) rfl
  · intro hi hroom
    exact gives_run (exec_ctMessageQueue g hi s) rfl hwf hup (if_neg (Nat.not_le.2 hroom))
  · exact gives_run (exec_ctReceiveDequeue g s) rfl hwf hup rfl

/-- An answer to no message leaves the messages as they are. -/
theorem ctTake_of_none {y slot op : Nat} {s : State} (h : (ctTake y slot op s).1 = none) : ctTake y slot op s = (none, s) := by
  unfold ctTake at h ⊢
  dsimp only at h ⊢
  split
  next => rfl
  next m hm => simp [hm] at h

theorem ackMsg_of_none {x slot op r : Nat} {s : State} (h : (ctTake (laneGroup s x) slot op s).1 = none) : ackMsg x slot op r s = s := by
  unfold ackMsg
  simp only [ctTake_of_none h]

theorem ackMsg_of_some {x slot op r : Nat} {s : State} {m : CtMsg} (h : (ctTake (laneGroup s x) slot op s).1 = some m) :
    ackMsg x slot op r s = ackEffect x m r (if m.fw then
      ctReceive (laneGroup s x) (0x11 + slot * 2 ^ 8 + op * 2 ^ 16 + r * 2 ^ 24) 0 (ctTake (laneGroup s x) slot op s).2
      else (ctTake (laneGroup s x) slot op s).2) := by
  have hpair : ctTake (laneGroup s x) slot op s = (some m, (ctTake (laneGroup s x) slot op s).2) := Prod.ext h rfl
  unfold ackMsg
  dsimp only
  rw [hpair]

/-- A slot below 16 names one head of the lane's actuator. -/
theorem slotHeads_of_lt {s : State} {x slot : Nat} (h : slot < 16) : slotHeads s x slot = [16 * (x / 16) + slot] := by
  unfold slotHeads
  rw [if_neg (by omega), if_pos h]

theorem statusMsg_quiet {s : State} {x slot c : Nat} (h : slot < 16) : statusMsg x slot 0 c s = setAll
    [(HL_GROUP_STATUS.fe_safe, laneGroup s x, 0), (X.fe_flags, 16 * (x / 16) + slot, 0), (X.fe_cause, 16 * (x / 16) + slot, c),
     (X.fe_window, 16 * (x / 16) + slot, 0)] s := by
  unfold statusMsg
  simp only [slotHeads_of_lt h, Nat.zero_testBit, Bool.false_and, Bool.false_eq_true, if_false]
  rfl

/-- Settles O18: an answer rests on the message it takes, and a frame on its check, its type and its number. -/
theorem linkMessages : Obligations.LinkMessages := by
  intro s x hup hx y
  have hwf : okLane x = true := decide_eq_true hx
  refine ⟨?_, ?_, ?_, ?_, ?_, ?_, ?_, ?_, ?_, ?_⟩
  · intro slot op r hnone
    exact sets_nothing (gives_run (exec_ack x slot op r s) rfl hwf hup (ackMsg_of_none hnone))
  · intro slot op r m hm hfw
    exact gives_run (exec_ack x slot op r s) rfl hwf hup ((ackMsg_of_some hm).trans (by rw [hfw]; rfl))
  · intro slot op r m hm hfw
    exact gives_run (exec_ack x slot op r s) rfl hwf hup ((ackMsg_of_some hm).trans (by rw [hfw]; rfl))
  · intro slot pre post hnone
    refine sets_cells (gives_run (exec_txeqAck x slot pre post s) rfl hwf hup ?_) rfl
    unfold txeqAckMsg
    rw [ctTake_of_none hnone]
    rfl
  · intro slot c hc hslot h
    exact sets_cells (gives_run (exec_status x slot 0 c s) rfl (by simp [hwf, okByte, hc]) hup (statusMsg_quiet hslot)) rfl
  · intro slot ra d
    exact gives_run (exec_regData x slot ra d s) rfl hwf hup rfl
  · intro slot code d hslot h
    refine gives_run (exec_fault x slot code d s) rfl hwf hup ?_
    unfold faultMsg
    simp only [slotHeads_of_lt hslot]
    rfl
  · intro h w b hh hw
    exact sets_cells (gives_run (exec_eyeDs x h w b s) rfl (by simp [hwf, okByte, hh, hw]) hup rfl) rfl
  · intro a ha hoff
    exact sets_cells (gives_run (exec_hlrefStop a s) rfl (decide_eq_true ha) hup (if_pos hoff)) rfl
  · intro l hl hst p
    have hlistens : laneListens s x = true := by
      unfold laneListens
      simp [hst]
    have hlocked : ¬ (p.2.get X.hl_lock_n x < 4 ∧ laneState s x ≠ laneActive) := fun h => h.2 hst
    have hrun : ∀ u, (if crcGood p.1 && frameTypeOk (hdrType p.1) && (p.2.get X.hl_seq_known x == 0 || hdrSeq p.1 == seqDue p.2 x) then
        goodFrame x p.1 p.2 else badFrame x p.1 p.2) = u → Gives (.upstreamFrame x l) s u := fun u hu =>
      gives_run (exec_upstreamFrame x l s) rfl (by simp [hwf, hl]) hup ((if_pos hlistens).trans ((if_neg hlocked).trans hu))
    constructor
    · intro hcrc htype hseq
      exact hrun _ (if_pos (by simpa [hcrc, htype] using hseq))
    · intro hbad
      refine hrun _ (if_neg ?_)
      rcases hbad with h | h | ⟨hknown, hdue⟩
      · simp [h]
      · simp [h]
      · simp [hknown, hdue]

end Sys2Proof.Machine
end

section
/-! The flumes: requests, the arbiter and handovers (O19, O20). -/

namespace Sys2Proof.Machine

/-- The operands of a thread's command are well formed. -/
theorem okThreads {q t : Nat} (hq : q < 4) (ht : t < 4) : (okSeq q && okThread t) = true := by
  simp [okSeq, okThread, hq, ht]

/-- A request for a slot that has none is asked for. -/
theorem gives_flumeRequest {s : State} {q t : Nat} {r : FlumeReq} {v : State} (hup : coreUp s = true) (hq : q < 4) (ht : t < 4)
    (hfree : (slotsBusy s q t).contains (r.head % 16) = false) (hv : flumeAsk q t r s = v) : Gives (.flumeRequest q t r) s v :=
  gives_run (exec_flumeRequest q t r s) rfl (okThreads hq ht) hup ((if_neg (by simp only [hfree, Bool.and_false, Bool.false_eq_true,
    not_false_eq_true])).trans hv)

/-- What a request with no flume kept for its head leads to. -/
theorem flumeAsk_of_none {s : State} {q t : Nat} {r : FlumeReq} (hr : r.handover = false)
    (hk : flumeKept (s.clearBitOf X.sq_fref (thrNo q t) (r.head % 16)) q t r.head = none) :
    flumeAsk q t r s =
      let u := s.clearBitOf X.sq_fref (thrNo q t) (r.head % 16)
      if refusalCode u r none true = 0 then { u with flumeReqs := u.flumeReqs ++ [⟨q, t, r, u.dtime, none⟩] }
      else flumeRefuse (refusalCode u r none true) q t r none u := by
  unfold flumeAsk
  simp only [hr, hk, Bool.false_eq_true, if_false]

/-- What a request with a flume kept for its head leads to. -/
theorem flumeAsk_of_some {s : State} {q t f : Nat} {r : FlumeReq} (hr : r.handover = false)
    (hk : flumeKept (s.clearBitOf X.sq_fref (thrNo q t) (r.head % 16)) q t r.head = some f) :
    flumeAsk q t r s =
      let u := s.clearBitOf X.sq_fref (thrNo q t) (r.head % 16)
      if refusalCode u r (some f) true = 0 then flumeAttach f ⟨q, t, r, 0, 0⟩ u
      else flumeRefuse (refusalCode u r (some f) true) q t r (some f) u := by
  unfold flumeAsk
  simp only [hr, hk, Bool.false_eq_true, if_false]

/-- Settles O19: whether the thread keeps a flume for the head decides which refusals are asked for, and those decide the answer. -/
theorem flumeRequests : Obligations.FlumeRequests := by
  intro s q t r hup hq ht hr u
  refine ⟨?_, ?_, ?_⟩
  · intro hbusy
    refine sets_nothing (gives_run (exec_flumeRequest q t r s) rfl (okThreads hq ht) hup (if_pos ?_))
    rw [hr, hbusy]
    rfl
  · intro hfree hk
    constructor
    · intro hok
      exact effect_cells (gives_flumeRequest hup hq ht hfree ((flumeAsk_of_none hr hk).trans (if_pos hok))) rfl rfl
    · intro hbad
      exact gives_flumeRequest hup hq ht hfree ((flumeAsk_of_none hr hk).trans (if_neg hbad))
  · intro hfree f hk
    constructor
    · intro hok
      exact gives_flumeRequest hup hq ht hfree ((flumeAsk_of_some hr hk).trans (if_pos hok))
    · intro hbad
      exact gives_flumeRequest hup hq ht hfree ((flumeAsk_of_some hr hk).trans (if_neg hbad))

/-- What a handover of the flume that the thread holds leads to: the code is that of R106, or 7 for a gap below the least. -/
theorem gives_handover {s : State} {q t gap f : Nat} {r : FlumeReq} {v : State} (hup : coreUp s = true) (hq : q < 4) (ht : t < 4)
    (hheld : heldFlume s q t = some f)
    (hv : (let u := { s with flumeReqs := s.flumeReqs.filter (fun w => !(w.seq == q && w.thr == t && w.req.handover)) }
      let c := refusalCode u r (some f) true
      let c := if c = 0 ∧ gap < s.get DP_CTRL.min_gap then 7 else c
      if c = 0 then flumeShow f (setFlume f { flumeOf u f with incoming := some ⟨q, t, r, 0, 0⟩ } u)
      else flumeRefuse c q t r (some f) u) = v) : Gives (.handover q t r gap) s v :=
  gives_run (exec_handover q t r gap s) rfl (okThreads hq ht) hup (by simp only [hheld]; exact hv)

/-- Settles O20: the arbiter takes the first request in its order that can be served, and a handover the first reason against it. -/
theorem flumeGrants : Obligations.FlumeGrants := by
  intro s hup
  refine ⟨?_, ?_, ?_, ?_, ?_⟩
  · intro hoff
    exact sets_nothing (gives_run (exec_flumeGrant s) rfl rfl hup (if_pos hoff))
  · intro u hon hfirst
    exact gives_run (exec_flumeGrant s) rfl rfl hup (by simp only [hon, hfirst, if_false])
  · intro q t r gap f hq ht hheld u
    refine ⟨?_, ?_, ?_⟩
    · intro hok hgap
      refine gives_handover hup hq ht hheld ?_
      simp only [u] at hok
      simp only [hok, Nat.not_lt.2 hgap, and_false, if_false, if_true]
      rfl
    · intro hok hgap
      refine gives_handover hup hq ht hheld ?_
      simp only [u] at hok
      simp only [hok, hgap, and_self, if_true]
      rfl
    · intro hbad
      refine gives_handover hup hq ht hheld ?_
      simp only [u] at hbad
      simp only [hbad, false_and, if_false]
      rfl
  · intro f j gap hf hcur
    constructor
    · intro hlast
      exact gives_run (exec_handoverSwitch f gap s) rfl (decide_eq_true hf) hup (by simp only [hcur, hlast, if_true])
    · intro hmore
      exact sets_nothing (gives_run (exec_handoverSwitch f gap s) rfl (decide_eq_true hf) hup
        (by simp only [hcur, Nat.not_le.2 hmore, if_false]))
  · intro f j gap hf hcur hinc hgap
    exact gives_run (exec_handoverSwitch f gap s) rfl (decide_eq_true hf) hup (by simp only [hcur, hinc, hgap, if_true])

end Sys2Proof.Machine
end

section
/-! The sectors of a flume and its other commands (O21, O22). -/

namespace Sys2Proof.Machine

/-- The search for the sync mark of a sector that is due. -/
theorem gives_syncSearchEnd {s : State} {f : Nat} {j : FlumeJob} {v : State} (hup : coreUp s = true) (hf : f < 32)
    (hcur : (flumeOf s f).cur = some j) (hsync : (flumeOf s f).sync = none) (hread : j.req.purpose ≠ 1) (hdue : j.next < j.req.count)
    (hv : (match bestMark (syncMarks s j) with
      | some b => setFlume f { flumeOf s f with sync := some (syncTaken s j (syncMarks s j) b) } s
      | none => if s.on DP_SYNC.bridge then
          setFlume f { flumeOf s f with sync := some { noSync with pos := (syncPredicted s j).toNat, bridged := true } } s
        else syncMissed f j s) = v) : Gives (.syncSearchEnd f) s v := by
  refine gives_run (exec_syncSearchEnd f s) rfl (decide_eq_true hf) hup ?_
  have hgo : ¬ (j.req.purpose = 1 ∨ j.req.count ≤ j.next) := not_or.2 ⟨hread, Nat.not_le.2 hdue⟩
  simp only [hcur] at hv
  simp only [hcur, hsync, hgo, if_false]
  exact hv

/-- No search runs where no sector waits for its mark. -/
theorem gives_syncSearchEnd_idle {s : State} {f : Nat} (hup : coreUp s = true) (hf : f < 32)
    (h : (flumeOf s f).cur = none ∨ (flumeOf s f).sync ≠ none
      ∨ ∃ j, (flumeOf s f).cur = some j ∧ (j.req.purpose = 1 ∨ j.req.count ≤ j.next)) : Gives (.syncSearchEnd f) s s := by
  refine gives_run (exec_syncSearchEnd f s) rfl (decide_eq_true hf) hup ?_
  dsimp only
  split
  next j hcur hsync =>
    rcases h with h | h | ⟨k, hk, hidle⟩
    · exact absurd (hcur.symm.trans h) nofun
    · exact absurd hsync h
    · obtain rfl : j = k := Option.some.inj (hcur.symm.trans hk)
      exact if_pos hidle
  next => rfl

/-- The end of the sector whose mark is known. -/
theorem gives_sectorEnd {s : State} {f : Nat} {j : FlumeJob} {y : SyncInfo} (hup : coreUp s = true) (hf : f < 32)
    (hcur : (flumeOf s f).cur = some j) (hsync : (flumeOf s f).sync = some y) :
    Gives (.sectorEnd f) s (sectorDecode f j (syncFinal s j y) (sectorMse s j y)
      (accumulate f j.req.acc (sectorSoft s j y) (sectorAdapt j y s (sectorTake f j s))).1
      (accumulate f j.req.acc (sectorSoft s j y) (sectorAdapt j y s (sectorTake f j s))).2) :=
  gives_run (exec_sectorEnd f s) rfl (decide_eq_true hf) hup (by simp only [hcur, hsync])

theorem gives_sectorEnd_idle {s : State} {f : Nat} (hup : coreUp s = true) (hf : f < 32)
    (h : (flumeOf s f).cur = none ∨ (flumeOf s f).sync = none) : Gives (.sectorEnd f) s s := by
  refine gives_run (exec_sectorEnd f s) rfl (decide_eq_true hf) hup ?_
  dsimp only
  split
  next j y hcur hsync =>
    rcases h with h | h
    · exact absurd (hcur.symm.trans h) nofun
    · exact absurd (hsync.symm.trans h) nofun
  next => rfl

/-- A sector whose settings are not adapted leaves its record as it is. -/
theorem sectorAdapt_of_not_adapts {s₀ s : State} {j : FlumeJob} {y : SyncInfo} (h : adapts s₀ j (syncFinal s₀ j y) = false) :
    sectorAdapt j y s₀ s = s := by
  have hchain : (sectorChain s₀ j y).adapt = false := by
    unfold sectorChain
    rw [h]
    rfl
  unfold sectorAdapt
  simp only [hchain, Bool.false_and, Bool.false_eq_true, if_false]

theorem accumulate_none (f : Nat) (soft : List Int) (s : State) : accumulate f 0 soft s = (soft, s) := by
  unfold accumulate
  exact if_pos rfl

/-- A code word that the decoder has room for goes to it. -/
theorem sectorDecode_of_room {f : Nat} {j : FlumeJob} {y : SyncInfo} {mse : Nat} {soft : List Int} {s : State}
    (h : (flumeOf s f).dec.length < 2) : sectorDecode f j y mse soft s =
      sectorDone f j (setFlume f { flumeOf s f with
        cur := some { j with next := j.next + 1 }, sync := none,
        dec := (flumeOf s f).dec ++ [⟨j, j.next, y, mse, headTrack s j.req.head, soft, true⟩] } s) := by
  unfold sectorDecode
  simp only [Nat.not_le.2 h, decide_false, Bool.false_eq_true, if_false]

/-- The decoder's oldest word leaves it. -/
theorem gives_decodeDone {s : State} {f : Nat} {x : DecWord} {rest : List DecWord} {v : State} (hup : coreUp s = true) (hf : f < 32)
    (hdec : (flumeOf s f).dec = x :: rest)
    (hv : (let r := x.job.req
      let out := decodeWord x.soft (if r.iter = 1 then s.get DP_ITER.recovery_max else s.get DP_ITER.inline_max)
      let st := decodeStatus out (s.image.surf r.head) (sectorAt s r x.idx) x.track
      let u := flumeRest f (flumeShow f (setFlume f { flumeOf s f with dec := rest } s))
      if x.live then
        let u := if r.purpose = 0 then u.cisternPut (r.dest + 4096 * x.idx) (decodedUser out) else u
        let u := if r.purpose = 0 ∧ st = 0 then takeSector x.job (sectorAt u r x.idx) x.track (decodedUser out) u else u
        postSector x.job x.idx st out.iterations x.sync x.mse out.unsat u
      else u) = v) : Gives (.decodeDone f) s v :=
  gives_run (exec_decodeDone f s) rfl (decide_eq_true hf) hup (by simp only [hdec]; exact hv)

/-- Settles O21: the front half's sector and its mark, and the decoder's queue, decide what each of its ends does. -/
theorem flumeSectors : Obligations.FlumeSectors := by
  intro s f hup hf
  refine ⟨?_, ?_, ?_, ?_, ?_, ?_⟩
  · intro j hcur hsync hread hdue
    refine ⟨?_, ?_, ?_⟩
    · intro b hb
      exact effect_rest (g := setFlume f _) (gives_syncSearchEnd hup hf hcur hsync hread hdue (by rw [hb])) rfl
    · intro hb hbridge
      exact effect_rest (g := setFlume f _) (gives_syncSearchEnd hup hf hcur hsync hread hdue (by rw [hb]; exact if_pos hbridge)) rfl
    · intro hb hbridge
      exact gives_syncSearchEnd hup hf hcur hsync hread hdue (by rw [hb]; exact if_neg (by simp [hbridge]))
  · intro h
    exact sets_nothing (gives_syncSearchEnd_idle hup hf h)
  · intro j y hcur hsync
    have hend := gives_sectorEnd hup hf hcur hsync
    refine ⟨⟨_, rfl, hend⟩, ?_⟩
    intro hacc hadapts hroom u
    rw [hacc, accumulate_none, sectorAdapt_of_not_adapts hadapts] at hend
    exact (sectorDecode_of_room (s := sectorTake f j s) hroom) ▸ hend
  · intro h
    exact sets_nothing (gives_sectorEnd_idle hup hf h)
  · intro x rest hdec r out st u
    refine ⟨?_, ?_, ?_⟩
    · intro hlive
      exact gives_decodeDone hup hf hdec (if_neg (by simp [hlive]))
    · intro hlive hpurpose
      refine gives_decodeDone hup hf hdec ((if_pos hlive).trans ?_)
      simp only [r] at hpurpose
      simp only [hpurpose, false_and, if_false]
      rfl
    · intro hlive hpurpose v w
      refine gives_decodeDone hup hf hdec ((if_pos hlive).trans ?_)
      simp only [r] at hpurpose
      simp only [hpurpose, true_and, if_true]
      rfl
  · intro hdec
    exact sets_nothing (gives_run (exec_decodeDone f s) rfl (decide_eq_true hf) hup (by simp only [hdec]))

/-- A detach with nothing coming in ends the front half's sector. -/
theorem detachNow_ends {u : State} {f : Nat} (h : (flumeOf u f).incoming = none) :
    (match (flumeOf u f).cur, (flumeOf u f).incoming with
      | some j, some _ => flumeOrphan f (flumeRefuse 10 j.seq j.thr j.req (some f) (sectorCut (flumeOf u f) j 6 u))
      | _, _ => flumeEndNow f 6 10 u) = flumeEndNow f 6 10 u := by
  rw [h]
  split
  next heq => cases heq
  next => rfl

/-- Settles O22: the state of the flume and its front half decide each of these commands. -/
theorem flumeControl : Obligations.FlumeControl := by
  intro s f hup hf
  have hwf : okFlume f = true := decide_eq_true hf
  refine ⟨?_, ?_, ?_, ?_, ?_, ?_, ?_, ?_⟩
  · intro hst
    exact gives_run (exec_idleRelease f s) rfl hwf hup (if_pos hst)
  · intro hst
    exact sets_nothing (gives_run (exec_idleRelease f s) rfl hwf hup (if_neg hst))
  · exact gives_run (exec_flumeFault f s) rfl hwf hup rfl
  · intro hst
    refine sets_nothing (gives_run (exec_flumeFault f s) rfl hwf hup ?_)
    unfold flumeFail
    exact if_pos hst
  · intro j hcur hread hinc
    refine gives_run (exec_detachNow f s) rfl hwf hup ?_
    simp only [hcur, hread, if_false, hinc]
  · intro j hcur hwrite u hinc
    refine gives_run (exec_detachNow f s) rfl hwf hup ?_
    simp only [hcur, hwrite, if_true]
    exact detachNow_ends hinc
  · intro j i hcur hread hinc
    refine gives_run (exec_detachNow f s) rfl hwf hup ?_
    simp only [hcur, hread, if_false, hinc]
  · exact effect_rest (g := dropSums f) (gives_run (exec_clearAccumulator f s) rfl hwf hup rfl) rfl

end Sys2Proof.Machine
end

section
/-! Calibration records (O23). -/

namespace Sys2Proof.Machine

/-- Copying a field into another, cell by cell, is to write the cells. -/
theorem each_copy_eq_setAll {f g : Fld} (h : f.id ≠ g.id) (src : Nat → Nat) (l : List Nat) (s : State) :
    s.each l (fun w t => t.set f w (t.get g (src w))) = setAll (l.map (fun w => (f, w, s.get g (src w)))) s := by
  unfold State.each
  induction l generalizing s with
  | nil => rfl
  | cons a r ih =>
    rw [List.foldl_cons, ih, List.map_cons, setAll_cons]
    simp only [State.get_set_ne _ _ _ _ _ _ h]

theorem setAll_append (l l' : List CellVal) (s : State) : setAll (l ++ l') s = setAll l' (setAll l s) := List.foldl_append

/-- A core's whole write of a record word is stored by `calStore` once the access is answered. -/
theorem gives_calRecordWrite {s : State} {core a i v : Nat} (hup : coreUp s = true) (hcore : core < 8)
    (hloc : locateAddr a = some (DP_CAL, i, 0)) (halign : a % 8 = 0) :
    Gives (.calRecordWrite core a 64 v) s (calStore core DP_CAL i (fun _ => true) v (respond core false 0 s)) := by
  refine gives_run (exec_calRecordWrite core a 64 v s) rfl (decide_eq_true (by omega)) hup ?_
  have hfits : ¬ (64 ≠ 32 ∧ 64 ≠ 64 ∨ a % (64 / 8) ≠ 0 ∨ (64 = 64 ∧ secCore ≤ core)) := by
    unfold secCore
    omega
  have hwhole : DP_CAL.width = 64 ∧ 0 = 0 := ⟨rfl, rfl⟩
  have hcal : ¬ DP_CAL.addr ≠ DP_CAL.addr := fun h => h rfl
  unfold busAccess
  rw [if_neg hfits]
  simp only [hloc, hcal, hwhole, and_self, if_false, if_true]

/-- A record word that is not held is in force at once, and the head is stale. -/
theorem calStore_of_free {s : State} {core i v : Nat} (h : calHeld s (i / 16) = false) :
    calStore core DP_CAL i (fun _ => true) v s = setAll
      [(DP_CAL.word, i, calWordKept i v), (DP_HEAD_STATE.stale, i / 16 / 96, 1), (DP_HEAD_STATE.stale_cause, i / 16 / 96, 1)] s := by
  have hstore : busStore true core DP_CAL i (fun _ => true) (calWordKept i v) s = s.set DP_CAL.word i (DP_CAL.word.of (calWordKept i v)) := rfl
  have hword : s.set DP_CAL.word i (DP_CAL.word.of (calWordKept i v)) = s.set DP_CAL.word i (calWordKept i v) := by
    rw [show DP_CAL.word.of (calWordKept i v) = calWordKept i v / 2 ^ 0 % 2 ^ DP_CAL.word.width from rfl, State.set_mod, Nat.pow_zero,
      Nat.div_one]
  unfold calStore
  rw [if_neg (by simp [h]), hstore, hword]
  rfl

/-- Settles O23: the copy writes the buffer word by word, and a record that a front half uses turns firmware's write away. -/
theorem calibration : Obligations.Calibration := by
  intro s h hup hh
  refine ⟨?_, ?_, ?_, ?_, ?_⟩
  · intro k
    have hne : DP_CAL_BUF.word.id ≠ DP_CAL.word.id := by decide
    refine sets_cells (gives_run (exec_calCopy s) rfl rfl hup ?_) rfl
    rw [setAll_append, ← each_copy_eq_setAll hne]
    rfl
  · intro core a i v hcore hloc halign
    have hgives := gives_calRecordWrite (v := v) hup hcore hloc halign
    constructor
    · intro hheld
      have hbusy : calStore core DP_CAL i (fun _ => true) v (respond core false 0 s) =
          (respond core false 0 s).raise DP_INT.cal_busy := if_pos hheld
      rw [hbusy] at hgives
      exact effect_cells (g := respond core false 0) hgives rfl rfl
    · intro hfree
      have hanswered : calHeld (respond core false 0 s) (i / 16) = false := hfree
      rw [calStore_of_free hanswered] at hgives
      exact effect_cells (g := respond core false 0) hgives rfl rfl
  · exact sets_cells (gives_run (exec_markStale h s) rfl (decide_eq_true hh) hup rfl) rfl
  · exact gives_run (exec_clearValid h s) rfl (decide_eq_true hh) hup rfl
  · exact gives_run (exec_clearQualityCounters h s) rfl (decide_eq_true hh) hup rfl

end Sys2Proof.Machine
end

section
/-! Write gate, verify results and rewrites (O25). -/

namespace Sys2Proof.Machine

/-- Settles O25: a head's write run, its gate conditions and a rewrite's attempts decide what each of these commands does. -/
theorem writeRuns : Obligations.WriteRuns := by
  intro s h hup hh
  have hwf : okHead h = true := decide_eq_true hh
  refine ⟨?_, ?_, ?_, ?_, ?_, ?_, ?_, ?_, ?_, ?_, ?_⟩
  · intro hnone
    exact ⟨sets_nothing (gives_run (exec_writeGateAssert h s) rfl hwf hup (by simp only [hnone])),
      sets_nothing (gives_run (exec_writeSectorEnd h s) rfl hwf hup (by simp only [hnone])),
      sets_nothing (gives_run (exec_verifyResult h s) rfl hwf hup (by simp only [hnone]))⟩
  · intro r hr hidle hnotEnded hok hset u
    constructor
    · intro htemps
      refine gives_run (exec_writeGateAssert h s) rfl hwf hup ?_
      simp only [hr, hidle, hnotEnded, hok, hset, htemps, Bool.or_self, Bool.and_false, Bool.not_true, Bool.false_eq_true, if_false]
      rfl
    · intro htemps
      refine sets_cells (gives_run (exec_writeGateAssert h s) rfl hwf hup ?_) rfl
      simp only [hr, hidle, hnotEnded, hok, hset, htemps, Bool.or_self, Bool.and_false, Bool.not_true, Bool.not_false,
        Bool.false_eq_true, if_false, if_true]
      rfl
  · intro r hr hbusy
    refine sets_nothing (gives_run (exec_writeGateAssert h s) rfl hwf hup ?_)
    simp only [hr, Bool.or_eq_true, hbusy, if_true]
  · intro hon
    exact gives_run (exec_shockTrip s) rfl rfl hup (if_pos hon)
  · intro hoff
    exact sets_nothing (gives_run (exec_shockTrip s) rfl rfl hup (if_neg (by simp [hoff])))
  · exact sets_cells (gives_run (exec_shockHoldoffEnd s) rfl rfl hup rfl) rfl
  · intro r hr hopened ended t t' gone t''
    refine gives_run (exec_writeSectorEnd h s) rfl hwf hup ?_
    simp only [hr, hopened, if_true]
    rfl
  · intro r m hr hmarks v
    refine gives_run (exec_verifyResult h s) rfl hwf hup ?_
    simp only [hr, hmarks]
    rfl
  · intro k u hu hout hpart
    have hfree : ¬ (u.out || partDispatched s u.zone) = true := by simp [hout, hpart]
    constructor
    · intro htries
      exact gives_run (exec_rewrite k s) rfl rfl hup (by simp only [hu, hfree, htries, Bool.false_eq_true, if_false, if_true])
    · intro htries
      exact gives_run (exec_rewrite k s) rfl rfl hup (by simp only [hu, hfree, Nat.not_le.2 htries, Bool.false_eq_true, if_false])
  · intro k u hu hbusy
    have hheld : (u.out || partDispatched s u.zone) = true := by simpa using hbusy
    exact sets_nothing (gives_run (exec_rewrite k s) rfl rfl hup (by simp only [hu, hheld, if_true]))
  · intro k hnone
    exact sets_nothing (gives_run (exec_rewrite k s) rfl rfl hup (by simp only [hnone]))

end Sys2Proof.Machine
end

section
/-! Servo fields, moves and tools (O26, O27, O28). -/

namespace Sys2Proof.Machine

/-- A field with no mark is bad for that cause. -/
theorem fieldCause_of_not_found {s : State} {h : Nat} {f : ServoField} (hf : samFound s h f = false) : fieldCause s h f = 1 := by
  unfold fieldCause
  exact if_pos (by simp [hf])

/-- A populated head's servo field, as it is demodulated. -/
theorem gives_servoField {s u : State} {h : Nat} {fa fb : ServoField} (hup : coreUp s = true) (hh : h < 64) (ha : fa.code < 2 ^ 44)
    (hb : fb.code < 2 ^ 44) (hpop : s.image.populated h = true)
    (hu : (let f := demodField s h fa fb
      let t := gapSamples h (gapBegin h s)
      let t := if samFound s h f then noteField h (fieldCause s h f) f t else t
      if fieldCause s h f = 0 then goodWedge h f t else badWedge h (fieldCause s h f) t) = u) : Gives (.servoField h fa fb) s u :=
  gives_run (exec_servoField h fa fb s) rfl
    (by rw [okHead, decide_eq_true hh, decide_eq_true ha, decide_eq_true hb]; rfl) hup ((if_pos hpop).trans hu)

/-- Settles O26: a field is judged by its mark and its cause, and an engine's failure by whether it is up. -/
theorem servoWedges : Obligations.ServoWedges := by
  intro s a hup ha
  refine ⟨?_, ?_, ?_, ?_, ?_, ?_, ?_, ?_⟩
  · intro h fa fb hh hfa hfb f u
    refine ⟨?_, ?_, ?_, ?_⟩
    · intro hpop
      exact sets_nothing (gives_run (exec_servoField h fa fb s) rfl
        (by rw [okHead, decide_eq_true hh, decide_eq_true hfa, decide_eq_true hfb]; rfl) hup (if_neg (by simp [hpop])))
    · intro hpop hlost
      refine gives_servoField hup hh hfa hfb hpop ?_
      have hcause : fieldCause s h (demodField s h fa fb) = 1 := fieldCause_of_not_found hlost
      have hmark : samFound s h (demodField s h fa fb) = false := hlost
      simp only [hcause, hmark, Nat.one_ne_zero, Bool.false_eq_true, if_false]
      rfl
    · intro hpop hfound hcause
      refine gives_servoField hup hh hfa hfb hpop ?_
      have hmark : samFound s h (demodField s h fa fb) = true := hfound
      have hbad : fieldCause s h (demodField s h fa fb) ≠ 0 := hcause
      simp only [hmark, hbad, if_true, if_false]
      rfl
    · intro hpop hfound hcause
      refine gives_servoField hup hh hfa hfb hpop ?_
      have hmark : samFound s h (demodField s h fa fb) = true := hfound
      have hgood : fieldCause s h (demodField s h fa fb) = 0 := hcause
      simp only [hmark, hgood, if_true]
      rfl
  · intro o hact hpower
    exact gives_run (exec_servoWedgeEnd a o s) rfl (decide_eq_true ha) hup (if_pos (by simp [hact, hpower]))
  · intro o hoff
    exact sets_nothing (gives_run (exec_servoWedgeEnd a o s) rfl (decide_eq_true ha) hup
      (if_neg (by rcases hoff with h | h <;> simp [h])))
  · intro e he hengine heven
    refine sets_cells (gives_run (exec_servoDeadlineMiss e s) rfl (decide_eq_true he) hup ?_) rfl
    have hcount : (s.raise SV_INT.deadline (e / 2)).get SV_STATUS.deadline_miss (e / 2) = s.get SV_STATUS.deadline_miss (e / 2) :=
      State.get_set_ne _ _ _ _ _ _ (by decide)
    simp only [hengine, heven, if_true, State.inc, hcount]
    rfl
  · intro e he hengine heven
    exact sets_cells (gives_run (exec_engineSelfCheck e s) rfl (decide_eq_true he) hup ((if_pos hengine).trans (if_pos heven))) rfl
  · intro e he hengine hodd
    exact sets_cells (gives_run (exec_engineSelfCheck e s) rfl (decide_eq_true he) hup
      ((if_pos hengine).trans (if_neg (by omega)))) rfl
  · intro e he hdown
    have hnot : ¬ engineUp s e = true := by simp [hdown]
    exact ⟨sets_nothing (gives_run (exec_engineSelfCheck e s) rfl (decide_eq_true he) hup (if_neg hnot)),
      sets_nothing (gives_run (exec_servoDeadlineMiss e s) rfl (decide_eq_true he) hup (if_neg hnot))⟩
  · intro hact hpair
    exact sets_cells (gives_run (exec_legCheckFail a s) rfl (decide_eq_true ha) hup (if_pos ⟨hact, hpair⟩)) rfl

/-- A comb plan that is asked for is delivered, and a split one is counted. -/
theorem gives_combPlan {s : State} {a : Nat} (hup : coreUp s = true) (ha : a < 4) (hreq : s.on X.sv_plan_req a = true) :
    Gives (.combPlan a) s (
      let plan := combPlan s a (s.get X.sv_plan_desc a)
      let t := setAll [(X.sv_plan_req, a, 0), (X.sv_plan_ok, a, 1)] { s with combPlans := kset [] s.combPlans a plan }
      if 1 < plan.length then (t.raise SV_INT.comb_split a).inc SV_STATUS.splits a else t) :=
  gives_run (exec_combPlan a s) rfl (decide_eq_true ha) hup (if_pos hreq)

/-- A split plan sets four cells. -/
theorem inc_splits (a : Nat) (s : State) : ((setAll [(X.sv_plan_req, a, 0), (X.sv_plan_ok, a, 1)] s).raise SV_INT.comb_split a).inc
      SV_STATUS.splits a = setAll [(X.sv_plan_req, a, 0), (X.sv_plan_ok, a, 1), (SV_INT.comb_split, a, 1),
        (SV_STATUS.splits, a, min (s.get SV_STATUS.splits a + 1) (2 ^ SV_STATUS.splits.width - 1))] s := by
  have hcount : (setAll [(X.sv_plan_req, a, 0), (X.sv_plan_ok, a, 1), (SV_INT.comb_split, a, 1)] s).get SV_STATUS.splits a =
      s.get SV_STATUS.splits a := setAll_get_other _ s a rfl
  show State.inc (setAll [(X.sv_plan_req, a, 0), (X.sv_plan_ok, a, 1), (SV_INT.comb_split, a, 1)] s) SV_STATUS.splits a = _
  rw [State.inc, hcount]
  rfl

/-- Settles O27: the servo's state, its bars and the park latch decide each move. -/
theorem servoMoves : Obligations.ServoMoves := by
  intro s a hup ha
  have hwf : okAct a = true := decide_eq_true ha
  refine ⟨?_, ?_, ?_, ?_, ?_, ?_, ?_, ?_, ?_, ?_, ?_⟩
  · intro v hbad
    exact sets_cells (gives_run (exec_seekRequest a v s) rfl hwf hup (if_pos hbad)) rfl
  · intro v hpos hfree htrack
    refine gives_run (exec_seekRequest a v s) rfl hwf hup (if_neg ?_)
    simp only [Nat.not_le.2 hpos, hfree, htrack, or_true, not_true_eq_false, or_false, Bool.false_eq_true, not_false_eq_true]
  · intro hact hst
    refine gives_run (exec_loadAndAcquire a s) rfl hwf hup ((if_pos hact).trans ?_)
    simp only [hst, if_false]
  · intro hact hlatch hst
    have hload : loadArm a s = s := by
      unfold loadArm
      exact if_pos hlatch
    refine sets_nothing (gives_run (exec_loadAndAcquire a s) rfl hwf hup ((if_pos hact).trans ?_))
    simp only [hst, hload, if_true]
  · intro hst
    exact gives_run (exec_acquisitionFail a s) rfl hwf hup (if_pos hst)
  · intro hst
    exact sets_nothing (gives_run (exec_acquisitionFail a s) rfl hwf hup (if_neg hst))
  · exact gives_run (exec_park a s) rfl hwf hup rfl
  · intro hst
    have hparked : parkArm a s = s := by
      unfold parkArm
      exact if_pos (.inr (.inl hst))
    exact sets_nothing (gives_run (exec_park a s) rfl hwf hup hparked)
  · intro hreq hwhole
    have hgives := gives_combPlan hup ha hreq
    simp only [Nat.not_lt.2 hwhole, if_false] at hgives
    exact effect_cells (g := fun s => { s with combPlans := kset [] s.combPlans a (combPlan s a (s.get X.sv_plan_desc a)) }) hgives rfl rfl
  · intro hreq hsplit
    have hgives := gives_combPlan hup ha hreq
    simp only [hsplit, if_true, inc_splits] at hgives
    exact effect_cells (g := fun s => { s with combPlans := kset [] s.combPlans a (combPlan s a (s.get X.sv_plan_desc a)) }) hgives rfl rfl
  · exact sets_cells (gives_run (exec_clearSvCounters a s) rfl hwf hup rfl) rfl

/-- A trace that waits for its trigger stops at once where nothing is to be recorded after it. -/
theorem traceFire_armed {s : State} {a : Nat} (h : s.get SV_TRACE_STATUS.state a = 1) : traceFire a s =
    if s.get SV_TRACE_CTRL.post a = 0 then setAll
      [(SV_TRACE_STATUS.trig_index, a, s.get X.sv_tr_n a * 2 ^ s.get SV_TRACE_CTRL.nodes a), (X.sv_tr_post, a, 0),
       (SV_TRACE_STATUS.state, a, 3), (SV_INT.trace_done, a, 1)] s
    else setAll
      [(SV_TRACE_STATUS.trig_index, a, s.get X.sv_tr_n a * 2 ^ s.get SV_TRACE_CTRL.nodes a), (X.sv_tr_post, a, 0),
       (SV_TRACE_STATUS.state, a, 2)] s := by
  have hpost : ((s.set SV_TRACE_STATUS.trig_index a (s.get X.sv_tr_n a * 2 ^ s.get SV_TRACE_CTRL.nodes a)).clear X.sv_tr_post a).get
      SV_TRACE_CTRL.post a = s.get SV_TRACE_CTRL.post a :=
    (State.get_set_ne _ _ _ _ _ _ (by decide)).trans (State.get_set_ne _ _ _ _ _ _ (by decide))
  unfold traceFire
  simp only [h, if_true, hpost]
  rfl

/-- What starting an injection writes, where the trace does not wait for it. -/
def injectionCells (s : State) (a : Nat) : List CellVal :=
  [(SV_INJ_CORR.sum, 4 * a, 0), (SV_INJ_CORR.sum, 4 * a + 1, 0), (SV_INJ_CORR.sum, 4 * a + 2, 0), (SV_INJ_CORR.sum, 4 * a + 3, 0),
   (X.sv_inj, a, 1), (X.sv_inj_n, a, 0), (X.sv_inj_phase, a, 0), (X.sv_lfsr, a, s.get SV_INJ_FREQ.step a % 2 ^ 31)]

theorem gives_injectionStart {s : State} {a : Nat} (hup : coreUp s = true) (ha : a < 4)
    (hnode : injNodeOk (s.get SV_INJ_CTRL.node a) = true) (htrig : s.get SV_TRACE_CTRL.trigger a ≠ 6) :
    Gives (.injectionStart a) s (setAll (injectionCells s a) s) := by
  refine gives_run (exec_injectionStart a s) rfl (decide_eq_true ha) hup ((if_pos hnode).trans ?_)
  have hstep : KeepsRegs [SV_INJ_CORR.sum.id, X.sv_inj.id, X.sv_inj_n.id, X.sv_inj_phase.id] s
      ((((s.each (List.range 4) (fun i t => t.clear SV_INJ_CORR.sum (4 * a + i))).set X.sv_inj a 1).clear X.sv_inj_n a).clear
        X.sv_inj_phase a) :=
    (((KeepsRegs.each (fun _ t => (KeepsRegs.refl _ t).set _ _ _ (by decide)) _ s).set _ _ _ (by decide)).set _ _ _ (by decide)).set
      _ _ _ (by decide)
  have hlast : ((((s.each (List.range 4) (fun i t => t.clear SV_INJ_CORR.sum (4 * a + i))).set X.sv_inj a 1).clear X.sv_inj_n a).clear
        X.sv_inj_phase a).set X.sv_lfsr a (s.get SV_INJ_FREQ.step a % 2 ^ 31) = setAll (injectionCells s a) s := rfl
  have htrig' : (setAll (injectionCells s a) s).get SV_TRACE_CTRL.trigger a ≠ 6 := by
    rw [← hlast, State.get_set_ne _ _ _ _ _ _ (by decide), hstep _ _ (by decide)]
    exact htrig
  simp only [hstep SV_INJ_FREQ.step a (by decide), hlast]
  exact if_neg htrig'

/-- Settles O28: the state of the trace, of the injection and of the pair decide what each tool does. -/
theorem servoTools : Obligations.ServoTools := by
  intro s a hup ha
  have hwf : okAct a = true := decide_eq_true ha
  refine ⟨?_, ?_, ?_, ?_, ?_, ?_, ?_, ?_, ?_, ?_, ?_, ?_, ?_, ?_⟩
  · have hdecim : KeepsRegs [SV_TRACE_STATUS.state.id, SV_TRACE_STATUS.wrapped.id, SV_TRACE_STATUS.trig_index.id] s
        (((s.set SV_TRACE_STATUS.state a 1).clear SV_TRACE_STATUS.wrapped a).clear SV_TRACE_STATUS.trig_index a) :=
      (((KeepsRegs.refl _ s).set _ _ _ (by decide)).set _ _ _ (by decide)).set _ _ _ (by decide)
    refine sets_cells (gives_run (exec_traceArm a s) rfl hwf hup ?_) rfl
    simp only [hdecim SV_TRACE_CTRL.decim a (by decide)]
    rfl
  · intro hst hpost
    exact sets_cells (gives_run (exec_traceTriggerNow a s) rfl hwf hup ((traceFire_armed hst).trans (if_pos hpost))) rfl
  · intro hst hpost
    exact sets_cells (gives_run (exec_traceTriggerNow a s) rfl hwf hup ((traceFire_armed hst).trans (if_neg hpost))) rfl
  · intro hst
    exact sets_nothing (gives_run (exec_traceTriggerNow a s) rfl hwf hup (if_neg hst))
  · intro hst
    exact sets_cells (gives_run (exec_traceStop a s) rfl hwf hup (if_neg hst)) rfl
  · intro hst
    exact sets_nothing (gives_run (exec_traceStop a s) rfl hwf hup (if_pos hst))
  · intro hnode
    exact sets_cells (gives_run (exec_injectionStart a s) rfl hwf hup (if_neg (by simp [hnode]))) rfl
  · intro hnode htrig
    exact sets_cells (gives_injectionStart hup ha hnode htrig) (by interval_cases a <;> rfl)
  · exact sets_cells (gives_run (exec_injectionStop a s) rfl hwf hup rfl) rfl
  · intro hon hlength
    exact sets_cells (gives_run (exec_injectionEnd a s) rfl hwf hup (if_pos (by simp [hon, hlength]))) rfl
  · intro hpair
    exact gives_run (exec_forcedSwap a s) rfl hwf hup (if_pos (.inl hpair))
  · intro hpair hoff hparked hpending hcheck
    refine sets_cells (gives_run (exec_forcedSwap a s) rfl hwf hup ?_) rfl
    simp only [hpair, hoff, hparked, hpending, hcheck, ne_eq, not_true_eq_false, or_self, Bool.false_eq_true, if_false]
    rfl
  · intro hpending
    exact gives_run (exec_cancelSwap a s) rfl hwf hup (if_pos hpending)
  · intro hpending
    exact sets_nothing (gives_run (exec_cancelSwap a s) rfl hwf hup (if_neg (by simp [hpending])))

end Sys2Proof.Machine
end

section
/-! The event recorder writes its own registers alone. -/

namespace Sys2Proof.Machine

/-- The registers that accepting an event may write. -/
def erIds : List Nat :=
  [X.er_lost_first.id, X.er_lost_last.id, X.er_lost_srcs.id, ER_LOST.srcs.id, ER_LOST.count.id, ER_INT.lost.id, ER_GASP_SLOT.word.id,
   ER_GASP.used.id, ER_GASP.deferred.id, ER_POS.write_point.id, ER_POS.records.id, ER_STATUS.full.id, ER_INT.full.id,
   ER_STATUS.refused.id, ER_LAST.repeat.id, ER_LAST.last_us.id]

theorem keepsRegs_erLose (src : Nat) (s : State) : KeepsRegs erIds s (erLose src s) := by
  unfold erLose
  extract_lets first last srcs named counted
  have hfirst : KeepsRegs erIds s first := KeepsRegs.ite ((KeepsRegs.refl _ s).set _ _ _ (by decide)) (KeepsRegs.refl _ s)
  have hsrcs : KeepsRegs erIds s srcs := (hfirst.set _ _ _ (by decide)).set _ _ _ (by decide)
  have hnamed : KeepsRegs erIds s named := KeepsRegs.ite (hsrcs.set _ _ _ (by decide)) hsrcs
  exact (hnamed.set _ _ _ (by decide)).set _ _ _ (by decide)

theorem keepsRegs_erSlot (kind : Nat) (r : EventRec) (s : State) : KeepsRegs erIds s (erSlot kind r s) := by
  unfold erSlot
  split
  · exact keepsRegs_erLose _ s
  · extract_lets bytes written used
    have hwritten : KeepsRegs erIds s written :=
      KeepsRegs.each (fun _ t => (KeepsRegs.refl _ t).set _ _ _ (show ER_GASP_SLOT.word.id ∈ erIds by decide)) _ s
    have hused : KeepsRegs erIds s used := hwritten.set ER_GASP.used _ _ (by decide)
    exact KeepsRegs.ite (hused.set ER_GASP.deferred _ _ (by decide)) (hused.set ER_GASP.deferred _ _ (by decide))

theorem keepsRegs_erClose (s : State) : KeepsRegs erIds s (erClose s) := by
  unfold erClose
  split
  · exact KeepsRegs.refl _ s
  · dsimp only
    split
    · exact KeepsRegs.ite (KeepsRegs.of_regs rfl) (KeepsRegs.of_regs rfl)
    · exact KeepsRegs.set (KeepsRegs.of_regs rfl) ER_GASP_SLOT.word _ _ (by decide)
    · split
      · exact KeepsRegs.of_regs rfl
      · exact KeepsRegs.of_regs rfl

theorem keepsRegs_erLostQueue (s : State) : KeepsRegs erIds s (erLostQueue s) := by
  unfold erLostQueue
  refine KeepsRegs.ite ?_ (KeepsRegs.refl _ s)
  exact ((((KeepsRegs.refl erIds s).set ER_LOST.count 0 0 (by decide)).set ER_LOST.srcs 0 0 (by decide)).set X.er_lost_srcs 0 0
    (by decide)).trans (KeepsRegs.of_regs rfl)

theorem keepsRegs_erProgram (r : EventRec) (o : Bool) (s : State) : KeepsRegs erIds s (erProgram r o s) := by
  unfold erProgram
  extract_lets wp len left pad full programmed moved counted queued padded off placed written prog
  have hcounted : KeepsRegs erIds s counted :=
    (KeepsRegs.set (KeepsRegs.of_regs rfl) ER_POS.write_point _ _ (by decide)).set ER_POS.records _ _ (by decide)
  have hqueued : KeepsRegs erIds s queued := hcounted.trans (KeepsRegs.of_regs rfl)
  have hpadded : KeepsRegs erIds s padded :=
    KeepsRegs.ite (KeepsRegs.refl _ s) (KeepsRegs.set (KeepsRegs.of_regs rfl) ER_POS.records _ _ (by decide))
  have hprog : KeepsRegs erIds s prog := (hpadded.set ER_POS.write_point _ _ (by decide)).trans (KeepsRegs.of_regs rfl)
  exact KeepsRegs.ite ((hqueued.set ER_STATUS.full _ _ (by decide)).set ER_INT.full _ _ (by decide))
    (KeepsRegs.ite (hprog.trans (KeepsRegs.of_regs rfl)) hprog)

theorem keepsRegs_erStart (s : State) : KeepsRegs erIds s (erStart s) := by
  unfold erStart
  refine KeepsRegs.ite (KeepsRegs.refl _ s) ?_
  dsimp only
  split
  · exact keepsRegs_erLostQueue s
  · refine KeepsRegs.trans (KeepsRegs.trans ?_ (keepsRegs_erProgram _ _ _)) (keepsRegs_erLostQueue _)
    exact (keepsRegs_erLostQueue s).congr_regs rfl

theorem keepsRegs_erOpens (r : EventRec) (slot : Option Nat) (s : State) : KeepsRegs erIds s (erOpens r slot s) :=
  (KeepsRegs.set (KeepsRegs.of_regs rfl) ER_LAST.repeat _ _ (by decide)).set ER_LAST.last_us _ _ (by decide)

theorem keepsRegs_erToSlot (kind : Nat) (r : EventRec) (s : State) : KeepsRegs erIds s (erToSlot kind r s) := by
  unfold erToSlot
  split
  · exact keepsRegs_erLose _ s
  · exact ((keepsRegs_erClose s).trans (keepsRegs_erSlot _ _ _)).trans (keepsRegs_erOpens _ _ _)

theorem keepsRegs_erNew (r : EventRec) (s : State) : KeepsRegs erIds s (erNew r s) := by
  unfold erNew
  refine KeepsRegs.ite (keepsRegs_erToSlot _ _ s) (KeepsRegs.ite (keepsRegs_erToSlot _ _ s)
    (KeepsRegs.ite (keepsRegs_erLose _ s) ?_))
  refine KeepsRegs.trans (KeepsRegs.trans ?_ (keepsRegs_erOpens _ _ _)) (keepsRegs_erStart _)
  exact (keepsRegs_erClose s).congr_regs rfl

theorem keepsRegs_erRepeat (o : OpenRec) (s : State) : KeepsRegs erIds s (erRepeat o s) := by
  unfold erRepeat
  extract_lets counted shown
  have hshown : KeepsRegs erIds s shown :=
    (KeepsRegs.set (KeepsRegs.of_regs rfl) ER_LAST.repeat _ _ (by decide)).set ER_LAST.last_us _ _ (by decide)
  exact KeepsRegs.ite (hshown.trans (keepsRegs_erClose _)) hshown

theorem keepsRegs_erAccept (src code : Nat) (b : List Byte) (s : State) : KeepsRegs erIds s (erAccept src code b s) := by
  unfold erAccept
  refine KeepsRegs.ite ((KeepsRegs.refl _ s).set ER_STATUS.refused _ _ (by decide)) ?_
  split
  · exact keepsRegs_erRepeat _ s
  · exact keepsRegs_erNew _ s

theorem keepsRegs_event (s : State) (win inst b : Nat) (vals : List Nat) : KeepsRegs erIds s (s.event win inst b vals) :=
  keepsRegs_erAccept _ _ _ s

/-- An alarm writes its interrupt bit and the recorder's registers. -/
theorem keepsRegs_alarm (s : State) (f : Fld) (i win inst : Nat) (vals : List Nat) :
    KeepsRegs (f.id :: erIds) s (s.alarm f i win inst vals) :=
  ((KeepsRegs.refl _ s).set f i 1 (List.mem_cons_self ..)).trans ((keepsRegs_event _ _ _ _ _).mono (fun _ h => List.mem_cons_of_mem _ h))

end Sys2Proof.Machine
end

section
/-! The spindle (O29, O30). -/

namespace Sys2Proof.Machine

/-- The spindle's state rests on one field. -/
theorem KeepsRegs.spin {ids : List Nat} {s t : State} (h : KeepsRegs ids s t) (hid : MC_SPIN_STATUS.state.id ∉ ids) : spin t = spin s :=
  h _ _ hid

/-- A write of MC_CTRL that asks for no action. -/
theorem gives_mcCtrlWrite_plain {s u : State} {v : Nat} (hup : coreUp s = true) (hact : v / 2 % 8 = 0)
    (hu : (if s.on MC_CTRL.enable && v % 2 == 0 then mcDisable (s.set MC_CTRL.enable 0 (v % 2)) else s.set MC_CTRL.enable 0 (v % 2)) = u) :
    Gives (.mcCtrlWrite v) s u := by
  refine gives_run (exec_mcCtrlWrite v s) rfl rfl hup ?_
  rw [hact]
  exact hu

/-- The park latch bars a start. -/
theorem gives_spindleStart_latched {s : State} (hup : coreUp s = true) (hlatch : s.get MP_PARK_STATUS.latch ≠ 0) : Gives .spindleStart s s := by
  refine gives_run (exec_spindleStart s) rfl rfl hup ?_
  simp only [spinAction, hlatch, if_false]
  exact if_pos (.inl hlatch)

/-- Settles O29: the spindle's state, the park latch and the counts of its attempts decide what each command and time limit does. -/
theorem spindleControl : Obligations.SpindleControl := by
  intro s hup
  refine ⟨?_, ?_, ?_, ?_, ?_, ?_, ?_, ?_, ?_, ?_, ?_, ?_, ?_, ?_, ?_, ?_, ?_⟩
  · intro v hon hbit hact
    refine sets_cells (l := [(MC_CTRL.enable, 0, 1)]) (gives_mcCtrlWrite_plain hup hact ?_) rfl
    rw [hon, hbit]
    exact if_neg (by decide)
  · intro v hon hbit hact
    refine gives_mcCtrlWrite_plain hup hact ?_
    rw [hon, hbit]
    exact if_pos rfl
  · intro hlatch
    exact sets_nothing (gives_spindleStart_latched hup hlatch)
  · intro hlatch
    refine gives_run (exec_spindleStart s) rfl rfl hup ?_
    simp only [spinAction, hlatch, if_true]
  · intro hst
    have hkeep : KeepsRegs [X.spin_over.id, X.spin_curve.id, X.spin_retry.id] s
        (((s.set X.spin_over 0 1).clear X.spin_curve).clear X.spin_retry) :=
      (((KeepsRegs.refl _ s).set _ _ _ (by decide)).set _ _ _ (by decide)).set _ _ _ (by decide)
    exact sets_cells (gives_run (exec_stopByCoasting s) rfl rfl hup (if_pos ((hkeep.spin (by decide)).trans hst))) rfl
  · intro hst
    have hkeep : KeepsRegs [X.spin_over.id, X.spin_curve.id, X.spin_retry.id] s
        (((s.set X.spin_over 0 1).clear X.spin_curve).clear X.spin_retry) :=
      (((KeepsRegs.refl _ s).set _ _ _ (by decide)).set _ _ _ (by decide)).set _ _ _ (by decide)
    exact gives_run (exec_stopByCoasting s) rfl rfl hup (if_neg (fun h => hst ((hkeep.spin (by decide)).symm.trans h)))
  · exact gives_run (exec_stopByBraking s) rfl rfl hup rfl
  · exact gives_run (exec_spindleGrant s) rfl rfl hup rfl
  · intro hst hcross
    exact gives_run (exec_catchTimeout s) rfl rfl hup (if_pos ⟨hst, hcross⟩)
  · intro hst
    exact gives_run (exec_alignTimeout s) rfl rfl hup (if_pos hst)
  · intro hst htries
    exact gives_run (exec_rampTimeout s) rfl rfl hup ((if_pos hst).trans (if_pos htries))
  · intro hst htries
    exact gives_run (exec_rampTimeout s) rfl rfl hup ((if_pos hst).trans (if_neg (Nat.not_lt.2 htries)))
  · intro hst
    exact gives_run (exec_rundownTimeout s) rfl rfl hup (if_pos hst)
  · intro hst hhold
    exact gives_run (exec_brakeHoldEnd s) rfl rfl hup (if_pos ⟨hst, hhold⟩)
  · intro hst hunknown
    exact gives_run (exec_reacquireTimeout s) rfl rfl hup (if_pos ⟨hst, hunknown⟩)
  · intro d hlatch
    exact sets_nothing (gives_run (exec_idleDepthWrite d s) rfl rfl hup (if_pos hlatch))
  · intro d hlatch
    exact gives_run (exec_idleDepthWrite d s) rfl rfl hup (if_neg (fun h => h hlatch))

/-- The limits of R229 and R230 on the loop's output, and its ramp over ten periods after a reacquisition. -/
def loopOutput (lo hi x : Int) (k : Nat) : Int := (if hi < x then hi else if x < lo then lo else x) * (min 10 (k + 1) : Nat) / 10

/-- The ramp takes the output no further than its limits. -/
theorem loopOutput_bounds {lo hi : Int} (hlo : lo ≤ 0) (hhi : 0 ≤ hi) (x : Int) (k : Nat) :
    lo ≤ loopOutput lo hi x k ∧ loopOutput lo hi x k ≤ hi := by
  unfold loopOutput
  generalize hm : (min 10 (k + 1) : Nat) = m
  have hm1 : (1 : Int) ≤ (m : Int) := by omega
  have hm10 : (m : Int) ≤ 10 := by omega
  generalize hy : (if hi < x then hi else if x < lo then lo else x) = y
  have hylo : lo ≤ y := by
    subst hy
    split <;> [skip; split] <;> omega
  have hyhi : y ≤ hi := by
    subst hy
    split <;> [skip; split] <;> omega
  constructor
  · rw [Int.le_ediv_iff_mul_le (by decide)]
    nlinarith
  · have hle : y * (m : Int) ≤ hi * 10 := by nlinarith
    exact (Int.ediv_le_ediv (by decide) hle).trans (by omega)

/-- The integral of the speed loop after one of its periods (R229). -/
def loopIntegral (t : State) : Int :=
  satS 32 (t.getS X.spin_int + shiftMul (t.getS MC_SPIN_LOOP.ki) ((t.get X.spin_tgt : Int) / 625 - (t.get MC_SPIN_STATUS.speed : Nat))
    (t.get MC_SPIN_LOOP.shift))

/-- What one period of the loop makes of the state in which its target stands. -/
theorem speedLoop_eq {s : State} (t : State) (hst : spin s = spSixStep ∨ spin s = spSine ∨ spin s = spBrake)
    (ht : (if spin s = spBrake then s else slewTarget s) = t) (hup : coreUp s = true) :
    ∃ lo x : Int, (lo ≤ 0 ∧ -(t.get MC_SPIN_RUN.brake_ma : Int) ≤ lo) ∧ Gives .speedLoop s
      (judgeSpeed 0 (((t.setS X.spin_int 0 (loopIntegral t)).set X.spin_soft 0 (min 10 (t.get X.spin_soft + 1))).setS X.spin_out 0
        (loopOutput lo (t.get MC_SPIN_RUN.run_ma) x (t.get X.spin_soft)))) := by
  have hkeep : KeepsRegs [X.spin_int.id] t (t.setS X.spin_int 0 (loopIntegral t)) := (KeepsRegs.refl _ t).set _ _ _ (by decide)
  refine ⟨if t.on X.chop_fault then 0 else -(t.get MC_SPIN_RUN.brake_ma : Int),
    shiftMul (t.getS MC_SPIN_LOOP.kp) ((t.get X.spin_tgt : Int) / 625 - (t.get MC_SPIN_STATUS.speed : Nat)) (t.get MC_SPIN_LOOP.shift)
      + loopIntegral t, ?_, ?_⟩
  · split <;> omega
  · refine gives_run (exec_speedLoop s) rfl rfl hup ((if_pos hst).trans ?_)
    have hkp : (t.setS X.spin_int 0 (loopIntegral t)).getS MC_SPIN_LOOP.kp = t.getS MC_SPIN_LOOP.kp :=
      congrArg (signed _) (hkeep _ _ (by decide))
    simp only [ht]
    change judgeSpeed 0 (State.setS (State.set (State.setS t X.spin_int 0 (loopIntegral t)) X.spin_soft 0 _) X.spin_out 0 _) = _
    simp only [← loopIntegral.eq_1 t, hkp, hkeep.on 0 (f := X.chop_fault) (by decide), hkeep MC_SPIN_RUN.brake_ma 0 (by decide),
      hkeep MC_SPIN_RUN.run_ma 0 (by decide), hkeep X.spin_soft 0 (by decide)]
    rfl

/-- The slew of the target writes it alone. -/
theorem keepsRegs_slewTarget (s : State) : KeepsRegs [X.spin_tgt.id] s (slewTarget s) := (KeepsRegs.refl _ s).set _ _ _ (by decide)

/-- An observer update in SIX_STEP counts towards lock and towards loss. -/
theorem gives_observerUpdate_sixStep {s : State} (hup : coreUp s = true) (hst : spin s = spSixStep) (t v r : Nat) :
    Gives (.observerUpdate t v r) s (
      let n := if r < s.get MC_OBS_CFG.lock_thr then min 32 (s.get X.spin_lock_n + 1) else 0
      let l := if s.get MC_OBS_CFG.loss_thr < r then min 255 (s.get X.spin_loss_n + 1) else 0
      flySlow (judgeSpeed ((t + 65536 - s.get X.spin_theta) % 65536) (((((s.set X.spin_theta 0 t).set X.spin_lock_n 0 n).set
        MC_SPIN_STATUS.locked 0 (b2n (decide (32 ≤ n)))).set X.spin_loss_n 0 l).set MC_SPIN_STATUS.speed 0 v))) := by
  refine gives_run (exec_observerUpdate t v r s) rfl rfl hup ?_
  have hrundown : spSixStep ≠ spRundown := by decide
  have hbrake : spSixStep ≠ spBrake := by decide
  have hsine : spSixStep ≠ spSine := by decide
  simp (disch := decide) only [hst, hrundown, hbrake, hsine, if_false, true_or, if_true, State.get_set_ne]

/-- Settles O30: the spindle's state decides which of the sensors counts, and the loop's output stays within its limits. -/
theorem spindleSensing : Obligations.SpindleSensing := by
  intro s hup
  refine ⟨?_, ?_, ?_, ?_, ?_, ?_, ?_, ?_, ?_⟩
  · intro v
    exact sets_cells (gives_run (exec_backEmfZeroCrossing false v s) rfl rfl hup rfl) rfl
  · intro v hst
    refine gives_run (exec_backEmfZeroCrossing true v s) rfl rfl hup ?_
    simp only [hst, Bool.not_true, Bool.false_eq_true, if_false, if_true]
  · intro v hst hcross
    refine sets_cells (gives_run (exec_backEmfZeroCrossing true v s) rfl rfl hup ?_) rfl
    have hmin : min 255 (s.get X.spin_cross + 1) = s.get X.spin_cross + 1 := by omega
    have hfew : ¬ 6 ≤ s.get X.spin_cross + 1 := by omega
    have hcatch : spRamp ≠ spCatch := by decide
    simp only [hst, hmin, hfew, hcatch, Bool.not_true, Bool.false_eq_true, if_false, if_true]
    rfl
  · intro t v r hst
    refine gives_run (exec_observerUpdate t v r s) rfl rfl hup ?_
    rcases hst with h | h
    · exact if_pos h
    · exact (if_neg (by rw [h]; decide)).trans (if_pos h)
  · intro t v r hst
    refine sets_nothing (gives_run (exec_observerUpdate t v r s) rfl rfl hup ?_)
    have hno : spin s ≠ spRundown ∧ spin s ≠ spBrake ∧ ¬ (spin s = spSixStep ∨ spin s = spSine) := by
      rcases hst with h | h <;> rw [h] <;> decide
    obtain ⟨hrundown, hbrake, hdriven⟩ := hno
    exact (if_neg hrundown).trans ((if_neg hbrake).trans (if_neg hdriven))
  · intro hst
    refine sets_cells (gives_run (exec_speedLoop s) rfl rfl hup (if_neg ?_)) rfl
    rcases hst with h | h <;> rw [h] <;> decide
  · intro t v r hst
    refine ⟨_, _, gives_observerUpdate_sixStep hup hst t v r, ?_, ?_, ?_, ?_⟩
    · exact fun h => if_pos h
    · exact fun h => if_neg (Nat.not_lt.2 h)
    · exact fun h => if_pos h
    · exact fun h => if_neg (Nat.not_lt.2 h)
  · intro hst
    have hdriven : spin s = spSixStep ∨ spin s = spSine ∨ spin s = spBrake := by tauto
    have hbrake : spin s ≠ spBrake := by rcases hst with h | h <;> rw [h] <;> decide
    obtain ⟨lo, x, ⟨hlo0, hlo⟩, hgives⟩ := speedLoop_eq (slewTarget s) hdriven (if_neg hbrake) hup
    have hslew := keepsRegs_slewTarget s
    rw [hslew MC_SPIN_RUN.brake_ma 0 (by decide)] at hlo
    rw [hslew MC_SPIN_RUN.run_ma 0 (by decide), hslew X.spin_soft 0 (by decide)] at hgives
    obtain ⟨hleast, hmost⟩ := loopOutput_bounds hlo0 (Int.natCast_nonneg (s.get MC_SPIN_RUN.run_ma)) x (s.get X.spin_soft)
    exact ⟨_, _, hmost, hlo.trans hleast, hgives⟩
  · intro hst
    obtain ⟨lo, x, -, hgives⟩ := speedLoop_eq s (.inr (.inr hst)) (if_pos hst) hup
    exact ⟨_, _, hgives⟩

end Sys2Proof.Machine
end

section
/-! Motor faults and the voice-coil current loops (O31). -/

namespace Sys2Proof.Machine

/-- The fields that a bridge switched off writes. -/
def bridgeIds : List Nat :=
  [X.vcm_hi_p.id, X.vcm_hi_n.id, X.vcm_end_p.id, X.vcm_end_n.id, MC_VCM_STATUS.depth.id, X.vcm_int.id, X.vcm_vel.id]

theorem keepsRegs_bridgeOff (a : Nat) (s : State) : KeepsRegs bridgeIds s (bridgeOff a s) :=
  (((((((KeepsRegs.refl _ s).set _ _ _ (by decide)).set _ _ _ (by decide)).set _ _ _ (by decide)).set _ _ _ (by decide)).set _ _ _
    (by decide)).set _ _ _ (by decide)).set _ _ _ (by decide)

/-- A measured current rests on the channel's calibration. -/
theorem KeepsRegs.measuredCurrent {ids : List Nat} {s t : State} (h : KeepsRegs ids s t) (hz : MC_VCM_CAL.is_zero.id ∉ ids)
    (hg : MC_VCM_CAL.is_gain.id ∉ ids) (hf : MC_VCM_CFG.fs_ma.id ∉ ids) (a adc : Nat) : measuredCurrent t a adc = measuredCurrent s a adc := by
  unfold Machine.measuredCurrent
  rw [h _ _ hz, h _ _ hg, h _ _ hf]

/-- What the end of the latch phase leaves of the channel before a waiting spindle brakes (R239). -/
def latchEnded (a : Nat) (s : State) : State :=
  let s := ((s.clear X.vcm_phase a).set MC_VCM_STATUS.mode a 0).set MC_VCM_STATUS.parked a 1
  let s := (bridgeOff a s).set SV_STATUS.state a svParked
  s.each (s.image.actHeads a) (fun h t => ((t.clear SV_SLOT_STATE.feedback h).clear X.sv_good h).clear X.sv_known h)

theorem latchEnded_get (a : Nat) (s : State) : (latchEnded a s).get MC_VCM_STATUS.parked a = 1
    ∧ (latchEnded a s).get SV_STATUS.state a = svParked ∧ (latchEnded a s).get X.vcm_phase a = 0
    ∧ (latchEnded a s).get MC_VCM_STATUS.mode a = 0 := by
  unfold latchEnded
  extract_lets latched parked
  have heads : KeepsRegs [SV_SLOT_STATE.feedback.id, X.sv_good.id, X.sv_known.id] parked (parked.each (parked.image.actHeads a)
      (fun h t => ((t.clear SV_SLOT_STATE.feedback h).clear X.sv_good h).clear X.sv_known h)) :=
    KeepsRegs.each (fun _ t => (((KeepsRegs.refl _ t).set _ _ _ (by decide)).set _ _ _ (by decide)).set _ _ _ (by decide)) _ parked
  have hoff : KeepsRegs (SV_STATUS.state.id :: bridgeIds) latched parked :=
    ((keepsRegs_bridgeOff a latched).mono (by decide)).set _ _ _ (by decide)
  refine ⟨?_, ?_, ?_, ?_⟩
  · rw [heads _ _ (by decide), hoff _ _ (by decide)]
    exact State.get_set_same _ _ _ _
  · rw [heads _ _ (by decide)]
    exact State.get_set_same _ _ _ _
  · rw [heads _ _ (by decide), hoff _ _ (by decide), State.get_set_ne _ _ _ _ _ _ (by decide), State.get_set_ne _ _ _ _ _ _ (by decide)]
    exact State.get_set_same _ _ _ _
  · rw [heads _ _ (by decide), hoff _ _ (by decide), State.get_set_ne _ _ _ _ _ _ (by decide)]
    exact State.get_set_same _ _ _ _

/-- A tick of a channel that is driven: the loop's effect by its mode, then the measured current. -/
theorem gives_currentLoopTick {s u : State} {a adc : Nat} {e : Int} (hup : coreUp s = true) (ha : a < 4)
    (hu : (if s.get MC_VCM_STATUS.mode a = 0 ∨ s.get MC_VCM_STATUS.mode a = 4 then bridgeOff a s
      else if s.get MC_VCM_STATUS.mode a = 1 then driveBridge a (currentLoop a (s.getS X.sv_setpoint a) s)
      else if s.get MC_VCM_CFG.fs_ma a = 0 then
        driveBridge a ((s.setS MC_VCM_STATUS.depth a (((s.fresh % 65535 : Nat) : Int) - 32767)).spend)
      else if s.get MC_VCM_STATUS.mode a = 3 then driveBridge a (currentLoop a (towardRamp s a (s.get MC_VCM_RET.latch_ma a)) s)
      else if s.get X.vcm_phase a = 2 ∧ (s.get MC_VCM_RET.ret_vel a = 0 ∨ s.get MC_VCM_CAL.kb a = 0) then
        driveBridge a (currentLoop a (towardRamp s a (s.get MC_VCM_RET.ret_ma a)) s)
      else driveBridge a (currentLoop a (regulated (s.setS X.vcm_vel a (armVelocity s a e)) a) (s.setS X.vcm_vel a (armVelocity s a e)).spend))
      = u) : Gives (.currentLoopTick a adc e) s (u.setS MC_VCM_STATUS.current a (measuredCurrent u a adc)) :=
  gives_run (exec_currentLoopTick a adc e s) rfl (decide_eq_true ha) hup
    (congrArg (fun t => State.setS t MC_VCM_STATUS.current a (measuredCurrent t a adc)) hu)

/-- The chopper's bus voltage is noted, and below 4 V nothing else is reached. -/
theorem gives_brakeChopperSwitch {s u : State} {v : Nat} (hup : coreUp s = true) (hv : 4000 ≤ v)
    (hu : (let t := s.set X.bus_ov 0 (b2n (decide (s.get MC_BUS.ov_thr ≤ v)))
      if v ≤ t.get MC_BUS.brk_off then t.clear X.brk_en
      else if t.get MC_BUS.brk_on ≤ v ∧ regenerating t ∧ t.get X.chop_fault = 0 then t.set X.brk_en 0 1
      else t) = u) : Gives (.brakeChopperSwitch v) s u := by
  refine gives_run (exec_brakeChopperSwitch v s) rfl rfl hup ?_
  simp only [Nat.not_lt.2 hv, if_false]
  exact hu

/-- The fault bit says nothing of the spindle's state. -/
theorem spinDriven_raise_fault (s : State) : spinDriven (s.raise MC_INT.sp_fault) = spinDriven s := by
  have hspin : spin (s.raise MC_INT.sp_fault) = spin s := State.get_set_ne _ _ _ _ _ _ (by decide)
  unfold spinDriven
  rw [hspin]

/-- Settles O31: the fault latches, the phase of a channel and the mode of its loop decide each of these commands. -/
theorem motorFaults : Obligations.MotorFaults := by
  intro s a hup ha
  have hwf : okAct a = true := decide_eq_true ha
  refine ⟨?_, ?_, ?_, ?_, ?_, ?_, ?_, ?_, ?_, ?_, ?_, ?_, ?_, ?_, ?_, ?_, ?_⟩
  · intro hidle
    have hraised : spinDriven (s.raise MC_INT.sp_fault) = false := (spinDriven_raise_fault s).trans hidle
    exact sets_cells (gives_run (exec_spFlt s) rfl rfl hup (if_neg (by simp [hraised]))) rfl
  · intro hdriven
    exact gives_run (exec_spFlt s) rfl rfl hup (if_pos ((spinDriven_raise_fault s).trans hdriven))
  · exact gives_run (exec_vcmFlt a s) rfl hwf hup rfl
  · intro hflt hlost hphase hin
    refine sets_cells (gives_run (exec_vcmFltClear a s) rfl hwf hup ((if_pos hflt).trans ?_)) rfl
    have hkeep : KeepsRegs [X.vcm_flt.id] s (s.clear X.vcm_flt a) := (KeepsRegs.refl _ s).set _ _ _ (by decide)
    have harm : armOut (s.clear X.vcm_flt a) a = false := by
      unfold armOut at hin ⊢
      rw [hkeep.on _ (by decide), hkeep _ _ (by decide)]
      exact hin
    simp only [hkeep X.act_lost a (by decide), hkeep X.vcm_phase a (by decide), hlost, Nat.not_le.2 hphase, harm, Bool.false_eq_true,
      if_false]
    rfl
  · intro hflt
    have hclear : ¬ s.on X.vcm_flt a = true := by simp [hflt]
    exact ⟨sets_nothing (gives_run (exec_vcmFltClear a s) rfl hwf hup (if_neg hclear)),
      sets_nothing (gives_run (exec_vcmFaultPersist a s) rfl hwf hup (if_neg hclear))⟩
  · intro hflt
    exact gives_run (exec_vcmFaultPersist a s) rfl hwf hup (if_pos hflt)
  · intro hen
    exact gives_run (exec_brkFlt s) rfl rfl hup (if_pos hen)
  · intro hen hbrake
    refine gives_run (exec_brkFlt s) rfl rfl hup ((if_neg (by simp [hen])).trans (if_neg ?_))
    have hkeep := (((KeepsRegs.refl (X.chop_fault.id :: MC_INT.brk_fault.id :: erIds) s).set X.chop_fault 0 1 (by decide)).trans
      ((keepsRegs_alarm (s.set X.chop_fault 0 1) MC_INT.brk_fault 0 14 0 []).mono (by decide)))
    rw [hkeep.spin (by decide)]
    exact hbrake
  · exact gives_run (exec_overVoltage s) rfl rfl hup rfl
  · intro v hv hlow
    refine sets_cells (gives_brakeChopperSwitch hup hv ?_) rfl
    simp (disch := decide) only [State.get_set_ne, hlow, if_true]
    rfl
  · exact gives_run (exec_powerLoss s) rfl rfl hup rfl
  · intro hphase hmode
    exact gives_run (exec_retractVelocityEnd a s) rfl hwf hup (if_pos ⟨hphase, hmode⟩)
  · intro hphase
    exact sets_nothing (gives_run (exec_latchEnd a s) rfl hwf hup (if_neg hphase))
  · intro hphase
    exact ⟨latchEnded a s, gives_run (exec_latchEnd a s) rfl hwf hup (if_pos hphase), latchEnded_get a s⟩
  · intro adc e hmode
    have hcurrent := (keepsRegs_bridgeOff a s).measuredCurrent (by decide) (by decide) (by decide) a adc
    have hgives := gives_currentLoopTick (adc := adc) (e := e) hup ha (if_pos hmode)
    rw [hcurrent] at hgives
    exact sets_cells hgives rfl
  · intro adc e done
    refine ⟨?_, ?_, ?_⟩
    · intro hmode
      exact gives_currentLoopTick hup ha ((if_neg (by omega)).trans (if_pos hmode))
    · intro hmode hscale
      exact gives_currentLoopTick hup ha ((if_neg (by omega)).trans ((if_neg (by omega)).trans ((if_neg hscale).trans (if_pos hmode))))
    · intro hmode hscale hphase hopen
      exact gives_currentLoopTick hup ha ((if_neg (by omega)).trans ((if_neg (by omega)).trans ((if_neg hscale).trans
        ((if_neg (by omega)).trans (if_pos ⟨hphase, hopen⟩)))))
  · intro v hv hoff hon hbrake hgood
    refine sets_cells (gives_brakeChopperSwitch hup hv ?_) rfl
    have hregen : regenerating (s.set X.bus_ov 0 (b2n (decide (s.get MC_BUS.ov_thr ≤ v)))) = true := by
      unfold regenerating
      rw [KeepsRegs.spin ((KeepsRegs.refl [X.bus_ov.id] s).set _ _ _ (by decide)) (by decide), hbrake]
      rfl
    simp (disch := decide) only [State.get_set_ne, Nat.not_le.2 hoff, hon, hregen, hgood, and_self, if_true, if_false]
    rfl

end Sys2Proof.Machine
end

section
/-! Cells that a command writes twice, and the rules of a microword that issues: its count, its place and its registers. -/

namespace Sys2Proof.Machine

/-- A cell that is written again has the last value. -/
theorem effect_overwrite {c : Instr} {s : State} {first again last : List CellVal} {g : State → State}
    (h : Gives c s (setAll last (setAll again (setAll first (g s))))) (hg : (g s).regs = s.regs) (hl : plainCells (first ++ last) = true)
    (hagain : ∀ p ∈ again, ∃ q ∈ last, q.1 = p.1 ∧ q.2.1 = p.2.1) : Effect c s (first ++ last) g := by
  have hd := distinct_of_plain hl
  have hmirror := not_mirror_of_plain hl
  obtain ⟨-, hdlast, hcross⟩ := List.pairwise_append.1 hd
  have hapart : ∀ p ∈ first, ∀ q ∈ again, q.1.id ≠ p.1.id ∨ q.2.1 ≠ p.2.1 := by
    intro p hp q hq
    obtain ⟨x, hx, hfld, hinst⟩ := hagain q hq
    rcases hcross p hp x hx with hne | hne
    · exact .inl (fun e => hne (hfld ▸ e.symm))
    · exact .inr (fun e => hne (hinst ▸ e.symm))
  refine effect_of h ?_ (fun p hp => ⟨?_, hmirror p hp⟩) (fun f i hlisted => ?_)
  · rw [← setAll_append, ← setAll_append]
    exact congrArg (fun (x : State) => { x with pending := s.pending }) (setAll_rest _ (g s) s.regs)
  · rcases List.mem_append.1 hp with hfirst | hlast
    · rw [setAll_other last _ _ _ (fun q hq => (hcross p hfirst q hq).imp Ne.symm Ne.symm),
        setAll_other again _ _ _ (hapart p hfirst)]
      exact setAll_mem first _ (List.pairwise_append.1 hd).1 p hfirst
    · exact setAll_mem last _ hdlast p hlast
  · have hother := listed_false hlisted
    rw [setAll_other last _ _ _ (fun q hq => hother q (List.mem_append_right _ hq)),
      setAll_other again _ _ _ (fun q hq => ?_), setAll_other first _ _ _ (fun q hq => hother q (List.mem_append_left _ hq))]
    · exact State.get_of_regs hg f i
    · obtain ⟨x, hx, hfld, hinst⟩ := hagain q hq
      rw [← hfld, ← hinst]
      exact hother x (List.mem_append_right _ hx)

/-- Issuing counts the word and moves the place. -/
theorem issued_eq_setAll (s : State) (q t : Nat) : issued s q t = setAll (issuedCells s q t (pcOf s q t + 1)) s := by
  simp (disch := decide) only [issued, setPc, State.incWrap, State.get_set_ne]
  rfl

/-- The registers that issuing writes. -/
def issueIds : List Nat := [X.sq_sp.id, SQ_STATUS.issued.id, SQ_THR_STATE.pc.id]

theorem keepsRegs_issued (s : State) (q t : Nat) : KeepsRegs issueIds s (issued s q t) :=
  (((KeepsRegs.refl _ s).set X.sq_sp _ _ (by decide)).set SQ_STATUS.issued _ _ (by decide)).set SQ_THR_STATE.pc _ _ (by decide)

/-- Only registers are written. -/
theorem issued_rest (s : State) (q t : Nat) : { issued s q t with regs := s.regs } = s := rfl

theorem gr_issued (s : State) (q t r : Nat) : gr (issued s q t) q t r = gr s q t r := by
  unfold gr
  rw [keepsRegs_issued s q t _ _ (by decide)]

theorem hasArm_issued (s : State) (q t : Nat) : hasArm (issued s q t) q t = hasArm s q t := by
  unfold hasArm
  rw [keepsRegs_issued s q t SQ_STATUS.arm_held _ (by decide), keepsRegs_issued s q t SQ_STATUS.arm_owner _ (by decide)]

/-- A general register takes the value cut to its width. -/
theorem setGr_eq_setAll (q t r v : Nat) (s : State) : setGr q t r (v % 2 ^ 64) s = setAll (grCell q t r v) s := by
  unfold setGr grCell
  split
  · rfl
  · exact State.set_mod s SQ_THR_REG.value _ v

/-- A word whose effect is to write cells after it was issued. -/
theorem sets_issued {c : Instr} {s : State} {q t : Nat} {l : List CellVal} (h : Gives c s (setAll l (issued s q t)))
    (hl : plainCells (issuedCells s q t (pcOf s q t + 1) ++ l) = true) : Sets c s (issuedCells s q t (pcOf s q t + 1) ++ l) := by
  rw [issued_eq_setAll, ← setAll_append] at h
  exact sets_cells h hl

/-- A word that writes `rd`. -/
theorem sets_issued_gr {c : Instr} {s : State} {q t r v : Nat} (h : Gives c s (setGr q t r (v % 2 ^ 64) (issued s q t))) :
    Sets c s (issuedCells s q t (pcOf s q t + 1) ++ grCell q t r v) := by
  rw [setGr_eq_setAll] at h
  refine sets_issued h ?_
  unfold grCell
  split <;> rfl

/-- A word that sets the place anew, and then other cells. -/
theorem sets_issued_pc {c : Instr} {s : State} {q t pc : Nat} {l : List CellVal} (h : Gives c s (setAll l (setPc q t pc (issued s q t))))
    (hl : plainCells (issuedCells s q t pc ++ l) = true) : Sets c s (issuedCells s q t pc ++ l) := by
  rw [issued_eq_setAll] at h
  exact effect_overwrite (first := [(X.sq_sp, thrNo q t, spCount s q t), (SQ_STATUS.issued, q, s.get SQ_STATUS.issued q + 1)])
    (again := [(SQ_THR_STATE.pc, thrNo q t, pcOf s q t + 1)]) (last := (SQ_THR_STATE.pc, thrNo q t, pc) :: l) (g := id) h rfl hl
    (fun p hp => ⟨_, List.mem_cons_self .., by rw [List.mem_singleton.1 hp], by rw [List.mem_singleton.1 hp]⟩)

/-- A word that writes cells and sets the place last. -/
theorem sets_issued_then_pc {c : Instr} {s : State} {q t pc : Nat} {l : List CellVal}
    (h : Gives c s (setPc q t pc (setAll l (issued s q t))))
    (hl : plainCells ([(X.sq_sp, thrNo q t, spCount s q t), (SQ_STATUS.issued, q, s.get SQ_STATUS.issued q + 1)] ++
      (l ++ [(SQ_THR_STATE.pc, thrNo q t, pc)])) = true) : Sets c s (issuedCells s q t pc ++ l) := by
  have hplace (u : State) : setPc q t pc u = setAll [(SQ_THR_STATE.pc, thrNo q t, pc)] u := rfl
  rw [issued_eq_setAll, hplace, ← setAll_append] at h
  refine (effect_overwrite (again := [(SQ_THR_STATE.pc, thrNo q t, pcOf s q t + 1)]) (first := [(X.sq_sp, thrNo q t, spCount s q t), (SQ_STATUS.issued, q, s.get SQ_STATUS.issued q + 1)])
    (g := id) h rfl hl ?_).perm ?_
  · exact fun p hp => ⟨_, List.mem_append_right _ (List.mem_singleton_self _), by rw [List.mem_singleton.1 hp],
      by rw [List.mem_singleton.1 hp]⟩
  · exact List.Perm.append_left _ List.perm_append_comm

/-- An arithmetic word. -/
theorem sets_alu {c : Instr} {s : State} {code q t : Nat} {f : MicroWord → Nat → Nat → Nat} (h : Issues code q t s)
    (hx : exec c s = alu code q t f s) : Sets c s (issuedCells s q t (pcOf s q t + 1) ++
      grCell q t (wordOf s q t).rd (f (wordOf s q t) (gr s q t (wordOf s q t).ra) (gr s q t (wordOf s q t).rb))) := by
  refine sets_issued_gr (gives_micro h hx rfl ?_)
  simp only [gr_issued]

/-- Condition 0 holds, so the inverted one does not. -/
theorem wordCond_zero {s : State} {q t : Nat} {w : MicroWord} (h : w.cond = 0) : wordCond s q t w = !w.inv := by
  unfold wordCond condHolds
  simp only [h]
  exact Bool.true_bne _

/-- Only condition 6 has an effect. -/
theorem condEffect_of_ne {s : State} {q t : Nat} {w : MicroWord} (h : w.cond ≠ 6) : condEffect q t w s = s := if_neg (fun e => h e.1)

theorem condEffect_zero {s : State} {q t : Nat} {w : MicroWord} (h : w.cond = 0) : condEffect q t w s = s :=
  condEffect_of_ne (h ▸ by decide)

end Sys2Proof.Machine
end

section
/-! Words that compute and branch (O32). -/

namespace Sys2Proof.Machine

/-- Settles O32: an arithmetic word writes its register, a jump its place, and the stack decides what CALL and RET do. -/
theorem computeWords : Obligations.ComputeWords := by
  intro s q t w a b k d next
  have hdepth : (issued s q t).get X.sq_depth k = d := keepsRegs_issued s q t _ _ (by decide)
  have htaken : w.cond = 0 → w.inv = false → wordCond (issued s q t) q t w = true := by
    intro hcond hinv
    rw [wordCond_zero hcond, hinv]
    rfl
  refine ⟨?_, ?_, ?_, ?_, ?_, ?_, ?_, ?_, ?_, ?_, ?_, ?_, ?_, ?_, ?_, ?_⟩
  · intro h
    exact sets_issued (l := []) (gives_micro h (exec_mwNop q t s) rfl rfl) rfl
  · exact fun h => sets_alu h (exec_mwLdi q t s)
  · exact fun h => sets_alu h (exec_mwAdd q t s)
  · exact fun h => sets_alu h (exec_mwSub q t s)
  · exact fun h => sets_alu h (exec_mwAnd q t s)
  · exact fun h => sets_alu h (exec_mwOr q t s)
  · exact fun h => sets_alu h (exec_mwXor q t s)
  · exact fun h => sets_alu h (exec_mwExt q t s)
  · exact fun h => sets_alu h (exec_mwIns q t s)
  · intro h hcond
    have hgive : Gives (.mwBr q t) s (if (!w.inv) = true then setPc q t w.target (issued s q t) else issued s q t) := by
      refine gives_micro h (exec_mwBr q t s) rfl ?_
      rw [wordCond_zero hcond, condEffect_zero hcond]
    cases hinv : w.inv with
    | true =>
      rw [hinv] at hgive
      exact sets_issued (l := []) hgive rfl
    | false =>
      rw [hinv] at hgive
      exact sets_issued_pc (l := []) hgive rfl
  · intro h hcond hinv hroom
    refine sets_issued_then_pc (gives_micro h (exec_mwCall q t s) rfl ?_) rfl
    refine (if_pos (htaken hcond hinv)).trans ?_
    rw [condEffect_zero hcond, hdepth]
    exact if_neg (Nat.not_le.2 hroom)
  · intro h hcond hinv hfull
    refine gives_micro h (exec_mwCall q t s) rfl ((if_pos (htaken hcond hinv)).trans ?_)
    rw [condEffect_zero hcond, hdepth]
    exact if_pos hfull
  · intro h hcond hinv hpushed
    refine sets_issued_then_pc (gives_micro h (exec_mwRet q t s) rfl ?_) rfl
    refine (if_pos (htaken hcond hinv)).trans ?_
    rw [condEffect_zero hcond, hdepth]
    refine (if_neg (Nat.ne_of_gt hpushed)).trans ?_
    rw [keepsRegs_issued s q t X.sq_stk _ (by decide)]
    rfl
  · intro h hcond hinv hempty
    refine gives_micro h (exec_mwRet q t s) rfl ((if_pos (htaken hcond hinv)).trans ?_)
    rw [condEffect_zero hcond, hdepth]
    exact if_pos hempty
  · intro h hra
    refine sets_issued_pc (l := []) (gives_micro h (exec_mwJr q t s) rfl ?_) rfl
    simp only [gr_issued]
    exact if_neg hra
  · intro h hra
    refine sets_issued_pc (gives_micro h (exec_mwJr q t s) rfl ?_) rfl
    simp only [gr_issued]
    refine (if_pos hra).trans ?_
    have hready : readyState ((setPc q t (gr s q t w.ra % 8192) (issued s q t)).clear X.sq_masked k) q t = thReady := by
      refine if_neg ?_
      rw [State.on, State.clear, State.get_set_same]
      decide
    rw [makeReady, hready, hra]
    rfl

end Sys2Proof.Machine
end

section
/-! Words that wait, fetch, end and signal (O33). -/

namespace Sys2Proof.Machine

/-- A word at which its thread goes to wait. -/
theorem sets_waitAt {c : Instr} {s : State} {q t cond : Nat} (h : Gives c s (waitAt q t (pcOf s q t) cond (issued s q t))) :
    Sets c s (issuedCells s q t (pcOf s q t) ++
      [(SQ_THR_STATE.state, thrNo q t, thWaiting), (SQ_THR_STATE.cond, thrNo q t, cond)]) := by
  rw [issued_eq_setAll] at h
  refine (effect_overwrite (first := [(X.sq_sp, thrNo q t, spCount s q t), (SQ_STATUS.issued, q, s.get SQ_STATUS.issued q + 1)])
    (again := [(SQ_THR_STATE.pc, thrNo q t, pcOf s q t + 1)])
    (last := [(SQ_THR_STATE.state, thrNo q t, thWaiting), (SQ_THR_STATE.pc, thrNo q t, pcOf s q t), (SQ_THR_STATE.cond, thrNo q t, cond)])
    (g := id) h rfl rfl ?_).perm ?_
  · exact fun p hp => ⟨_, List.mem_cons_of_mem _ (List.mem_cons_self ..), by rw [List.mem_singleton.1 hp],
      by rw [List.mem_singleton.1 hp]⟩
  · exact List.Perm.append_left _ (List.Perm.swap ..)

/-- A thread that waits goes on where its condition holds and nothing interrupts it. -/
theorem gives_waitWake {s : State} {q t : Nat} (hup : coreUp s = true) (hq : q < 4) (ht : t < 4)
    (hst : s.get SQ_THR_STATE.state (thrNo q t) = thWaiting) (hgate : gated s = false) (hint : interrupted q t (wordOf s q t) s = none)
    (hop : (wordOf s q t).op ≠ 0x0E) (hcond : wordCond s q t (wordOf s q t) = true) :
    Gives (.waitWake q t) s (makeReady q t (setPc q t (pcOf s q t + 1) (condEffect q t (wordOf s q t) s))) := by
  unfold wordOf at hint hop hcond ⊢
  refine gives_run (exec_waitWake q t s) rfl (okThreads hq ht) hup ((if_pos ⟨hst, hgate⟩).trans ?_)
  simp only [hint, hop, hcond, if_false, if_true]

theorem gives_waitTimeout {s : State} {q t : Nat} (hup : coreUp s = true) (hq : q < 4) (ht : t < 4)
    (hst : s.get SQ_THR_STATE.state (thrNo q t) = thWaiting) (hgate : gated s = false) (hint : interrupted q t (wordOf s q t) s = none)
    (htime : (wordOf s q t).timeout ≠ 0) : Gives (.waitTimeout q t) s (makeReady q t (setPc q t (wordOf s q t).target s)) := by
  unfold wordOf at hint htime ⊢
  refine gives_run (exec_waitTimeout q t s) rfl (okThreads hq ht) hup ((if_pos ⟨hst, hgate⟩).trans ?_)
  simp only [hint, htime, if_false]

/-- The end of an operation whose thread holds nothing. -/
theorem gives_mwEnd {s : State} {q t : Nat} (h : Issues 0x0F q t s) (hheld : holdsAny (issued s q t) q t = false) :
    Gives (.mwEnd q t) s (makeReady q t (setPc q t
      ((endOp q t ((wordOf s q t).imm % 256) (letGo q t (issued s q t))).get SQ_VEC.addr (5 * q))
      (endOp q t ((wordOf s q t).imm % 256) (letGo q t (issued s q t))))) := by
  refine gives_micro h (exec_mwEnd q t s) rfl ?_
  simp only [hheld, Bool.false_eq_true, if_false]

/-- Settles O33: the condition decides whether a thread waits, and what it waits for whether it goes on. -/
theorem waitWords : Obligations.WaitWords := by
  intro s q t w k
  refine ⟨?_, ?_, ?_, ?_, ?_, ?_, ?_, ?_, ?_, ?_⟩
  · intro h hcond
    exact gives_micro h (exec_mwWait q t s) rfl (if_pos hcond)
  · intro h hcond
    exact sets_waitAt (gives_micro h (exec_mwWait q t s) rfl (if_neg (Bool.not_eq_true _ ▸ hcond)))
  · intro h hnone
    refine sets_waitAt (gives_micro h (exec_mwFetch q t s) rfl ?_)
    have harrive : KV.get (issued s q t).sqArrive (thrNo q t) = none := hnone
    simp only [harrive]
  · intro o h hsome
    refine gives_micro h (exec_mwFetch q t s) rfl ?_
    have harrive : KV.get (issued s q t).sqArrive (thrNo q t) = some o := hsome
    simp only [harrive]
  · exact gives_waitWake
  · intro hup hq ht hst hgate hint htime
    have hgive := gives_waitTimeout hup hq ht hst hgate hint htime
    have hready : readyState (setPc q t w.target s) q t = readyState s q t := by
      unfold readyState setPc State.on
      rw [State.get_set_ne _ _ _ _ _ _ (by decide)]
    rw [makeReady, hready] at hgive
    exact sets_cells hgive rfl
  · exact gives_mwEnd
  · intro h hkind
    exact sets_issued (l := []) (gives_micro h (exec_mwPost q t s) rfl (if_neg hkind)) rfl
  · intro h hkind
    refine gives_micro h (exec_mwPost q t s) rfl ((if_pos hkind).trans ?_)
    rw [gr_issued, gr_issued]
  · intro h
    exact sets_issued (gives_micro h (exec_mwSig q t s) rfl rfl) rfl

end Sys2Proof.Machine
end

section
/-! Words of the arm, the servo and the resources (O35, O36). -/

namespace Sys2Proof.Machine

theorem setGr_eq_grCell (q t r v : Nat) (s : State) : setGr q t r v s = setAll (grCell q t r v) s := by
  unfold setGr grCell
  split <;> rfl

/-- A servo word of the thread that has the arm. -/
theorem gives_servoWord {c : Instr} {s u : State} {code q t : Nat} {eff : MicroWord → State → State} (h : Issues code q t s)
    (hx : exec c s = servoWord code q t eff s) (harm : hasArm s q t = true) (hu : eff (wordOf s q t) (issued s q t) = u) : Gives c s u :=
  gives_micro h hx rfl ((if_pos ((hasArm_issued s q t).trans harm)).trans hu)

/-- A servo word of a thread without the arm. -/
theorem gives_servoWord_fault {c : Instr} {s : State} {code q t : Nat} {eff : MicroWord → State → State} (h : Issues code q t s)
    (hx : exec c s = servoWord code q t eff s) (harm : hasArm s q t = false) :
    Gives c s (threadFault 7 q t (setPc q t (pcOf s q t) (issued s q t))) :=
  gives_micro h hx rfl (if_neg (by rw [hasArm_issued, harm]; decide))

/-- Without an operation of the ladder the arm brings no offset of its own. -/
theorem attemptOffset_of_plain {s : State} {q t : Nat} (h : ∀ o, KV.get s.sqOps (thrNo q t) = some o → o.kind ≠ 8) :
    attemptOffset q t s = s := by
  unfold attemptOffset
  cases hop : KV.get s.sqOps (thrNo q t) with
  | none => rfl
  | some o =>
    have hladder : ladderOf s o = none := if_neg (h o hop)
    simp only [hladder]

theorem gives_mwArmAcq_free {s : State} {q t : Nat} (h : Issues 0x20 q t s) (harm : hasArm s q t = false)
    (hfree : s.get SQ_STATUS.arm_held q = 0) : Gives (.mwArmAcq q t) s (giveArm q t (issued s q t)) := by
  refine gives_micro h (exec_mwArmAcq q t s) rfl ((if_neg ?_).trans (if_pos ?_))
  · rw [hasArm_issued, harm]
    decide
  · rw [keepsRegs_issued s q t _ _ (by decide)]
    exact hfree

/-- Settles O35: who holds the arm decides what each word of the arm and of the servo does. -/
theorem armWords : Obligations.ArmWords := by
  intro s q t w u next
  refine ⟨?_, ?_, ?_, ?_, ?_, ?_, ?_, ?_, ?_, ?_⟩
  · intro h harm
    exact sets_issued (l := []) (gives_micro h (exec_mwArmAcq q t s) rfl (if_pos ((hasArm_issued s q t).trans harm))) rfl
  · intro h harm hfree
    refine ⟨fun hplain => ?_, gives_mwArmAcq_free h harm hfree⟩
    have hgive := gives_mwArmAcq_free h harm hfree
    rw [giveArm, attemptOffset_of_plain (by exact hplain)] at hgive
    exact sets_issued hgive rfl
  · intro h
    exact gives_micro h (exec_mwArmRel q t s) rfl rfl
  · intro h harm
    refine gives_servoWord h (exec_mwSeek q t s) harm ?_
    rw [gr_issued]
    rfl
  · intro h harm
    exact gives_servoWord_fault h (exec_mwSeek q t s) harm
  · intro h harm
    refine sets_issued (gives_servoWord h (exec_mwComb q t s) harm ?_) rfl
    rw [gr_issued]
    rfl
  · intro h harm
    exact gives_servoWord h (exec_mwSubc q t s) harm rfl
  · intro h harm
    exact gives_servoWord h (exec_mwOfs q t s) harm rfl
  · intro h
    have hgive : Gives (.mwSpred q t) s (setGr q t w.rd (seekTime u q (gr s q t w.ra)) u) := by
      refine gives_micro h (exec_mwSpred q t s) rfl ?_
      rw [gr_issued]
    rw [setGr_eq_grCell] at hgive
    refine sets_issued hgive ?_
    unfold grCell
    split <;> rfl
  · intro h harm
    exact gives_servoWord h (exec_mwCrel q t s) harm rfl

/-- Settles O36: each word asks for or gives back one resource of its thread. -/
theorem resourceWords : Obligations.ResourceWords := by
  intro s q t w u k
  refine ⟨?_, ?_, ?_, ?_, ?_, ?_, ?_, ?_, ?_, ?_⟩
  · intro h hfew
    exact gives_micro h (exec_mwPwrReq q t s) rfl (if_neg (fun hfull => Nat.not_le.2 hfew hfull.1))
  · intro h hall
    exact gives_micro h (exec_mwPwrRel q t s) rfl (if_pos hall)
  · intro h hall hnone
    refine sets_issued (l := []) (gives_micro h (exec_mwPwrRel q t s) rfl ((if_neg (by rw [hall]; decide)).trans (if_neg ?_))) rfl
    rw [gr_issued]
    exact Bool.eq_false_iff.1 hnone
  · intro h r hfree
    exact gives_micro h (exec_mwFlmReq q t s) rfl (if_neg (Bool.eq_false_iff.1 hfree))
  · intro h hall
    exact gives_micro h (exec_mwFlmRel q t s) rfl (if_neg (by rw [hall]; decide))
  · intro h hnone
    refine gives_micro h (exec_mwResGet q t s) rfl ?_
    have hqueue : KV.getD (issued s q t).sqRes (thrNo q t) [] = [] := hnone
    simp only [hqueue]
    rfl
  · intro slot v r h hsome
    refine gives_micro h (exec_mwResGet q t s) rfl ?_
    have hqueue : KV.getD (issued s q t).sqRes (thrNo q t) [] = (slot, v) :: r := hsome
    simp only [hqueue]
    rfl
  · intro slot v r h hsome
    refine gives_micro h (exec_mwVresGet q t s) rfl ?_
    have hqueue : KV.getD (issued s q t).sqVres (thrNo q t) [] = (slot, v) :: r := hsome
    simp only [hqueue]
    rfl
  · intro h
    exact gives_micro h (exec_mwWrArm q t s) rfl rfl
  · intro h hopen
    exact gives_micro h (exec_mwWrAbort q t s) rfl (if_pos hopen)

end Sys2Proof.Machine
end

section
/-! The control of a sequencer (O37). -/

namespace Sys2Proof.Machine

/-- The reset state, with the reset value of SQ_CTRL.thread_en of sequencer 0 stored as an entry of its own. -/
def storedResetState : State := { State.reset with regs := [((SQ_CTRL.thread_en.id, 0), 0)] }

/-- The identity of SQ_CTRL.thread_en under another reset value, which reads 1 where no entry is stored. -/
def otherReset : Fld := { SQ_CTRL.thread_en with reset := fun _ => 1 }

theorem gives_threadEnableWrite_stored : Gives (.threadEnableWrite 0 0) storedResetState (storedResetState.set SQ_CTRL.thread_en 0 0) :=
  gives_run (exec_threadEnableWrite 0 0 _) rfl (by decide) (by decide) rfl

/-- Refutes O37: writing the value that SQ_CTRL.thread_en has is not without effect on every state. Where the store holds an entry for a
reset value, the write drops the entry, and the frame of `Sets` speaks of every `Fld`, of one with this identity and another reset value
too: it read the entry's 0 before and reads its own 1 after. -/
theorem not_sequencerControl : ¬ Obligations.SequencerControl := by
  unfold Obligations.SequencerControl
  intro h
  obtain ⟨-, -, -, -, -, -, -, hsame, -⟩ := h storedResetState 0 (by decide) (by decide)
  obtain ⟨t, hx, -, -, hframe⟩ := hsame 0 rfl (by decide)
  have ht : settled storedResetState (storedResetState.set SQ_CTRL.thread_en 0 0) = t :=
    Host.Outcome.next.inj (gives_threadEnableWrite_stored.symm.trans hx)
  have hkept : t.get otherReset 0 = 0 := hframe otherReset 0 rfl (by decide)
  have hwritten : t.get otherReset 0 = 1 := by
    rw [← ht, settled_get _ _ _ _ (by decide)]
    decide
  exact absurd (hkept.symm.trans hwritten) (by decide)

end Sys2Proof.Machine
end

section
/-! What a result that microcode posts leaves (O34). -/

namespace Sys2Proof.Machine

/-- Deleting what is not there. -/
theorem KV.del_of_get_none {κ β : Type} [DecidableEq κ] {m : List (κ × β)} {k : κ} (h : KV.get m k = none) : KV.del m k = m := by
  induction m with
  | nil => rfl
  | cons c r ih =>
    obtain ⟨a, w⟩ := c
    unfold KV.get at h
    unfold KV.del
    by_cases hk : a = k
    · rw [if_pos hk] at h
      cases h
    · rw [if_neg hk] at h ⊢
      rw [ih h]

/-- The part's own results are kept, the oldest of 64 dropped. -/
def keepOwnResult (track word : Nat) (s : State) : State :=
  { s with recResults :=
    (if 64 ≤ (s.recResults.filter (fun r => r.1 == 0)).length
      then s.recResults.erase ((s.recResults.filter (fun r => r.1 == 0)).headD (0, (0, 0))) else s.recResults) ++ [(0, (track, word))] }

/-- The counters of the rungs. -/
def rungCounters : List (Nat × Fld) :=
  [(1, MS_RL_HEAD_CNT0.rung1), (2, MS_RL_HEAD_CNT0.rung2), (3, MS_RL_HEAD_CNT1.rung3), (4, MS_RL_HEAD_CNT1.rung4),
   (5, MS_RL_HEAD_CNT1.rung5), (6, MS_RL_HEAD_CNT1.rung6)]

/-- A result posted by a thread with neither an operation nor notes is one of the part's own. -/
theorem ladPosted_own {s : State} {k word track : Nat} (hop : KV.get s.sqOps k = none) (hnotes : KV.get s.ladNotes k = none) :
    ladPosted k word track s = recoveryResult { (default : MsOp) with kind := 5 } word track s := by
  unfold ladPosted
  simp only [KV.getD, hnotes, Option.getD_none, List.filter_nil, kset, if_true, KV.del_of_get_none hnotes, hop]

/-- The key of the part's own results is 0. -/
theorem ownResult_eq (s : State) (track word key : Nat) (hkey : key = 0) :
    { s with recResults := (if key = 0 ∧ 64 ≤ (s.recResults.filter (fun r => r.1 == key)).length
      then s.recResults.erase ((s.recResults.filter (fun r => r.1 == key)).headD (0, (0, 0))) else s.recResults) ++ [(key, (track, word))] }
      = keepOwnResult track word s := by
  subst hkey
  simp only [true_and]
  rfl

/-- A recovered sector counts for its rung. -/
theorem recoveryResult_recovered {s : State} {word track : Nat} {p : Nat × Fld} (hp : p ∈ rungCounters) (ho : word / 2 ^ 40 % 8 = 0)
    (hr : p.1 = word / 2 ^ 43 % 8) : recoveryResult { (default : MsOp) with kind := 5 } word track s =
      if s.get MS_RL_CTRL.log_rung ≤ word / 2 ^ 43 % 8 then
        (((keepOwnResult track word s).raise MS_RL_INT.recovered).inc p.2 (word / 2 ^ 46 % 64)).event 2 (word / 2 ^ 46 % 64) 0 [word, track]
      else ((keepOwnResult track word s).raise MS_RL_INT.recovered).inc p.2 (word / 2 ^ 46 % 64) := by
  unfold recoveryResult
  extract_lets plain key same kept own head rung outcome raised counted
  have hown : own = keepOwnResult track word s := ownResult_eq s track word key (if_pos (Or.inl rfl))
  have hout : outcome = 0 := ho
  have hrung : rung = p.1 := hr.symm
  have hcounted : counted = ((keepOwnResult track word s).raise MS_RL_INT.recovered).inc p.2 head := by
    simp only [counted, raised, hout, hrung, hown]
    simp only [rungCounters, List.mem_cons, List.not_mem_nil, or_false] at hp
    rcases hp with rfl | rfl | rfl | rfl | rfl | rfl <;> rfl
  have hlog : counted.get MS_RL_CTRL.log_rung = s.get MS_RL_CTRL.log_rung := by
    have hne : p.2.id ≠ MS_RL_CTRL.log_rung.id := by
      simp only [rungCounters, List.mem_cons, List.not_mem_nil, or_false] at hp
      rcases hp with rfl | rfl | rfl | rfl | rfl | rfl <;> decide
    rw [hcounted, State.inc, State.get_set_ne _ _ _ _ _ _ hne, State.raise, State.get_set_ne _ _ _ _ _ _ (by decide)]
    rfl
  rw [hlog, hcounted, hout]
  simp only [ne_eq, not_true_eq_false, or_false, if_true]
  rfl

/-- A sector recovered without a rung changes no counter. -/
theorem recoveryResult_rung0 {s : State} {word track : Nat} (ho : word / 2 ^ 40 % 8 = 0) (hr : word / 2 ^ 43 % 8 = 0)
    (hlog : 0 < s.get MS_RL_CTRL.log_rung) :
    recoveryResult { (default : MsOp) with kind := 5 } word track s = keepOwnResult track word s := by
  unfold recoveryResult
  extract_lets plain key same kept own head rung outcome raised counted
  have hown : own = keepOwnResult track word s := ownResult_eq s track word key (if_pos (Or.inl rfl))
  have hout : outcome = 0 := ho
  have hrung : rung = 0 := hr
  have hcounted : counted = keepOwnResult track word s := by
    simp only [counted, raised, hout, hrung, hown]
    rfl
  rw [hcounted, hout, hrung]
  exact if_neg (not_or.2 ⟨Nat.not_le.2 hlog, by decide⟩)

theorem recoveryResult_urgent {s : State} {word track : Nat} (ho : word / 2 ^ 40 % 8 = 3) :
    recoveryResult { (default : MsOp) with kind := 5 } word track s =
      ((((keepOwnResult track word s).inc MS_RL_HEAD_CNT2.urgent_stops (word / 2 ^ 46 % 64)).raise MS_RL_INT.urgent_stop).raise
        MS_RL_INT.unrecovered).event 2 (word / 2 ^ 46 % 64) 2 [word, track] := by
  unfold recoveryResult
  extract_lets plain key same kept own head rung outcome raised counted
  have hown : own = keepOwnResult track word s := ownResult_eq s track word key (if_pos (Or.inl rfl))
  have hout : outcome = 3 := ho
  have hcounted : counted = (((keepOwnResult track word s).inc MS_RL_HEAD_CNT2.urgent_stops head).raise MS_RL_INT.urgent_stop).raise
      MS_RL_INT.unrecovered := by
    simp only [counted, hout, hown]
  rw [hcounted, hout]
  exact if_pos (Or.inr (by decide))

theorem recoveryResult_lost {s : State} {word track : Nat} (ho : word / 2 ^ 40 % 8 = 1 ∨ word / 2 ^ 40 % 8 = 2 ∨ word / 2 ^ 40 % 8 = 4) :
    recoveryResult { (default : MsOp) with kind := 5 } word track s =
      (((keepOwnResult track word s).inc MS_RL_HEAD_CNT2.unrecovered (word / 2 ^ 46 % 64)).raise MS_RL_INT.unrecovered).event 2
        (word / 2 ^ 46 % 64) 1 [word, track] := by
  unfold recoveryResult
  extract_lets plain key same kept own head rung outcome raised counted
  have hown : own = keepOwnResult track word s := ownResult_eq s track word key (if_pos (Or.inl rfl))
  have hout : outcome = 1 ∨ outcome = 2 ∨ outcome = 4 := ho
  have hcounted : counted = ((keepOwnResult track word s).inc MS_RL_HEAD_CNT2.unrecovered head).raise MS_RL_INT.unrecovered := by
    rcases hout with h | h | h <;> simp only [counted, h, hown]
  have hzero : outcome ≠ 0 := by rcases hout with h | h | h <;> rw [h] <;> decide
  have hurgent : outcome ≠ 3 := by rcases hout with h | h | h <;> rw [h] <;> decide
  rw [hcounted]
  simp only [hzero, hurgent, if_false, ne_eq, not_false_eq_true, or_true, if_true]
  rfl

end Sys2Proof.Machine
end

section
/-! The attempts of each rung, the recovery head and the best settings (O34). -/

namespace Sys2Proof.Machine

theorem ladPlan_rung1 {s : State} {l : Ladder} (h : l.rung = 1) : ladPlan s l =
    List.replicate (s.get MS_RL_CLASS.r1_tries l.op.cls) plainTry
      ++ (if s.get MS_RL_CLASS.runner_up l.op.cls = 1 then [{ plainTry with runner := true }] else [])
      ++ (List.range (min 4 (s.get MS_RL_CLASS.r1_shifts l.op.cls))).map
        (fun i => { plainTry with shift := s.get MS_RL_SHIFT.shifts / 2 ^ (8 * i) % 64 }) := by
  simp only [ladPlan, h]

theorem ladPlan_rung2 {s : State} {l : Ladder} (h : l.rung = 2) : ladPlan s l = if ladTwinOk s l then [plainTry] else [] := by
  simp only [ladPlan, h]

theorem mem_ladPlan_rung1 {s : State} {l : Ladder} {t : LadTry} (h : l.rung = 1) (ht : t ∈ ladPlan s l) :
    ∃ shift runner, t = { plainTry with shift := shift, runner := runner } := by
  rw [ladPlan_rung1 h, List.mem_append, List.mem_append] at ht
  rcases ht with (hplain | hrunner) | hshift
  · exact ⟨_, _, List.eq_of_mem_replicate hplain⟩
  · split at hrunner
    · exact ⟨_, _, List.mem_singleton.1 hrunner⟩
    · cases hrunner
  · obtain ⟨i, -, rfl⟩ := List.mem_map.1 hshift
    exact ⟨_, _, rfl⟩

theorem mem_ladPlan_rung2 {s : State} {l : Ladder} {t : LadTry} (h : l.rung = 2) (ht : t ∈ ladPlan s l) : t = plainTry := by
  rw [ladPlan_rung2 h] at ht
  split at ht
  · exact List.mem_singleton.1 ht
  · cases ht

/-- Rung 3 tries offsets that keep the head's displacement within its limit. -/
theorem mem_ladPlan_rung3 {s : State} {l : Ladder} {t : LadTry} (h : l.rung = 3) (ht : t ∈ ladPlan s l) :
    ∃ off, t = { plainTry with off := off } ∧ offsetFits s l (ladHead s l) off = true := by
  simp only [ladPlan, h] at ht
  obtain ⟨off, hoff, rfl⟩ := List.mem_map.1 ht
  exact ⟨off, rfl, (List.mem_filter.1 hoff).2⟩

/-- Rung 4 tries the alternative targets that are set. -/
theorem mem_ladPlan_rung4 {s : State} {l : Ladder} {t : LadTry} (h : l.rung = 4) (ht : t ∈ ladPlan s l) :
    ∃ i, t = { plainTry with alt := i + 1 } ∧ i < 8 ∧ s.get DP_ALT_TARGET.target i ≠ 0 := by
  simp only [ladPlan, h] at ht
  obtain ⟨i, hi, rfl⟩ := List.mem_map.1 ht
  obtain ⟨hrange, hset⟩ := List.mem_filter.1 hi
  exact ⟨i, rfl, (List.mem_range.1 hrange).trans_le (Nat.min_le_left ..), by simpa using hset⟩

theorem mem_ladPlan_rung5 {s : State} {l : Ladder} {t : LadTry} (h : l.rung = 5) (ht : t ∈ ladPlan s l) :
    ∃ weight, t = { plainTry with off := bestOff l (ladHead s l), alt := bestAlt l (ladHead s l), weight := weight } := by
  simp only [ladPlan, h] at ht
  split at ht
  · cases ht
  · obtain ⟨i, -, rfl⟩ := List.mem_map.1 ht
    exact ⟨_, rfl⟩

theorem mem_ladPlan_rung6 {s : State} {l : Ladder} {t : LadTry} (h : l.rung = 6) (ht : t ∈ ladPlan s l) :
    ∃ x ∈ l.secs, t = combineTry s l (ladHead s l) x.sector := by
  simp only [ladPlan, h] at ht
  split at ht
  · cases ht
  · obtain ⟨x, hx, rfl⟩ := List.mem_map.1 ht
    exact ⟨x, hx, rfl⟩

/-- Only rungs 1 to 6 plan an attempt. -/
theorem rung_of_mem_ladPlan {s : State} {l : Ladder} {t : LadTry} (ht : t ∈ ladPlan s l) :
    l.rung = 1 ∨ l.rung = 2 ∨ l.rung = 3 ∨ l.rung = 4 ∨ l.rung = 5 ∨ l.rung = 6 := by
  by_contra hnone
  simp only [not_or] at hnone
  obtain ⟨h1, h2, h3, h4, h5, h6⟩ := hnone
  unfold ladPlan at ht
  split at ht <;> contradiction

/-- A walk that keeps the least value of `f` ends at the value it began with, or at a member of the list, below it. -/
theorem foldl_least {α : Type} (f : α → Nat) (l : List α) (n : Nat) (z : α) :
    let r := l.foldl (fun (b : Nat × α) x => if f x < b.1 then (f x, x) else b) (n, z)
    (∀ x ∈ l, r.1 ≤ f x) ∧ r.1 ≤ n ∧ (r = (n, z) ∨ (r.2 ∈ l ∧ r.1 = f r.2 ∧ r.1 < n)) := by
  induction l generalizing n z with
  | nil => exact ⟨List.forall_mem_nil _, le_rfl, .inl rfl⟩
  | cons a l ih =>
    intro r
    by_cases ha : f a < n
    · have hr : r = l.foldl (fun (b : Nat × α) x => if f x < b.1 then (f x, x) else b) (f a, a) :=
        congrArg (fun b => l.foldl _ b) (if_pos ha)
      obtain ⟨hall, hle, hend⟩ := ih (f a) a
      rw [← hr] at hall hle hend
      refine ⟨List.forall_mem_cons.2 ⟨hle, hall⟩, hle.trans ha.le, .inr ?_⟩
      rcases hend with heq | ⟨hmem, hval, hlt⟩
      · rw [heq]
        exact ⟨List.mem_cons_self .., rfl, ha⟩
      · exact ⟨List.mem_cons_of_mem _ hmem, hval, hlt.trans ha⟩
    · have hr : r = l.foldl (fun (b : Nat × α) x => if f x < b.1 then (f x, x) else b) (n, z) :=
        congrArg (fun b => l.foldl _ b) (if_neg ha)
      obtain ⟨hall, hle, hend⟩ := ih n z
      rw [← hr] at hall hle hend
      refine ⟨List.forall_mem_cons.2 ⟨hle.trans (Nat.not_lt.1 ha), hall⟩, hle, hend.imp_right ?_⟩
      rintro ⟨hmem, hval, hlt⟩
      exact ⟨List.mem_cons_of_mem _ hmem, hval, hlt⟩

/-- The best setting of a rung is none, or the one tried with the lowest sum, below the one without settings. -/
theorem bestAt_spec {α : Type} [BEq α] (l : Ladder) (h rung : Nat) (zero : α) (v : LadTry → α) (hne : bestAt l h rung zero v ≠ zero) :
    let sum := fun x => (ladSumOf l h (fun e => e.rung == rung && v e.set == x)).getD 100000000
    bestAt l h rung zero v ∈ triedAt l h rung v ∧ sum (bestAt l h rung zero v) < (ladSumOf l h zeroRead).getD 100000000
    ∧ ∀ x ∈ triedAt l h rung v, sum (bestAt l h rung zero v) ≤ sum x := by
  intro sum
  obtain ⟨hall, -, hend⟩ := foldl_least sum (triedAt l h rung v) ((ladSumOf l h zeroRead).getD 100000000) zero
  rcases hend with heq | ⟨hmem, hval, hlt⟩
  · exact absurd (congrArg Prod.snd heq) hne
  · exact ⟨hmem, hval ▸ hlt, fun x hx => hval ▸ hall x hx⟩

/-- What POST of a recovery result does, for a thread with neither an operation nor notes. -/
theorem gives_mwPost_own {s u : State} {q t : Nat} (h : Issues 0x10 q t s) (hkind : (wordOf s q t).imm % 16 = 1)
    (hop : KV.get s.sqOps (thrNo q t) = none) (hnotes : KV.get s.ladNotes (thrNo q t) = none)
    (hu : recoveryResult { (default : MsOp) with kind := 5 } (gr s q t (wordOf s q t).ra) (gr s q t (wordOf s q t).rb) (issued s q t) = u) :
    Gives (.mwPost q t) s u := by
  refine gives_micro h (exec_mwPost q t s) rfl ((if_pos hkind).trans ?_)
  have hown := ladPosted_own (s := issued s q t) (k := thrNo q t) (word := gr s q t (wordOf s q t).ra)
    (track := gr s q t (wordOf s q t).rb) hop hnotes
  rw [gr_issued, gr_issued, hown]
  exact hu

theorem ladRec_of_twin {s : State} {l : Ladder} {w a b : Nat} (hw : s.image.twin l.head0 = some w) (ha : ladSum l l.head0 = some a)
    (hb : ladSum l w = some b) : ladRec s l =
      if a < b then l.head0 else if b < a then w else if w / 16 = writingAct s l.op.zone l.op.pos then w else l.head0 := by
  simp only [ladRec, ladOther, hw, ha, hb]

/-- The cells of an own result's counter are plain beside those of the word. -/
theorem plain_recovered (s : State) (q t head : Nat) {p : Nat × Fld} (hp : p ∈ rungCounters) :
    plainCells (issuedCells s q t (pcOf s q t + 1) ++ [(MS_RL_INT.recovered, 0, 1), (p.2, head, s.get p.2 head + 1)]) = true := by
  simp only [rungCounters, List.mem_cons, List.not_mem_nil, or_false] at hp
  rcases hp with rfl | rfl | rfl | rfl | rfl | rfl <;> rfl

/-- Issuing and recording a recovery leave the counters of the rungs as they are. -/
theorem rungCounter_kept (s : State) (q t track word head : Nat) {p : Nat × Fld} (hp : p ∈ rungCounters) :
    ((keepOwnResult track word (issued s q t)).raise MS_RL_INT.recovered).get p.2 head = s.get p.2 head := by
  have hown : KeepsRegs issueIds s (keepOwnResult track word (issued s q t)) := (keepsRegs_issued s q t).congr_regs rfl
  have hkeep : KeepsRegs (MS_RL_INT.recovered.id :: issueIds) s ((keepOwnResult track word (issued s q t)).raise MS_RL_INT.recovered) :=
    (hown.mono (fun _ h => List.mem_cons_of_mem _ h)).set _ _ _ (List.mem_cons_self ..)
  refine hkeep _ _ ?_
  simp only [rungCounters, List.mem_cons, List.not_mem_nil, or_false] at hp
  rcases hp with rfl | rfl | rfl | rfl | rfl | rfl <;> decide

/-- Settles O34: a posted result is counted under its outcome, each rung's plan has one form, the recovery head compares two sums, and the
best setting is the least of a walk. -/
theorem recoveryLadder : Obligations.RecoveryLadder := by
  intro s
  refine ⟨?_, ?_, ?_, ?_, ?_⟩
  · intro q t h hkind hop hnotes word track head rung outcome next own keep
    have hlog : (issued s q t).get MS_RL_CTRL.log_rung = s.get MS_RL_CTRL.log_rung := keepsRegs_issued s q t _ _ (by decide)
    refine ⟨?_, ?_, ?_, ?_, ?_⟩
    · intro ho hr hpos
      have hgive := gives_mwPost_own h hkind hop hnotes (recoveryResult_rung0 ho hr (hlog ▸ hpos))
      rw [issued_eq_setAll] at hgive
      exact effect_cells (g := keep) hgive rfl rfl
    · intro ho hlow p hp hrung hroom
      have hgive := gives_mwPost_own h hkind hop hnotes (recoveryResult_recovered hp ho hrung)
      rw [hlog, if_neg (Nat.not_le.2 hlow), State.inc_of_lt (by rw [rungCounter_kept _ _ _ _ _ _ hp]; exact hroom),
        rungCounter_kept _ _ _ _ _ _ hp, issued_eq_setAll] at hgive
      exact effect_cells (g := keep) hgive rfl (plain_recovered s q t head hp)
    · intro ho _ hhigh p hp hrung
      refine gives_mwPost_own h hkind hop hnotes ((recoveryResult_recovered hp ho hrung).trans ?_)
      rw [hlog]
      exact if_pos hhigh
    · intro ho
      exact gives_mwPost_own h hkind hop hnotes (recoveryResult_urgent ho)
    · intro ho
      exact gives_mwPost_own h hkind hop hnotes (recoveryResult_lost ho)
  · intro l t ht
    rcases rung_of_mem_ladPlan ht with h | h | h | h | h | h
    · obtain ⟨shift, runner, rfl⟩ := mem_ladPlan_rung1 h ht
      simp [h, plainTry]
    · obtain rfl := mem_ladPlan_rung2 h ht
      simp [h, plainTry]
    · obtain ⟨off, rfl, hfit⟩ := mem_ladPlan_rung3 h ht
      simpa [h, plainTry, offsetFits] using hfit
    · obtain ⟨i, rfl, hi, hset⟩ := mem_ladPlan_rung4 h ht
      simp [h, plainTry, hset]
      omega
    · obtain ⟨weight, rfl⟩ := mem_ladPlan_rung5 h ht
      simp [h, plainTry]
    · obtain ⟨x, hx, rfl⟩ := mem_ladPlan_rung6 h ht
      simp [h, plainTry, combineTry]
      exact ⟨x, hx, rfl⟩
  · intro l c
    refine ⟨fun h => ?_, fun h => ?_, fun h => ?_, fun h => ?_, fun h => ?_, fun h => ?_⟩
    · rw [ladPlan_rung1 h]
      split <;> simp +arith [c]
    · rw [ladPlan_rung2 h]
      refine ⟨by split <;> simp, fun hnone => if_neg ?_⟩
      simp [ladTwinOk, ladOther, hnone]
    · simp only [ladPlan, h, List.length_map]
      exact (List.length_filter_le ..).trans (by simp [c])
    · simp only [ladPlan, h, List.length_map]
      exact (List.length_filter_le ..).trans (by simp [c])
    · simp only [ladPlan, h]
      refine ⟨?_, fun hone => if_pos hone⟩
      split <;> simp [c]
    · simp only [ladPlan, h]
      split <;> simp
  · intro l
    refine ⟨fun hnone => by simp only [ladRec, ladOther, hnone], fun w a b hw ha hb => ?_⟩
    rw [ladRec_of_twin hw ha hb]
    refine ⟨fun hlt => if_pos hlt, fun hlt => (if_neg hlt.not_gt).trans (if_pos hlt), fun heq => ?_⟩
    exact (if_neg heq.not_lt).trans (if_neg heq.not_gt)
  · intro l h plain sum
    refine ⟨fun v hv => ?_, fun v hv => ?_, fun hne => ?_, fun hne => ?_, fun hne => ?_⟩
    · by_cases hzero : bestOff l h = 0
      · exact .inr hzero
      · exact .inl ((bestAt_spec l h 3 0 (fun t => t.off) hzero).2.2 v hv)
    · by_cases hzero : bestAlt l h = 0
      · exact .inr hzero
      · exact .inl ((bestAt_spec l h 4 0 (fun t => t.alt) hzero).2.2 v hv)
    · obtain ⟨hmem, hlt, -⟩ := bestAt_spec l h 3 0 (fun t => t.off) hne
      exact ⟨hmem, hlt⟩
    · obtain ⟨hmem, hlt, -⟩ := bestAt_spec l h 4 0 (fun t => t.alt) hne
      exact ⟨hmem, hlt⟩
    · exact bestAt_spec l h 5 0 (fun t => t.weight) hne

end Sys2Proof.Machine
end

section
/-! Namespaces, recovery and the journal (O38), and the media scheduler (O39). -/

namespace Sys2Proof.Machine

/-- A field is on unless it reads 0. -/
theorem State.on_of_get {s : State} {f : Fld} {i v : Nat} (h : s.get f i = v) (hv : v ≠ 0) : s.on f i = true :=
  (s.on_eq_true_iff f i).2 (h ▸ hv)

/-- With no zone on the media the replay leaves no zone written. -/
theorem gives_recoveryComplete_empty {s : State} (hup : coreUp s = true) (hrun : s.on X.zx_recovering = true)
    (hsan : s.get X.san_active = 0) (hmedia : s.mediaZones = []) : Gives (.recoveryComplete true) s
      (setAll [(X.zx_recovering, 0, 0), (ZX_INT.recovered, 0, 1), (ZX_JRN_STATUS.active, 0, s.get X.zx_med_active),
        (ZX_JRN_STATUS.seq, 0, s.get X.zx_med_seq), (ZX_JRN_STATUS.used, 0, 0), (X.zx_ckpt, 0, 0)]
        { s with zones := [], jrnWait := [], jrnPos := [] }) := by
  refine gives_run (exec_recoveryComplete true s) rfl rfl hup ((if_pos hrun).trans ?_)
  extract_lets cleared emptied replayed pair active used
  rw [if_pos rfl]
  have hkept : KeepsRegs [X.zx_recovering.id] s emptied :=
    KeepsRegs.congr_regs ((KeepsRegs.refl _ s).set X.zx_recovering 0 0 (by decide)) rfl
  have hreplayed : replayed = emptied.raise ZX_INT.recovered := by
    have hnone : emptied.mediaZones = [] := hmedia
    simp only [replayed, hnone, List.foldl_nil]
  have hpair : pair = s.get X.zx_med_active := by
    simp (disch := decide) only [pair, hreplayed, State.raise, State.get_set_ne, hkept X.zx_med_active 0]
  have hactive : active = (replayed.set ZX_JRN_STATUS.active 0 pair).set ZX_JRN_STATUS.seq 0 (s.get X.zx_med_seq) := by
    simp (disch := decide) only [active, hreplayed, State.raise, State.get_set_ne, hkept X.zx_med_seq 0]
  have hused : used.get X.san_active = 0 := by
    simp (disch := decide) only [used, active, hreplayed, State.raise, State.clear, State.get_set_ne, hkept X.san_active 0, hsan]
  have hzone (z : Nat) : zoneOf active z = emptyZone := by
    rw [hactive, hreplayed]
    rfl
  have hwritten : used = (active.set ZX_JRN_STATUS.used 0 0).clear X.zx_ckpt := by
    simp only [used, hzone]
    rfl
  rw [hused, if_neg (by decide), if_neg (by decide), hwritten, hactive, hreplayed, hpair]
  rfl

/-- Settles O38: whether the namespace is enabled and conflicts, whether a replay runs, and whether the journal is stopped decide. -/
theorem zoneTables : Obligations.ZoneTables := by
  intro s hup
  refine ⟨?_, ?_, ?_, ?_, ?_, ?_, ?_, ?_, ?_, ?_⟩
  · intro n hn hon
    exact sets_nothing (gives_run (exec_nsEnable n s) rfl (decide_eq_true hn) hup (if_pos hon))
  · intro n hn hoff hbad
    exact sets_cells (gives_run (exec_nsEnable n s) rfl (decide_eq_true hn) hup ((if_neg (by rw [hoff]; decide)).trans (if_pos hbad))) rfl
  · intro n hn hoff hgood hpin
    refine gives_run (exec_nsEnable n s) rfl (decide_eq_true hn) hup ((if_neg (by rw [hoff]; decide)).trans
      ((if_neg (by rw [hgood]; decide)).trans (if_neg ?_)))
    have hkept : (s.set ZX_NS.enable n 1).on ZX_NS.pin n = false :=
      ((KeepsRegs.refl [ZX_NS.enable.id] s).set _ _ _ (by decide)).on n (by decide) |>.trans hpin
    rw [hkept, Bool.false_and]
    decide
  · exact sets_cells (gives_run (exec_recover s) rfl rfl hup rfl) rfl
  · intro hrun
    exact sets_cells (gives_run (exec_recoveryComplete false s) rfl rfl hup (if_pos hrun)) rfl
  · intro hrun hsan hmedia
    exact effect_cells (gives_recoveryComplete_empty hup hrun hsan hmedia) rfl rfl
  · intro hidle ok
    exact sets_nothing (gives_run (exec_recoveryComplete ok s) rfl rfl hup (if_neg (by rw [hidle]; decide)))
  · intro hstop
    exact ⟨sets_nothing (gives_run (exec_checkpointNow s) rfl rfl hup (if_pos hstop)),
      sets_nothing (gives_run (exec_journalWrite s) rfl rfl hup (if_pos (.inr (.inl hstop))))⟩
  · intro hgo
    exact gives_run (exec_checkpointNow s) rfl rfl hup (if_neg (by rw [hgo]; decide))
  · intro hgo hckpt hwait hroom
    refine gives_run (exec_journalWrite s) rfl rfl hup ((if_neg ?_).trans (if_neg (by rw [hroom]; decide)))
    simp [hgo, hckpt, hwait]

/-- The state in which the scheduler picks: operations that wait moved up, the actuator out of idle, reservations asked for. -/
def dispatchBase (a : Nat) (s : State) : State :=
  let u := msReady a s
  let u := if (opsOf u a).isEmpty then u else leaveIdleA u
  ((opsOf u a).filter (fun o => o.kind == 1 || o.kind == 4)).foldl (fun t o => askReservation o.zone (opEnd t o) t) u

/-- What keeps the scheduler from acting. -/
def dispatchBarred (s : State) (a : Nat) : Prop :=
  s.get MS_CTRL.enable = 0 ∨ s.get ZX_CTRL.enable = 0 ∨ 2 ≤ s.get X.pwr_level ∨ s.get MP_PARK_STATUS.latch ≠ 0
    ∨ (s.get CR_ACT_STATUS.in_reset).testBit a = true

section
variable {s : State} {a : Nat} (hup : coreUp s = true) (ha : a < 4) (hfree : ¬ dispatchBarred s a) (hkept : s.get X.act_lost a ≠ 1)
include hup ha hfree hkept

theorem gives_dispatch_none (hpick : pickOp (dispatchBase a s) a = none) : Gives (.dispatch a) s (dispatchBase a s) := by
  refine gives_run (exec_dispatch a s) rfl (decide_eq_true ha) hup ((if_neg hfree).trans ((if_neg hkept).trans ?_))
  unfold dispatchBase at hpick ⊢
  simp only [hpick]

theorem gives_dispatch_held {o : MsOp} {aged : Bool} (hpick : pickOp (dispatchBase a s) a = some (o, aged))
    (harm : (dispatchBase a s).get SQ_STATUS.arm_held a = 1 ∧ o.cls ≠ 0) : Gives (.dispatch a) s (dispatchBase a s) := by
  refine gives_run (exec_dispatch a s) rfl (decide_eq_true ha) hup ((if_neg hfree).trans ((if_neg hkept).trans ?_))
  unfold dispatchBase at hpick harm ⊢
  simp only [hpick]
  exact if_pos harm

theorem gives_dispatch_full {o : MsOp} {aged : Bool} (hpick : pickOp (dispatchBase a s) a = some (o, aged))
    (harm : ¬ ((dispatchBase a s).get SQ_STATUS.arm_held a = 1 ∧ o.cls ≠ 0)) (hthr : threadFor (dispatchBase a s) a o.cls = none) :
    Gives (.dispatch a) s (dispatchBase a s) := by
  refine gives_run (exec_dispatch a s) rfl (decide_eq_true ha) hup ((if_neg hfree).trans ((if_neg hkept).trans ?_))
  unfold dispatchBase at hpick harm hthr ⊢
  simp only [hpick, hthr]
  exact if_neg harm

theorem gives_dispatch_handed {o : MsOp} {aged : Bool} {t : Nat} (hpick : pickOp (dispatchBase a s) a = some (o, aged))
    (harm : ¬ ((dispatchBase a s).get SQ_STATUS.arm_held a = 1 ∧ o.cls ≠ 0)) (hthr : threadFor (dispatchBase a s) a o.cls = some t) :
    Gives (.dispatch a) s (handOver a t o aged (dispatchBase a s)).spend := by
  refine gives_run (exec_dispatch a s) rfl (decide_eq_true ha) hup ((if_neg hfree).trans ((if_neg hkept).trans ?_))
  unfold dispatchBase at hpick harm hthr ⊢
  simp only [hpick, hthr]
  exact if_neg harm

end

/-- Settles O39: what bars the scheduler, then what the dispatch picks. -/
theorem dispatching : Obligations.Dispatching := by
  intro s a hup ha
  refine ⟨?_, ?_, ?_, ?_⟩
  · intro hbar
    exact sets_nothing (gives_run (exec_dispatch a s) rfl (decide_eq_true ha) hup (if_pos hbar))
  · intro hfree hlost
    exact gives_run (exec_dispatch a s) rfl (decide_eq_true ha) hup ((if_neg hfree).trans (if_pos hlost))
  · intro hfree hkept v w u
    have hbase : u = dispatchBase a s := rfl
    clear_value u
    rw [hbase]
    refine ⟨gives_dispatch_none hup ha hfree hkept, fun o aged hpick => ⟨?_, fun harm => ⟨?_, fun t => ?_⟩⟩⟩
    · exact gives_dispatch_held hup ha hfree hkept hpick
    · exact gives_dispatch_full hup ha hfree hkept hpick harm
    · exact gives_dispatch_handed hup ha hfree hkept hpick harm
  · exact sets_cells (gives_run (exec_scheduleSlot a s) rfl (decide_eq_true ha) hup rfl) rfl

end Sys2Proof.Machine
end

section
/-! The compression engines and the chunk index (O40, O41). -/

namespace Sys2Proof.Machine

/-- A compression that runs may end. -/
theorem gives_compressionDone {s v : State} {e : Nat} {k : Bool} {j : CxJob} (hup : coreUp s = true) (he : e < 8)
    (hrun : KV.get s.cxRun e = some j) (hkind : j.kind = 0) (hmay : cxMay s j = true)
    (hv : (if j.retried then shareSettled 2 j.job (cxEnd e s)
      else
        match deflate j.level (min (s.get CX_CFG.raw_limit) (4096 * j.blocks)) j.data with
        | none => cxEnd e { s.inc CX_STAT.raw with packing := s.packing ++ [(jobExtent s j true j.data, j.job)] }
        | some payload =>
          if k && inflate (4096 * j.blocks) payload == some j.data then
            cxEnd e { s with packing := s.packing ++ [(jobExtent s j false payload, j.job)] }
          else
            let s := s.alarm CX_INT.selfcheck 0 4 e [j.ns, j.chunk]
            cxEnd e { s with packing := s.packing ++ [(jobExtent s j true j.data, j.job)] }) = v) : Gives (.compressionDone e k) s v := by
  refine gives_run (exec_compressionDone e k s) rfl (decide_eq_true he) hup ?_
  simp only [hrun, hkind, hmay]
  exact hv

/-- A job that may not run stays where it is. -/
theorem gives_compressionDone_held {s : State} {e : Nat} {k : Bool} {j : CxJob} (hup : coreUp s = true) (he : e < 8)
    (hrun : KV.get s.cxRun e = some j) (hmay : cxMay s j = false) : Gives (.compressionDone e k) s s := by
  refine gives_run (exec_compressionDone e k s) rfl (decide_eq_true he) hup ?_
  simp only [hrun, hmay, Bool.not_false, or_true, if_true]

theorem gives_expansionDone {s v : State} {e : Nat} {j : CxJob} {x : Extent} (hup : coreUp s = true) (he : e < 8)
    (hrun : KV.get s.cxRun e = some j) (hkind : j.kind ≠ 0) (hmay : cxMay s j = true) (hx : extentOf s j.ns j.chunk = some x)
    (hv : (if (expandExtent x j.data).1 = 0 then expansionGood j (expandExtent x j.data).2 (cxEnd e s)
      else expansionBad e (expandExtent x j.data).1 j (cxEnd e s)) = v) : Gives (.expansionDone e) s v := by
  refine gives_run (exec_expansionDone e s) rfl (decide_eq_true he) hup ?_
  have hgo : ¬ (j.kind = 0 ∨ (!cxMay s j) = true) := by simp [hkind, hmay]
  simp only [hrun, hgo, if_false, hx, Option.getD_some]
  exact hv

/-- Settles O40: whether an engine runs a job, what kind it is and whether it may end decide each command of the engines. -/
theorem compressionEngines : Obligations.CompressionEngines := by
  intro s e hup he
  refine ⟨?_, ?_, ?_, ?_, ?_, ?_, ?_, ?_, ?_, ?_, ?_⟩
  · intro hnone
    refine sets_nothing (gives_run (exec_compressionJobStart s) rfl rfl hup ?_)
    simp only [hnone]
  · intro j k hfirst hon hmay hidle
    refine gives_run (exec_compressionJobStart s) rfl rfl hup ?_
    simp only [hfirst, hon, hmay, hidle, if_false, Bool.not_true, Bool.false_eq_true]
  · intro j k hrun hkind hnew hmay stream keep
    have hdone : ∀ v, _ = v → Gives (.compressionDone e k) s v := fun v hv =>
      gives_compressionDone hup he hrun hkind hmay ((if_neg (by rw [hnew]; decide)).trans hv)
    refine ⟨fun hraw => hdone _ ?_, fun p hp => ⟨fun hk hgood => hdone _ ?_, fun hbad => hdone _ ?_⟩⟩
    · simp only [stream] at hraw
      simp only [hraw]
      rfl
    · simp only [stream] at hp
      simp only [hp, hk, hgood, Bool.true_and, beq_self_eq_true, if_true]
      rfl
    · have hcheck : (k && inflate (4096 * j.blocks) p == some j.data) = false := by
        rcases hbad with h | h <;> simp [h]
      simp only [stream] at hp
      simp only [hp, hcheck, Bool.false_eq_true, if_false]
      rfl
  · intro j k hrun hkind hagain hmay
    exact gives_compressionDone hup he hrun hkind hmay (if_pos hagain)
  · intro k hnone
    constructor
    · refine sets_nothing (gives_run (exec_compressionDone e k s) rfl (decide_eq_true he) hup ?_)
      simp only [hnone]
    · refine sets_nothing (gives_run (exec_expansionDone e s) rfl (decide_eq_true he) hup ?_)
      simp only [hnone]
  · intro j x hrun hkind hmay hx out
    refine ⟨fun hgood => ?_, fun hbad => ?_, fun hgood hread => ?_⟩
    · exact gives_expansionDone hup he hrun hkind hmay hx (if_pos hgood)
    · exact gives_expansionDone hup he hrun hkind hmay hx (if_neg hbad)
    · refine gives_expansionDone hup he hrun hkind hmay hx ((if_pos hgood).trans ?_)
      unfold expansionGood
      exact if_neg (by rw [hread]; decide)
  · intro j k hrun hmay
    refine ⟨sets_nothing (gives_compressionDone_held hup he hrun hmay), sets_nothing (gives_run (exec_expansionDone e s) rfl (decide_eq_true he) hup ?_)⟩
    simp only [hrun, hmay, Bool.not_false, or_true, if_true]
  · intro hfault
    exact sets_nothing (gives_run (exec_engineFault e s) rfl (decide_eq_true he) hup (if_pos hfault))
  · intro hgood
    exact gives_run (exec_engineFault e s) rfl (decide_eq_true he) hup (if_neg hgood)
  · intro hidle hport
    refine sets_cells (gives_run (exec_engineIdleGate e s) rfl (decide_eq_true he) hup ((if_pos hidle).trans ?_)) rfl
    have hnone : cxPort (s.set CX_ENG_STATUS.state e 0) = none := hport
    simp only [hnone]
    exact ite_self _
  · intro hbusy
    exact sets_nothing (gives_run (exec_engineIdleGate e s) rfl (decide_eq_true he) hup (if_neg hbusy))

/-- Settles O41: a forced chunk is looked up among those not yet full, and a rebuild ends only where one runs. -/
theorem compressionIndex : Obligations.CompressionIndex := by
  intro s hup
  refine ⟨?_, ?_, ?_, ?_, ?_, ?_, ?_⟩
  · intro n c hn
    exact gives_run (exec_partialChunkForce n c s) rfl (decide_eq_true hn) hup rfl
  · intro n c hn hnone
    refine sets_nothing (gives_run (exec_partialChunkForce n c s) rfl (decide_eq_true hn) hup ?_)
    simp only [forcePartial, hnone]
  · exact gives_run (exec_indexCheckpoint s) rfl rfl hup rfl
  · exact sets_cells (gives_run (exec_rebuildIndex s) rfl rfl hup rfl) rfl
  · intro hrun
    exact effect_cells (g := fun s => { s with extents := s.mediaExtents })
      (gives_run (exec_rebuildComplete true s) rfl rfl hup (if_pos hrun)) rfl rfl
  · intro hrun
    exact sets_cells (gives_run (exec_rebuildComplete false s) rfl rfl hup (if_pos hrun)) rfl
  · intro hidle ok
    exact sets_nothing (gives_run (exec_rebuildComplete ok s) rfl rfl hup (if_neg (by rw [hidle]; decide)))

end Sys2Proof.Machine
end

section
/-! Links, controllers, queues and completions (O43, O44). -/

namespace Sys2Proof.Machine

/-- What a link that comes up at full speed and width shows. -/
def linkUpCells (s : State) (p : Nat) : List CellVal :=
  [(X.link_train, p, 0), (HIF_PORT_STATUS.flit, p, 1), (HIF_PORT_STATUS.speed, p, 6), (HIF_PORT_STATUS.width, p, 4),
   (HIF_PORT_STATUS.dl_up, p, 1), (HIF_PORT_STATUS.ltssm, p, Config.free (s.freeCtr + 1)), (HIF_INT.link_up, 0, 1)]

theorem gives_linkUp_full {s : State} {p : Nat} (hup : coreUp s = true) (hp : p < 2) (htrain : s.on X.link_train p = true)
    (hlanes : portLanes s = 4) : Gives (.linkUp p 6 4) s (setAll (linkUpCells s p) s.spend.spend) := by
  have hspeed : speedOk 6 = true := by decide
  have hmode : (setAll (linkUpCells s p) s.spend.spend).on HIF_PORT_CFG.mode = s.on HIF_PORT_CFG.mode :=
    congrArg (· != 0) (setAll_get_other (linkUpCells s p) s.spend.spend 0 rfl)
  have hwide : portLanes (setAll (linkUpCells s p) s.spend.spend) = 4 := by
    unfold portLanes at hlanes ⊢
    rw [hmode, hlanes]
  exact gives_run (exec_linkUp p 6 4 s) rfl (decide_eq_true hp) hup ((if_pos (by simp [htrain, hspeed, hlanes])).trans
    (if_neg (Nat.not_lt.2 hwide.le)))

/-- A controller that exists, is not enabled and whose link is up is enabled. -/
theorem gives_controllerEnable {s u : State} {c v : Nat} (hup : coreUp s = true) (hc : c < 2) (hex : ctlExists s c = true)
    (hen : s.on HIF_CTL_STATUS.en c = false) (hdown : s.on X.ctl_down c = false) (hlink : s.get HIF_PORT_STATUS.dl_up c ≠ 0)
    (hu : (let s := (s.set HIF_CTL_STATUS.en c 1).set HIF_CTL_STATUS.ams c v
      if s.on SB_STATUS.app_absent then s.set X.ctl_cfs c 1
      else
        let base := s.fresh
        let size := 2 + s.spend.fresh % 4095
        let s := s.spend.spend
        let s := match freeRing s c with
          | some n => newRing n c 0 0 0 0 base size s
          | none => s.raise QE_INT.ring_exhausted
        let s := match freeRing s c with
          | some n => newRing n c 1 0 0 0 base size s
          | none => s.raise QE_INT.ring_exhausted
        s.set HIF_CTL_STATUS.rdy c 1) = u) : Gives (.controllerEnable c v) s u :=
  gives_run (exec_controllerEnable c v s) rfl (decide_eq_true hc) hup
    ((if_neg (by simp [hex, hen, hdown, hlink])).trans hu)

/-- Enabling sets the fields of the controller alone. -/
theorem appAbsent_enabled (s : State) (c v : Nat) :
    ((s.set HIF_CTL_STATUS.en c 1).set HIF_CTL_STATUS.ams c v).on SB_STATUS.app_absent = s.on SB_STATUS.app_absent :=
  (((KeepsRegs.refl [HIF_CTL_STATUS.en.id, HIF_CTL_STATUS.ams.id] s).set HIF_CTL_STATUS.en _ _ (by decide)).set HIF_CTL_STATUS.ams _ _
    (by decide)).on 0 (by decide)

/-- Settles O43: the state of the link and of its controller decides what each event does. -/
theorem hostLinks : Obligations.HostLinks := by
  intro s p hup hp
  refine ⟨?_, ?_, ?_, ?_, ?_, ?_, ?_, ?_, ?_, ?_, ?_, ?_⟩
  · intro hex hen hperst hdl htrain hcut himg
    refine effect_cells (g := fun s => { s with freeCtr := s.freeCtr + 1 })
      (gives_run (exec_linkTrainingStart p s) rfl (decide_eq_true hp) hup (if_pos ?_)) rfl rfl
    simp [hex, hen, hperst, hdl, htrain, hcut, himg]
  · intro htrain hlanes
    exact effect_cells (g := fun s => { s with freeCtr := s.freeCtr + 2 }) (gives_linkUp_full hup hp htrain hlanes) rfl rfl
  · intro htrain v w
    refine sets_nothing (gives_run (exec_linkUp p v w s) rfl (decide_eq_true hp) hup (if_neg ?_))
    simp [htrain]
  · intro hdl
    exact gives_run (exec_dlDown p s) rfl (decide_eq_true hp) hup (if_pos hdl)
  · intro hdl
    exact sets_nothing (gives_run (exec_dlDown p s) rfl (decide_eq_true hp) hup (if_neg (by rw [hdl]; decide)))
  · intro hex
    exact gives_run (exec_hotReset p s) rfl (decide_eq_true hp) hup (if_pos hex)
  · intro w hdl hw hless
    refine gives_run (exec_laneNarrowing p w s) rfl (decide_eq_true hp) hup (if_pos ?_)
    simp [hdl, hw, hless]
  · exact gives_run (exec_controllerReset p s) rfl (decide_eq_true hp) hup rfl
  · intro hnone
    refine ⟨sets_nothing (gives_run (exec_controllerReset p s) rfl (decide_eq_true hp) hup (if_neg (by rw [hnone]; decide))),
      fun v => sets_nothing (gives_run (exec_controllerEnable p v s) rfl (decide_eq_true hp) hup (if_pos (by simp [hnone]))),
      sets_nothing (gives_run (exec_shutdownNotification p s) rfl (decide_eq_true hp) hup (if_neg (by simp [hnone])))⟩
  · intro v hex hen hdown hlink habsent
    exact sets_cells (gives_controllerEnable hup hp hex hen hdown hlink (if_pos ((appAbsent_enabled s p v).trans habsent))) rfl
  · intro v n m hex hen hdown hlink hpresent u size hfirst hsecond
    refine gives_controllerEnable hup hp hex hen hdown hlink ((if_neg ?_).trans ?_)
    · rw [appAbsent_enabled, hpresent]
      decide
    · have hring : freeRing (((s.set HIF_CTL_STATUS.en p 1).set HIF_CTL_STATUS.ams p v).spend.spend) p = some n := hfirst
      have hring' : freeRing (newRing n p 0 0 0 0 ((s.set HIF_CTL_STATUS.en p 1).set HIF_CTL_STATUS.ams p v).fresh
        (2 + ((s.set HIF_CTL_STATUS.en p 1).set HIF_CTL_STATUS.ams p v).spend.fresh % 4095)
        (((s.set HIF_CTL_STATUS.en p 1).set HIF_CTL_STATUS.ams p v).spend.spend)) p = some m := hsecond
      simp only [hring, hring']
      rfl
  · intro hex hrdy hdown hshst
    refine gives_run (exec_shutdownNotification p s) rfl (decide_eq_true hp) hup (if_pos ?_)
    simp [hex, hrdy, hdown, hshst]

/-- A doorbell that moves the tail of a submission queue. -/
theorem gives_submissionDoorbell {s v : State} {c q t n : Nat} {r : Ring} (hup : coreUp s = true) (hc : c < 2)
    (hring : ringOf s c 0 q = some (n, r)) (hrdy : s.get HIF_CTL_STATUS.rdy c ≠ 0) (hdown : s.on X.ctl_down c = false) (ht : t < r.size)
    (hmore : (t + r.size - r.tail) % r.size ≠ 0)
    (hv : (let s := { s with
        rings := KV.put natLt s.rings n { r with tail := t, bells := r.bells ++ [((t + r.size - r.tail) % r.size, s.dtime)] } }
      if q = 0 then s else urgStatus (pwrDoorbell (psWake c s))) = v) : Gives (.submissionDoorbell c q t) s v := by
  refine gives_run (exec_submissionDoorbell c q t s) rfl (decide_eq_true hc) hup ?_
  have hgo : ¬ (s.get HIF_CTL_STATUS.rdy c = 0 ∨ s.on X.ctl_down c = true ∨ r.size ≤ t) := by simp [hrdy, hdown, ht]
  simp only [hring, hgo, hmore, if_false]
  exact hv

/-- The context that a fetch of the admin queue begins. -/
def adminCtx (s : State) (c : Nat) (cmd : NvmeCmd) (r : Ring) : Ctx :=
  { ctl := c, qid := 0, cqid := r.cqid, cmd := cmd, cls := 4, stage := 0, status := 0, dw0 := 0, left := 0, covered := false, waits := [],
    doorbell := (r.bells.head?.map (fun b => b.2)).getD s.dtime, dead := false, heads := [] }

/-- A fetch of the admin queue that nothing holds back. -/
theorem gives_commandFetch_admin {s v : State} {c n : Nat} {cmd : NvmeCmd} {r : Ring} (hup : coreUp s = true) (hc : c < 2)
    (hcmd : okCmd cmd = true) (hring : ringOf s c 0 0 = some (n, r)) (hon : s.get QE_CTRL.enable ≠ 0) (hrdy : s.get HIF_CTL_STATUS.rdy c ≠ 0)
    (hdown : s.on X.ctl_down c = false) (hpause : s.on HIF_CTL_STATUS.fetch_paused c = false) (hact : s.on X.fw_act = false)
    (hshst : s.get HIF_CTL_STATUS.shst c = 0) (hwait : r.waiting ≠ 0) (hcls : fetchClass s r = 4)
    (hv : (if ctxRoom s c 0 4 then
        s.aborts.foldl (fun t a => abortSees c 0 cmd.cid (firstGap s.ctxs 0) a t) { s with
          ctxs := KV.put natLt s.ctxs (firstGap s.ctxs 0) (adminCtx s c cmd r),
          rings := KV.put natLt s.rings n { r with head := (r.head + 1) % max 1 r.size, bells := takeBell r.bells } }
      else s.raise QE_INT.ctx_exhausted) = v) : Gives (.commandFetch c 0 cmd) s v := by
  refine gives_run (exec_commandFetch c 0 cmd s) rfl (by simp [okCtl, hc, hcmd]) hup ?_
  have hgo : ¬ (s.get QE_CTRL.enable = 0 ∨ s.get HIF_CTL_STATUS.rdy c = 0 ∨ s.on X.ctl_down c = true ∨ s.on HIF_CTL_STATUS.fetch_paused c = true
      ∨ s.on X.fw_act = true ∨ s.get HIF_CTL_STATUS.shst c ≠ 0 ∨ r.waiting = 0 ∨ (0 ≠ 0 ∧ adminFirst s c = true)) := by
    simp [hon, hrdy, hdown, hpause, hact, hshst, hwait]
  simp only [hring]
  refine (if_neg hgo).trans ?_
  simp only [hcls, if_false, ne_eq, not_true_eq_false, false_and, if_true, Bool.not_eq_true', ← Bool.not_eq_true, ite_not]
  exact hv

/-- Settles O44: the ring decides what a doorbell and a fetch do, and the context what a completion does. -/
theorem hostQueueing : Obligations.HostQueueing := by
  intro s c hup hc
  refine ⟨?_, ?_, ?_, ?_, ?_, ?_⟩
  · intro q t hnone
    refine sets_nothing (gives_run (exec_submissionDoorbell c q t s) rfl (decide_eq_true hc) hup ?_)
    simp only [hnone]
  · intro t n r hring hrdy hdown ht hmore
    exact effect_rest (g := fun s => { s with
      rings := KV.put natLt s.rings n { r with tail := t, bells := r.bells ++ [((t + r.size - r.tail) % r.size, s.dtime)] } })
      (gives_submissionDoorbell hup hc hring hrdy hdown ht hmore rfl) rfl
  · intro q t n r hq hring hrdy hdown ht hmore u
    exact gives_submissionDoorbell hup hc hring hrdy hdown ht hmore (if_neg hq)
  · intro cmd n r hcmd hring hon hrdy hdown hpause hact hshst hwait hcls
    have hfetch : ∀ v, _ = v → Gives (.commandFetch c 0 cmd) s v := fun v =>
      gives_commandFetch_admin hup hc hcmd hring hon hrdy hdown hpause hact hshst hwait hcls
    refine ⟨fun hfull => sets_cells (hfetch _ (if_neg (by rw [hfull]; decide))) rfl, fun hroom habort => ?_⟩
    refine effect_rest (g := fun s => { s with
      ctxs := KV.put natLt s.ctxs (firstGap s.ctxs 0) (adminCtx s c cmd r),
      rings := KV.put natLt s.rings n { r with head := (r.head + 1) % max 1 r.size, bells := takeBell r.bells } })
      (hfetch _ ((if_pos hroom).trans ?_)) rfl
    rw [habort]
    rfl
  · intro k x hx hst
    refine gives_run (exec_completionPost k x.status s) rfl rfl hup ?_
    simp only [hx, hst, and_self, if_true]
  · intro k st x hx hne
    refine sets_nothing (gives_run (exec_completionPost k st s) rfl rfl hup ?_)
    have hkeep : ¬ (x.stage = 3 ∧ x.status = st) := fun h => hne.elim (fun e => e h.1) (fun e => e h.2)
    simp only [hx, hkeep, if_false]

end Sys2Proof.Machine
end

section
/-! Host commands: their context and the rule by which a command that waits is run (O42). -/

namespace Sys2Proof.Machine

theorem dropData_regs (c : Nat) (s : State) : (dropData c s).regs = s.regs := rfl

theorem updCtx_regs (c : Nat) (f : Ctx → Ctx) (s : State) : (updCtx c f s).regs = s.regs := by
  unfold updCtx
  split <;> rfl

/-- Ending a command changes its context, not a register. -/
theorem ctxFinish_regs (c st : Nat) (s : State) : (ctxFinish c st s).regs = s.regs := by
  unfold ctxFinish
  dsimp only
  split
  · split <;> exact dropData_regs c s
  · exact dropData_regs c s

/-- A host command that waits and is run. -/
theorem gives_host {c : Instr} {s u : State} {k op : Nat} {x : Ctx} {admin : Bool} {ops : List Nat} {g : Ctx → State → State}
    (h : Waits s k x admin op) (hx : exec c s = run true s (fun s => onFetched s k admin ops g)) (ho : ops.contains op = true)
    (hu : g x s = u) : Gives c s u :=
  gives_run hx rfl rfl h.up ((onFetched_eq h ho g).trans hu)

/-- A command that ends with a status and changes nothing else. -/
theorem effect_finish {c : Instr} {s : State} {k st : Nat} (h : Gives c s (ctxFinish k st s)) : Effect c s [] (ctxFinish k st) :=
  effect_rest h (ctxFinish_regs k st s)

/-- Settles O42: a context that is to end without a completion goes, one that has failed keeps its status. -/
theorem firstFailureStands : Obligations.FirstFailureStands := by
  intro s c st x hx
  have hheld : KV.get (dropData c s).ctxs c = some x := hx
  refine ⟨fun hdead => ?_, fun hlive => ?_, fun k hk => ?_⟩
  · simp only [ctxFinish, hheld, hdead, if_true]
    exact KV.get_del_same _ c
  · simp only [ctxFinish, hheld, hlive, Bool.false_eq_true, if_false]
    exact KV.get_put_same ..
  · simp only [ctxFinish, hheld]
    split
    · exact KV.get_del_ne _ hk.symm
    · exact KV.get_put_ne natLt _ _ hk.symm

end Sys2Proof.Machine
end

section
/-! Abort, events and queues (O45). -/

namespace Sys2Proof.Machine

/-- A queue identifier out of range is turned away. -/
theorem gives_createIoQueue_bad {s : State} {c : Nat} {x : Ctx} (h : Waits s c x true 0x05)
    (hbad : x.cmd.cdw10 % 65536 = 0 ∨ 8191 < x.cmd.cdw10 % 65536) : Gives (.createIoQueue c) s (ctxFinish c stQueueId s) :=
  gives_host h (exec_createIoQueue c s) rfl (if_pos (hbad.imp_right .inl))

/-- A completion queue that nothing turns away. -/
theorem gives_createIoQueue_completion {s : State} {c n : Nat} {x : Ctx} (h : Waits s c x true 0x05) (hlow : x.cmd.cdw10 % 65536 ≠ 0)
    (hhigh : x.cmd.cdw10 % 65536 ≤ 8191) (hnew : ringOf s x.ctl 1 (x.cmd.cdw10 % 65536) = none) (hsize : 1 ≤ x.cmd.cdw10 / 65536)
    (hfit : x.cmd.cdw10 / 65536 < 16384) (hvec : x.cmd.cdw11 / 65536 < msixVectors) (hring : freeRing s x.ctl = some n) :
    Gives (.createIoQueue c) s
      (ctxFinish c 0 (newRing n x.ctl 1 (x.cmd.cdw10 % 65536) (x.cmd.cdw10 % 65536) 0 x.cmd.slba (x.cmd.cdw10 / 65536 + 1) s)) := by
  refine gives_host h (exec_createIoQueue c s) rfl ?_
  have hkind : (if x.cmd.opcode = 1 then 0 else 1) = 1 := if_neg (by rw [h.opcode]; decide)
  have hid : ¬ (x.cmd.cdw10 % 65536 = 0 ∨ 8191 < x.cmd.cdw10 % 65536 ∨ (ringOf s x.ctl 1 (x.cmd.cdw10 % 65536)).isSome = true) := by
    simp [hlow, hhigh, hnew]
  have hentries : ¬ (x.cmd.cdw10 / 65536 + 1 < 2 ∨ ringEntries < x.cmd.cdw10 / 65536 + 1) := by
    unfold ringEntries
    omega
  have hvector : ¬ (msixVectors ≤ x.cmd.cdw11 / 65536) := Nat.not_le.2 hvec
  simp only [hkind, hid, hentries, hvector, hring, if_false, and_false, Nat.one_ne_zero, false_and]

/-- Settles O45: the checks of each command in their order, and the queue that it names. -/
theorem queueCommands : Obligations.QueueCommands := by
  intro s c x
  refine ⟨?_, ?_, ?_, ?_, ?_, ?_, ?_, ?_, ?_, ?_⟩
  · intro h hfull
    exact effect_finish (gives_host h (exec_nvmeAbort c s) rfl (if_pos hfull))
  · intro h hroom hnone hring
    refine gives_host h (exec_nvmeAbort c s) rfl ((if_neg (Nat.not_le.2 hroom)).trans ?_)
    simp only [hnone, hring, if_true]
  · intro h hnone n
    have haer : ∀ v, (if 16 ≤ n then ctxFinish c stAerLimit s else updCtx c (fun y => { y with stage := 1 }) s) = v →
        Gives (.asynchronousEventRequest c) s v := by
      intro v hv
      refine gives_host h (exec_asynchronousEventRequest c s) rfl ?_
      simp only [hnone]
      exact hv
    exact ⟨fun hfull => effect_finish (haer _ (if_pos hfull)),
      fun hroom => effect_rest (haer _ (if_neg (Nat.not_le.2 hroom))) (updCtx_regs c _ s)⟩
  · intro e h hsome
    refine effect_rest (g := fun s => ctxFinish c 0 (updCtx c (fun y => { y with dw0 := e.2 }) { s with aens := s.aens.erase e }))
      (gives_host h (exec_asynchronousEventRequest c s) rfl ?_) ?_
    · simp only [hsome]
    · exact (ctxFinish_regs ..).trans (updCtx_regs ..)
  · intro h hbad
    exact effect_finish (gives_createIoQueue_bad h hbad)
  · intro n h hlow hhigh hnew hsize hfit hvec hring
    exact effect_rest (g := fun s => ctxFinish c 0 (newRing n x.ctl 1 (x.cmd.cdw10 % 65536) (x.cmd.cdw10 % 65536) 0 x.cmd.slba
      (x.cmd.cdw10 / 65536 + 1) s)) (gives_createIoQueue_completion h hlow hhigh hnew hsize hfit hvec hring) (ctxFinish_regs ..)
  · intro h hzero
    refine effect_finish (gives_host h (exec_deleteIoSubmissionQueue c s) rfl ?_)
    simp only [hzero, if_true]
  · intro n r h hid hring habort hfree
    refine effect_rest (g := fun s => ctxFinish c 0 { s with rings := KV.del s.rings n })
      (gives_host h (exec_deleteIoSubmissionQueue c s) rfl ?_) (ctxFinish_regs ..)
    have hnone : s.ctxs.filter (fun p => p.2.ctl == x.ctl && p.2.qid == x.cmd.cdw10 % 65536) = [] :=
      List.filter_eq_nil_iff.2 (fun p hp => by rw [hfree p hp]; decide)
    simp only [hid, if_false, hring, hnone, habort, List.filter_nil, List.foldl_nil]
  · intro h hzero
    refine effect_finish (gives_host h (exec_deleteIoCompletionQueue c s) rfl ?_)
    simp only [hzero, if_true]
  · intro n r h hid hring
    refine effect_rest (g := fun s =>
        if s.rings.any (fun p => p.2.ctl == x.ctl && p.2.kind == 0 && p.2.cqid == x.cmd.cdw10 % 65536) then ctxFinish c stQueueDelete s
        else ctxFinish c 0 { s with rings := KV.del s.rings n })
      (gives_host h (exec_deleteIoCompletionQueue c s) rfl ?_) ?_
    · simp only [hid, if_false, hring]
    · split <;> exact ctxFinish_regs ..

end Sys2Proof.Machine
end

section
/-! Commands that move data (O46). -/

namespace Sys2Proof.Machine

/-- Settles O46: the checks of each command in their order, then the media or the zones. -/
theorem hostDataCommands : Obligations.HostDataCommands := by
  intro s c x
  refine ⟨?_, ?_, ?_, ?_, ?_, ?_, ?_, ?_, ?_, ?_, ?_, ?_, ?_⟩
  · intro h hbad
    exact effect_finish (gives_host h (exec_nvmeRead c s) rfl (if_pos hbad))
  · intro h hgood hcls hplain hzones hmerge runs
    refine gives_host h (exec_nvmeRead c s) rfl ((if_neg (fun e => e hgood)).trans ?_)
    have hclsb : (x.cls == 0) = false := beq_false_of_ne hcls
    simp only [hplain, hzones, hmerge, hcls, hclsb, Bool.false_eq_true, if_false, or_self, List.isEmpty_nil, Bool.not_true, false_and,
      Bool.false_and, ne_eq, not_false_eq_true, if_true]
    rfl
  · intro d h hbad
    exact effect_finish (gives_host h (exec_nvmeWrite c d s) rfl (if_pos hbad))
  · intro d h hgood hzoned
    have hwrite : ∀ v, _ = v → Gives (.nvmeWrite c d) s v := fun v hv =>
      gives_host h (exec_nvmeWrite c d s) rfl ((if_neg (fun e => e hgood)).trans ((if_pos hzoned).trans hv))
    refine ⟨fun hover => effect_finish (hwrite _ (if_pos hover)), fun hfit hready => hwrite _ ?_⟩
    exact (if_neg (Nat.not_lt.2 hfit)).trans (if_neg (by rw [hready]; decide))
  · intro d h hgood hflat hpages hmerge z
    have hwrite : ∀ v, (if !zoneAdmits s z (x.cmd.nsid - 1) x.cmd.slba (cmdBlocks x.cmd) (rangeChunks x.cmd.slba (cmdBlocks x.cmd))
        then s.raise CX_INT.dest_full else writeChunks c (x.cmd.nsid - 1) z x.cmd.slba (cmdBlocks x.cmd) x.cls d x s) = v →
        Gives (.nvmeWrite c d) s v := by
      intro v hv
      refine gives_host h (exec_nvmeWrite c d s) rfl ((if_neg (fun e => e hgood)).trans ((if_neg (by rw [hflat]; decide)).trans ?_))
      simp only [hpages, hmerge, List.isEmpty_nil, Bool.not_true, Bool.false_eq_true, if_false]
      exact hv
    exact ⟨fun hadmit => hwrite _ (if_neg (by rw [hadmit]; decide)),
      fun hfull => sets_cells (hwrite _ (if_pos (by rw [hfull]; rfl))) rfl⟩
  · intro d h hbad
    exact effect_finish (gives_host h (exec_zoneAppend c d s) rfl (if_pos hbad))
  · intro d h hgood hzoned halign hready lba
    refine gives_host h (exec_zoneAppend c d s) rfl ((if_neg (fun e => e hgood)).trans ((if_neg (by rw [hzoned]; decide)).trans
      ((if_neg (fun e => e halign)).trans (if_neg (by rw [hready]; decide)))))
  · intro h hone hnone
    refine effect_finish (gives_host h (exec_nvmeFlush c s) rfl (if_pos ?_))
    simp [hone, hnone]
  · intro h hall u wids
    have hflush : ∀ v, (if wids.isEmpty then ctxFinish c 0 u else updCtx c (fun y => { y with stage := 2, waits := wids }) u) = v →
        Gives (.nvmeFlush c) s v := by
      intro v hv
      refine gives_host h (exec_nvmeFlush c s) rfl ?_
      simp only [hall, beq_self_eq_true, Bool.true_or, Bool.not_true, Bool.false_and, Bool.false_eq_true, if_false, Bool.and_true]
      exact hv
    exact ⟨fun hnone => hflush _ (if_pos (by rw [hnone]; rfl)), fun hsome => hflush _ (if_neg (by simpa using hsome))⟩
  · intro h
    exact gives_host h (exec_writeZeroes c s) rfl rfl
  · intro h hnone
    refine effect_finish (gives_host h (exec_datasetManagement c s) rfl ?_)
    simp only [hnone]
  · intro n h hns hflat hkeep
    refine effect_finish (gives_host h (exec_datasetManagement c s) rfl ?_)
    simp only [hns, hflat, hkeep, Bool.false_eq_true, if_false]
  · intro n h hns hflat hdrop
    refine gives_host h (exec_datasetManagement c s) rfl ?_
    simp only [hns, hflat, hdrop, Bool.false_eq_true, if_false, if_true]

end Sys2Proof.Machine
end

section
/-! Zone commands and firmware (O47, O48). -/

namespace Sys2Proof.Machine

/-- A zone command that waits and names its own action. -/
theorem hostCtx_zoneCommand {s : State} {c code : Nat} {x : Ctx} (h : Waits s c x false 0x79) (hcode : x.cmd.cdw13 % 256 = code) :
    hostCtx s c false [0x79] = some x ∧ ¬ (1 < x.stage ∨ x.cmd.cdw13 % 256 ≠ code) := by
  obtain ⟨-, hheld, hqueue, hop, hlive, hbegun, -⟩ := h
  constructor
  · unfold hostCtx
    simp [hheld, hqueue, hop, hlive]
  · simp [hbegun, hcode]

/-- A zone command on a namespace that does not exist. -/
theorem zoneCommand_noNamespace {s : State} {c code : Nat} {x : Ctx} (a : ZoneAct) (h : Waits s c x false 0x79)
    (hcode : x.cmd.cdw13 % 256 = code) (hns : cmdNs s x = none) : zoneCommand c code a s = ctxFinish c stNamespace s := by
  obtain ⟨hctx, hgo⟩ := hostCtx_zoneCommand h hcode
  unfold zoneCommand
  simp only [hctx, hgo, if_false, hns]

/-- A zone command on a namespace that has no zones. -/
theorem zoneCommand_notZoned {s : State} {c code n : Nat} {x : Ctx} (a : ZoneAct) (h : Waits s c x false 0x79)
    (hcode : x.cmd.cdw13 % 256 = code) (hns : cmdNs s x = some n) (hflat : s.on ZX_NS.zoned n = false) :
    zoneCommand c code a s = ctxFinish c stOpcode s := by
  obtain ⟨hctx, hgo⟩ := hostCtx_zoneCommand h hcode
  unfold zoneCommand
  simp only [hctx, hgo, if_false, hns, hflat, Bool.not_false, if_true]

/-- Settles O47: the action that dword 13 names, the namespace, and the zones that the report lists. -/
theorem hostZoneCommands : Obligations.HostZoneCommands := by
  intro s c x
  refine ⟨fun h => ?_, fun n h hns hzoned hplain hin => ?_⟩
  · have hopen := gives_run (exec_zoneOpen c s) rfl rfl h.up rfl
    have hclose := gives_run (exec_zoneClose c s) rfl rfl h.up rfl
    have hfinish := gives_run (exec_zoneFinish c s) rfl rfl h.up rfl
    have hreset := gives_run (exec_zoneReset c s) rfl rfl h.up rfl
    have hoffline := gives_run (exec_zoneOffline c s) rfl rfl h.up rfl
    refine ⟨fun _ => hopen, fun _ => hclose, fun _ => hfinish, fun _ => hreset, fun _ => hoffline, fun hcode hnone => ?_, fun n hns hflat => ?_⟩
    · exact effect_finish (zoneCommand_noNamespace actOpen h hcode hnone ▸ hopen)
    · exact ⟨fun hcode => effect_finish (zoneCommand_notZoned actOpen h hcode hns hflat ▸ hopen),
        fun hcode => effect_finish (zoneCommand_notZoned actClose h hcode hns hflat ▸ hclose),
        fun hcode => effect_finish (zoneCommand_notZoned actFinish h hcode hns hflat ▸ hfinish),
        fun hcode => effect_finish (zoneCommand_notZoned actReset h hcode hns hflat ▸ hreset),
        fun hcode => effect_finish (zoneCommand_notZoned actOffline h hcode hns hflat ▸ hoffline)⟩
  · intro zones bytes
    refine effect_rest (g := fun s => ctxFinish c 0 { s with
        hostData := (leBytes zones.length 8 ++ List.replicate 56 (0 : Byte) ++
          (zones.take ((bytes - 64) / 64 + 1)).flatMap (zoneDescriptor s n)).take bytes })
      (gives_host h (exec_reportZones c s) rfl ?_) (ctxFinish_regs ..)
    have hall : (0 : Nat).testBit 16 = false := rfl
    have hrange : ¬ (nsBlocks s n ≤ x.cmd.slba) := Nat.not_le.2 hin
    simp only [hns, hzoned, hplain, hrange, hall, Bool.not_true, Bool.false_eq_true, if_false, Nat.zero_mod, Nat.zero_div, ne_eq,
      not_true_eq_false, false_or, Nat.not_lt_zero]
    rfl

/-- The staged image and its ranges are given back. -/
def dropStage (s : State) : State := { s with fwStage := [], fwRanges := [] }

/-- What a commit of the staged image makes of it. -/
def stagedItem (s : State) : Nat := if s.fwRanges.isEmpty then 5 else stagedKind (cellsRd s.fwStage)

theorem gives_firmwareCommit {s v : State} {c : Nat} {x : Ctx} (h : Waits s c x true 0x10) (hact : x.cmd.cdw10 / 8 % 8 < 3)
    (hv : (if stagedOk s (stagedItem s) (cellsRd s.fwStage) = false then ctxFinish c stFwImage (dropStage s)
      else if x.cmd.cdw10 % 8 ≠ 0 ∧ x.cmd.cdw10 % 8 ≠ 2 - (mark s (stagedItem s)).active then ctxFinish c stFwSlot s
      else ctxFinish c 0 (dropStage (if stagedItem s = 3 then (storeItem (stagedItem s) (cellsRd s.fwStage) s).set X.app_late 0 1
        else storeItem (stagedItem s) (cellsRd s.fwStage) s))) = v) : Gives (.firmwareCommit c) s v := by
  refine gives_host h (exec_firmwareCommit c s) rfl ?_
  have hlow : ¬ 3 < x.cmd.cdw10 / 8 % 8 := by omega
  have hstore : ¬ x.cmd.cdw10 / 8 % 8 = 3 := by omega
  simp only [hlow, hstore, if_false, false_and]
  exact hv

/-- Settles O48: the ranges that a download overlaps, and what the check of the staged image says. -/
theorem hostFirmwareCommands : Obligations.HostFirmwareCommands := by
  intro s c x
  refine ⟨fun d h => ?_, fun h hbad => ?_, fun h hact => ?_, fun hup hflash => ?_, fun hup hflash ok => ?_⟩
  · intro n o
    refine ⟨fun hover => ?_, fun hfit hclash => ?_, fun hfit hclear => ?_⟩
    · exact effect_finish (gives_host h (exec_firmwareImageDownload c d s) rfl (if_pos hover))
    · exact effect_finish (gives_host h (exec_firmwareImageDownload c d s) rfl ((if_neg (Nat.not_lt.2 hfit)).trans (if_pos hclash)))
    · refine effect_rest (g := fun s => ctxFinish c 0 { s with
        fwStage := memWrite s.fwStage flashErased o (fit n d), fwRanges := s.fwRanges ++ [(x.ctl, (o, n))] })
        (gives_host h (exec_firmwareImageDownload c d s) rfl ((if_neg (Nat.not_lt.2 hfit)).trans (if_neg ?_))) (ctxFinish_regs ..)
      rw [hclear]
      decide
  · exact effect_finish (gives_host h (exec_firmwareCommit c s) rfl (if_pos hbad))
  · intro kind done
    refine ⟨fun hbad => ?_, fun hgood hslot hkind => ?_⟩
    · exact effect_rest (g := fun s => ctxFinish c stFwImage (done s)) (gives_firmwareCommit h hact (if_pos hbad)) (ctxFinish_regs ..)
    · refine gives_firmwareCommit h hact ((if_neg (by rw [← Bool.not_eq_true, not_not]; exact hgood)).trans
        ((if_neg (fun e => e.1 hslot)).trans ?_))
      exact congrArg (fun t => ctxFinish c 0 (dropStage t)) (if_neg hkind)
  · exact effect_cells (g := fun s => { s with fwWrite := [] }) (gives_run (exec_activationFlashWriteEnd false s) rfl rfl hup (if_pos hflash))
      rfl rfl
  · exact sets_nothing (gives_run (exec_activationFlashWriteEnd ok s) rfl rfl hup (if_neg (by rw [hflash]; decide)))

end Sys2Proof.Machine
end

section
/-! Identify, logs and features (O49). -/

namespace Sys2Proof.Machine

/-- Set Features of a temperature threshold that is 0 K, so that the composite temperature has reached it. -/
def thresholdCmd : NvmeCmd :=
  { opcode := 0x09, cid := 0, nsid := 0, slba := 0, cdw10 := 4, cdw11 := 0, cdw12 := 0, cdw13 := 0, cdw14 := 0, cdw15 := 0 }

/-- The context that it waits in. -/
def thresholdCtx : Ctx :=
  { ctl := 0, qid := 0, cqid := 0, cmd := thresholdCmd, cls := 4, stage := 0, status := 0, dw0 := 0, left := 0, covered := false,
    waits := [], doorbell := 0, heads := [], dead := false }

/-- The part at reset with that command in context 0. -/
def thresholdState : State := { State.reset with ctxs := [(0, thresholdCtx)] }

theorem waits_threshold : Waits thresholdState 0 thresholdCtx true 0x09 :=
  ⟨by decide, rfl, rfl, rfl, rfl, rfl, fun _ => rfl⟩

/-- The state in which the feature stands. -/
def thresholdSet : State := { thresholdState with feats := KV.put pairLt thresholdState.feats (0, featureKey thresholdCmd) 0 }

theorem gives_setFeatures_threshold : Gives (.setFeatures 0) thresholdState (ctxFinish 0 0 (tempEvents thresholdSet)) :=
  gives_host waits_threshold (exec_setFeatures 0 _) rfl rfl

/-- Refutes O49: its clause on the features that are stored takes in the temperature thresholds, and setting one judges it. Threshold 0 K is
reached at once, so X.temp_hit changes, which the clause says nothing does. -/
theorem not_hostAdminCommands : ¬ Obligations.HostAdminCommands := by
  intro h
  obtain ⟨-, -, -, -, -, hstored, -⟩ := h thresholdState 0 thresholdCtx
  obtain ⟨t, hx, -, -, hframe⟩ := hstored waits_threshold (by decide) (by decide)
  obtain rfl := Host.Outcome.next.inj (hx.symm.trans gives_setFeatures_threshold)
  have hkept := hframe X.temp_hit 0 rfl (by decide)
  have hset : (settled thresholdState (ctxFinish 0 0 (tempEvents thresholdSet))).get X.temp_hit 0 = 1 := by
    rw [settled_get _ _ _ _ (by decide), State.get_of_regs (ctxFinish_regs ..)]
    decide
  exact absurd (hset.symm.trans hkept) (by decide)

end Sys2Proof.Machine
end

section
/-! Sanitize, Format, the self-test, namespaces and reservations (O50). -/

namespace Sys2Proof.Machine

/-- A reservation command on a namespace that exists. -/
theorem gives_reservationCommand {s v : State} {c op n : Nat} {x : Ctx} (h : Waits s c x false op)
    (hop : [0x0D, 0x0E, 0x11, 0x15].contains op = true) (hns : cmdNs s x = some n)
    (hv : (match (generalizing := false) op with
      | 0x0D => resvRegister c n x s
      | 0x0E => ctxFinish c 0 { s with hostData := pageRead (pageOf 0x60E (resvReport s n)) 0 (4 * (x.cmd.cdw10 + 1)) }
      | 0x11 => resvAcquire c n x s
      | _ => resvRelease c n x s) = v) : Gives (.reservationCommand c) s v := by
  refine gives_host h (exec_reservationCommand c s) hop ?_
  have hopcode := h.opcode
  subst hopcode
  simp only [hns]
  exact hv

/-- Settles O50: the checks of each command in their order, then its effect. -/
theorem hostNamespaceCommands : Obligations.HostNamespaceCommands := by
  intro s c x
  refine ⟨?_, ?_, ?_, ?_, ?_, ?_, ?_, ?_, ?_, ?_, ?_, ?_, ?_, ?_, ?_, ?_, ?_, ?_, ?_, ?_⟩
  · intro h hrun
    exact effect_finish (gives_host h (exec_sanitize c s) rfl (if_pos hrun))
  · intro h hidle hact
    exact effect_finish (gives_host h (exec_sanitize c s) rfl ((if_neg (by rw [hidle]; decide)).trans (if_pos hact)))
  · intro h hidle hact hquiet u
    refine gives_host h (exec_sanitize c s) rfl ((if_neg (by rw [hidle]; decide)).trans ?_)
    simp only [hact, hquiet]
    rfl
  · intro h hidle hnone
    refine effect_finish (gives_host h (exec_formatNvm c s) rfl ((if_neg (by rw [hidle]; decide)).trans ?_))
    simp only [hnone]
  · intro n h hidle hns hbad
    refine effect_finish (gives_host h (exec_formatNvm c s) rfl ((if_neg (by rw [hidle]; decide)).trans ?_))
    simp only [hns]
    exact if_pos (.inl hbad)
  · intro n h hidle hns hplain hquiet hsome hother u
    have hkeep : dstEndFor 4 n s = s := if_neg (not_or.2 ⟨hsome, hother⟩)
    refine gives_host h (exec_formatNvm c s) rfl ((if_neg (by rw [hidle]; decide)).trans ?_)
    simp only [hns, hplain, hkeep, hquiet]
    rfl
  · intro h hcode
    exact gives_host h (exec_deviceSelfTest c s) rfl (if_pos hcode)
  · intro h hcode hidle hrun
    refine effect_finish (gives_host h (exec_deviceSelfTest c s) rfl ?_)
    simp only [hcode, hidle]
    rw [if_neg (by decide), if_neg (by decide), if_neg (by decide)]
    exact if_pos hrun
  · intro h hcode hidle hrun hns
    refine gives_host h (exec_deviceSelfTest c s) rfl ?_
    simp only [hcode, hidle, hrun, hns]
    rfl
  · intro hup hrun hyield
    exact gives_run (exec_selfTestResume s) rfl rfl hup (if_pos ⟨hrun, hyield⟩)
  · intro hup hyield
    refine sets_nothing (gives_run (exec_selfTestResume s) rfl rfl hup (if_neg ?_))
    simp [hyield]
  · intro h hsel
    refine gives_host h (exec_namespaceManagement c s) rfl ?_
    simp only [hsel]
  · intro h hsel hlow hhigh hen v hquiet
    refine gives_host h (exec_namespaceManagement c s) rfl ?_
    have hin : ¬ (x.cmd.nsid = 0 ∨ 64 < x.cmd.nsid ∨ s.get ZX_NS.enable (x.cmd.nsid - 1) = 0) := by
      simp only [not_or]
      exact ⟨by omega, by omega, hen⟩
    simp only [hsel, hin, if_false]
    exact if_neg (by rw [hquiet]; decide)
  · intro h hzero
    exact effect_finish (gives_host h (exec_namespaceAttachment c s) rfl (if_pos (.inl hzero)))
  · intro h hlow hhigh hen hsel hmask hoff n u
    refine gives_host h (exec_namespaceAttachment c s) rfl ?_
    have hin : ¬ (x.cmd.nsid = 0 ∨ 64 < x.cmd.nsid ∨ s.get ZX_NS.enable (x.cmd.nsid - 1) = 0) := by
      simp only [not_or]
      exact ⟨by omega, by omega, hen⟩
    have hctls : bitsOf 2 1 = [0] := by decide
    have hexists : ctlExists s 0 = true := rfl
    have hdetached : (s.get X.ns_off (2 * (x.cmd.nsid - 1)) == 0) = false := beq_false_of_ne hoff
    simp only [hsel, hmask, hin, hctls, hexists, hdetached, if_false, List.any_cons, List.any_nil, Nat.add_zero]
    rfl
  · intro op hop h hnone
    refine effect_finish (gives_host h (exec_reservationCommand c s) (List.contains_iff_mem.2 hop) ?_)
    simp only [hnone]
  · intro n h hns
    exact effect_rest (g := fun s => ctxFinish c 0 { s with
      hostData := pageRead (pageOf 0x60E (resvReport s n)) 0 (4 * (x.cmd.cdw10 + 1)) }) (gives_reservationCommand h rfl hns rfl)
      (ctxFinish_regs ..)
  · intro n h hns
    exact gives_reservationCommand h rfl hns rfl
  · intro n h hns
    exact gives_reservationCommand h rfl hns rfl
  · intro n h hns
    exact gives_reservationCommand h rfl hns rfl

end Sys2Proof.Machine
end

section
/-! Power grants (O51): what leaves the ports' descriptions as they are, and a rebalance with nothing to balance. -/

namespace Sys2Proof.Machine

/-- The registers that a grant may write. -/
def grantIds : List Nat :=
  [X.hg_order.id, X.hg_starved.id, HG_GROUP_STATUS.on.id, DP_FLUME_STATUS.power.id, DP_FLUME_STATUS.state.id, CX_ENG_STATUS.state.id,
   CX_ENG_STATUS.level.id, CX_ENG_STATUS.suspended.id, HG_PORT_STATUS.oversize.id, HG_PORT_STATUS.state.id, HG_PORT_STATUS.on_reserve.id,
   HG_PORT_STATUS.holders.id, HG_PORT_STATUS.units.id]

theorem keepsRegs_engShow (e : Nat) (s : State) : KeepsRegs grantIds s (engShow e s) := by
  unfold engShow
  refine KeepsRegs.ite (KeepsRegs.refl _ s) ?_
  exact (((KeepsRegs.refl _ s).set CX_ENG_STATUS.state _ _ (by decide)).set CX_ENG_STATUS.suspended _ _ (by decide)).set
    CX_ENG_STATUS.level _ _ (by decide)

theorem keepsRegs_cxShow (s : State) : KeepsRegs grantIds s (cxShow s) := KeepsRegs.each keepsRegs_engShow _ s

theorem keepsRegs_flumePower (p : Nat) (on : Bool) (s : State) : KeepsRegs grantIds s (flumePower p on s) := by
  unfold flumePower
  refine KeepsRegs.ite ?_ (KeepsRegs.refl _ s)
  have hpower := (KeepsRegs.refl grantIds s).set DP_FLUME_STATUS.power (s.get HG_PORT_CFG.first p) (b2n on) (by decide)
  exact KeepsRegs.ite (hpower.set DP_FLUME_STATUS.state _ _ (by decide)) hpower

theorem keepsRegs_hgReport (p : Nat) (s : State) : KeepsRegs grantIds s (hgReport p s) := by
  unfold hgReport
  extract_lets powered shown waiting
  have hshown : KeepsRegs grantIds s shown :=
    (keepsRegs_flumePower p _ s).trans (KeepsRegs.ite (keepsRegs_cxShow _) (KeepsRegs.refl _ _))
  split
  · exact (((hshown.set HG_PORT_STATUS.state _ _ (by decide)).set HG_PORT_STATUS.on_reserve _ _ (by decide)).set HG_PORT_STATUS.holders _ _
      (by decide)).set HG_PORT_STATUS.units _ _ (by decide)
  · exact (((hshown.set HG_PORT_STATUS.state _ _ (by decide)).set HG_PORT_STATUS.on_reserve _ _ (by decide)).set HG_PORT_STATUS.holders _ _
      (by decide)).set HG_PORT_STATUS.units _ _ (by decide)

theorem keepsRegs_hgPowerGroup (p : Nat) (s : State) : KeepsRegs grantIds s (hgPowerGroup p s) :=
  KeepsRegs.ite (KeepsRegs.refl _ s) ((KeepsRegs.refl _ s).set HG_GROUP_STATUS.on _ _ (by decide))

theorem keepsRegs_hgGrant (p units : Nat) (h : PowerHolder) (onU : Nat) (s : State) : KeepsRegs grantIds s (hgGrant p units h onU s) := by
  unfold hgGrant
  extract_lets n counted granted taken cleared
  have hcounted : KeepsRegs grantIds s counted := (KeepsRegs.refl _ s).set X.hg_order _ _ (by decide)
  have hgranted : KeepsRegs grantIds s granted := by
    refine hcounted.congr_regs ?_
    simp only [granted]
    split <;> rfl
  have htaken : KeepsRegs grantIds s taken := hgranted.congr_regs rfl
  have hcleared : KeepsRegs grantIds s cleared :=
    (htaken.set HG_PORT_STATUS.oversize _ _ (by decide)).set X.hg_starved _ _ (by decide)
  exact (hcleared.trans (keepsRegs_hgPowerGroup p _)).trans (keepsRegs_hgReport p _)

theorem keepsRegs_hgPools (s : State) :
    KeepsRegs [HG_POOL.step.id, HG_POOL.b.id, X.hg_c.id, HG_POOL.u.id, HG_INT.floor.id] s (hgPools s) := by
  unfold hgPools
  extract_lets k b u x shown counted
  have hcounted : KeepsRegs [HG_POOL.step.id, HG_POOL.b.id, X.hg_c.id, HG_POOL.u.id, HG_INT.floor.id] s counted :=
    (((KeepsRegs.refl _ s).set HG_POOL.step _ _ (by decide)).set HG_POOL.b _ _ (by decide)).set X.hg_c _ _ (by decide)
  exact KeepsRegs.ite ((hcounted.set HG_POOL.u _ _ (by decide)).set HG_INT.floor _ _ (by decide)) (hcounted.set HG_POOL.u _ _ (by decide))

theorem hgShrink_of_no_grant {s : State} (n : Nat) (h : s.hgGrants = []) : hgShrink n s = s := by
  cases n with
  | zero => rfl
  | succ n =>
    have hong : hgOnG s = [] := by simp only [hgOnG, h, List.filter_nil]
    have hvictim : hgVictim s [] = none := rfl
    simp only [hgShrink, hong, List.filter_nil, ite_self, hvictim]

/-- Without a grant or a request a rebalance has nothing to take back. -/
theorem rebalance_idle {s : State} (hgrants : s.hgGrants = []) (hreqs : s.hgReqs = []) (h12 : s.get X.hg_persist 0 = 0)
    (h5 : s.get X.hg_persist 1 = 0) : hgCurrent (hgMakeRoom 128 (hgShrink 128 (hgUnreserve 128 (hgOversizes s)))) = s := by
  have hover : hgOversizes s = s := by simp only [hgOversizes, hreqs, List.foldl_nil]
  have hunres : hgUnreserve 128 s = s := by simp only [hgUnreserve, hgrants, List.filter_nil, List.foldl_nil, ite_self]
  have hroom : hgMakeRoom 128 s = s := by simp only [hgMakeRoom, hreqs, List.find?_nil]
  have hcurrent : hgCurrent s = s := if_neg (by simp [State.on, h12, h5])
  rw [hover, hunres, hgShrink_of_no_grant 128 hgrants, hroom, hcurrent]

/-- Settles O51: the grant of the port, the pools' order of requests, and the trip of the rail decide. -/
theorem powerGrants : Obligations.PowerGrants := by
  intro s p hup hp
  refine ⟨?_, ?_, ?_, ?_, ?_, ?_, ?_, ?_, ?_, ?_, ?_, ?_, ?_, ?_, ?_, ?_⟩
  · intro r onU hnext hport hspin hkind
    refine gives_run (exec_grant p s) rfl (decide_eq_true hp) hup ?_
    have hkept (units : Nat) (h : PowerHolder) : ¬ portKind (hgGrant p units h onU s) p = 4 := by
      unfold portKind
      rw [keepsRegs_hgGrant p units h onU s _ _ (by decide)]
      exact hkind
    simp only [hnext, hport, if_true, hkept, if_false, hspin, Bool.false_and, Bool.false_eq_true]
  · intro hnone
    refine sets_nothing (gives_run (exec_grant p s) rfl (decide_eq_true hp) hup ?_)
    simp only [hnone]
  · intro hgrants hreqs h12 h5
    have hkeep := keepsRegs_hgPools s
    have hrest : (hgPools s).hgGrants = [] ∧ (hgPools s).hgReqs = [] := by
      unfold hgPools
      dsimp only
      split <;> exact ⟨hgrants, hreqs⟩
    refine gives_run (exec_rebalance s) rfl rfl hup (congrArg urgStatus (rebalance_idle hrest.1 hrest.2 ?_ ?_))
    · exact (hkeep _ _ (by decide)).trans h12
    · exact (hkeep _ _ (by decide)).trans h5
  · intro g hg hwith hstop
    refine gives_run (exec_unitsReturn p s) rfl (decide_eq_true hp) hup ?_
    simp only [hg, hwith, hstop, Bool.and_self, if_true]
  · intro g hg hwith hgo
    refine sets_nothing (gives_run (exec_unitsReturn p s) rfl (decide_eq_true hp) hup ?_)
    simp only [hg, hgo, Bool.and_false, Bool.false_eq_true, if_false]
  · intro g hg hwith hkind
    refine gives_run (exec_withdrawalTimeout p s) rfl (decide_eq_true hp) hup ?_
    have hlimit : (portKind s p == 4 || portKind s p == 5) = true := by
      rcases hkind with h | h <;> rw [h] <;> rfl
    simp only [hg, hwith, hlimit, Bool.and_self, if_true]
  · intro hon
    exact gives_run (exec_staggerTimeout s) rfl rfl hup (if_pos hon)
  · intro hoff
    exact sets_nothing (gives_run (exec_staggerTimeout s) rfl rfl hup (if_neg (by rw [hoff]; decide)))
  · intro g hg
    exact sets_nothing (gives_run (exec_unsanctionedDraw p s) rfl (decide_eq_true hp) hup (if_pos (by rw [hg]; rfl)))
  · intro hnone hkind
    refine gives_run (exec_unsanctionedDraw p s) rfl (decide_eq_true hp) hup ((if_neg (by rw [hnone]; decide)).trans (if_pos (.inr ?_)))
    have hkeep : KeepsRegs (HG_INT.unsanctioned.id :: HG_PORT_STATUS.unsanctioned.id :: HG_PORT_STATUS.unsanctioned_count.id :: erIds) s
        (((s.set HG_PORT_STATUS.unsanctioned p 1).inc HG_PORT_STATUS.unsanctioned_count p).alarm HG_INT.unsanctioned 0 15 p) :=
      (((KeepsRegs.refl _ s).set HG_PORT_STATUS.unsanctioned _ _ (by decide)).set HG_PORT_STATUS.unsanctioned_count _ _ (by decide)).trans
        ((keepsRegs_alarm _ _ _ _ _ _).mono (fun i hi => by
          rcases List.mem_cons.1 hi with rfl | h
          · exact List.mem_cons_self ..
          · exact List.mem_cons_of_mem _ (List.mem_cons_of_mem _ (List.mem_cons_of_mem _ h))))
    unfold isFixedPort portKind
    rw [hkeep _ _ (by decide)]
    unfold portKind at hkind
    rw [hkind]
    rfl
  · intro mA hlow
    exact sets_cells (gives_run (exec_currentTrip false mA s) rfl rfl hup (if_pos hlow)) rfl
  · intro mA hhigh htrip
    refine gives_run (exec_currentTrip true mA s) rfl rfl hup ((if_neg (Nat.not_le.2 hhigh)).trans (if_neg ?_))
    have hkept : (s.set HG_RAIL.i5_ma 0 mA).get X.hg_trip 1 = 0 := (State.get_set_ne _ _ _ _ _ _ (by decide)).trans htrip
    simpa [State.on, b2n] using hkept
  · intro rail htrip
    exact sets_cells (gives_run (exec_currentPersist rail s) rfl rfl hup (if_pos htrip)) rfl
  · intro g hg hforce hnone
    exact gives_run (exec_groupPowerOff g s) rfl hg hup (if_neg (by simp only [hforce, hnone]; decide))
  · intro g hg hforce
    exact sets_nothing (gives_run (exec_groupPowerOff g s) rfl hg hup (if_pos (by rw [hforce]; rfl)))
  · intro hreq hsize
    exact sets_cells (gives_run (exec_requestStarved p s) rfl (decide_eq_true hp) hup (if_pos (by rw [hreq, hsize]; rfl))) rfl

end Sys2Proof.Machine
end

section
/-! Temperatures (O52). -/

namespace Sys2Proof.Machine

/-- A TEMP message of slot 16, which names no head, changes no head's temperature. -/
theorem gives_temp_slot16 : Gives (.temp 0 16 0 1) State.reset (tempEvents State.reset) :=
  gives_run (exec_temp 0 16 0 1 _) rfl rfl rfl rfl

/-- Refutes O52: its clause on TEMP takes the slot of the message modulo 16, where slot 16 names no head: in the part at reset the message
leaves TH_HEAD of head 0 as it is, and the clause has it written. -/
theorem not_temperatures : ¬ Obligations.Temperatures := by
  intro h
  obtain ⟨-, -, -, -, -, -, -, -, -, -, -, -, htemp, -⟩ := h State.reset (by decide)
  have hclaimed := htemp 0 16 1 (by decide)
  have heq : settled State.reset (tempEvents (State.reset.set TH_HEAD.head (16 * (0 / 16) + 16 % 16) 1)) =
      settled State.reset (tempEvents State.reset) := Host.Outcome.next.inj (hclaimed.symm.trans gives_temp_slot16)
  have hget := congrArg (fun t => State.get t TH_HEAD.head 0) heq
  rw [settled_get _ _ _ _ (by decide), settled_get _ _ _ _ (by decide)] at hget
  exact absurd hget (by decide)

end Sys2Proof.Machine
end

section
/-! Resets, watchdogs, DEEP and power states (O53). -/

namespace Sys2Proof.Machine

/-- A reset is taken unless one as strong still waits for its boot. -/
theorem takeReset_of_booted {s : State} {cls src : Nat} (h : s.on X.boot_wait = false) : takeReset cls src s = bigReset cls src true true s :=
  if_neg (by simp [h])

/-- The rails gone with no retract under way. -/
theorem gives_pwrgdDeassert {s : State} (hup : coreUp s = true) (hphase : ∀ a, a < 4 → s.get X.vcm_phase a ≠ 2) :
    Gives .pwrgdDeassert s (railsGone s) := by
  refine gives_run (exec_pwrgdDeassert s) rfl rfl hup (congrArg railsGone ?_)
  have h0 := hphase 0 (by decide)
  have h1 := hphase 1 (by decide)
  have h2 := hphase 2 (by decide)
  have h3 := hphase 3 (by decide)
  have hlist : List.range 4 = [0, 1, 2, 3] := rfl
  simp only [State.each, hlist, List.foldl_cons, List.foldl_nil, h0, h1, h2, h3, if_false]

/-- What PERST_ASSERT of port 0 shows while the core rails are up. -/
def perstShown (s : State) : State :=
  ((s.set X.perst_pin 0 1).set HIF_PORT_STATUS.perst 0 1).set HIF_PORT_STATUS.perst 1 (s.get X.perst_pin 1)

theorem gives_perstAssert_up {s u : State} (haux : auxUp s = true) (hup : s.get X.core_off = 0)
    (hu : (if s.on HIF_PORT_CFG.mode && s.on X.perst_pin 1 then takeReset 2 4 (perstShown s)
      else if s.on HIF_PORT_CFG.mode then ctlResetAll 0 (portDown 0 (perstShown s)) else takeReset 2 3 (perstShown s)) = u) :
    Gives (.perstAssert 0 false) s u := by
  have hon : ¬ (s.set X.perst_pin 0 1).on X.core_off = true := by
    rw [State.on_eq_true_iff, State.get_set_ne _ _ _ _ _ _ (by decide)]
    exact fun h => h hup
  have hfirst : (s.set X.perst_pin 0 1).get X.perst_pin 0 = 1 := State.get_set_same ..
  have hsecond : ((s.set X.perst_pin 0 1).set HIF_PORT_STATUS.perst 0 1).get X.perst_pin 1 = s.get X.perst_pin 1 := by
    rw [State.get_set_ne _ _ _ _ _ _ (by decide), State.get_set_inst _ _ _ _ _ _ (by decide)]
  have hshown : (s.set X.perst_pin 0 1).each [0, 1] (fun p t => t.set HIF_PORT_STATUS.perst p (t.get X.perst_pin p)) = perstShown s := by
    simp only [State.each, List.foldl_cons, List.foldl_nil, hfirst, hsecond]
    rfl
  have hpin0 : (perstShown s).on X.perst_pin 0 = true := by
    rw [State.on_eq_true_iff, perstShown, State.get_set_ne _ _ _ _ _ _ (by decide), State.get_set_ne _ _ _ _ _ _ (by decide), hfirst]
    decide
  have hpin1 : (perstShown s).on X.perst_pin 1 = s.on X.perst_pin 1 := by
    rw [State.on, perstShown, State.get_set_ne _ _ _ _ _ _ (by decide), hsecond]
    rfl
  refine gives_runAO (exec_perstAssert 0 false s) rfl rfl haux ((if_neg hon).trans ?_)
  change (let s' := (s.set X.perst_pin 0 1).each [0, 1] (fun p t => t.set HIF_PORT_STATUS.perst p (t.get X.perst_pin p))
    if s.on HIF_PORT_CFG.mode && s'.on X.perst_pin 0 && s'.on X.perst_pin 1 then takeReset 2 4 s'
    else if s.on HIF_PORT_CFG.mode then ctlResetAll 0 (portDown 0 s') else takeReset 2 3 s') = u
  simp only [hshown, hpin0, hpin1, Bool.and_true]
  exact hu

/-- What an actuator's reset that has ended leaves, before its link comes up again. -/
theorem gives_actResetEnd {s v : State} {a : Nat} (hup : coreUp s = true) (ha : a < 4) (hin : (s.get CR_ACT_STATUS.in_reset).testBit a = true)
    (hphase : s.get X.vcm_phase a = 0)
    (hv : (let s := (s.clearBitOf CR_ACT_STATUS.in_reset 0 a).raise CR_INT.act_done
      let s := s.each ((s.image.actHeads a).filter (fun h => s.get X.head_lost h == 2)) (fun h t => t.clear X.head_lost h)
      let s := hgFixedGrants (s.clear X.act_lost a)
      if s.on HL_CTRL.enable then s.each ((List.range 4).map (fun j => 4 * a + j)) (groupAsk false) else s) = v) : Gives (.actResetEnd a) s v :=
  gives_run (exec_actResetEnd a s) rfl (decide_eq_true ha) hup ((if_pos (by simp [hin, hphase])).trans hv)

/-- A power state is asked for while none is being entered. -/
theorem gives_powerStateGo {s u : State} {c t : Nat} (hup : coreUp s = true) (hc : c < 10) (ht : s.get CR_PWR_CTRL.target = t)
    (hstate : t = pwActive ∨ t = pwIdleB ∨ t = pwStandby) (hu : pwrRequest 1 t s = u) : Gives (.powerStateGo c) s u := by
  have hne : t ≠ 4 := by
    rcases hstate with h | h | h <;> rw [h] <;> decide
  refine gives_run (exec_powerStateGo c s) rfl (decide_eq_true hc) hup ?_
  subst ht
  exact (if_neg hne).trans ((if_pos hstate).trans hu)

/-- DEEP is the security core's to ask for. -/
theorem gives_powerStateGo_deep {s u : State} {c : Nat} (hup : coreUp s = true) (hc : c < 10) (ht : s.get CR_PWR_CTRL.target = 4)
    (hu : (if c = secCore ∧ s.get CR_PWR_STATUS.state = pwStandby ∧ s.get CR_PWR_STATUS.in_transition = 0
      ∧ s.get HIF_PORT_STATUS.dl_up 0 = 0 ∧ s.get HIF_PORT_STATUS.dl_up 1 = 0 then s.set X.pwr_deep 0 1 else s) = u) :
    Gives (.powerStateGo c) s u :=
  gives_run (exec_powerStateGo c s) rfl (decide_eq_true hc) hup ((if_pos ht).trans hu)

/-- Settles O53: which rails are up, what reset waits and what state the part is in decide. -/
theorem resetsAndPower : Obligations.ResetsAndPower := by
  intro s haux
  refine ⟨?_, ?_, ?_, ?_, ?_, ?_, ?_, ?_, ?_, ?_, ?_, ?_, ?_⟩
  · intro straps
    rfl
  · intro ns
    refine ⟨fun hlong => gives_runAO (exec_sysRstNLow ns s) rfl rfl haux (if_pos hlong), fun hshort => ?_⟩
    exact sets_nothing (gives_runAO (exec_sysRstNLow ns s) rfl rfl haux ((if_neg (by omega)).trans (if_pos hshort)))
  · exact gives_runAO (exec_auxiliaryRailLoss s) rfl rfl haux rfl
  · exact gives_runAO (exec_mgtReset s) rfl rfl haux rfl
  · intro p hp hoff
    refine sets_cells (gives_runAO (exec_perstAssert p false s) rfl (decide_eq_true hp) haux (if_pos ?_)) rfl
    exact (((KeepsRegs.refl [X.perst_pin.id] s).set X.perst_pin p 1 (by decide)).on 0 (by decide)).trans hoff
  · intro hup
    refine ⟨fun hone => gives_perstAssert_up haux hup ?_, fun htwo hpin => gives_perstAssert_up haux hup ?_,
      fun htwo hpin => gives_perstAssert_up haux hup ?_⟩
    · simp only [hone, Bool.false_and, Bool.false_eq_true, if_false]
      rfl
    · simp only [htwo, hpin, Bool.and_false, Bool.false_eq_true, if_false, if_true]
      rfl
    · simp only [htwo, hpin, Bool.and_self, if_true]
      rfl
  · intro p hp hup
    refine sets_cells (gives_runAO (exec_perstDeassert p s) rfl (decide_eq_true hp) haux (if_neg ?_)) rfl
    rw [State.on_eq_true_iff, State.clear, State.get_set_ne _ _ _ _ _ _ (by decide)]
    exact fun h => h hup
  · intro hoff hdeep
    exact gives_runAO (exec_pwrgdAssert s) rfl rfl haux (if_pos (by simp [hoff, hdeep]))
  · intro hup
    refine sets_nothing (gives_runAO (exec_pwrgdAssert s) rfl rfl haux (if_neg ?_))
    have hzero : s.get X.core_off = 0 := eq_of_beq hup
    simp [State.on, hzero]
  · intro hdeep hwake
    exact sets_cells (gives_runAO (exec_deepWakeTimer s) rfl rfl haux (if_pos ⟨hdeep, hwake⟩)) rfl
  · intro n hdeep hwake
    exact gives_runAO (exec_deepExit n s) rfl rfl haux (if_pos ⟨hdeep, hwake⟩)
  · intro n hwake
    exact sets_nothing (gives_runAO (exec_deepExit n s) rfl rfl haux (if_neg (by simp [hwake])))
  · intro hup
    refine ⟨?_, ?_, ?_, ?_, ?_, ?_, ?_, ?_, ?_, ?_, ?_, ?_, ?_, ?_, ?_, ?_, ?_, ?_, ?_, ?_, ?_, ?_, ?_, ?_, ?_, ?_, ?_, ?_, ?_⟩
    · exact gives_pwrgdDeassert hup
    · intro src hlow hhigh hbooted
      exact gives_run (exec_warmReset src s) rfl rfl hup ((if_pos ⟨hlow, hhigh⟩).trans (takeReset_of_booted hbooted))
    · intro src hlow hhigh hwait hcls
      exact sets_nothing (gives_run (exec_warmReset src s) rfl rfl hup ((if_pos ⟨hlow, hhigh⟩).trans (if_pos ⟨hwait, hcls⟩)))
    · intro hbooted
      exact gives_run (exec_watchdogReset 9 s) rfl rfl hup ((if_pos (.inl rfl)).trans (takeReset_of_booted hbooted))
    · intro c hc hne
      exact sets_nothing (gives_run (exec_wrmCommand c s) rfl (decide_eq_true hc) hup (if_neg hne))
    · intro hbooted
      exact gives_run (exec_wrmCommand secCore s) rfl rfl hup ((if_pos rfl).trans (takeReset_of_booted hbooted))
    · intro hact
      exact gives_run (exec_activationTimeout s) rfl rfl hup (if_pos hact)
    · intro hact
      exact sets_nothing (gives_run (exec_activationTimeout s) rfl rfl hup (if_neg (by rw [hact]; decide)))
    · intro m
      exact sets_nothing (gives_run (exec_actReset mgtCore m s) rfl rfl hup (if_pos rfl))
    · intro c hc
      exact gives_run (exec_actReset c 1 s) rfl (decide_eq_true (hc.trans (by decide))) hup (if_neg (Nat.ne_of_lt hc))
    · intro a ha hin hphase u u' v
      refine ⟨fun hoff => gives_actResetEnd hup ha hin hphase (if_neg ?_), fun hon => gives_actResetEnd hup ha hin hphase (if_pos hon)⟩
      exact Bool.eq_false_iff.1 hoff
    · intro a ha hout
      exact sets_nothing (gives_run (exec_actResetEnd a s) rfl (decide_eq_true ha) hup (if_neg (by simp [hout])))
    · intro v
      exact gives_run (exec_wdtEnable v s) rfl rfl hup rfl
    · intro c hc hen
      exact sets_cells (gives_run (exec_wdtKick c 0xC0DE s) rfl (decide_eq_true (hc.trans (by decide))) hup
        ((if_pos rfl).trans (if_pos ⟨hc, hen⟩))) rfl
    · intro c v hc hv
      exact gives_run (exec_wdtKick c v s) rfl (decide_eq_true hc) hup (if_neg hv)
    · intro hen hst
      exact gives_run (exec_wdtStage1 s) rfl rfl hup (if_pos ⟨hen, hst⟩)
    · intro hen hst hbooted
      exact gives_run (exec_wdtStage2 s) rfl rfl hup ((if_pos ⟨hen, hst⟩).trans (takeReset_of_booted hbooted))
    · intro hoff
      exact ⟨sets_nothing (gives_run (exec_wdtStage1 s) rfl rfl hup (if_neg (by simp [hoff]))),
        sets_nothing (gives_run (exec_wdtStage2 s) rfl rfl hup (if_neg (by simp [hoff])))⟩
    · intro hask hst hstill hdrained hidle
      refine gives_run (exec_deepEntry s) rfl rfl hup ((if_pos ⟨hask, hst, hstill⟩).trans ?_)
      simp only [hdrained, if_true, hidle, Bool.false_eq_true, if_false]
    · intro hnone
      exact sets_nothing (gives_run (exec_deepEntry s) rfl rfl hup (if_neg (by simp [hnone])))
    · intro ppm
      exact ⟨fun hfar => gives_run (exec_kclkCheck ppm s) rfl rfl hup (if_pos hfar),
        fun hnear => sets_nothing (gives_run (exec_kclkCheck ppm s) rfl rfl hup (if_neg (Nat.not_lt.2 hnear)))⟩
    · intro c hc ht hstill
      exact gives_powerStateGo hup hc ht (.inr (.inl rfl)) (if_neg (by rw [State.on_eq_true_iff]; exact fun h => h hstill))
    · intro c hc ht hmove
      exact sets_cells (gives_powerStateGo hup hc ht (.inr (.inr rfl)) (if_pos hmove)) rfl
    · intro ht hst hstill h0 h1
      exact sets_cells (gives_powerStateGo_deep hup (by decide) ht (if_pos ⟨rfl, hst, hstill, h0, h1⟩)) rfl
    · intro c hc hne ht
      exact sets_nothing (gives_powerStateGo_deep hup hc ht (if_neg (fun h => hne h.1)))
    · intro hmove
      exact gives_run (exec_powerTransitionStep s) rfl rfl hup (if_pos hmove)
    · intro hstill
      exact sets_nothing (gives_run (exec_powerTransitionStep s) rfl rfl hup (if_neg (by rw [hstill]; decide)))
    · intro hen hst hstill hidle hlanes
      refine gives_run (exec_idleAEntry s) rfl rfl hup ((if_pos ⟨hen, hst, hstill, hidle⟩).trans ?_)
      simp only [hlanes]
      rfl
    · intro hoff
      exact sets_nothing (gives_run (exec_idleAEntry s) rfl rfl hup (if_neg (by simp [hoff])))

end Sys2Proof.Machine
end

section
/-! The boot, SB_CTRL's actions and owner commands (O54). -/

namespace Sys2Proof.Machine

/-- The result of an owner command that is turned away. -/
def ownerRejectCells (s : State) (b : List Byte) : List CellVal :=
  [(SB_CMD_STATUS.op, 0, numAt b 4 2), (SB_CMD_STATUS.result, 0, ownerCause s b), (SB_INT.cmd_rejected, 0, 1)]

theorem ownerCommand_of_cause {s : State} {b : List Byte} (h : ownerCause s b ≠ 0) : ownerCommand b s = setAll (ownerRejectCells s b) s := by
  unfold ownerCommand
  simp only [h, if_false]
  rfl

theorem ownerCommand_of_run {s : State} {b : List Byte} (h : ownerCause s b = 0) (hrun : (ownerRun b s).1 = 0) :
    ownerCommand b s = ((ownerRun b s).2.set SB_CMD_STATUS.op 0 (numAt b 4 2)).set SB_CMD_STATUS.result 0 0 := by
  unfold ownerCommand
  simp only [h, if_true, hrun]

/-- An owner command whose block names its own operation. -/
theorem ownerOp_eq {s : State} {b : List Byte} {op : Nat} (h : numAt b 4 2 = op) : ownerOp op b s = ownerCommand b s := if_pos h

/-- An action of SB_CTRL on a sequencer's microcode. -/
theorem gives_reloadMicrocode {s u : State} {c : Nat} (hup : coreUp s = true) (hc : c < 10) (hne : c ≠ mgtCore) (hu : reloadMicro s = u) :
    Gives (.reloadMicrocode c) s u :=
  gives_run (exec_reloadMicrocode c s) rfl (decide_eq_true hc) hup ((if_neg hne).trans hu)

/-- A stopped sequencer of an actuator that the part has reads its microcode again. -/
theorem reloadMicro_stopped {s : State} (hst : s.get SQ_STATUS.state (s.get SB_CTRL.seq) = 2) (hact : s.image.hasAct (s.get SB_CTRL.seq) = true) :
    reloadMicro s = if reloadOk s (s.get SB_CTRL.seq) then (loadStore (s.get SB_CTRL.seq) s).raise SB_INT.reload_done
      else reloadFailed (s.get SB_CTRL.seq) s := by
  unfold reloadMicro
  refine (if_neg ?_).trans (if_neg ?_)
  · rw [hst]
    decide
  · rw [hact]
    decide

/-- A sequencer that runs or is being loaded denies the reload. -/
theorem reloadMicro_denied {s : State} (hst : s.get SQ_STATUS.state (s.get SB_CTRL.seq) = 1 ∨ s.get SQ_STATUS.state (s.get SB_CTRL.seq) = 3) :
    reloadMicro s = s.raise SQ_INT.denied (s.get SB_CTRL.seq) := by
  unfold reloadMicro
  refine if_pos ?_
  rcases hst with h | h <;> rw [h] <;> decide

/-- Settles O54: the core that asks, the sequencer's state, and the cause that an owner command's block gives. -/
theorem bootActions : Obligations.BootActions := by
  intro s hup haux
  refine ⟨?_, ?_, fun c hc hne => ?_, ?_, fun b hcause => ?_, fun b hcause hrun => ?_, fun b m himg => ?_, fun b himg hmp => ?_⟩
  · intro hwait
    exact gives_run (exec_bootSequence s) rfl rfl hup (if_pos hwait)
  · intro hbooted
    exact sets_nothing (gives_run (exec_bootSequence s) rfl rfl hup (if_neg (by rw [hbooted]; decide)))
  · refine ⟨gives_run (exec_confirm c s) rfl (decide_eq_true hc) hup (if_neg hne),
      gives_run (exec_raiseFloors c s) rfl (decide_eq_true hc) hup (if_neg hne), fun hst => ?_, fun hst hact hok => ?_, fun hst hact hbad => ?_⟩
    · exact sets_cells (gives_reloadMicrocode hup hc hne (reloadMicro_denied hst)) rfl
    · exact gives_reloadMicrocode hup hc hne ((reloadMicro_stopped hst hact).trans (if_pos hok))
    · exact gives_reloadMicrocode hup hc hne ((reloadMicro_stopped hst hact).trans (if_neg (by rw [hbad]; decide)))
  · exact ⟨sets_nothing (gives_run (exec_confirm mgtCore s) rfl rfl hup (if_pos rfl)),
      sets_nothing (gives_run (exec_raiseFloors mgtCore s) rfl rfl hup (if_pos rfl)),
      sets_nothing (gives_run (exec_reloadMicrocode mgtCore s) rfl rfl hup (if_pos rfl))⟩
  · have hreject {op : Nat} (hop : numAt b 4 2 = op) : ownerOp op b s = setAll (ownerRejectCells s b) s :=
      (ownerOp_eq hop).trans (ownerCommand_of_cause hcause)
    exact ⟨fun hop => sets_cells (gives_run (exec_seal b s) rfl rfl hup (hreject hop)) rfl,
      fun hop => sets_cells (gives_run (exec_lifecycleTransition b s) rfl rfl hup (hreject hop)) rfl,
      fun hop => sets_cells (gives_run (exec_revokeSignKey b s) rfl rfl hup (hreject hop)) rfl,
      fun hop => sets_cells (gives_run (exec_programSignKey b s) rfl rfl hup (hreject hop)) rfl,
      fun hop => sets_cells (gives_run (exec_programOwnerKey b s) rfl rfl hup (hreject hop)) rfl⟩
  · have haccept {op : Nat} (hop : numAt b 4 2 = op) := (ownerOp_eq (s := s) hop).trans (ownerCommand_of_run hcause hrun)
    exact ⟨fun hop => gives_run (exec_seal b s) rfl rfl hup (haccept hop),
      fun hop => gives_run (exec_lifecycleTransition b s) rfl rfl hup (haccept hop),
      fun hop => gives_run (exec_revokeSignKey b s) rfl rfl hup (haccept hop),
      fun hop => gives_run (exec_programSignKey b s) rfl rfl hup (haccept hop),
      fun hop => gives_run (exec_programOwnerKey b s) rfl rfl hup (haccept hop)⟩
  · have hon : (s.on X.core_off || s.img.isNone) = false := by
      have hzero : s.get X.core_off = 0 := eq_of_beq hup
      simp [State.on, hzero, himg]
    exact gives_runAO (exec_ownerCommand b true s) rfl rfl haux ((if_pos rfl).trans (if_neg (by rw [hon]; decide)))
  · refine effect_rest (g := fun s => { s with mpResp := some { command := 0xC9, status := 0xE0, data := [] } })
      (gives_runAO (exec_ownerCommand b false s) rfl rfl haux ?_) rfl
    simp only [hmp, himg, Option.isNone_none, Bool.or_true, Bool.false_eq_true, Bool.true_eq_false, if_false, if_true]

end Sys2Proof.Machine
end

section
/-! The data memories (O55). -/

namespace Sys2Proof.Machine

/-- The part at reset, without its auxiliary rail. -/
def noAuxRail : State := State.reset.set X.aux_off 0 1

/-- REGISTER_WRITE is a command of the always-on domain: without the auxiliary rail it has no effect. -/
theorem gives_registerWrite_noAuxRail (core : Nat) (w : Bool) (a width v : Nat) (hcore : okCore core = true) :
    Gives (.registerWrite core w a width v) noAuxRail noAuxRail := by
  have hoff : (noAuxRail.get X.aux_off == 0) = false := by decide
  unfold Gives
  rw [exec_registerWrite, execRegisterWrite, runAO, answer, hcore, hoff]
  rfl

/-- Refutes O55: its clause on a read of a core's own memory through REGISTER_WRITE asks for the core rails alone. That command needs the
auxiliary rail: in a state without it (with the core rails up) the read is not answered, and the clause has the answer on the bus. -/
theorem not_dataMemories : ¬ Obligations.DataMemories := by
  intro h
  obtain ⟨-, -, -, -, -, -, -, -, -, -, -, -, -, -, -, -, -, -, -, -, -, -, -, -, -, -, -, -, -, -, -, hprivate, -⟩ :=
    h noAuxRail 0 (by decide) (by decide)
  obtain ⟨-, -, hread⟩ := hprivate 8 privBase [] 0 0 (.inl rfl) (by decide)
  obtain ⟨t, hx, hrest, -, -⟩ := hread (by decide) (by decide)
  obtain rfl := Host.Outcome.next.inj (hx.symm.trans (gives_registerWrite_noAuxRail 8 false privBase 32 0 rfl))
  have hbus := congrArg State.bus hrest
  simp only [settled_bus] at hbus
  exact absurd hbus (by decide)

end Sys2Proof.Machine
end

section
/-! Cores, caches and the interrupt controller (O56): a maintenance operation over its range. -/

namespace Sys2Proof.Machine

theorem mergeL1_of_l1d_nil {s : State} {line : Nat} (h : s.l1d = []) : mergeL1 line s = s := by
  unfold mergeL1
  rw [h]
  rfl

theorem cachedLine_of_l2 {s : State} {line : Nat} {x : CacheLine} (hl1 : s.l1d = []) (h : KV.get s.l2 line = some x) :
    cachedLine s line = some x := by
  simp only [cachedLine, mergeL1_of_l1d_nil hl1, h]

/-- The cells that a maintenance operation writes when it starts. -/
def cmoCells (op addr : Nat) : List CellVal :=
  [(AP_CMO_STATUS.locked_skipped, 0, 0), (AP_CMO_STATUS.busy, 0, 1), (AP_CMO_STATUS.result, 0, 0), (X.cmo_op, 0, op), (X.cmo_end, 0, 1),
   (X.cmo_addr, 0, addr)]

theorem cmoFirst_clear (s : State) : cmoFirst (s.clear AP_CMO_STATUS.locked_skipped) = cmoFirst s :=
  congrArg (· / 64) (State.get_set_ne _ _ _ _ _ _ (by decide))

theorem cmoLast_clear (s : State) : cmoLast (s.clear AP_CMO_STATUS.locked_skipped) = cmoLast s :=
  congrArg (fun a => 64 * (a / 64)) (State.get_set_ne _ _ _ _ _ _ (by decide))

theorem cmoLines_clear (s : State) : cmoLines (s.clear AP_CMO_STATUS.locked_skipped) = cmoLines s := by
  have hend : (s.clear AP_CMO_STATUS.locked_skipped).get AP_CMO_END.addr = s.get AP_CMO_END.addr := State.get_set_ne _ _ _ _ _ _ (by decide)
  rw [cmoLines, hend, cmoFirst_clear, cmoLines]

theorem cmoEnds_cmoBegin (op addr : Nat) (s : State) :
    cmoEnds 1 addr (cmoBegin op (s.clear AP_CMO_STATUS.locked_skipped)) = setAll (cmoCells op addr) s := rfl

theorem cmoRange_clear (op : Nat) (s : State) : cmoRange op (s.clear AP_CMO_STATUS.locked_skipped) =
    cmoGo op (cmoFirst s) (cmoFirst s + cmoLines s) (setAll (cmoCells op (cmoLast s)) s) := by
  simp only [cmoRange, cmoFirst_clear, cmoLines_clear, cmoLast_clear, cmoEnds_cmoBegin]

theorem cmoAll_clear (s : State) : cmoAll (s.clear AP_CMO_STATUS.locked_skipped) = cmoGo 6 0 allLines (setAll (cmoCells 6 0) s) := by
  simp only [cmoAll, cmoEnds_cmoBegin]

/-- A lock-fill of a locked way. -/
theorem cmoLockFill_clear {s : State} (hlock : (s.get AP_L2_LOCK.ways).testBit (s.get AP_CMO_CTRL.way) = true) :
    cmoLockFill (s.clear AP_CMO_STATUS.locked_skipped) =
      lockFill (s.get AP_CMO_CTRL.way) (lockSpan s (cmoFirst s)) (cmoFirst s) (setAll (cmoCells 4 (cmoLast s)) s) := by
  have hway : (s.clear AP_CMO_STATUS.locked_skipped).get AP_CMO_CTRL.way = s.get AP_CMO_CTRL.way := State.get_set_ne _ _ _ _ _ _ (by decide)
  have hways : (s.clear AP_CMO_STATUS.locked_skipped).get AP_L2_LOCK.ways = s.get AP_L2_LOCK.ways :=
    State.get_set_ne _ _ _ _ _ _ (by decide)
  simp only [cmoLockFill, hway, hways, hlock, if_true, lockSpan, cmoFirst_clear, cmoLines_clear, cmoLast_clear, cmoEnds_cmoBegin]

theorem cmoLockFill_refused {s : State} (hlock : (s.get AP_L2_LOCK.ways).testBit (s.get AP_CMO_CTRL.way) = false) :
    cmoLockFill (s.clear AP_CMO_STATUS.locked_skipped) =
      setAll [(AP_CMO_STATUS.locked_skipped, 0, 0), (AP_CMO_STATUS.result, 0, 3)] s := by
  have hway : (s.clear AP_CMO_STATUS.locked_skipped).get AP_CMO_CTRL.way = s.get AP_CMO_CTRL.way := State.get_set_ne _ _ _ _ _ _ (by decide)
  have hways : (s.clear AP_CMO_STATUS.locked_skipped).get AP_L2_LOCK.ways = s.get AP_L2_LOCK.ways :=
    State.get_set_ne _ _ _ _ _ _ (by decide)
  simp only [cmoLockFill, hway, hways, hlock, Bool.false_eq_true, if_false]
  rfl

/-- With no fill under way an operation acts on every cached line of its range. -/
theorem cmoGo_of_no_fill {s : State} (h : s.fills = []) (op lo hi : Nat) :
    cmoGo op lo hi s = (cachedSpan s lo hi).foldl (fun u l => cmoLine op l u) s := by
  have hnone : pendingFill s lo hi = none := by simp only [pendingFill, h, List.map_nil, List.filter_nil, List.foldl_nil]
  simp only [cmoGo, hnone]

theorem cmoGo_of_no_line {s : State} (h : s.fills = []) {op lo hi : Nat} (hspan : cachedSpan s lo hi = []) : cmoGo op lo hi s = s := by
  rw [cmoGo_of_no_fill h, hspan, List.foldl_nil]

theorem cachedSpan_of_empty {s : State} (hl2 : s.l2 = []) (hvictim : s.victim = []) (lo hi : Nat) : cachedSpan s lo hi = [] := by
  simp only [cachedSpan, hl2, hvictim, List.map_nil, List.append_nil, List.filter_nil, List.foldl_nil]

theorem cachedSpan_of_line {s : State} {line lo hi : Nat} {x : CacheLine} (hl2 : s.l2 = [(line, x)]) (hvictim : s.victim = []) (hlo : lo ≤ line)
    (hhi : line < hi) : cachedSpan s lo hi = [line] := by
  simp [cachedSpan, hl2, hvictim, hlo, hhi, insertNat]

theorem dropL1_of_empty {s : State} (hl1d : s.l1d = []) (hl1i : s.l1i = []) (line : Nat) : dropL1 line s = s := by
  have hd : s.l1d.filter (fun p => p.1.2 != line) = s.l1d := by rw [hl1d]; rfl
  have hi : s.l1i.filter (fun p => p.1.2 != line) = s.l1i := by rw [hl1i]; rfl
  rw [dropL1, hd, hi]

/-- The one line that the caches hold is dropped. -/
theorem dropLine_of_line {s : State} {line : Nat} {x : CacheLine} (hl1d : s.l1d = []) (hl1i : s.l1i = []) (hvictim : s.victim = [])
    (hl2 : s.l2 = [(line, x)]) : dropLine line s = { s with l2 := [] } := by
  have hv : s.victim.filter (fun p => p.1 != line) = s.victim := by rw [hvictim]; rfl
  have hdel : KV.del s.l2 line = [] := by
    rw [hl2]
    exact if_pos rfl
  rw [dropLine, dropL1_of_empty hl1d hl1i, hdel, hv]

/-- An invalidate removes a line of no locked way, clean or dirty. -/
theorem cmoLine_invalidate {s : State} {line : Nat} {x : CacheLine} (hl1d : s.l1d = []) (hl1i : s.l1i = []) (hvictim : s.victim = [])
    (hl2 : s.l2 = [(line, x)]) (hlock : lineLocked s line = false) : cmoLine 2 line s = { s with l2 := [] } := by
  rw [cmoLine, hlock]
  exact dropLine_of_line hl1d hl1i hvictim hl2

/-- Cleaning a clean line leaves it as it is. -/
theorem cleanLine_of_clean {s : State} {line : Nat} {x : CacheLine} (hl1d : s.l1d = []) (hvictim : s.victim = [])
    (hl2 : s.l2 = [(line, x)]) (hclean : x.dirty = false) : cleanLine line s = s := by
  have hget : KV.get s.l2 line = some x := by
    rw [hl2]
    exact if_pos rfl
  have hback : lineBack line x [] s = s := if_neg (by rw [hclean]; decide)
  have hsame : ({ x with dirty := false } : CacheLine) = x := by rw [← hclean]
  have hmap : s.l2.map (fun p => if p.1 = line then (p.1, { p.2 with dirty := false }) else p) = s.l2 := by
    simp only [hl2, List.map_cons, List.map_nil, if_true, hsame]
  have hv : s.victim.map (fun p => if p.1 = line then (p.1, { p.2 with dirty := false }) else p) = s.victim := by
    rw [hvictim]
    rfl
  simp only [cleanLine, mergeL1_of_l1d_nil hl1d, cachedLine_of_l2 hl1d hget, hback, hmap, hv]

theorem cmoLine_cleanInvalidate {s : State} {line : Nat} {x : CacheLine} (hl1d : s.l1d = []) (hl1i : s.l1i = []) (hvictim : s.victim = [])
    (hl2 : s.l2 = [(line, x)]) (hlock : lineLocked s line = false) (hclean : x.dirty = false) :
    cmoLine 3 line s = { s with l2 := [] } := by
  rw [cmoLine, hlock, if_neg (by decide), cleanLine_of_clean hl1d hvictim hl2 hclean]
  exact dropLine_of_line hl1d hl1i hvictim hl2

/-- An invalidate leaves a line of a locked way and counts it. -/
theorem cmoLine_locked {s : State} {line : Nat} (hl1d : s.l1d = []) (hl1i : s.l1i = []) (hlock : lineLocked s line = true) :
    cmoLine 2 line s = (s.inc AP_CMO_STATUS.locked_skipped).raise AP_INT.locked_hit := by
  simp only [cmoLine, hlock, if_true, Nat.reduceEqDiff, if_false, true_or, and_self, skipLocked, mergeL1_of_l1d_nil hl1d,
    dropL1_of_empty hl1d hl1i]

theorem lineLocked_started (s : State) (op addr line : Nat) : lineLocked (setAll (cmoCells op addr) s) line = lineLocked s line := by
  have hways : (setAll (cmoCells op addr) s).get AP_L2_LOCK.ways = s.get AP_L2_LOCK.ways := setAll_get_other _ s 0 rfl
  have hl2 : (setAll (cmoCells op addr) s).l2 = s.l2 := rfl
  simp only [lineLocked, hways, hl2]

theorem gives_whenIdle {c : Instr} {s u : State} {r : Res} {g : State → State} (hx : exec c s = r) (he : r = run true s (fun s => cmoStart s g))
    (hup : coreUp s = true) (hidle : s.on AP_CMO_STATUS.busy = false) (h : g (s.clear AP_CMO_STATUS.locked_skipped) = u) : Gives c s u :=
  gives_run hx he rfl hup ((if_neg (by rw [hidle]; decide)).trans h)

theorem sets_whenBusy {c : Instr} {s : State} {r : Res} {g : State → State} (hx : exec c s = r) (he : r = run true s (fun s => cmoStart s g))
    (hup : coreUp s = true) (hbusy : s.on AP_CMO_STATUS.busy = true) : Sets c s [(AP_CMO_STATUS.result, 0, 2)] :=
  sets_cells (gives_run hx he rfl hup (if_pos hbusy)) rfl

theorem coreResume_of_no_wait {s : State} (h : s.coreWait = []) (n c : Nat) : coreResume n c s = s := by
  cases n with
  | zero => rfl
  | succ n =>
    have hnone : s.coreWait.find? (fun p => p.1 == c) = none := by rw [h]; rfl
    simp only [coreResume, hnone, ite_self]

theorem each_of_fixed {g : Nat → State → State} {s : State} {l : List Nat} (h : ∀ c ∈ l, g c s = s) : s.each l g = s := by
  induction l with
  | nil => rfl
  | cons c r ih =>
    have hfirst := h c (List.mem_cons_self ..)
    simp only [State.each, List.foldl_cons, hfirst]
    exact ih (fun d hd => h d (List.mem_cons_of_mem _ hd))

/-- The commands of a maintenance operation over the range, with the engine idle. -/
theorem gives_cmoRange {s : State} (hup : coreUp s = true) (hidle : s.on AP_CMO_STATUS.busy = false) {c : Instr} {op : Nat} {r : Res}
    (hx : exec c s = r) (he : r = run true s (fun s => cmoStart s (cmoRange op))) :
    Gives c s (cmoGo op (cmoFirst s) (cmoFirst s + cmoLines s) (setAll (cmoCells op (cmoLast s)) s)) :=
  gives_whenIdle hx he hup hidle (cmoRange_clear op s)

/-- One line that an invalidate of an idle engine meets in a locked way is counted, after the count's start at 0. -/
theorem sets_invalidate_locked {s : State} {line : Nat} (hl1d : s.l1d = []) (hl1i : s.l1i = []) (hlock : lineLocked s line = true)
    (h : Gives .invalidate s (cmoLine 2 line (setAll (cmoCells 2 (cmoLast s)) s))) :
    Sets .invalidate s ((cmoCells 2 (cmoLast s)).tail ++ [(AP_CMO_STATUS.locked_skipped, 0, 1), (AP_INT.locked_hit, 0, 1)]) := by
  have hzero : (setAll (cmoCells 2 (cmoLast s)) s).get AP_CMO_STATUS.locked_skipped = 0 :=
    (setAll_get_other (cmoCells 2 (cmoLast s)).tail (s.set AP_CMO_STATUS.locked_skipped 0 0) 0 rfl).trans (State.get_set_same _ _ _ _)
  have hcount : (setAll (cmoCells 2 (cmoLast s)) s).inc AP_CMO_STATUS.locked_skipped =
      (setAll (cmoCells 2 (cmoLast s)) s).set AP_CMO_STATUS.locked_skipped 0 1 := by
    rw [State.inc_of_lt (by rw [hzero]; decide), hzero]
  rw [cmoLine_locked (s := setAll (cmoCells 2 (cmoLast s)) s) hl1d hl1i ((lineLocked_started s _ _ _).trans hlock), hcount] at h
  have hfirst : Gives .invalidate s (setAll ((cmoCells 2 (cmoLast s)).tail ++ [(AP_CMO_STATUS.locked_skipped, 0, 1), (AP_INT.locked_hit, 0, 1)])
      (setAll [(AP_CMO_STATUS.locked_skipped, 0, 0)] s)) := by
    rw [setAll_append]
    exact h
  refine effect_overwrite (g := id) (first := []) (again := [(AP_CMO_STATUS.locked_skipped, 0, 0)]) hfirst rfl rfl ?_
  · intro p hp
    exact ⟨(AP_CMO_STATUS.locked_skipped, 0, 1), by simp, by rw [List.mem_singleton.1 hp], by rw [List.mem_singleton.1 hp]⟩

section
variable {s : State} (hup : coreUp s = true) (hidle : s.on AP_CMO_STATUS.busy = false)
include hup hidle

theorem gives_cmoAll : Gives .cleanAndInvalidateAll s (cmoGo 6 0 allLines (setAll (cmoCells 6 0) s)) :=
  gives_whenIdle (exec_cleanAndInvalidateAll s) rfl hup hidle (cmoAll_clear s)

theorem gives_lockFill (hlock : (s.get AP_L2_LOCK.ways).testBit (s.get AP_CMO_CTRL.way) = true) : Gives .lockFill s
    (lockFill (s.get AP_CMO_CTRL.way) (lockSpan s (cmoFirst s)) (cmoFirst s) (setAll (cmoCells 4 (cmoLast s)) s)) :=
  gives_whenIdle (exec_lockFill s) rfl hup hidle (cmoLockFill_clear hlock)

/-- A command over the range that finds no line of it in the caches. -/
theorem sets_cmoRange_of_no_line {c : Instr} {op : Nat} {r : Res} (hx : exec c s = r) (he : r = run true s (fun s => cmoStart s (cmoRange op)))
    (hnofill : s.fills = []) (hspan : cachedSpan s (cmoFirst s) (cmoFirst s + cmoLines s) = []) : Sets c s (cmoCells op (cmoLast s)) := by
  have hgives := gives_cmoRange hup hidle hx he
  have hstarted : cachedSpan (setAll (cmoCells op (cmoLast s)) s) (cmoFirst s) (cmoFirst s + cmoLines s) = [] := hspan
  rw [cmoGo_of_no_line (s := setAll (cmoCells op (cmoLast s)) s) hnofill hstarted] at hgives
  exact sets_cells hgives rfl

/-- A command over the range that finds one line of it in the caches. -/
theorem gives_cmoRange_of_line {c : Instr} {op : Nat} {r : Res} (hx : exec c s = r) (he : r = run true s (fun s => cmoStart s (cmoRange op)))
    {line : Nat} {x : CacheLine} (hnofill : s.fills = []) (hvictim : s.victim = []) (hl2 : s.l2 = [(line, x)]) (hlo : cmoFirst s ≤ line)
    (hhi : line < cmoFirst s + cmoLines s) : Gives c s (cmoLine op line (setAll (cmoCells op (cmoLast s)) s)) := by
  have hgives := gives_cmoRange hup hidle hx he
  have hspan : cachedSpan (setAll (cmoCells op (cmoLast s)) s) (cmoFirst s) (cmoFirst s + cmoLines s) = [line] :=
    cachedSpan_of_line (s := setAll (cmoCells op (cmoLast s)) s) hl2 hvictim hlo hhi
  rw [cmoGo_of_no_fill (s := setAll (cmoCells op (cmoLast s)) s) hnofill, hspan, List.foldl_cons, List.foldl_nil] at hgives
  exact hgives

theorem sets_lockFill_of_no_line (hlock : (s.get AP_L2_LOCK.ways).testBit (s.get AP_CMO_CTRL.way) = true) (hnone : cmoLines s = 0) :
    Sets .lockFill s (cmoCells 4 (cmoLast s)) := by
  have hgives := gives_lockFill hup hidle hlock
  have hspan : lockSpan s (cmoFirst s) = 0 := by
    rw [lockSpan, hnone]
    omega
  rw [hspan, lockFill] at hgives
  exact sets_cells hgives rfl

end

/-- Settles O56: the cores' run bits, the maintenance engine, the protection errors and the interrupt controller. -/
theorem coresAndInterrupts : Obligations.CoresAndInterrupts := by
  intro s c hup hc
  have hcore : okCore c = true := decide_eq_true hc
  refine ⟨?_, ?_, ?_, ?_, ?_, ?_, ?_, ?_, ?_, ?_, ?_, ?_, ?_, ?_, ?_, ?_, ?_, ?_, ?_, ?_, ?_⟩
  · intro t ht hmay hrun himage happ
    have hwf : (okCore c && okAppCore t) = true := by rw [hcore]; exact decide_eq_true ht
    exact gives_run (exec_coreRun c t s) rfl hwf hup (if_pos (by simp [hmay, hrun, himage, happ]))
  · intro t ht hno
    have hwf : (okCore c && okAppCore t) = true := by rw [hcore]; exact decide_eq_true ht
    refine sets_nothing (gives_run (exec_coreRun c t s) rfl hwf hup (if_neg ?_))
    rcases hno with h | h | h
    · simp [h]
    · have hne : s.get SB_STATUS.app_absent ≠ 0 := by simpa [State.on] using h
      simp [hne]
    · have hne : s.get AP_CORE_CTRL.run t ≠ 0 := by simpa [State.on] using h
      simp [hne]
  · intro t ht hmay
    have hwf : (okCore c && okAppCore t) = true := by rw [hcore]; exact decide_eq_true ht
    exact ⟨sets_nothing (gives_run (exec_coreRun c t s) rfl hwf hup (if_neg (by simp [hmay]))),
      sets_nothing (gives_run (exec_coreStop c t s) rfl hwf hup (if_neg (by simp [hmay])))⟩
  · intro t ht hmay hrun
    have hwf : (okCore c && okAppCore t) = true := by rw [hcore]; exact decide_eq_true ht
    exact gives_run (exec_coreStop c t s) rfl hwf hup (if_pos (by simp [hmay, hrun]))
  · intro t ht hrun
    have hwf : (okCore c && okAppCore t) = true := by rw [hcore]; exact decide_eq_true ht
    exact sets_nothing (gives_run (exec_coreStop c t s) rfl hwf hup (if_neg (by simp [State.on, hrun])))
  · exact fun t ht => sets_cells (gives_run (exec_machineTimer t s) rfl (decide_eq_true ht) hup rfl) rfl
  · intro hwait hstate
    refine gives_run (exec_cacheInvalidateDone s) rfl rfl hup (congrArg icEval ?_)
    have hnone : (List.range 8).filter (fun c => (s.clear X.cache_inval).get AP_CORE_STATUS.state c == coreInval) = [] := by
      refine List.filter_eq_nil_iff.2 (fun t ht => ?_)
      rw [State.clear, State.get_set_ne _ _ _ _ _ _ (by decide)]
      simpa using hstate t (List.mem_range.1 ht)
    simp only [hnone]
    exact each_of_fixed (s := s.clear X.cache_inval) (fun t _ => coreResume_of_no_wait (s := s.clear X.cache_inval) hwait _ t)
  · exact fun v => ⟨fun hall => sets_cells (gives_run (exec_l2LockWrite v s) rfl rfl hup (if_pos hall)) rfl,
      fun hsome => sets_cells (gives_run (exec_l2LockWrite v s) rfl rfl hup (if_neg hsome)) rfl⟩
  · intro hbusy
    refine ⟨sets_whenBusy (exec_clean s) rfl hup hbusy, sets_whenBusy (exec_invalidate s) rfl hup hbusy,
      sets_whenBusy (exec_cleanAndInvalidate s) rfl hup hbusy, sets_whenBusy (exec_lockFill s) rfl hup hbusy,
      sets_whenBusy (exec_invalidateIncludingLocked s) rfl hup hbusy, sets_whenBusy (exec_cleanAndInvalidateAll s) rfl hup hbusy,
      fun hfree => ?_, fun hheld => ?_⟩
    · refine sets_cells (gives_run (exec_cmoDone s) rfl rfl hup ((if_pos ⟨hbusy, hfree⟩).trans ?_)) rfl
      have haddr : ((s.clear AP_CMO_STATUS.busy).set AP_CMO_STATUS.result 0 (s.get X.cmo_end)).get X.cmo_addr = s.get X.cmo_addr :=
        (State.get_set_ne _ _ _ _ _ _ (by decide)).trans (State.get_set_ne _ _ _ _ _ _ (by decide))
      simp only [haddr]
      rfl
    · exact sets_nothing (gives_run (exec_cmoDone s) rfl rfl hup (if_neg (fun h => hheld h.2)))
  · intro hidle begun zero whole
    refine ⟨gives_cmoRange hup hidle (exec_clean s) rfl, gives_cmoRange hup hidle (exec_invalidate s) rfl,
      gives_cmoRange hup hidle (exec_cleanAndInvalidate s) rfl, gives_cmoRange hup hidle (exec_invalidateIncludingLocked s) rfl,
      gives_cmoAll hup hidle, ?_, ?_, ?_, ?_, ?_, gives_lockFill hup hidle, sets_lockFill_of_no_line hup hidle⟩
    · exact sets_nothing (gives_run (exec_cmoDone s) rfl rfl hup (if_neg (fun h => by simp [hidle] at h)))
    · intro hnofill hspan
      exact ⟨sets_cmoRange_of_no_line hup hidle (exec_clean s) rfl hnofill hspan,
        sets_cmoRange_of_no_line hup hidle (exec_invalidate s) rfl hnofill hspan,
        sets_cmoRange_of_no_line hup hidle (exec_cleanAndInvalidate s) rfl hnofill hspan,
        sets_cmoRange_of_no_line hup hidle (exec_invalidateIncludingLocked s) rfl hnofill hspan⟩
    · intro hnofill hl2 hvictim
      have hall := gives_cmoAll hup hidle
      have hspan : cachedSpan (setAll (cmoCells 6 0) s) 0 allLines = [] :=
        cachedSpan_of_empty (s := setAll (cmoCells 6 0) s) hl2 hvictim 0 allLines
      rw [cmoGo_of_no_line (s := setAll (cmoCells 6 0) s) hnofill hspan] at hall
      exact sets_cells hall rfl
    · intro line x hnofill hvictim hl2 hlo hhi
      have hinval := gives_cmoRange_of_line hup hidle (exec_invalidate s) rfl hnofill hvictim hl2 hlo hhi
      have hboth := gives_cmoRange_of_line hup hidle (exec_cleanAndInvalidate s) rfl hnofill hvictim hl2 hlo hhi
      have hremoved (hl1d : s.l1d = []) (hl1i : s.l1i = []) (hlock : lineLocked s line = false) :
          Effect .invalidate s (cmoCells 2 (cmoLast s)) (fun s => { s with l2 := [] }) := by
        rw [cmoLine_invalidate (s := setAll (cmoCells 2 (cmoLast s)) s) hl1d hl1i hvictim hl2 ((lineLocked_started s _ _ _).trans hlock)] at hinval
        exact effect_cells (g := fun s => { s with l2 := [] }) hinval rfl rfl
      refine ⟨fun hx hlock hl1d hl1i => ⟨hremoved hl1d hl1i hlock, ?_⟩, fun _ hl1d hl1i hlock => hremoved hl1d hl1i hlock,
        fun hlock hl1d hl1i => sets_invalidate_locked hl1d hl1i hlock hinval⟩
      rw [cmoLine_cleanInvalidate (s := setAll (cmoCells 3 (cmoLast s)) s) hl1d hl1i hvictim hl2
        ((lineLocked_started s _ _ _).trans hlock) hx] at hboth
      exact effect_cells (g := fun s => { s with l2 := [] }) hboth rfl rfl
    · exact fun hlock => sets_cells (gives_whenIdle (exec_lockFill s) rfl hup hidle (cmoLockFill_refused hlock)) rfl
  · intro k kind a happ hkind hcount
    have hcounted (g : State → State) (hline : errLine k c kind a s = g s) (hregs : (g s).regs = s.regs) :
        Effect (.cacheProtectionError k c kind a) s [(AP_ERR_CNT.ce, 0, s.get AP_ERR_CNT.ce + 1), (AP_INT.ce, 0, 1)] g := by
      have hkept : (g s).get AP_ERR_CNT.ce = s.get AP_ERR_CNT.ce := State.get_of_regs hregs _ _
      have hroom : (g s).get AP_ERR_CNT.ce < 2 ^ AP_ERR_CNT.ce.width - 1 := by
        rw [hkept]
        exact lt_trans hcount (by decide)
      refine effect_cells (gives_run (exec_cacheProtectionError k c kind a s) rfl (decide_eq_true happ) hup ?_) hregs rfl
      simp only [hkind, hline, State.inc_of_lt hroom, hkept]
      rfl
    refine ⟨?_, ?_, ?_⟩
    · rintro hk rfl
      refine hcounted id ?_ rfl
      interval_cases k <;> rfl
    · rintro rfl rfl
      exact hcounted _ rfl rfl
    · rintro rfl hk
      refine hcounted (fun s => { s with l1d := KV.del s.l1d (c, a / 64) }) ?_ rfl
      rcases hk with rfl | rfl <;> rfl
  · intro k kind a happ hkind
    refine gives_run (exec_cacheProtectionError k c kind a s) rfl (decide_eq_true happ) hup ?_
    simp only [hkind]
  · intro k kind a happ hkind
    refine gives_run (exec_cacheProtectionError k c kind a s) rfl (decide_eq_true happ) hup ?_
    simp only [hkind]
  · intro n hn hin
    have hlevel : ¬ isEdge n = true := by simpa [isEdge] using hn
    have hn' : okSource n = true := decide_eq_true (by omega)
    exact gives_run (exec_sourceAssert n false s) rfl hn' hup ((if_neg hlevel).trans (if_pos hin))
  · intro n hn hin hlow
    have hlevel : ¬ isEdge n = true := by simpa [isEdge] using hn
    have hn' : okSource n = true := decide_eq_true (by omega)
    refine gives_run (exec_sourceAssert n true s) rfl hn' hup ((if_neg hlevel).trans ((if_pos hin).trans (congrArg icEval ?_)))
    exact if_pos (by simp [hlow])
  · intro n hlo hhi hlatch
    have hedge : isEdge n = true := decide_eq_true hlo
    exact gives_run (exec_sourceAssert n true s) rfl (decide_eq_true hhi) hup ((if_pos hedge).trans (if_pos (by rw [hlatch]; rfl)))
  · exact fun n hlo hhi => sets_cells (gives_run (exec_softwareSourceRaise n s) rfl rfl hup (if_pos ⟨hlo, hhi⟩)) rfl
  · exact fun n hn => sets_nothing (gives_run (exec_softwareSourceRaise n s) rfl rfl hup (if_neg (by omega)))
  · intro n t hn hoffered hnext
    refine gives_run (exec_offerTimeout n s) rfl (decide_eq_true hn) hup ((if_pos hoffered).trans ?_)
    simp only [hnext]
  · exact fun n hn hno => sets_nothing (gives_run (exec_offerTimeout n s) rfl (decide_eq_true hn) hup (if_neg (by rw [hno]; decide)))
  · exact gives_run (exec_moderationRelease c s) rfl (decide_eq_true hc) hup rfl

end Sys2Proof.Machine
end

section
/-! Key slots (O24) and writes by field type (O8). -/

namespace Sys2Proof.Machine

/-- The cells that a key action writes before it takes effect. -/
def keyAskedCells (act k : Nat) : List CellVal := [(X.key_act, 0, act), (X.key_slot, 0, k)]

theorem keyAction_waits {s : State} {act : Nat} (hidle : s.on WP_XTS_KEY_CTRL.busy = false)
    (huse : slotInUse ((s.set X.key_act 0 act).set X.key_slot 0 (s.get WP_XTS_KEY_CTRL.slot)) (s.get WP_XTS_KEY_CTRL.slot) = true) :
    keyAction secCore act s = setAll (keyAskedCells act (s.get WP_XTS_KEY_CTRL.slot) ++
      [(WP_XTS_KEY_CTRL.busy, 0, 1), (WP_XTS_KEY_CTRL.done, 0, 0)]) s :=
  (if_neg (fun h => h rfl)).trans ((if_neg (by rw [hidle]; decide)).trans (if_pos huse))

theorem keyAction_atOnce {s : State} {act : Nat} (hidle : s.on WP_XTS_KEY_CTRL.busy = false)
    (huse : slotInUse ((s.set X.key_act 0 act).set X.key_slot 0 (s.get WP_XTS_KEY_CTRL.slot)) (s.get WP_XTS_KEY_CTRL.slot) = false) :
    keyAction secCore act s = keyDone ((s.set X.key_act 0 act).set X.key_slot 0 (s.get WP_XTS_KEY_CTRL.slot)) :=
  (if_neg (fun h => h rfl)).trans ((if_neg (by rw [hidle]; decide)).trans (if_neg (by rw [huse]; decide)))

theorem keyAction_busy {s : State} (act : Nat) (hbusy : s.on WP_XTS_KEY_CTRL.busy = true) : keyAction secCore act s = s :=
  (if_neg (fun h => h rfl)).trans (if_pos hbusy)

theorem keyAction_denied {core : Nat} (act : Nat) (s : State) (h : core ≠ secCore) :
    keyAction core act s = setAll [(WP_INT.key_denied, 0, 1)] s := if_pos h

/-- What the end of a load writes: the words clear, and the slot is marked. -/
theorem keyDone_load {s : State} (hact : s.get X.key_act = 1) : keyDone s =
    setAll ((List.range 8).map (fun i => (X.key_word, i, 0)) ++
      [(WP_XTS_SLOTS.loaded, 0, setBit (s.get WP_XTS_SLOTS.loaded) (s.get X.key_slot)), (WP_XTS_KEY_CTRL.busy, 0, 0),
       (WP_XTS_KEY_CTRL.done, 0, 1), (X.key_act, 0, 0)])
      { s with keys := KV.put natLt s.keys (s.get X.key_slot) ((List.range 8).foldl (fun n i => n + s.get X.key_word i * 2 ^ (64 * i)) 0) } := by
  have hloaded (t : State) (ht : t.regs = s.regs) :
      (setAll ((List.range 8).map (fun i => (X.key_word, i, 0))) t).get WP_XTS_SLOTS.loaded = s.get WP_XTS_SLOTS.loaded :=
    (setAll_get_other _ t 0 rfl).trans (State.get_of_regs ht _ _)
  rw [setAll_append, ← hloaded _ rfl]
  exact congrArg (fun (t : State) => ((t.clear WP_XTS_KEY_CTRL.busy).set WP_XTS_KEY_CTRL.done 0 1).clear X.key_act) (if_pos hact)

theorem keyDone_zeroise {s : State} (hact : s.get X.key_act = 2) : keyDone s =
    setAll [(WP_XTS_SLOTS.loaded, 0, clearBit (s.get WP_XTS_SLOTS.loaded) (s.get X.key_slot)), (WP_XTS_KEY_CTRL.busy, 0, 0),
       (WP_XTS_KEY_CTRL.done, 0, 1), (X.key_act, 0, 0)] { s with keys := KV.del s.keys (s.get X.key_slot) } :=
  congrArg (fun (t : State) => ((t.clear WP_XTS_KEY_CTRL.busy).set WP_XTS_KEY_CTRL.done 0 1).clear X.key_act) (if_neg (by rw [hact]; decide))

/-- Settles O24: the core, the engine's busy bit and the use of the slot decide what a key action does. -/
theorem keys : Obligations.Keys := by
  intro s hup k asked
  have hload (core : Nat) (hcore : okCore core = true) {u : State} (h : keyAction core 1 s = u) : Gives (.keyLoad core) s u :=
    gives_run (exec_keyLoad core s) rfl hcore hup h
  have hzero (core : Nat) (hcore : okCore core = true) {u : State} (h : keyAction core 2 s = u) : Gives (.keyZeroise core) s u :=
    gives_run (exec_keyZeroise core s) rfl hcore hup h
  refine ⟨?_, ?_, ?_, ?_, ?_, ?_⟩
  · intro core hcore hother
    exact ⟨sets_cells (hload core (decide_eq_true hcore) (keyAction_denied 1 s hother)) rfl,
      sets_cells (hzero core (decide_eq_true hcore) (keyAction_denied 2 s hother)) rfl⟩
  · exact fun hbusy => ⟨sets_nothing (hload secCore rfl (keyAction_busy 1 hbusy)), sets_nothing (hzero secCore rfl (keyAction_busy 2 hbusy))⟩
  · intro hidle
    exact ⟨fun huse => (sets_cells (hload secCore rfl (keyAction_waits hidle huse)) rfl).perm List.perm_append_comm,
      fun huse => (sets_cells (hzero secCore rfl (keyAction_waits hidle huse)) rfl).perm List.perm_append_comm,
      fun hfree => hload secCore rfl (keyAction_atOnce hidle hfree), fun hfree => hzero secCore rfl (keyAction_atOnce hidle hfree)⟩
  · intro hbusy hfree hact
    refine effect_cells (g := fun s => { s with
      keys := KV.put natLt s.keys (s.get X.key_slot) ((List.range 8).foldl (fun n i => n + s.get X.key_word i * 2 ^ (64 * i)) 0) })
      (gives_run (exec_keyActionComplete s) rfl rfl hup ?_) rfl rfl
    exact (if_pos (by rw [hbusy, hfree]; rfl)).trans (keyDone_load hact)
  · intro hbusy hfree hact
    refine effect_cells (g := fun s => { s with keys := KV.del s.keys (s.get X.key_slot) })
      (gives_run (exec_keyActionComplete s) rfl rfl hup ?_) rfl rfl
    exact (if_pos (by rw [hbusy, hfree]; rfl)).trans (keyDone_zeroise hact)
  · intro hbusy huse
    exact sets_nothing (gives_run (exec_keyActionComplete s) rfl rfl hup (if_neg (by simp [huse])))

/-- Taking away the bits in common leaves those that the other has not. -/
theorem testBit_sub_and (k : Nat) : ∀ n v : Nat, (n - (n &&& v)).testBit k = (n.testBit k && !v.testBit k) := by
  have hlow (n v : Nat) : (n &&& v) % 2 = 1 ↔ n % 2 = 1 ∧ v % 2 = 1 := Nat.and_mod_two_eq_one
  induction k with
  | zero =>
    intro n v
    have hle : n &&& v ≤ n := Nat.and_le_left
    have hbit := hlow n v
    rw [Bool.eq_iff_iff]
    simp only [Nat.testBit_zero, Bool.and_eq_true, Bool.not_eq_true', decide_eq_true_eq, decide_eq_false_iff_not]
    omega
  | succ k ih =>
    intro n v
    have hhalf : (n - (n &&& v)) / 2 = n / 2 - (n / 2 &&& v / 2) := by
      have hle : n &&& v ≤ n := Nat.and_le_left
      have hbit := hlow n v
      rw [← Nat.and_div_two]
      omega
    simp only [Nat.testBit_succ, hhalf, ih]

/-- A write of an ST field changes the controller's cells alone. -/
theorem get_scStagedWrite {f : Fld} (s : State) (i : Nat) (h : f.id ∉ [SC_STATUS.state.id, SC_STATUS.result.id, SC_INT.not_applied.id]) :
    (scStagedWrite s).get f i = s.get f i := by
  simp only [List.mem_cons, List.not_mem_nil, or_false, not_or] at h
  obtain ⟨hstate, hresult, hint⟩ := h
  have hset (t : State) (v : Nat) : (t.set SC_STATUS.state 0 v).get f i = t.get f i := State.get_set_ne _ _ _ _ _ _ (Ne.symm hstate)
  unfold scStagedWrite
  simp only
  split
  · exact (State.get_set_ne _ _ _ _ _ _ (Ne.symm hint)).trans ((State.get_set_ne _ _ _ _ _ _ (Ne.symm hresult)).trans (hset _ _))
  · split
    · rfl
    · exact hset _ _

theorem scStagedWrite_staged (s : State) : (scStagedWrite s).staged = s.staged := by
  unfold scStagedWrite
  simp only
  split
  · rfl
  · split <;> rfl

/-- Settles O8: each type of field has its own rule. -/
theorem writeByFieldType : Obligations.WriteByFieldType := by
  intro f i a v s
  refine ⟨?_, ?_, ?_, ?_, ?_, ?_, ?_⟩
  · intro hty
    simp only [writeField, hty]
  · intro hty k
    simp only [writeField, hty, State.get_set_same, Nat.testBit_mod_two_pow, testBit_sub_and, Bool.and_assoc]
  · intro hty hkept
    simp only [writeField, hty, hkept, Bool.false_eq_true, if_false, State.get_set_same]
  · rintro (hty | hty) hres
    · simp only [writeField, hty, hres, if_true]
    · simp only [writeField, hty, hres, Bool.or_true, if_true]
  · intro hty hkept hopen
    have hwrite : writeField f i a v s = { s.set f i (f.rule.stored v) with locked := s.locked ++ [(f.id, i)] } := by
      simp only [writeField, hty, hkept, hopen, Bool.or_false, Bool.false_eq_true, if_false]
    rw [hwrite]
    exact ⟨State.get_set_same _ _ _ _, by simp⟩
  · intro hty hlocked
    simp only [writeField, hty, hlocked, Bool.true_or, if_true]
  · intro hty hno
    simp only [writeField, hty, stageField]
    refine ⟨?_, get_scStagedWrite _ i hno⟩
    simp only [State.stagedVal, scStagedWrite_staged, KV.get_put_same, Option.getD_some]

end Sys2Proof.Machine
end

section
/-! Accesses of the register bus (O7, O9). -/

namespace Sys2Proof.Machine

theorem mem_allRegs_of_locateAddr {a i o : Nat} {r : Reg} (h : locateAddr a = some (r, i, o)) : r ∈ allRegs := by
  obtain ⟨r', hmem, hr⟩ := List.exists_of_findSome?_eq_some h
  obtain ⟨p, -, hp⟩ := Option.map_eq_some_iff.1 hr
  obtain ⟨rfl, -⟩ := Prod.mk.inj hp
  exact hmem

/-- No two registers have one address. -/
theorem nodup_addr : (allRegs.map (fun r => r.addr)).Nodup := by decide +kernel

theorem eq_of_addr {r r' : Reg} (h : r ∈ allRegs) (h' : r' ∈ allRegs) (heq : r.addr = r'.addr) : r = r' :=
  List.inj_on_of_nodup_map nodup_addr h h' heq

theorem dpCal_mem_allRegs : DP_CAL ∈ allRegs := by
  iterate 19 refine List.mem_append_left _ ?_
  exact List.mem_append_right _ (List.mem_of_getElem? (l := regsDP) (i := 21) rfl)

theorem thStep_mem_allRegs : TH_STEP ∈ allRegs := by
  iterate 8 refine List.mem_append_left _ ?_
  exact List.mem_append_right _ (List.mem_of_getElem? (l := regsTH) (i := 6) rfl)

theorem locateAddr_thStep : locateAddr TH_STEP.addr = some (TH_STEP, 0, 0) := by
  have hfound : (locateAddr TH_STEP.addr).map (fun p => (p.1.addr, p.2)) = some (TH_STEP.addr, 0, 0) := by decide +kernel
  obtain ⟨⟨r, i, o⟩, hr, hp⟩ := Option.map_eq_some_iff.1 hfound
  obtain ⟨haddr, hplace⟩ := Prod.mk.inj hp
  obtain ⟨rfl, rfl⟩ := Prod.mk.inj hplace
  rw [hr, eq_of_addr (mem_allRegs_of_locateAddr hr) thStep_mem_allRegs haddr]

theorem locateAddr_dpPool : locateAddr DP_POOL.addr = some (DP_POOL, 0, 0) := rfl

theorem not_inPrivate_of_inWindows {a : Nat} (core : Nat) (h : inWindows a = true) : inPrivate core a = false := by
  simp only [inWindows, Bool.and_eq_true, decide_eq_true_eq] at h
  have hsize : privSize core ≤ 0x80000 := by
    unfold privSize
    split <;> decide
  have hout : ¬ a < privBase + privSize core := by
    rw [privBase]
    omega
  exact Bool.and_eq_false_iff.2 (.inr (decide_eq_false hout))

theorem localMap_of_inWindows {a : Nat} (core : Nat) (s : State) (h : inWindows a = true) : localMap s core a = some a := by
  have hlow : ¬ a ≤ 0xFFFF := by
    simp only [inWindows, Bool.and_eq_true, decide_eq_true_eq] at h
    omega
  unfold localMap
  split
  · rfl
  · exact if_pos (by rw [h, Bool.or_true])

theorem drainAll_of_empty {s : State} {c : Nat} (h : KV.getD s.wbufs c [] = []) : drainAll c s = s := by
  rw [drainAll, h]
  rfl

/-- An access of the wrong width or alignment is refused before its register is found. -/
theorem busAccess_refused {core a width : Nat} {store load} (w : Bool) (v : Nat) (s : State)
    (h : width ≠ 32 ∧ width ≠ 64 ∨ a % (width / 8) ≠ 0 ∨ (width = 64 ∧ secCore ≤ core)) :
    busAccess store load core w a width v s = respond core true 0 s := if_pos h

theorem core_off_of_coreUp {s : State} (hup : coreUp s = true) : s.on X.core_off = false := by
  have hz : s.get X.core_off = 0 := beq_iff_eq.1 hup
  rw [State.on, hz]
  rfl

section
variable {core : Nat} {s : State} (hup : coreUp s = true)
include hup

/-- With the core rails up and an empty write buffer, an access of the register windows is one of the bus. -/
theorem regAccess_window {a : Nat} (hbuf : KV.getD s.wbufs core [] = []) (w : Bool) (width v : Nat) (hin : inWindows a = true)
    (hcal : w = true → ∀ i o, locateAddr a ≠ some (DP_CAL, i, o)) :
    regAccess core w a width v s = busAccess (regStore core) (regLoad core) core w a width v s := by
  have hon := core_off_of_coreUp hup
  unfold regAccess
  simp only [not_inPrivate_of_inWindows core hin, localMap_of_inWindows core s hin, drainAll_of_empty hbuf, ite_self, hin, hon,
    Bool.false_eq_true, if_false, if_true]
  split
  · next r i o hr =>
    refine if_neg (fun hc => ?_)
    simp only [Bool.and_eq_true, beq_iff_eq] at hc
    obtain ⟨hw, haddr⟩ := hc
    exact hcal hw i o (eq_of_addr (mem_allRegs_of_locateAddr hr) dpCal_mem_allRegs haddr ▸ hr)
  · rfl

/-- An address that the core's map names nowhere, or neither a register window nor storage, is a bus error. -/
theorem regAccess_nowhere {a : Nat} (w : Bool) (width v : Nat) (hpriv : inPrivate core a = false)
    (h : localMap s core a = none ∨ ∃ t, localMap s core a = some t ∧ inWindows t = false ∧ inStorage s t = false) :
    regAccess core w a width v s = respond core true 0 s := by
  have hon := core_off_of_coreUp hup
  unfold regAccess
  rcases h with hnone | ⟨t, ht, hwin, hstore⟩
  · simp only [hpriv, hnone, hon, Bool.false_eq_true, if_false, false_and]
  · simp only [hpriv, ht, hwin, hstore, hon, Bool.false_eq_true, if_false, false_and, and_false]

/-- A write of the boot ROM is a bus error. -/
theorem regAccess_rom {a : Nat} (v : Nat) (hcore : core < 9) (ha : a + 4 ≤ 0x10000) (hstore : inStorage s a = true) :
    regAccess core true a 32 v s = respond core true 0 s := by
  have hon := core_off_of_coreUp hup
  have hpriv : inPrivate core a = false := by
    have hbase : ¬ privBase ≤ a := by
      rw [privBase]
      omega
    simp only [inPrivate, decide_eq_false hbase, Bool.and_false, Bool.false_and]
  have hwin : inWindows a = false := Bool.and_eq_false_iff.2 (.inl (decide_eq_false (by omega)))
  have hmap : localMap s core a = some a := by
    have hlow : a ≤ 0xFFFF := by omega
    have hsec : core ≠ mgtCore := Nat.ne_of_lt hcore
    unfold localMap
    split
    · rfl
    · rfl
  unfold regAccess
  simp only [hpriv, hmap, hwin, hstore, hon, Bool.false_eq_true, if_false, if_true, false_and, and_false]
  exact if_pos ha

end

/-- Settles O7: the width, the core's map and what lies at the address decide which accesses are bus errors. -/
theorem busErrors : Obligations.BusErrors := by
  intro core w a width v s hup haux hcore hbuf answers
  have hgives {u : State} (h : regAccess core w a width v s = u) : Gives (.registerWrite core w a width v) s u :=
    gives_runAO (exec_registerWrite core w a width v s) rfl (decide_eq_true hcore) haux h
  have hanswers {e : Bool} (h : regAccess core w a width v s = respond core e 0 s) : answers e :=
    effect_rest (g := respond core e 0) (hgives h) rfl
  refine ⟨?_, ?_, ?_, ?_⟩
  · intro hin hcal hbad
    exact hanswers ((regAccess_window hup hbuf w width v hin hcal).trans (busAccess_refused w v s hbad))
  · intro hin hnone hwidth halign
    have hcal : w = true → ∀ i o, locateAddr a ≠ some (DP_CAL, i, o) := fun _ i o h => by
      rw [hnone] at h
      cases h
    refine hanswers ((regAccess_window hup hbuf w width v hin hcal).trans ((if_neg ?_).trans ?_))
    · simp only [secCore]
      omega
    · simp only [hnone]
  · intro hpriv hmap
    exact hanswers (regAccess_nowhere hup w width v hpriv hmap)
  · rintro rfl hsec hlow halign rfl hstore
    exact hanswers (regAccess_rom hup v hsec hlow hstore)

/-! A plain register and a staged one. -/

theorem regStore_thStep_fields (core v : Nat) (s : State) : regStore core TH_STEP 0 (fun _ => true) v s =
    writeField TH_STEP.min_step 0 TH_STEP.addr (TH_STEP.min_step.of v)
      (writeField TH_STEP.up_ms 0 TH_STEP.addr (TH_STEP.up_ms.of v)
        (writeField TH_STEP.down_ms 0 TH_STEP.addr (TH_STEP.down_ms.of v) s)) := rfl

/-- What a write of TH_STEP stores: times below 10 ms are taken as 10. -/
theorem regStore_thStep (core : Nat) {up down low : Nat} (s : State) (hup : up < 4096) (hdown : down < 4096) (hlow : low ≤ 8) :
    regStore core TH_STEP 0 (fun _ => true) (down * 2 ^ 20 + up * 2 ^ 8 + low) s =
      setAll [(TH_STEP.down_ms, 0, max 10 down), (TH_STEP.up_ms, 0, max 10 up), (TH_STEP.min_step, 0, low)] s := by
  have hof : TH_STEP.down_ms.of (down * 2 ^ 20 + up * 2 ^ 8 + low) = down ∧ TH_STEP.up_ms.of (down * 2 ^ 20 + up * 2 ^ 8 + low) = up ∧
      TH_STEP.min_step.of (down * 2 ^ 20 + up * 2 ^ 8 + low) = low := by
    simp only [Fld.of, TH_STEP.down_ms, TH_STEP.up_ms, TH_STEP.min_step]
    omega
  obtain ⟨hd, hu, hl⟩ := hof
  have htime (f : Fld) (hty : f.ty = .rw) (hrule : f.rule = .atLeast 10 4095) (n : Nat) (hn : n < 4096) (t : State) :
      writeField f 0 TH_STEP.addr n t = t.set f 0 (max 10 n) := by
    have hres : f.rule.reserved n = false := by
      rw [hrule]
      exact decide_eq_false (by omega)
    have hstored : f.rule.stored n = max 10 n := by
      rw [hrule]
      simp only [SRule.stored]
      split <;> omega
    simp only [writeField, hty, hres, hstored, Bool.false_eq_true, if_false]
  have hstep (t : State) : writeField TH_STEP.min_step 0 TH_STEP.addr low t = t.set TH_STEP.min_step 0 low :=
    if_neg (by simpa [SRule.reserved, TH_STEP.min_step] using hlow)
  rw [regStore_thStep_fields, hd, hu, hl, htime _ rfl rfl _ hdown, htime _ rfl rfl _ hup, hstep]
  rfl

/-- A write of DP_POOL stages its field. -/
theorem regStore_dpPool (core n : Nat) (s : State) :
    regStore core DP_POOL 0 (fun _ => true) n s = stageField DP_POOL.count 0 DP_POOL.addr (n / 2 ^ 0 % 2 ^ 6) s := rfl

theorem scStagedWrite_idle {s : State} (harmed : s.get SC_STATUS.state ≠ scArmed) (hchecking : s.get SC_STATUS.state ≠ scChecking) :
    scStagedWrite s = s.set SC_STATUS.state 0 scStaged := (if_neg harmed).trans (if_neg hchecking)

/-- Settles O9: the registers that the addresses name, and the rules of their fields. -/
theorem registerWrites : Obligations.RegisterWrites := by
  intro core up down low s hcup haux hcore hbuf hup hdown hlow
  have hokCore : okCore core = true := decide_eq_true hcore
  have hother (a i o : Nat) (r : Reg) (hr : locateAddr a = some (r, 0, 0)) (hne : r.addr ≠ DP_CAL.addr) :
      locateAddr a ≠ some (DP_CAL, i, o) := by
    intro h
    obtain ⟨rfl, -⟩ := Prod.mk.inj (Option.some.inj (hr.symm.trans h))
    exact hne rfl
  have hwide (a : Nat) (ha : a % 4 = 0) :
      ¬ ((32 : Nat) ≠ 32 ∧ (32 : Nat) ≠ 64 ∨ a % (32 / 8) ≠ 0 ∨ ((32 : Nat) = 64 ∧ secCore ≤ core)) := by
    simp [ha]
  have haccess (w : Bool) (v : Nat) : regAccess core w TH_STEP.addr 32 v s = busAccess (regStore core) (regLoad core) core w TH_STEP.addr 32 v s :=
    regAccess_window hcup hbuf w 32 v rfl (fun _ i o => hother _ i o _ locateAddr_thStep (by decide))
  refine ⟨?_, ?_, fun n harmed hchecking => ?_⟩
  · refine effect_cells (g := respond core false 0) (gives_runAO (exec_registerWrite core true TH_STEP.addr 32 _ s) rfl hokCore haux
      ((haccess true _).trans ((if_neg (hwide _ rfl)).trans ?_))) rfl rfl
    rw [locateAddr_thStep]
    exact (if_pos ⟨rfl, rfl⟩).trans ((if_pos rfl).trans (regStore_thStep core _ hup hdown hlow))
  · refine effect_rest (g := fun s => respond core false
      (s.get TH_STEP.down_ms * 2 ^ 20 + s.get TH_STEP.up_ms * 2 ^ 8 + s.get TH_STEP.min_step) s)
      (gives_runAO (exec_registerWrite core false TH_STEP.addr 32 0 s) rfl hokCore haux
        ((haccess false _).trans ((if_neg (hwide _ rfl)).trans ?_))) rfl
    have hload : regLoad core TH_STEP 0 s =
        (0 + s.get TH_STEP.down_ms * 2 ^ 20 + s.get TH_STEP.up_ms * 2 ^ 8 + s.get TH_STEP.min_step * 2 ^ 0, s) := rfl
    rw [locateAddr_thStep]
    refine (if_pos ⟨rfl, rfl⟩).trans ((if_neg Bool.false_ne_true).trans ?_)
    rw [hload, Nat.zero_add, Nat.pow_zero, Nat.mul_one]
  · have hmap : ((localMap s core DP_POOL.addr).map stAddr).getD false = true := by
      rw [localMap_of_inWindows core s rfl]
      rfl
    have hpoolAccess : regAccess core true DP_POOL.addr 32 n s = busAccess (regStore core) (regLoad core) core true DP_POOL.addr 32 n s :=
      regAccess_window hcup hbuf true 32 n rfl (fun _ i o => hother _ i o _ locateAddr_dpPool (by decide))
    have hvalue : n / 2 ^ 0 % 2 ^ 6 % 2 ^ DP_POOL.count.width = n % 64 := by
      change n / 1 % 64 % 64 = n % 64
      omega
    refine effect_cells (g := fun s => { s with
      staged := KV.put pairLt s.staged (DP_POOL.count.id, 0) (n % 64),
      stagedSet := if s.stagedSet.contains DP_POOL.addr then s.stagedSet else s.stagedSet ++ [DP_POOL.addr],
      bus := some { core := core, err := false, data := 0 } }) (gives_run (exec_stFieldWrite core DP_POOL.addr 32 n s) rfl hokCore hcup
        ((if_pos hmap).trans (hpoolAccess.trans ((if_neg (hwide _ rfl)).trans ?_)))) rfl rfl
    rw [locateAddr_dpPool]
    refine (if_pos ⟨rfl, rfl⟩).trans ((if_pos rfl).trans ((regStore_dpPool core n _).trans ?_))
    rw [stageField, hvalue]
    exact scStagedWrite_idle harmed hchecking

end Sys2Proof.Machine
end

section
/-! The event recorder (O59). -/

namespace Sys2Proof.Machine

/-- A program changes no byte outside its range. -/
theorem memByte_flashProg_outside (b : List Byte) : ∀ (m : List Host.Cell) (a n : Nat), n < a ∨ a + b.length ≤ n →
    memByte (flashProg m a b) flashErased n = memByte m flashErased n := by
  induction b with
  | nil => exact fun _ _ _ _ => rfl
  | cons x r ih =>
    intro m a n h
    simp only [List.length_cons] at h
    rw [flashProg, ih _ (a + 1) n (by omega), memByte_memPut_ne _ _ _ (by omega)]

/-- The registers that the programming of records and the end of a drain may write. -/
def erDoneIds : List Nat := X.er_draining.id :: ER_INT.drained.id :: erIds

theorem keepsRegs_erDrainCheck (s : State) : KeepsRegs erDoneIds s (erDrainCheck s) := by
  unfold erDrainCheck
  exact KeepsRegs.ite (((KeepsRegs.refl _ s).set X.er_draining _ _ (by decide)).set ER_INT.drained _ _ (by decide)) (KeepsRegs.refl _ s)

theorem keepsRegs_erDone (s : State) : KeepsRegs erDoneIds s (erDrainCheck (erStart s)) :=
  ((keepsRegs_erStart s).mono (fun _ h => List.mem_cons_of_mem _ (List.mem_cons_of_mem _ h))).trans (keepsRegs_erDrainCheck _)

/-- A record whose mark is programmed, outside the drain of DEEP entry. -/
theorem gives_recordProgrammed {s : State} {r : EventRec} {off : Nat} (hup : coreUp s = true) (hprog : s.erProg = some (r, off))
    (hdeep : s.on X.er_deep_drain = false) : Gives .recordProgrammed s
      (erDrainCheck (erStart (((State.flashProgram { s with erProg := none } (erBase + off) (leBytes 0x5245 2)).set
        ER_POS.write_point 0 (off + recLen r.payload)).inc ER_POS.records))) := by
  refine gives_run (exec_recordProgrammed s) rfl rfl hup ?_
  simp only [hprog]
  refine if_neg ?_
  rw [(keepsRegs_erDone _).on 0 (by decide)]
  have hmoved : ((({ s with erProg := none } : State).flashProgram (erBase + off) (leBytes 0x5245 2)).set ER_POS.write_point 0
      (off + recLen r.payload) |>.inc ER_POS.records).on X.er_deep_drain = false := by
    rw [State.on, State.inc, State.get_set_ne _ _ _ _ _ _ (by decide), State.get_set_ne _ _ _ _ _ _ (by decide)]
    exact hdeep
  rw [hmoved, Bool.false_and]
  decide

/-- The probe moves the write point to the next sector, which the chapter has. -/
theorem gives_probeFlash {s u : State} {sec wp : Nat} (hup : coreUp s = true) (hsec : sec = s.get ER_POS.write_point / 0x10000)
    (hwp : wp = 0x10000 * (sec + 1)) (hu : u = ((s.flashErase (erBase + 0x10000 * sec) 0x10000).clear ER_GASP.log_failed).set ER_POS.write_point 0 wp)
    (hlast : sec < 511) :
    Gives (.probeFlash true) s (erStart (u.set ER_POS.records 0 (min (erCount u wp (wp / 16 + 1) 0) (2 ^ 32 - 1)))) := by
  subst hsec hwp hu
  refine gives_run (exec_probeFlash true s) rfl rfl hup ((if_pos rfl).trans (congrArg erStart (if_neg ?_)))
  rw [State.get_set_ne _ _ _ _ _ _ (by decide), State.get_set_same]
  have hwidth : 2 ^ ER_POS.write_point.width = 0x2000000 := rfl
  rw [hwidth, erSize]
  omega

/-- The search of an erased chapter, with nothing deferred and no record of a reset or a power loss. -/
theorem gives_writePointSearch_erased {s : State} (hup : coreUp s = true) (hfound : s.on X.er_found = false) (hfirst : erSearch s 10 0 512 = 0)
    (hdeferred : s.get ER_GASP.deferred = 0) (hwdt : s.on CR_WDT_STATUS.fired = false) (hloss : s.on MC_PL_STATUS.valid = false)
    (hev : s.on X.mp_wdt_ev = false) :
    Gives .writePointSearch s (erStart (((s.set ER_POS.write_point 0 0).set ER_POS.records 0 0).set X.er_found 0 1)) := by
  let u := ((s.set ER_POS.write_point 0 0).set ER_POS.records 0 0).set X.er_found 0 1
  have hkeep : KeepsRegs [ER_POS.write_point.id, ER_POS.records.id, X.er_found.id] s u :=
    (((KeepsRegs.refl _ s).set ER_POS.write_point _ _ (by decide)).set ER_POS.records _ _ (by decide)).set X.er_found _ _ (by decide)
  have hcount (t : State) (k : Nat) : erCount t 0 k 0 = 0 := by
    cases k with
    | zero => rfl
    | succ k => exact if_pos (Nat.le_refl 0)
  have hpoint : u.get ER_POS.write_point = 0 :=
    (State.get_set_ne _ _ _ _ _ _ (by decide)).trans ((State.get_set_ne _ _ _ _ _ _ (by decide)).trans (State.get_set_same _ _ _ _))
  have hroom : erNoRoom u = u := if_neg (by rw [hpoint]; decide)
  have hslots : (if u.on ER_GASP.log_failed || u.on ER_STATUS.full then [] else bitsOf 8 (u.get ER_GASP.deferred)) = [] := by
    rw [hkeep _ _ (by decide), hdeferred]
    split <;> rfl
  have hnoWdt : u.on CR_WDT_STATUS.fired = false := (hkeep.on 0 (by decide)).trans hwdt
  have hnoLoss : u.on MC_PL_STATUS.valid = false := (hkeep.on 0 (by decide)).trans hloss
  have hnoEv : (erStart u).on X.mp_wdt_ev = false := ((keepsRegs_erStart u).on 0 (by decide)).trans ((hkeep.on 0 (by decide)).trans hev)
  have hstarted : ((s.set ER_POS.write_point 0 0).set ER_POS.records 0 (min 0 (2 ^ 32 - 1))).set X.er_found 0 1 = u := rfl
  refine gives_run (exec_writePointSearch s) rfl rfl hup ((if_neg (by rw [hfound]; decide)).trans ?_)
  have heach (g : Nat → State → State) : u.each [] g = u := rfl
  simp only [hfirst, if_true, hcount, hstarted, hroom, hslots, heach, hnoWdt, hnoLoss, Bool.false_eq_true, if_false, List.map_nil,
    List.nil_append, List.foldl_nil, ite_self, hnoEv, u]

/-- Settles O59: each command of the recorder in the states that R439 to R447 tell apart. -/
theorem eventRecorder : Obligations.EventRecorder := by
  intro s hup
  refine ⟨?_, ?_, ?_, ?_, ?_, ?_, ?_, ?_, ?_, ?_, ?_, ?_, ?_, ?_, ?_, ?_, ?_, ?_, ?_, ?_, ?_, ?_⟩
  · exact fun src code b hb => gives_run (exec_eventAccept src code b s) rfl (decide_eq_true hb) hup rfl
  · intro c code n hc hres
    refine gives_run (exec_firmwareRecordSubmit c code n s) rfl (decide_eq_true hc) hup ?_
    simp only [hres, if_true]
    rfl
  · intro hnone
    refine sets_nothing (gives_run (exec_recordProgrammed s) rfl rfl hup ?_)
    simp only [hnone]
  · exact fun r off => gives_recordProgrammed hup
  · exact gives_run (exec_recordClose s) rfl rfl hup rfl
  · exact gives_run (exec_drain s) rfl rfl hup rfl
  · exact fun hfailed => sets_cells (gives_run (exec_restartChapter s) rfl rfl hup (if_pos hfailed)) rfl
  · intro hgood hopen hprog
    have hclose : erClose s = s := by simp only [erClose, hopen]
    refine effect_cells (g := fun s => { s with
        erFifo := ownRec s 4 (leBytes (s.get ER_POS.records) 4 ++ leBytes 0 4 ++ leBytes (s.get ER_POS.write_point) 4) :: s.erFifo })
      (gives_run (exec_restartChapter s) rfl rfl hup ((if_neg (by rw [hgood]; decide)).trans ?_)) rfl rfl
    have hnone : (none : Option (EventRec × Nat)) = s.erProg := hprog.symm
    simp only [hclose, hprog, Option.map_none, Option.toList_none, List.nil_append]
    rw [hnone]
    rfl
  · exact fun hidle => sets_nothing (gives_run (exec_sectorEraseDone s) rfl rfl hup (if_neg (by rw [hidle]; decide)))
  · intro herasing hmore
    refine gives_run (exec_sectorEraseDone s) rfl rfl hup ((if_pos herasing).trans (congrArg erStart (if_neg ?_)))
    omega
  · exact sets_cells (gives_run (exec_probeFlash false s) rfl rfl hup (if_neg Bool.false_ne_true)) rfl
  · exact gives_probeFlash hup rfl rfl rfl
  · exact gives_run (exec_freeKind1Slots s) rfl rfl hup rfl
  · exact fun hbusy => gives_run (exec_programTimeout s) rfl rfl hup (if_pos (by simpa using hbusy))
  · exact fun hnone hidle => sets_nothing (gives_run (exec_programTimeout s) rfl rfl hup (if_neg (by simp [hnone, hidle])))
  · exact fun k hlo hhi hgood => gives_run (exec_logMemoryFailed k s) rfl rfl hup (if_pos ⟨hlo, hhi, hgood⟩)
  · exact fun k hfailed => sets_nothing (gives_run (exec_logMemoryFailed k s) rfl rfl hup (if_neg (fun h => hfailed h.2.2)))
  · exact fun hfound => sets_nothing (gives_run (exec_writePointSearch s) rfl rfl hup (if_pos hfound))
  · exact fun hfound hfirst hdeferred hwdt hloss hev => gives_writePointSearch_erased hup hfound hfirst hdeferred hwdt hloss hev
  · exact fun hdeep hdraining => gives_run (exec_drainTimeLimit s) rfl rfl hup (if_pos (by rw [hdeep, hdraining]; rfl))
  · exact fun hidle => sets_nothing (gives_run (exec_drainTimeLimit s) rfl rfl hup (if_neg (by simp [hidle])))
  · exact fun a n m b h => memByte_flashProg_outside b m a n h

end Sys2Proof.Machine
end

section
/-! The management port (O60). -/

namespace Sys2Proof.Machine

/-- A command whose effect is an answer. -/
theorem effect_mpReply {c : Instr} {s : State} {cmd st : Nat} {b : List Byte} (h : Gives c s (mpReply cmd st b s)) :
    Effect c s [] (fun s => { s with mpResp := some { command := cmd, status := st, data := b } }) :=
  effect_rest (g := mpReply cmd st b) h rfl

theorem mpReply_setAll (cmd st : Nat) (b : List Byte) (l : List CellVal) : ∀ s : State,
    mpReply cmd st b (setAll l s) = setAll l (mpReply cmd st b s) := by
  induction l with
  | nil => exact fun _ => rfl
  | cons p r ih => exact fun s => ih (s.set p.1 p.2.1 p.2.2)

/-- A command whose effect sets plain cells and answers. -/
theorem effect_mpReply_cells {c : Instr} {s : State} {l : List CellVal} {cmd st : Nat} {b : List Byte}
    (h : Gives c s (mpReply cmd st b (setAll l s))) (hl : plainCells l = true) :
    Effect c s l (fun s => { s with mpResp := some { command := cmd, status := st, data := b } }) := by
  rw [mpReply_setAll] at h
  exact effect_cells (g := mpReply cmd st b) h rfl hl

theorem mpAsk_of_empty {s : State} (h : s.mpWait = []) (opcode : Nat) : mpAsk opcode s = { s with mpWait := [opcode] } := by
  have hno : ¬ s.mpWait.contains opcode = true := by
    rw [h]
    exact Bool.false_ne_true
  rw [mpAsk, if_neg hno, h]
  rfl

/-- A health value is answered live while the core rails are up. -/
theorem mpHealth_live {s : State} (hup : coreUp s = true) (first n mark : Nat) (live : List Byte) : mpHealth s first n mark live = live :=
  if_neg (by rw [core_off_of_coreUp hup]; decide)

/-- What is staged does not bear on whether an item is good. -/
theorem stagedOk_mpStage (s : State) (l : List (Nat × MpStage)) (k : Nat) (rd : Nat → Nat) :
    stagedOk { s with mpStage := l } k rd = stagedOk s k rd := rfl

section
variable {s : State} (haux : auxUp s = true) (hm : mpAnswers s = true)
include haux hm

/-- A packet that is a message of its own, of a type that the endpoint has. -/
theorem effect_mctpPacket_whole {p : Bool} {n g ty : Nat} {l : List Byte} (hty : ty ∈ [0, 4, 5]) (hlen : l.length ≤ 64)
    (hbus : s.get MP_STATUS.bus = 1) : Effect (.mctpPacket 1 p (s.get MP_STATUS.eid) true true n g ty l) s [(MP_INT.rx, 0, 1)]
      (fun s => { s with mpAsm := KV.del s.mpAsm ty }) := by
  have hkind : ¬ (mctpUnit < l.length ∨ (ty ≠ 0 ∧ ty ≠ 4 ∧ ty ≠ 5)) := by
    simp only [List.mem_cons, List.not_mem_nil, or_false] at hty
    rw [mctpUnit]
    omega
  have hfits : ¬ mctpMax < l.length := by
    rw [mctpMax]
    omega
  refine effect_cells (g := fun s => { s with mpAsm := KV.del s.mpAsm ty })
    (gives_mpRun (exec_mctpPacket 1 p (s.get MP_STATUS.eid) true true n g ty l s) rfl rfl haux hm ?_) rfl rfl
  refine (if_neg (fun h => h hbus.symm)).trans ((if_neg (fun h => absurd h.2 (by decide))).trans ((if_neg (fun h => h.1 rfl)).trans
    ((if_neg hkind).trans ((if_pos rfl).trans ((if_neg hfits).trans (if_pos rfl))))))

theorem effect_stageData_next {k o : Nat} {l : List Byte} {x : MpStage} (hopen : stageBarred s k = false) (hk : k ≤ 4) (hl : l ≠ [])
    (hlen : l.length ≤ 4096) (hend : o + l.length ≤ stageSize) (hfree : stageConflict s k = false) (hx : KV.get s.mpStage k = some x) :
    Effect (.stageData k o l) s [] (fun s => { s with
      mpStage := KV.put natLt s.mpStage k ⟨memWrite x.cells flashErased o l, max x.size (o + l.length), s.dtime⟩,
      mpResp := some { command := 0xC7, status := 0, data := [] } }) := by
  have hgood : ¬ (4 < k ∨ l.isEmpty = true ∨ 4096 < l.length ∨ stageSize < o + l.length) := by
    have hne : l.isEmpty = false := by simpa using hl
    simp only [hne, Bool.false_eq_true, false_or]
    omega
  refine effect_rest (g := fun s => { s with
      mpStage := KV.put natLt s.mpStage k ⟨memWrite x.cells flashErased o l, max x.size (o + l.length), s.dtime⟩,
      mpResp := some { command := 0xC7, status := 0, data := [] } })
    (gives_mpRun (exec_stageData k o l s) rfl rfl haux hm ((if_neg (by rw [hopen]; decide)).trans ((if_neg hgood).trans
      ((if_neg (by rw [hfree]; decide)).trans ?_)))) rfl
  simp only [hx]
  rfl

theorem gives_stageCommit {k : Nat} {x : MpStage} {u : State} (hopen : stageBarred s k = false) (hfree : stageConflict s k = false)
    (hx : KV.get s.mpStage k = some x)
    (h : (if stagedKind (cellsRd x.cells) = k ∧ stagedOk s k (cellsRd x.cells) = true then
        mpReply 0xC8 0 [] (if k = 3 then (storeItem k (cellsRd x.cells) { s with mpStage := KV.del s.mpStage k }).clear X.app_late
          else storeItem k (cellsRd x.cells) { s with mpStage := KV.del s.mpStage k })
      else mpReply 0xC8 miField [] { s with mpStage := KV.del s.mpStage k }) = u) : Gives (.stageCommit k) s u := by
  refine gives_mpRun (exec_stageCommit k s) rfl rfl haux hm ((if_neg (by rw [hopen]; decide)).trans
    ((if_neg (by rw [hfree]; decide)).trans ?_))
  simp only [hx, stagedOk_mpStage]
  exact h

end

/-- Settles O60: what each command of the port answers, and the park and the watchdog of the management core. -/
theorem managementCommands : Obligations.ManagementCommands := by
  intro s haux
  refine ⟨?_, ?_, ?_, ?_, ?_, ?_, ?_, ?_, ?_⟩
  · intro hm
    exact ⟨sets_nothing (gives_mpOff (exec_getEndpointId s) rfl rfl haux hm), sets_nothing (gives_mpOff (exec_getHealth s) rfl rfl haux hm),
      sets_nothing (gives_mpOff (exec_parkCommand s) rfl rfl haux hm), sets_nothing (gives_mpOff (exec_wake s) rfl rfl haux hm),
      sets_nothing (gives_mpOff (exec_getVersion s) rfl rfl haux hm)⟩
  · intro hm reply
    refine ⟨?_, ?_, ?_, ?_, ?_, ?_, ?_, ?_, ?_, ?_, ?_, ?_, ?_, ?_, ?_, ?_, ?_, ?_, ?_, ?_, ?_, ?_, ?_, ?_, ?_, ?_, ?_, ?_, ?_, ?_, ?_, ?_, ?_,
      ?_, ?_, ?_⟩
    · exact fun b p d som eom n g ty l hb => sets_nothing (gives_mpRun (exec_mctpPacket b p d som eom n g ty l s) rfl rfl haux hm (if_pos hb))
    · exact fun p n g ty l hty hlen hbus => effect_mctpPacket_whole haux hm hty hlen hbus
    · refine fun a => ⟨fun hi3c => ⟨?_, ?_⟩, fun hi2c => ⟨?_, ?_⟩⟩
      · exact sets_cells (gives_mpRun (exec_entdaa a s) rfl rfl haux hm (if_pos hi3c)) rfl
      · exact sets_cells (gives_mpRun (exec_setdasa _ a s) rfl rfl haux hm (if_pos ⟨hi3c, rfl⟩)) rfl
      · exact sets_nothing (gives_mpRun (exec_entdaa a s) rfl rfl haux hm (if_neg (by rw [hi2c]; decide)))
      · exact sets_nothing (gives_mpRun (exec_setdasa _ a s) rfl rfl haux hm (if_neg (fun h => by simp [hi2c] at h)))
    · intro op eid hop hne hlt
      exact effect_mpReply_cells (l := [(MP_STATUS.eid, 0, eid)])
        (gives_mpRun (exec_setEndpointId op eid s) rfl rfl haux hm (if_neg (by omega))) rfl
    · exact fun op => effect_mpReply (gives_mpRun (exec_setEndpointId op 0 s) rfl rfl haux hm (if_pos (.inr (.inl rfl))))
    · exact effect_mpReply (gives_mpRun (exec_getEndpointId s) rfl rfl haux hm rfl)
    · exact effect_mpReply (gives_mpRun (exec_getEndpointUuid s) rfl rfl haux hm rfl)
    · exact effect_mpReply (gives_mpRun (exec_getMctpVersionSupport 0 s) rfl rfl haux hm (if_pos (.inl rfl)))
    · exact effect_mpReply (gives_mpRun (exec_getMessageTypeSupport s) rfl rfl haux hm rfl)
    · exact fun i => effect_mpReply (gives_mpRun (exec_readNvmeMiDataStructure 2 i s) rfl rfl haux hm rfl)
    · exact fun cl hup => effect_mpReply (gives_mpRun (exec_subsystemHealthStatusPoll cl s) rfl rfl haux hm
        (congrArg (fun b => mpReply 1 0 b s) (mpHealth_live hup _ _ _ _)))
    · exact fun c hc hup => effect_mpReply (gives_mpRun (exec_controllerHealthStatusPoll c s) rfl (decide_eq_true hc) haux hm
        (congrArg (fun b => mpReply 2 0 b s) (mpHealth_live hup _ _ _ _)))
    · exact effect_mpReply (gives_mpRun (exec_configurationGet 3 s) rfl rfl haux hm rfl)
    · exact fun v hlo hhi => effect_mpReply_cells (l := [(X.mp_freq, 0, v)])
        (gives_mpRun (exec_configurationSet 1 v s) rfl rfl haux hm (if_pos ⟨rfl, hlo, hhi⟩)) rfl
    · intro c op n w x y z hc hop
      simp only [List.mem_cons, List.not_mem_nil, or_false, not_or] at hop
      obtain ⟨hlog, hidentify, hfeature⟩ := hop
      exact effect_mpReply (gives_mpRun (exec_tunnelledAdmin c op n w x y z s) rfl (decide_eq_true hc) haux hm
        ((if_neg hlog).trans (if_pos ⟨hidentify, hfeature⟩)))
    · intro c n w x y z hc hup himage hfeature
      exact effect_mpReply (gives_mpRun (exec_tunnelledAdmin c 10 n w x y z s) rfl (decide_eq_true hc) haux hm
        ((if_neg (by decide)).trans ((if_neg (by decide)).trans ((if_neg (by rw [core_off_of_coreUp hup, himage]; decide)).trans
          ((if_neg (by decide)).trans (if_pos hfeature))))))
    · intro himage
      have hbarred : (s.on X.core_off || imageless s) = true := by rw [himage, Bool.or_true]
      exact ⟨effect_mpReply (gives_mpRun (exec_getHealth s) rfl rfl haux hm (if_pos himage)),
        effect_mpReply (gives_mpRun (exec_parkCommand s) rfl rfl haux hm (if_pos hbarred)),
        effect_mpReply (gives_mpRun (exec_parkAndSpinDownCommand s) rfl rfl haux hm (if_pos hbarred)),
        effect_mpReply (gives_mpRun (exec_powerDownCommand s) rfl rfl haux hm (if_pos hbarred))⟩
    · intro hup himage
      have hserved : ¬ (s.on X.core_off || imageless s) = true := by
        rw [core_off_of_coreUp hup, himage]
        decide
      refine ⟨effect_mpReply (gives_mpRun (exec_getHealth s) rfl rfl haux hm ((if_neg (by rw [himage]; decide)).trans
        (congrArg (fun b => mpReply 0xC0 0 b s) (mpHealth_live hup _ _ _ _)))), fun hwait => ⟨?_, ?_, ?_⟩⟩
      · exact effect_rest (g := fun s => { s with mpWait := [0xC1] })
          (gives_mpRun (exec_parkCommand s) rfl rfl haux hm ((if_neg hserved).trans (mpAsk_of_empty hwait _))) rfl
      · exact effect_rest (g := fun s => { s with mpWait := [0xC2] })
          (gives_mpRun (exec_parkAndSpinDownCommand s) rfl rfl haux hm ((if_neg hserved).trans (mpAsk_of_empty hwait _))) rfl
      · exact effect_rest (g := fun s => { s with mpWait := [0xC4] })
          (gives_mpRun (exec_powerDownCommand s) rfl rfl haux hm ((if_neg hserved).trans (mpAsk_of_empty hwait _))) rfl
    · exact fun hwait => effect_rest (g := fun s => { s with mpWait := [0xC3] })
        (gives_mpRun (exec_endParkCommand s) rfl rfl haux hm (mpAsk_of_empty hwait _)) rfl
    · exact fun hdeep => effect_cells (l := [(X.deep_wake, 0, 1)]) (g := mpReply 0xC5 0 [])
        (gives_mpRun (exec_wake s) rfl rfl haux hm (if_pos (.inl hdeep))) rfl rfl
    · exact fun d hd => ⟨effect_mpReply (gives_mpRun (exec_fullReset d s) rfl rfl haux hm (if_pos hd)),
        effect_mpReply (gives_mpRun (exec_releaseShutdownCommand d s) rfl rfl haux hm (if_pos hd))⟩
    · intro hdeep hup
      have hoff := core_off_of_coreUp hup
      exact gives_mpRun (exec_fullReset 0 s) rfl rfl haux hm ((if_neg (fun h => h rfl)).trans
        ((if_neg (fun h => Bool.false_ne_true (hdeep.symm.trans h))).trans (if_neg (fun h => Bool.false_ne_true (hoff.symm.trans h)))))
    · intro hup hcool
      refine effect_mpReply_cells (l := [(TH_STATUS.shutdown, 0, 0)]) (gives_mpRun (exec_releaseShutdownCommand 0 s) rfl rfl haux hm
        ((if_neg (fun h => h rfl)).trans ((if_neg (by rw [core_off_of_coreUp hup]; decide)).trans
          (congrArg (mpReply 0xCA 0 []) (if_pos hcool))))) rfl
    · exact fun k o l hbarred => ⟨effect_mpReply (gives_mpRun (exec_stageData k o l s) rfl rfl haux hm (if_pos hbarred)),
        effect_mpReply (gives_mpRun (exec_stageCommit k s) rfl rfl haux hm (if_pos hbarred))⟩
    · exact fun k o l x hopen hk hl hlen hend hfree hx => effect_stageData_next haux hm hopen hk hl hlen hend hfree hx
    · intro k x hopen hfree hx hkind
      exact effect_rest (g := fun s => { s with
          mpStage := KV.del s.mpStage k, mpResp := some { command := 0xC8, status := miField, data := [] } })
        (gives_stageCommit haux hm hopen hfree hx (if_neg (fun h => hkind h.1))) rfl
    · intro k x hopen hfree hx hkind hok hother
      exact gives_stageCommit haux hm hopen hfree hx ((if_pos ⟨hkind, hok⟩).trans (congrArg (mpReply 0xC8 0 []) (if_neg hother)))
    · exact effect_mpReply (gives_mpRun (exec_getVersion s) rfl rfl haux hm rfl)
    · exact effect_mpReply (gives_mpRun (exec_getCapabilities s) rfl rfl haux hm rfl)
    · exact fun x y hx hy => effect_mpReply (gives_mpRun (exec_negotiateAlgorithms x y s) rfl rfl haux hm (if_pos (by rw [hx, hy]; rfl)))
    · exact fun x y hx => effect_mpReply (gives_mpRun (exec_negotiateAlgorithms x y s) rfl rfl haux hm (if_neg (by simp [hx])))
    · intro hup
      have hon : ¬ s.on X.core_off = true := by
        rw [core_off_of_coreUp hup]
        decide
      refine ⟨effect_mpReply (gives_mpRun (exec_getDigests s) rfl rfl haux hm (if_neg hon)), fun x o n hx => ?_, fun o n ho => ?_⟩
      · exact effect_mpReply (gives_mpRun (exec_getCertificate x o n s) rfl rfl haux hm ((if_neg hon).trans (if_pos (.inl hx))))
      · exact effect_mpReply (gives_mpRun (exec_getCertificate 0 o n s) rfl rfl haux hm ((if_neg hon).trans (if_neg (by simpa using ho))))
    · exact fun x n hbarred => effect_mpReply (gives_mpRun (exec_challenge x n s) rfl rfl haux hm (if_pos hbarred))
    · exact fun x n hfree hx => effect_mpReply (gives_mpRun (exec_challenge x n s) rfl rfl haux hm
        ((if_neg (fun h => h hfree)).trans (if_pos hx)))
    · exact fun n hfree => effect_rest (g := fun s => { s with
          freeCtr := s.freeCtr + 1,
          mpResp := some ⟨0x483, 0, sha (chain s) ++ spdmSign s (sha (chain s) ++ n)⟩ })
        (gives_mpRun (exec_challenge 0 n s) rfl rfl haux hm ((if_neg (fun h => h hfree)).trans (if_neg (fun h => h rfl)))) rfl
    · exact fun n => effect_mpReply (gives_mpRun (exec_getMeasurements 0 false n s) rfl rfl haux hm
        ((if_neg (fun h => Bool.false_ne_true h.1)).trans ((if_neg (fun h => h.1 rfl)).trans (if_neg Bool.false_ne_true))))
  · intro c hc hsec hmgt v
    exact sets_nothing (gives_runAO (exec_mpWdtEnable c v s) rfl (decide_eq_true hc) haux (if_pos ⟨hsec, hmgt⟩))
  · intro c v hc
    have hcore : okCore c = true := by rcases hc with rfl | rfl <;> rfl
    exact gives_runAO (exec_mpWdtEnable c v s) rfl hcore haux (if_neg (fun h => hc.elim h.1 h.2))
  · exact fun c v hc => gives_runAO (exec_mpWdtKick c v s) rfl (decide_eq_true hc) haux rfl
  · exact fun hon => gives_runAO (exec_mpWdtExpiry s) rfl rfl haux (if_pos hon)
  · exact fun hoff => sets_nothing (gives_runAO (exec_mpWdtExpiry s) rfl rfl haux (if_neg (by rw [hoff]; decide)))
  · intro c hc
    exact ⟨gives_runAO (exec_mpPark c s) rfl (decide_eq_true hc) haux rfl,
      gives_runAO (exec_mpParkAndSpinDown c s) rfl (decide_eq_true hc) haux rfl,
      gives_runAO (exec_mpEndPark c s) rfl (decide_eq_true hc) haux rfl, gives_runAO (exec_mpPowerDown c s) rfl (decide_eq_true hc) haux rfl⟩
  · intro hup
    refine ⟨?_, ?_, ?_, ?_, ?_, ?_⟩
    · exact fun hno => sets_nothing (gives_run (exec_parkComplete s) rfl rfl hup (if_neg (fun h => by simp [hno] at h)))
    · intro hlatch hall v
      have hdone {u : State} (h : (if v.on X.mp_ending ∧ parkDone v = true then parkEnd v else v) = u) : Gives .parkComplete s u :=
        gives_run (exec_parkComplete s) rfl rfl hup ((if_pos ⟨hlatch, hall⟩).trans h)
      exact ⟨fun hgoing => hdone (if_neg (fun h => by simp [hgoing] at h)), fun hending hover => hdone (if_pos ⟨hending, hover⟩)⟩
    · exact fun k => effect_rest (g := fun s => { s with mpStage := KV.del s.mpStage k }) (gives_run (exec_stagingTimeout k s) rfl rfl hup rfl) rfl
    · exact fun r o l hok => effect_rest (g := fun s => s.flashErase (o / 0x10000 * 0x10000) 0x10000)
        (gives_run (exec_xspiWrite r true o l s) rfl rfl hup ((if_pos rfl).trans (if_pos hok))) rfl
    · exact fun r o l hno => gives_run (exec_xspiWrite r true o l s) rfl rfl hup ((if_pos rfl).trans (if_neg (by rw [hno]; decide)))
    · exact fun r o l hok => effect_rest (g := fun s => s.flashProgram o l)
        (gives_run (exec_xspiWrite r false o l s) rfl rfl hup ((if_neg Bool.false_ne_true).trans (if_pos hok))) rfl

end Sys2Proof.Machine
end
